-- ==== Sys2Proof/Word.lean ====
section
/-! DEFINITION. The word types of the LDT-9616: bytes, 32-bit lane words, and the plainest arithmetic over naturals. -/
namespace Sys2Proof

/-- An octet of memory, of a frame or of a dictionary value. -/
abbrev Byte := BitVec 8

/-- One lane of a vector register (Table LP-1), 32 bits. -/
abbrev Word := BitVec 32

/-- Division rounded up; 0 where the divisor is 0. -/
def cdiv (a b : Nat) : Nat := (a + b - 1) / b

end Sys2Proof
end

