-- ==== Sys2Proof/Syntax.lean ====
section
/-!
DEFINITION. The commands of the LDT-9616: one constructor of `Instr` for each row of spec/opcode_table.json.
A row is an event of the block. `at_` is the tally tick at which the event is sampled (R22, R23, R61); the other operands
are what the event carries: the object value written, the packet, the frame header, the reading of a sensor, the verdict
of a check whose mathematics the spec takes from a published standard (signatures, GCM tags).
-/
namespace Sys2Proof

/-- The fields of a lane instruction word other than its opcode (Table LP-4, R179). -/
structure LaneOp where
  pred : BitVec 3
  pneg : Bool
  vd   : BitVec 5
  va   : BitVec 5
  vb   : BitVec 5
  vc   : BitVec 5
  rnd  : BitVec 3
  sat  : Bool
  mode : BitVec 4
  imm  : BitVec 24
  deriving DecidableEq, Repr

/-- A codeword as its receiver has it (R226, R347): the plane or lane it came on, its header (Table PB-2), whether it decoded, and the
symbols corrected in it. -/
structure CodewordIn where
  plane     : Nat
  header    : BitVec 20
  decodes   : Bool
  corrected : Nat
  deriving DecidableEq, Repr

/-- A frame on a data port: its 512-bit header (Table FR-2) as sampled, and the port it arrived on. -/
structure FrameIn where
  port : Nat
  hdr  : BitVec 512
  /-- the codeword that brought the header (R226, R347) -/
  cw   : Option CodewordIn := none
  deriving DecidableEq, Repr

/-- A bulk packet: its 512-bit header flit (Table NS-2) and its data bytes, lowest address first. -/
structure Packet where
  hdr  : BitVec 512
  data : List Byte
  deriving DecidableEq, Repr

/-- What the check of a word finds (R316, R319): symbols in error, of which the code of a large memory corrects up to two and reports more
as uncorrectable; more than it corrects, taken for a correction of `n` symbols that leaves other data; or a copy of the word's valid bit
that disagrees with the other two. -/
inductive Finding where
  | symbols (n : Nat)
  | miscorrected (n : Nat) (data : List Byte)
  | validCopy
  deriving DecidableEq, Repr

/-- A finding in the word or codeword that holds byte `off` of an access. -/
structure WordFind where
  off  : Nat
  what : Finding
  deriving DecidableEq, Repr

/-- A write packet, and what its read-modify-write of an LPDDR5X group finds there (R317). -/
structure WriteIn where
  pkt   : Packet
  finds : List WordFind
  deriving DecidableEq, Repr

/-- A poisoned completion that reaches a chunk (R96): the chunk, and the module addresses of words that its own read has just found
uncorrectable (R320). -/
structure PoisonIn where
  chunk : Nat
  words : List Nat
  deriving DecidableEq, Repr

/-- What has happened to a word of a small array (R318, R323): a read corrected it, it reads back wrong after a rewrite, or it is
uncorrectable. -/
inductive WordFault where
  | corrected
  | wrongAfterRewrite
  | uncorrectable
  deriving DecidableEq, Repr

/-- A word of a small array and what has happened to it. -/
structure SmallWord where
  word  : Nat
  fault : WordFault
  deriving DecidableEq, Repr

/-- A stack at its periodic retraining (R306), and the channel, if any, whose training or link ECC still fails after it (Table FD-1). -/
structure StackIn where
  stack  : Nat
  failed : Option Nat
  deriving DecidableEq, Repr

/-- An object of the dictionary: index and sub-index (R541). -/
structure ObjRef where
  index : Nat
  sub   : Nat
  deriving DecidableEq, Repr

/-- A link of a die, and the packets corrected on it since its last replay (R206, R207). -/
structure DieLink where
  link  : Nat
  fixed : Nat
  deriving DecidableEq, Repr

/-- The sender of a stream of codewords: a site, on a wavelength to another site (R232), or a data port, on a lane (R347). -/
inductive StreamSrc where
  | site (i : Nat)
  | port (x : Nat)
  deriving DecidableEq, Repr

/-- What channel training found (R298, R303): layer, channel and width at which each channel trained, and wires below margin. -/
structure TrainedIn where
  widths : List (Nat × Nat × Nat)
  wires  : List (Nat × Nat × Nat)
  deriving DecidableEq, Repr

/-- A supply: its domain, and the region of a phase that supplies one region alone (R86). -/
structure SupplyIn where
  domain : Nat
  region : Option Nat
  deriving DecidableEq, Repr

/-- What a monitor of a region asks of its oscillator (R68): the critical-path monitor or the supply-voltage monitor, and the period in
ps that the margin it sees allows. -/
structure StretchIn where
  path   : Bool
  period : Nat
  deriving DecidableEq, Repr

/-- A control packet (Table NS-3): header flit and argument word. -/
structure CtlPacket where
  hdr : BitVec 64
  arg : BitVec 64
  deriving DecidableEq, Repr

/-- A chunk arrival (R202): a message of the sync tree of a Usilo die (Table NS-4), or a control packet of type 0xA on a Decane die. -/
inductive ArrivalIn where
  | tree (m : BitVec 64)
  | control (p : CtlPacket)
  deriving DecidableEq, Repr

/-- A key envelope as the vault sees it: its octets (Table SK-4) and the verdicts of its two signatures (R400) and of
decapsulation with the GCM tag (R411). -/
structure EnvelopeIn where
  bytes : List Byte
  sigOk : Bool
  openOk : Bool
  deriving DecidableEq, Repr

/-- A key slot that is erased: the ID, and whether its storage reads zero afterwards (R421). -/
structure EraseIn where
  id        : Nat
  readsZero : Bool := true
  deriving DecidableEq, Repr

/-- A ticket as the vault sees it: its octets (Tables AL-1, AL-2) and the verdict of its four signatures (R431). -/
structure TicketIn where
  bytes : List Byte
  sigOk : Bool
  deriving DecidableEq, Repr

/-- A firmware image being staged: its 256-byte header and the first octets of its body (Table BR-2, R526), the length
written, and the verdicts of its signatures (R400) and of the hash of its body (R525). -/
structure ImageIn where
  header  : List Byte
  parts   : List Byte
  length  : Nat
  sigOk   : Bool
  bodyOk  : Bool
  deriving DecidableEq, Repr

/-- The verdicts that the trailer of a package brings (R533, R535): signatures under the package signer anchor and the
measurement of the body against the signed hash. -/
structure TrailerIn where
  sigOk  : Bool
  hashOk : Bool
  deriving DecidableEq, Repr

/-- The payload of a heartbeat (Table PR-3). -/
structure HeartbeatIn where
  claim    : Nat
  state    : Nat
  locked   : Bool
  stopped  : Bool
  hbseq    : Nat
  epochcnt : Nat
  decnum   : Nat
  tick     : Nat
  deriving DecidableEq, Repr

/-- A decision record (Table PR-4). -/
structure DecisionRec where
  decnum  : Nat
  port    : Nat
  kind    : Nat
  reason  : Nat
  tenant  : Nat
  seq     : Nat
  tick    : Nat
  base    : Nat
  shape   : Nat
  model   : Nat
  commit  : Nat
  slotmap : List Nat
  tmask   : Nat
  prot    : Bool
  deriving DecidableEq, Repr

/-- The header fields of an S frame (Table PR-1) and whether its CRC and tag verify (R456). -/
structure SFrameIn where
  seq     : Nat
  kepoch  : Nat
  claim   : Nat
  ok      : Bool
  last    : Bool
  segment : Nat
  deriving DecidableEq, Repr

/-- What a handshake over PX brings beside the hello (R452): whether the reports of the two vaults verify, and whether the twin is SEEKING too
(Table PR-7). -/
structure TwinIn where
  reportsOk : Bool
  seeking   : Bool := false
  deriving DecidableEq, Repr

/-- The twin's limits as its STATUS gives them, with its spool state: full or not (R465, R468). -/
structure LimitsIn where
  limits    : List Nat
  spoolFull : Bool := false
  deriving DecidableEq, Repr

/-- The commands, in the order of spec/opcode_table.json. -/
inductive Instr where
  -- time (chapter 02): ppb is the mean offset of a gate, width the width of a pulse in ps
  | refclkEdgeTimeout (at_ lastEdge : Nat)
  | refclkGateEnd (at_ : Nat) (ppb : Int) (edgeFail : Bool)
  | epochPulse (at_ width : Nat)
  | epochWindowClose (at_ : Nat)
  | epochCountLoad (at_ n : Nat)
  | tallySlew (at_ : Nat)
  | twinEpochCount (at_ count : Nat) (twinLocked : Bool)
  | timeReset (at_ value : Nat)
  | clockStretch (at_ tower region : Nat) (ask : StretchIn)
  | shortfall (at_ tower region cycles : Nat)
  -- towers and tiles (chapter 03)
  | tileFault (at_ tower region tile : Nat)
  | chunkOverrun (at_ tower chunk cycles : Nat)
  | spareSelfTest (at_ tower region : Nat) (pass : Bool)
  | activationInstall (at_ tower slot : Nat)
  | windowOpen (at_ tower slot win : Nat)
  | chunkIssue (at_ tower region tile : Nat)
  | chunkCommit (at_ tower chunk : Nat) (checksOk : Bool)
  | syncWaitExpiry (at_ tower op : Nat)
  | towerFenceWrite (at_ tower value : Nat)
  -- operators (chapter 05): the chunk of the operator that a tile of the tower is running
  | matmul (at_ tower chunk : Nat)
  | matmulBatched (at_ tower chunk : Nat)
  | matmulGrouped (at_ tower chunk : Nat)
  | matmulRouted (at_ tower chunk : Nat)
  | conv (at_ tower chunk : Nat)
  | attn (at_ tower chunk : Nat)
  | norm (at_ tower chunk : Nat)
  | elementwise (at_ tower chunk : Nat)
  | reduce (at_ tower chunk : Nat)
  | gather (at_ tower chunk : Nat)
  | scatter (at_ tower chunk : Nat)
  | index (at_ tower chunk : Nat)
  | sort (at_ tower chunk : Nat)
  | topk (at_ tower chunk : Nat)
  | fft (at_ tower chunk : Nat)
  | resample (at_ tower chunk : Nat)
  | convert (at_ tower chunk : Nat)
  | optical (at_ tower chunk : Nat) (failingBanks : List Nat)
  | reduceTo (at_ tower chunk : Nat)
  | multicast (at_ tower chunk : Nat)
  | allreduce (at_ tower chunk : Nat)
  | kvWrite (at_ tower chunk : Nat)
  | kvRead (at_ tower chunk : Nat)
  | backingCopy (at_ tower chunk : Nat)
  | deliver (at_ tower chunk : Nat)
  | completionWord (at_ tower slot : Nat)
  | endNotice (at_ tower slot : Nat)
  -- lane instructions (chapter 06): the vector engine `eng` and the fields of the word
  | fadd (eng : Nat) (o : LaneOp)
  | fsub (eng : Nat) (o : LaneOp)
  | fmul (eng : Nat) (o : LaneOp)
  | ffma (eng : Nat) (o : LaneOp)
  | fmin (eng : Nat) (o : LaneOp)
  | fmax (eng : Nat) (o : LaneOp)
  | fsgn (eng : Nat) (o : LaneOp)
  | frnd (eng : Nat) (o : LaneOp)
  | frcp (eng : Nat) (o : LaneOp)
  | frsq (eng : Nat) (o : LaneOp)
  | fexp2 (eng : Nat) (o : LaneOp)
  | flog2 (eng : Nat) (o : LaneOp)
  | ftanh (eng : Nat) (o : LaneOp)
  | fcmp (eng : Nat) (o : LaneOp)
  | iadd (eng : Nat) (o : LaneOp)
  | isub (eng : Nat) (o : LaneOp)
  | imul (eng : Nat) (o : LaneOp)
  | imin (eng : Nat) (o : LaneOp)
  | imax (eng : Nat) (o : LaneOp)
  | and (eng : Nat) (o : LaneOp)
  | or (eng : Nat) (o : LaneOp)
  | xor (eng : Nat) (o : LaneOp)
  | shl (eng : Nat) (o : LaneOp)
  | shr (eng : Nat) (o : LaneOp)
  | sra (eng : Nat) (o : LaneOp)
  | icmp (eng : Nat) (o : LaneOp)
  | cvt (eng : Nat) (o : LaneOp)
  | mov (eng : Nat) (o : LaneOp)
  | sel (eng : Nat) (o : LaneOp)
  | movi (eng : Nat) (o : LaneOp)
  | ldc (eng : Nat) (o : LaneOp)
  | lidx (eng : Nat) (o : LaneOp)
  | rsum (eng : Nat) (o : LaneOp)
  | rmax (eng : Nat) (o : LaneOp)
  | rmin (eng : Nat) (o : LaneOp)
  | rot (eng : Nat) (o : LaneOp)
  | bcst (eng : Nat) (o : LaneOp)
  | pand (eng : Nat) (o : LaneOp)
  | por (eng : Nat) (o : LaneOp)
  | pnot (eng : Nat) (o : LaneOp)
  | loop (eng : Nat) (o : LaneOp) (body : List (BitVec 64))
  | instructionWordError (at_ tower chunk word : Nat)
  -- on-die networks and sync objects (chapter 07)
  | readRequest (at_ : Nat) (p : Packet) (finds : List WordFind)
  | readResponse (at_ : Nat) (p : Packet)
  | write (at_ : Nat) (w : WriteIn)
  | writeAcknowledgement (at_ : Nat) (p : Packet)
  | reducePacket (at_ : Nat) (p : Packet)
  | multicastCopy (at_ site : Nat) (p : Packet)
  | multicastBranchSend (at_ site branch : Nat)
  | poisonedCompletion (at_ tower : Nat) (c : PoisonIn)
  | fencedAcknowledgement (at_ : Nat) (p : Packet)
  | chunkIssuePacket (at_ tower : Nat) (p : CtlPacket)
  | poisonNotice (at_ tower : Nat) (p : CtlPacket)
  | fence (at_ tower : Nat) (p : CtlPacket)
  | towerEvent (at_ tower : Nat) (p : CtlPacket)
  | chunkArrival (at_ tower : Nat) (m : ArrivalIn)
  | regionBarrierArrival (at_ tower region step : Nat)
  | ondieLinkRetry (at_ tower : Nat) (link : DieLink) (good : Bool)
  | signal (at_ : Nat) (m : BitVec 128)
  | signalAcknowledgement (at_ : Nat) (m : BitVec 128)
  | watch (at_ : Nat) (m : BitVec 128)
  | notice (at_ : Nat) (m : BitVec 128)
  | reductionDone (at_ : Nat) (m : BitVec 128)
  | reductionClosed (at_ : Nat) (m : BitVec 128)
  | reducerBusy (at_ : Nat) (m : BitVec 128)
  | syncHostWrite (at_ value : Nat)
  | syncAdd (at_ value : Nat)
  -- the Frasol base (chapter 08)
  | replay (at_ : Nat) (src : StreamSrc) (dst plane seq : Nat)
  | replayLimit (at_ : Nat) (src : StreamSrc) (dst plane : Nat) (locked : Bool)
  | creditReturn (at_ src dst : Nat) (word : CodewordIn) (units : List (BitVec 512))
  | spResendRequest (at_ requester nsite nseq : Nat)
  | spBusLoss (at_ site bus : Nat)
  | standIn (at_ src dst plane : Nat)
  | lockLoss (at_ src dst plane : Nat)
  | wavelengthReturn (at_ src dst plane : Nat)
  | wavelengthPermanentFault (at_ src dst plane : Nat)
  | fadeLevelA (at_ module : Nat) (output : Int) (drive : Nat)
  | fadeLevelB (at_ module : Nat) (output : Int)
  | fadeLevelC (at_ module : Nat)
  | lossOfLight (at_ module : Nat)
  | planeCalibrationWindow (at_ plane : Nat)
  | planeSwitch (at_ plane : Nat)
  | routingSwitchArm (at_ tick : Nat)
  | routingSwitch (at_ : Nat)
  | oldBankDrained (at_ : Nat)
  | copyActiveToInactive (at_ value : Nat)
  -- weight banks and calibration (chapter 09)
  | weightCombSwitch (at_ feed : Nat) (loss : Bool)
  | feedForwardStep (at_ field : Nat) (temp : Int)
  | heaterRamp (at_ field : Nat)
  | calibrationStep (at_ kind index : Nat)
  | calibrationStepEnd (at_ kind index : Nat) (result : List Byte)
  | commitArm (at_ tick : Nat)
  | shadowSetWrite (at_ : Nat) (bytes : List Byte)
  | coefficientCommit (at_ : Nat)
  | commitVerify (at_ : Nat) (pass : Bool)
  -- memory (chapter 10)
  | applyWindow (at_ value : Nat)
  | burstRetry (at_ tower layer channel : Nat) (good : Bool)
  | wireFailure (at_ tower layer channel wire : Nat) (trains512 : Bool)
  | channelClockChange (at_ tower region : Nat)
  | bandChange (at_ tower layer channel : Nat)
  | layerResetRequest (at_ value : Nat) (byHub : Bool)
  | layerDrainComplete (at_ tower : Nat)
  | layerResetForced (at_ tower : Nat)
  | layerPowerOn (at_ tower : Nat)
  | layerTrained (at_ tower : Nat) (trained : TrainedIn)
  | refresh (at_ stack : Nat)
  | mr4Poll (at_ stack value : Nat)
  | wck2dqRetraining (at_ : Nat) (k : StackIn)
  -- memory integrity (chapter 11)
  | patrolVisit (at_ unit layer channel : Nat) (finds : List WordFind) (linkFixed : Nat)
  | remap (at_ tower unit bank : Nat) (w : SmallWord)
  | retire (at_ value : Nat)
  | testWriteRaw (at_ : Nat)
  | testReadChecker (at_ : Nat)
  -- phase groups and packages (chapter 12)
  | groupApply (at_ value : Nat)
  | remove (at_ value : Nat)
  | packageRemovalComplete (at_ model : Nat)
  -- ports and frames (chapter 13)
  | portLinkUp (at_ port : Nat) (reversed : Bool) (polarity : BitVec 8)
  | xLaneLost (at_ port lane : Nat)
  | gFrame (at_ : Nat) (f : FrameIn)
  | bFrame (at_ : Nat) (f : FrameIn)
  | mFrame (at_ : Nat) (f : FrameIn) (payload : List Byte) (tagOk : Bool) (trailer : TrailerIn)
  | kFrame (at_ : Nat) (f : FrameIn)
  | hello (at_ : Nat) (f : FrameIn) (didh : Nat) (preferred : Bool)
  | errorNotice (at_ : Nat) (f : FrameIn)
  | portState (at_ : Nat) (f : FrameIn) (state lanes : Nat)
  | payloadComplete (at_ port : Nat) (payload : List Byte) (tagOk : Bool)
  | unitGapTimeout (at_ port : Nat)
  -- the ledger (chapter 14)
  | admissionDecision (at_ fetched took : Nat)
  | slotBoundary (at_ : Nat)
  | dFrameDeparture (at_ port : Nat)
  | promiseCompare (at_ tenant seq : Nat)
  -- identity and keys (chapter 15)
  | reportNonce (at_ nonce : Nat)
  | reportReady (at_ : Nat)
  | keyEnvelope (at_ : Nat) (e : EnvelopeIn)
  | previousSlotRetire (at_ kind : Nat) (e : EraseIn)
  | close (at_ value : Nat)
  | closingSlotErase (at_ kind id : Nat) (readsZero : Bool)
  | drbgReseed (at_ : Nat)
  -- tickets, guests, alarms (chapter 16)
  | ticket (at_ : Nat) (t : TicketIn)
  | guestPacket (at_ guest : Nat) (fromGuest : Bool) (p : Packet)
  | tamperMesh (at_ : Nat)
  | supplyGlitch (at_ : Nat)
  | clockGlitch (at_ : Nat)
  | grstLRelease (at_ guest : Nat)
  | gready (at_ guest : Nat)
  | greadyTimeout (at_ guest : Nat)
  -- the redundant pair (chapter 17)
  | pxLinkUp (at_ : Nat) (didh : Nat) (preferred : Bool) (twin : TwinIn)
  | heartbeat (at_ : Nat) (onPx tagOk : Bool) (h : HeartbeatIn)
  | heartbeatSend (at_ : Nat)
  | pathSilence (at_ : Nat) (onPx : Bool)
  | decision (at_ : Nat) (f : SFrameIn) (d : DecisionRec)
  | status (at_ : Nat) (f : SFrameIn) (free : List Nat) (limits : LimitsIn)
  | delivered (at_ : Nat) (f : SFrameIn) (tenant seq : Nat)
  | config (at_ : Nat) (f : SFrameIn) (digest : Nat)
  | delta (at_ : Nat) (f : SFrameIn) (tenant seq : Nat) (granules : List (Nat × List Byte))
  | snapshot (at_ : Nat) (f : SFrameIn) (tick : Nat) (bookings : List DecisionRec)
  | package (at_ : Nat) (f : SFrameIn) (model : Nat) (body : List Byte) (trailer : TrailerIn)
  | image (at_ : Nat) (f : SFrameIn) (granules : List (Nat × List Byte))
  | joinReady (at_ : Nat) (f : SFrameIn)
  | join (at_ : Nat) (f : SFrameIn) (tick : Nat)
  | joinTick (at_ : Nat)
  | holdLimit (at_ port : Nat)
  | endDeferral (at_ tenant seq : Nat)
  | checkpoint (at_ : Nat)
  | restore (at_ : Nat)
  | seekLimit (at_ : Nat)
  | stepDown (at_ value : Nat)
  | isolationResume (at_ : Nat)
  -- power and heat (chapter 18)
  | inputVoltageEvent (at_ millivolts duration : Nat)
  | converterFailure (at_ unit : Nat)
  | domainFault (at_ : Nat) (supply : SupplyIn)
  | laserDriverFault (at_ module : Nat)
  | switchSupplyFault (at_ : Nat) (weightBank : Bool)
  | powerStep (at_ inputWatts inputMillivolts : Nat) (currents : List Nat) (targets : List (Nat × Nat × Nat))
      (unbookedWatts : List Nat)
  | excursionAllowance (at_ : Nat)
  | holdOffEnd (at_ : Nat)
  | ballastPauseEnd (at_ tower : Nat)
  | modelStep (at_ tower : Nat) (temp : Int)
  | anchor (at_ unit : Nat) (diodes : List Int)
  | diodeSample (at_ unit : Nat) (diodes : List Int)
  | tripDomainOff (at_ tower : Nat)
  | restartHold (at_ unit : Nat)
  | restart (at_ value : Nat)
  | coolantLimit (at_ : Nat) (inlet outlet : Int) (flow : Nat)
  -- bring-up, resets, firmware, packages, test access (chapter 20)
  | inputCharged (at_ : Nat)
  | domainSwitchOn (at_ domain straps : Nat)
  | bootLayer (at_ layer : Nat) (okA okB : Bool)
  | towerReady (at_ tower : Nat) (faults : List (Nat × Nat)) (wiresFailed : List (Nat × Nat × Nat)) (otherFault : Bool)
  | stageImage (at_ : Nat) (img : ImageIn)
  | activate (at_ value : Nat)
  | abandon (at_ value : Nat)
  | activationStartLimit (at_ : Nat)
  | imageReloadMeasure (at_ unit : Nat) (agrees : Bool)
  | moduleReset (at_ value : Nat)
  | towerResetWarm (at_ tower : Nat)
  | towerResetCold (at_ tower : Nat)
  | towerResetComplete (at_ tower : Nat) (faults : List (Nat × Nat)) (trained : TrainedIn) (otherFault : Bool)
  | fieldReset (at_ field : Nat)
  | fieldResetComplete (at_ : Nat)
  | guestReset (at_ site : Nat)
  | openLoad (at_ value : Nat)
  | placeFromPark (at_ value : Nat) (trailer : TrailerIn) (tagsOk : Bool)
  | cancelLoad (at_ value : Nat)
  | bypass (at_ : Nat)
  | idcode (at_ : Nat)
  | samplePreload (at_ : Nat)
  | extest (at_ : Nat)
  | clamp (at_ : Nat)
  | highz (at_ : Nat)
  | segsel (at_ : Nat) (bits : BitVec 40)
  | testStatus (at_ : Nat)
  -- the object dictionary (chapter 21)
  | accessRead (at_ : Nat) (obj : ObjRef) (offset length busy : Nat)
  | accessWrite (at_ : Nat) (obj : ObjRef) (offset : Nat) (data : List Byte) (last : Bool) (busy : Nat)
  | serviceBoundExpiry (at_ : Nat) (i3c : Bool) (go index sub : Nat) (write last : Bool)
  | segmentIdleExpiry (at_ : Nat) (i3c : Bool)
  | i3cRead (at_ index sub : Nat)
  | i3cWrite (at_ index sub : Nat) (data : List Byte)
  | entdaa (at_ : Nat) (address : BitVec 7)
  | rstdaa (at_ : Nat)
  | enec (at_ : Nat) (events : BitVec 8)
  | disec (at_ : Nat) (events : BitVec 8)
  | getpid (at_ : Nat)
  | getbcr (at_ : Nat)
  | getdcr (at_ : Nat)
  | getmwl (at_ : Nat)
  | getmrl (at_ : Nat)
  | getstatus (at_ : Nat)
  | vectorClear (at_ : Nat) (i3c : Bool) (bits : BitVec 32)
  | pePerstLFall (at_ : Nat)
  | pePerstLRise (at_ : Nat)
  -- rows listed last in the table
  | regionOscillatorStop (at_ tower region : Nat)
  | schedulerFault (at_ tower : Nat)
  | faultyFrameHeader (at_ : Nat) (f : FrameIn)
  | unitBeyondCredit (at_ : Nat) (f : FrameIn)
  | egressCreditStall (at_ port ticks : Nat)
  | testLogicReset (at_ : Nat)
  deriving DecidableEq, Repr

end Sys2Proof
end

