-- ==== Sys2Proof/Decode.lean ====
section
/-! DEFINITION. The table gives no row bits: commands reach the block as events, not as words. -/
namespace Sys2Proof

/-- The command that a word spells by the table's bits: no row has bits, so none. -/
def decodeTableWord (_nbits _w : Nat) : Option Instr := none

end Sys2Proof
end

