-- ==== Sys2Proof/Config.lean ====
section
/-!
DEFINITION. What an implementation fixes and what the spec leaves open. Every constant here without a body is a free
value: nothing in Lean can evaluate it, so a statement about it holds for every value.
-/
namespace Sys2Proof

/-- A fresh free 32-bit value (assumption log 1): a result the spec does not state. -/
opaque Config.freeValue : Nat → BitVec 32

/-- The 16-bit fraction that a tile's stochastic generator draws (R124): engine, draw number. -/
opaque Config.stochastic : Nat → Nat → BitVec 16

/-- How far the replicas of the tally differ (R46): whether they run ahead of the hub's or behind it, and whether die d is off by the
one tick allowed at hub tick t. -/
opaque Config.replicaAhead : Bool
opaque Config.replicaSkew : Nat → Nat → Bool

/-- The vault's random source (R398): value number n. -/
opaque Config.random : Nat → BitVec 384

/-- AES-256-GCM (R353), the published function, uninterpreted: octet i of the key stream of a key (its ID kind, ID and epoch) under a
nonce, and the tag over the additional data and the ciphertext. -/
opaque Config.keyStream : Nat → Nat → Nat → Nat → Nat → BitVec 8
opaque Config.gcmTag : Nat → Nat → Nat → Nat → Nat → List (BitVec 8) → BitVec 128

/-- SHA-384 of a list of numbers standing for octet strings (R400, R404, R470): the published function, uninterpreted. -/
opaque Config.digest : List Nat → BitVec 384

/-- The value of the firmware signer anchor at delivery (Table SK-8: "Volelo"). -/
opaque Config.voleloAnchor : BitVec 15872

/-- Octets of a certificate (R402): which one, offset. -/
opaque Config.certByte : Nat → Nat → BitVec 8

/-- Octets of the public release keys in an attestation report (Table SK-3: RX then RK): release generation, offset. -/
opaque Config.releaseKeyByte : Nat → Nat → BitVec 8

/-- Octets of the attestation key's signatures (Table SK-3: SIGE then SIGM): the signed octets, offset. -/
opaque Config.signByte : List (BitVec 8) → Nat → BitVec 8

/-- Octets of the DID public keys D:7000.02 and D:7000.03: subindex, offset. -/
opaque Config.didKeyByte : Nat → Nat → BitVec 8

/-- The approximation each opcode of Table LP-6 gives: opcode and operand to result (R184: the same bits everywhere). -/
opaque Config.approx : BitVec 8 → BitVec 32 → BitVec 32

/-- The order in which partial sums are combined (R121, R131): the rank of partial sum i in combination n. -/
opaque Config.rank : Nat → Nat → Nat

/-- An element of a result whose exact bits the spec does not fix (attention, normalisation, FFT, resampling): the FP32
value, as a function of which result it is and the operands it depends on. -/
opaque Config.realElem : Nat → List Nat → BitVec 32

/-- Errors of an optical weight bank in hundredths of a code (R266): the systematic one of an output row, by tower, row and segment, and the
random one of a sample, by draw. -/
opaque Config.opticalBias : Nat → Nat → Nat → Int
opaque Config.opticalNoise : Nat → Int

/-- What the factory coefficient set of a channel holds beside the fields that Tables WB-6 and WB-7 fix (R280): kind, index, offset. -/
opaque Config.factorySet : Nat → Nat → Nat → BitVec 8

/-- The allowance the thermal model predicts for an excursion (R494): inlet temperature. -/
opaque Config.excursionModel : Int → Nat

/-- Security version and measurement of the copies of layer l that the firmware store holds at delivery (R525). -/
opaque Config.deliveredSvn : Nat → BitVec 32
opaque Config.deliveredHash : Nat → BitVec 384

/-- Bus characteristics that the published I3C standard fixes for the target (R558): which reply, byte. -/
opaque Config.i3cByte : Nat → Nat → BitVec 8

/-- What the checker of Table EC-1 makes of data and check octets: its status (Table EC-5) in the lowest two bits, the symbols it
corrected above them. The codes' polynomials are not given. -/
opaque Config.checkerStatus : List (BitVec 8) → List (BitVec 8) → Nat

/-- The corrected octet at an offset. -/
opaque Config.checkerData : List (BitVec 8) → List (BitVec 8) → Nat → BitVec 8

/-- Check symbols of RS(544,514) (R226) and check bytes of RS(24,19) (R235) over the data: the codes' generators are not given. -/
opaque Config.fecCheck : List (BitVec 10) → Nat → BitVec 10
opaque Config.spCheck : List (BitVec 8) → Nat → BitVec 8

/-- The set point in mV that a regulator's 10-bit trim makes of the nominal one (D:8002.03; Table WB-7 gives no step). -/
opaque Config.trimmedmV : Nat → Nat → Nat

/-- Verdicts of the vault on octets written through the access window, where the command brings none: which verdict, octets. -/
opaque Config.verdict : Nat → List (BitVec 8) → Bool

/-- The refresh rate that a value of MR4 requires (R308; JESD209-5 fixes the encoding). -/
opaque Config.mr4Rate : Nat → Nat

/-- Where the hub places activation base k of a model inside a slot's area (R313), in granules. -/
opaque Config.baseOffset : Nat → Nat → Nat

end Sys2Proof
end

