-- ==== Sys2Proof/Machine/State.lean ====
section
/-!
DEFINITION. The state of the LDT-9616: plain data only, one record per unit of the module, with every register, counter,
queue, mode and pin the spec names. Ticks and counts are naturals; what the spec numbers as bits is a bit vector.
Maps are association lists sorted by key. Every field's rule and reset value stands in INVENTORY.md under '## State'.
-/
namespace Sys2Proof.Machine

open Sys2Proof

/-- A map as a list of pairs, keys strictly rising. -/
abbrev KV (α : Type) := List (Nat × α)

/-! ## Time (chapter 02) -/

/-- Time states of Table TM-2. -/
inductive TimeMode where
  | unset | locked | holdover | relock | fault
  deriving DecidableEq, Repr

/-- The tally, its references and D:1200 to D:1204 (R42 to R65, R530, R590). -/
structure TimeSt where
  tally      : Nat
  /-- the tally has started: REFCLK has been valid since power-on (R50, R520) -/
  started    : Bool
  /-- tally clock periods still to hold (R530) -/
  hold       : Nat
  refLost    : Bool
  goodGates  : Nat
  /-- the tally as it stood before the last step over values, and where the step left it (R47 to R50, R530) -/
  skip       : Option (Nat × Nat)
  /-- number of the last frequency gate judged: it ended at this many times 100,000 tk (R590) -/
  gateNo     : Nat
  refOffset  : Int
  mode       : TimeMode
  cause      : BitVec 8
  /-- tally tick from which D:1202.03 counts (R56) -/
  holdStart  : Option Nat
  holdLimit  : Nat
  /-- reference of the UNSET window (R51) -/
  reference  : Option Nat
  stepped    : Bool
  loadN      : Option Nat
  loadUsed   : Bool
  loadDone   : Bool
  epochCount : Nat
  phaseErr   : Int
  missRun    : Nat
  missTotal  : Nat
  discarded  : Nat
  /-- number of the last window with an accepted pulse, and of the last counted as missing (R590) -/
  lastWindow : Option Nat
  lastClosed : Option Nat
  /-- tick of the last pulse that met the width check (R59) -/
  lastPulse  : Option Nat
  residual   : Int
  lastSlew   : Option Nat
  twinCount  : Nat
  pairTime   : Nat
  mismatchRun : Nat
  mismatches : Nat
  twinSeen   : Option Nat
  deriving DecidableEq, Repr

/-! ## Towers (chapters 03, 05, 06, 07, 10, 11) -/

/-- Tower states of Table TW-3. -/
inductive TowerMode where
  | off | training | ready | active | fenced | tripped | failed
  deriving DecidableEq, Repr

/-- Region states of B+02. -/
inductive RegionState where
  | inService | spareInUse | noSpare | lost
  deriving DecidableEq, Repr

/-- A clock region (R66 to R70, R84 to R88). -/
structure Region where
  st       : RegionState
  short    : Nat
  target   : Nat
  /-- period of the region oscillator in ps (R68) -/
  period   : Nat
  running  : Bool
  /-- its supply-voltage monitor and its critical-path monitor report lost margin, so that the oscillator stretches (R68) -/
  supplyLow : Bool
  pathLow  : Bool
  /-- slot in which the region entered service, none while it is out of it; slot in which it last left it: neither is judged (R70) -/
  entered  : Option Nat
  left     : Nat
  /-- the cycle counter: cycles delivered in the last slot that closed (R69, R77) -/
  cycles   : Nat
  /-- the region chunk queue behind its crossing: chunks issued to the region that their tiles have not begun (R71, R77) -/
  queue    : List Nat
  /-- last slot of its run of shortfalls: the last with a shortfall, or one after it that was not judged (R70) -/
  shortSlot : Nat
  map      : BitVec 17
  faulted  : BitVec 17
  /-- substitution in progress: the faulted tile, and the tick of its fault (R85) -/
  subst    : Option (Nat × Nat)
  selfTest : Nat
  /-- region whose oscillator clocks this region's vertical channels (R293) -/
  clock    : Nat
  deriving DecidableEq, Repr

/-- A synchronisation object that is not at its default: counter and subscriber mask (R214, R215); the tick in which it last changed,
the counter before the increments of that tick, their sum, and whether the host wrote it then. -/
structure SyncObj where
  value : Nat
  subs  : BitVec 23
  tick  : Option Nat
  base  : Nat
  sum   : Nat
  hostWrote : Bool
  deriving DecidableEq, Repr

/-- What a chunk is (R145, R269, R324). -/
inductive ChunkKind where
  | normal | combining | load | stream | copy
  deriving DecidableEq, Repr

/-- A chunk of an operator (R92 to R96). -/
structure Chunk where
  id       : Nat
  op       : Nat
  kind     : ChunkKind
  /-- half-open range of each output dimension d0 to d4 -/
  box      : List (Nat × Nat)
  /-- which part of a split reduction -/
  part     : Nat
  cost     : Nat
  booked   : Bool
  closeTick : Nat
  issue    : Nat
  /-- region and tile running it -/
  place    : Option (Nat × Nat)
  attempts : Nat
  poisoned : Bool
  /-- words that have failed in the instruction buffer in this chunk (R190) -/
  badWords : List Nat
  /-- whether its computation has run, the bytes staged in tile SRAM (R95), its arithmetic flags and completion code -/
  computed : Bool
  staged   : List (Nat × Byte)
  flags    : BitVec 8
  code     : Nat
  deriving DecidableEq, Repr

/-- An operator in the scoreboard (R90 to R100). -/
structure OpInst where
  id       : Nat
  slot     : Nat
  desc     : Nat
  word     : BitVec 1024
  issue    : Nat
  booked   : Bool
  win      : Nat
  eligible : Nat
  closeTick : Nat
  entered  : Bool
  /-- stamp of its start: when its first chunk was issued (R73) -/
  started  : Option Nat
  /-- scoreboard ranges: write?, first key, key after the last (R97) -/
  ranges   : List (Bool × Nat × Nat)
  /-- wait entries still unmet: holding tower, object index, threshold, generation of the WATCH reply if any -/
  waits    : List (Nat × Nat × Nat × Option Nat)
  cut      : Bool
  chunks   : Nat
  arrived  : Nat
  flags    : BitVec 8
  code     : Nat
  /-- signals and writes still to be acknowledged (R205) -/
  unacked  : Nat
  /-- waiting for reduction-done or multicast acknowledgements -/
  remote   : Bool
  /-- arrivals counted by the sync-object store (R202); it waits under R99 and has been counted (B+07.03) -/
  tree     : Nat
  stalled  : Bool
  fencedCopies : List Nat
  /-- ended with a fatal code: it stays until the chunks of it that still run have committed (R165) -/
  failed   : Bool
  /-- ATTN with paged keys: the key count when it became ready (R152) -/
  keyCount : Nat
  /-- bytes of a contribution whose granules are not whole yet (R208); packets a reduction has offered, kept to be offered again (R210);
  bytes its DELIVER chunks have passed on (R161) -/
  pieces   : List (Nat × Byte)
  offers   : List Packet
  deliv    : List (Nat × List Byte)
  deriving DecidableEq, Repr

/-- A booked window of an activation record: number, first tick, end tick, task graph handle. -/
structure RecWindow where
  win   : Nat
  open_ : Nat
  close : Nat
  graph : Nat
  opened : Bool
  deriving DecidableEq, Repr

/-- An activation record (R89, R135, R164). -/
structure ActRec where
  slot     : Nat
  tenant   : Nat
  seq      : Nat
  /-- request id (R89) -/
  reqid    : Nat
  model    : Nat
  bases    : List Nat
  windows  : List RecWindow
  slotMap  : List (Nat × Nat)
  bank     : Bool
  booked   : Bool
  status   : BitVec 8
  code     : Nat
  codeDesc : Nat
  done     : Nat
  total    : Nat
  /-- signals of its operators sent and not yet acknowledged -/
  unacked  : Nat
  reported : Bool
  withdrawn : Bool
  /-- stamps of its operators: descriptor, start, completion (R73) -/
  stamps   : List (Nat × Nat × Nat)
  /-- granules of spooled windows that its operators have committed (R473) -/
  spooled  : List Nat
  deriving DecidableEq, Repr

/-- One vertical channel's width record and logic (R295 to R303). -/
structure Channel where
  width     : Nat
  spares    : List Nat
  failed    : Nat
  gen       : Nat
  retries   : Nat
  attempts  : Nat
  trained   : Bool
  retiming  : Nat
  patrol    : Nat
  deriving DecidableEq, Repr

/-- Layer reset states of D:6003.02. -/
inductive LayerResetState where
  | idle | draining | forced | off | training
  deriving DecidableEq, Repr

/-- Tower reset states of B+0F.02. -/
inductive TowerResetState where
  | idle | off | image | selfTest | training
  deriving DecidableEq, Repr

/-- Retirement states of D:6200.05. -/
inductive RetireState where
  | idle | copying | replaced | withdrawn
  deriving DecidableEq, Repr

/-- A granule entry and an open reduction of the base's reducer (R209, R210). -/
structure Reduction where
  /-- its place among the reducer's 16, which the tags of its copies name -/
  no       : Nat
  redid    : Nat
  slot     : Nat
  granules : Nat
  rfmt     : Nat
  rop      : Nat
  expected : Nat
  /-- per granule address: contributions so far and the 256 data bytes -/
  entries  : KV (Nat × List Byte)
  written  : Nat
  sources  : List Nat
  /-- group EID of an ALLREDUCE, 0 for REDUCE_TO; its copies not yet acknowledged -/
  group    : Nat
  copies   : Nat
  /-- routing bank of its first packet (R247, R249) -/
  bank     : Bool
  /-- it has ended, and only its number is held, until the copies that are still out have come back (R211) -/
  ended    : Bool
  deriving DecidableEq, Repr

/-- A multicast copy waiting in the store of a branch point: packet and the branches still to take it (R212). -/
structure McastEntry where
  pkt      : Packet
  branches : List Nat
  deriving DecidableEq, Repr

/-- A branch point: its store of 64 packets, the queue of 16 of each branch, new packets that wait for the store, and the
store's high water (R212, B+0D.07). -/
structure McastStore where
  store    : List McastEntry
  queues   : KV (List Packet)
  wait     : List McastEntry
  high     : Nat
  deriving DecidableEq, Repr

/-- A tower with its bonded SRAM (Table TW-4 and the other objects of its block). -/
structure Tower where
  isCache   : Bool
  mode      : TowerMode
  group     : Option Nat
  regions   : List Region
  shortTotal : Nat
  tileFaults : Nat
  records   : List ActRec
  queue     : List Chunk
  running   : List Chunk
  ops       : List OpInst
  nextId    : Nat
  nextIssue : Nat
  opsDone   : Nat
  reruns    : Nat
  overruns  : Nat
  lastBooked : Nat
  sbHigh    : Nat
  sbStalls  : Nat
  fence     : Bool
  fenceCause : Nat
  syncLimit : Nat
  laneFaults : Nat
  refetches : Nat
  flitsFixed : Nat
  linkRetries : Nat
  /-- consecutive failed retries per link; links out of service -/
  linkFails : KV Nat
  linksOut  : List Nat
  sync      : KV SyncObj
  gens      : KV Nat
  signalsSent : Nat
  /-- SIGNALs sent and not yet acknowledged, oldest first: holding tower, object, slot of the record that waits (R205) -/
  signalsOut : List (Nat × Nat × Nat)
  /-- chunk arrivals that the regions have sent and the root has not yet taken (R202) -/
  tree      : List (BitVec 64)
  noticesSent : Nat
  saturations : Nat
  busyRefusals : Nat
  fencedCopies : Nat
  /-- the branch points of the tower: its site interface, and the die stop at which copies that stay on the die branch -/
  mcast     : McastStore
  dieMcast  : McastStore
  reductions : List Reduction
  /-- reductions of this tower refused as busy: redid and slot, and the destination site -/
  heldReductions : List (Nat × Nat × Nat)
  /-- arrivals of a region barrier: step and regions -/
  barrier   : Nat × List Nat
  smallFixed : Nat
  remapUsed : Nat
  remapExhausted : Nat
  remaps    : KV (List Nat)
  /-- tick of the last correction of a word of a small array, by array key and word (R323) -/
  smallSeen : List ((Nat × Nat) × Nat)
  resetState : TowerResetState
  resetCold : Bool
  resetFrom : TowerMode
  resetCount : Nat
  /-- in reset because its reloaded image failed measurement (R407) -/
  heldInReset : Bool
  /-- packages whose share is to be reloaded (R531, R536) -/
  reload    : List Nat
  coldClean : Bool
  /-- tick of the last cold reset (R534) -/
  coldTick  : Option Nat
  windowFaults : Nat
  channels  : KV Channel
  layerReset : LayerResetState
  layerNo   : Nat
  layerTick : Nat
  layerQueue : List Nat
  gates     : BitVec 4
  wordsFixed : Nat
  wordsBad  : Nat
  poisonReads : Nat
  validDisagree : Nat
  patrolPass : Nat
  patrolInterval : Nat
  retireState : RetireState
  retirePage : Nat
  replacedPages : List Nat
  withdrawnPages : List (Nat × Nat)
  reserveUsed : KV Nat
  -- thermal and power
  temp      : Int
  diode     : Int
  anchorCorr : Int
  useDiode  : Bool
  band      : Nat
  ballast   : Nat
  ballastUntil : Nat
  tripState : Nat
  trips     : Nat
  belowSince : Option Nat
  overTemps : Nat
  over110   : Bool
  boostWear : Nat
  deriving DecidableEq, Repr

/-- A bank set image a physical weight bank holds: owning record address and image numbers (R272). -/
structure Bank where
  inService : Bool
  image     : Option (Nat × Nat × Nat)
  retrims   : Nat
  calibrating : Bool
  deriving DecidableEq, Repr

/-- The weight banks under a compute tower (chapter 09). -/
structure BankSet where
  banks     : List Bank
  map       : List Nat
  loads     : Nat
  skipped   : Nat
  checkFails : Nat
  retrims   : Nat
  clipped   : Nat
  retired   : Nat
  streams   : Nat
  deriving DecidableEq, Repr

/-! ## The base (chapters 08, 09) -/

/-- An ordered pair of sites (R222 to R243). `planes` are the planes in rotation, lowest first. -/
structure Pair where
  planes    : List Nat
  spare     : Nat
  rot       : Bool
  /-- plane the spare stands in for; a wavelength out for calibration; planes permanently faulted -/
  standFor  : Option Nat
  calibrating : Option Nat
  dead      : List Nat
  symbols   : Nat
  replays   : Nat
  permFaults : Nat
  /-- tick of the last fault of a wavelength of the pair (R241) -/
  faultAt   : Option Nat
  deriving DecidableEq, Repr

/-- A data codeword that its sender keeps until it is acknowledged (R226, R232): its number in the pair's rotation, its SEQ on the
wavelength, the tick it was first sent, how often it was resent, its ten units. -/
structure Codeword where
  no     : Nat
  seq    : Nat
  first  : Nat
  resent : Nat
  units  : List (BitVec 512)
  deriving DecidableEq, Repr

/-- What the units of a pair's stream are (R227). -/
inductive Carried where
  | bulk (header : BitVec 512) (data : List (BitVec 512))
  | control (unit : BitVec 512)
  | credit (bulk control : Nat)
  deriving DecidableEq, Repr

/-- What units need to be sent (R230): a bulk credit or a control credit each, or, as a credit return, none. -/
inductive UnitKind where
  | bulk | control | credit
  deriving DecidableEq, Repr

/-- The sender of the stream of an ordered pair of sites, or of a port's lanes (R226 to R232, R347). -/
structure Line where
  /-- data codewords dealt so far; the next SEQ of each wavelength -/
  dealt   : Nat
  seqs    : KV Nat
  /-- replay buffers by wavelength (R232) -/
  sent    : KV (List Codeword)
  /-- codewords of a wavelength that failed which wait for room on another (R239, R241) -/
  orphans : List Codeword
  /-- units that wait for credit or room, in order (R230) -/
  held    : List (UnitKind × List (BitVec 512))
  /-- credits of the sender (R230) -/
  bulk    : Nat
  control : Nat
  deriving DecidableEq, Repr

/-- The receiver of a stream (R224, R226 to R230, R347). -/
structure LineRx where
  /-- data codewords taken from the positions of the rotation so far -/
  taken   : Nat
  /-- SEQ of the last codeword received good and in order on each wavelength; whether the one after it was uncorrectable -/
  good    : KV Nat
  nack    : KV Bool
  /-- symbols received on each wavelength, the spare's among them, and symbols corrected there -/
  symbols : KV Nat
  errs    : KV Nat
  /-- reorder buffer: units of the codewords of each wavelength that wait for their turn (R229) -/
  reorder : KV (List (List (BitVec 512)))
  /-- units taken that do not yet make a whole packet -/
  stream  : List (BitVec 512)
  /-- what stands in the bulk and control buffers, in order, until it is handed to the die -/
  buffer  : List Carried
  deriving DecidableEq, Repr

/-- A block of the sync plane as its site keeps it (R235, R236): SEQ, the block requested again, message, the buses it went out on,
times sent. -/
structure SpBlock where
  seq   : Nat
  nsite : Nat
  nseq  : Nat
  msg   : BitVec 128
  buses : BitVec 2
  sent  : Nat
  deriving DecidableEq, Repr

/-- A site on the sync plane: its next SEQ, the blocks it keeps, and the sites whose blocks it has received, with the SEQ of the last one
of each that came good (R236). -/
structure SpSite where
  next   : Nat
  blocks : List SpBlock
  heard  : KV Nat
  deriving DecidableEq, Repr

/-- A comb laser module (R252 to R257). -/
structure Laser where
  st     : Nat
  output : Int
  drive  : Nat
  /-- drive in 0.1 % of the limit, summed over power steps of 1,000 tk -/
  wear   : Nat
  /-- tick at which level B was reached (R275) -/
  since  : Nat
  deriving DecidableEq, Repr

/-- A calibration channel that has had a set or a step: kind, index, active set and the one before it, shadow set (R280), a step in progress,
the tick of its last step (R277). -/
structure CalChannel where
  kind   : Nat
  index  : Nat
  active : List Byte
  prev   : List Byte
  shadow : Option (List Byte)
  busy   : Bool
  last   : Option Nat
  deriving DecidableEq, Repr

/-- Base, routing, laser and calibration state. -/
structure BaseSt where
  pairs     : KV Pair
  spDegraded : BitVec 23
  spResent  : Nat
  /-- buses out of service per site: bit 0 SPA, bit 1 SPB -/
  busOut    : KV (BitVec 2)
  planeSt   : List Nat
  /-- open plane window: plane and opening tick; planes waiting for one -/
  window    : Option (Nat × Nat)
  windowQueue : List Nat
  calSuspended : Bool
  /-- tick in which background calibration last took a ring or a bank out (R254) -/
  calBegan  : Option Nat
  /-- site-state fences of guests (R427, R440): bit 0 G0, bit 1 G1 -/
  guestSiteFence : BitVec 2
  unroutable : Nat
  activeB   : Bool
  bankA     : KV (BitVec 32)
  bankB     : KV (BitVec 32)
  switchTick : Nat
  switchSt  : Nat
  lasers    : List Laser
  linkMap   : List Nat
  feedMap   : List Nat
  linkSwitchDown : Bool
  bankSwitchDown : Bool
  bankSets  : List BankSet
  cal       : List CalChannel
  /-- tick in which the engine last committed a result of its own (R284) -/
  engineTick : Option Nat
  commitTick : Nat
  commitSt  : Nat
  commitKind : Nat
  commitIndex : Nat
  /-- channels whose commit has been applied and which are still to be verified, oldest first: kind, index (R283) -/
  commitChecks : List (Nat × Nat)
  appliedTick : Nat
  relockPeriod : Nat
  bankPeriod : Nat
  stepsDone : Nat
  stepsAbandoned : Nat
  restoresOk : Nat
  restoresBad : Nat
  /-- base temperature that each field's feed-forward correction was last taken at; base temperature at a channel's last lock or
  load, by channel key; present heater offset of each field (R285, R286) -/
  feedFwd   : List Int
  lockTemp  : KV Int
  heaterOff : List Int
  fieldReset : Option Nat
  fieldBankClean : List Bool
  deriving DecidableEq, Repr

/-! ## Memory (chapters 10, 11) -/

/-- A window (R290, R313, R314). -/
structure Window where
  eid   : Nat
  space : Nat
  base  : Nat
  len   : Nat
  frames : Nat
  park  : Bool
  tower : Nat
  deriving DecidableEq, Repr

/-- An LPDDR5X stack (R306 to R308). -/
structure Stack where
  refresh  : Nat
  mr4      : Nat
  st       : Nat
  fixed    : Nat
  bad      : Nat
  linkFixed : Nat
  patrolPass : Nat
  patrolInterval : Nat
  patrol   : KV Nat
  refreshes : Nat
  retrainings : Nat
  /-- channels that have failed (Table FD-1, code 0x0608) -/
  failed   : List Nat
  deriving DecidableEq, Repr

/-- A record of the error log (Table EC-3), its PAGE key kept for merging. -/
structure EccRec where
  tick : Nat
  array : Nat
  event : Nat
  symbols : Nat
  found : Nat
  tower : Nat
  unit  : Nat
  channel : Nat
  page  : Nat
  word  : Nat
  merged : Nat
  addr  : Nat
  deriving DecidableEq, Repr

/-- Module memory: bonded SRAM, LPDDR5X backing and the weight-bank stores. -/
structure MemSt where
  /-- canonical: addresses rising, no zero byte listed (R319: what is not valid reads zero) -/
  cells   : List Host.Cell
  /-- first keys of what has its valid bit set: words of bonded SRAM, 4 KiB pages of LPDDR5X backing (R319) -/
  valid   : List Nat
  /-- first keys of poisoned words (R320) -/
  poison  : List Nat
  windows : List Window
  dram  : List Stack
  log     : List EccRec
  logCount : Nat
  logLost : Nat
  mergeWin : Nat
  /-- test rows: target, unit, layer, channel, row as one key; data and check bytes (R327) -/
  testRows : KV (List Byte × List Byte)
  testStatus : Nat
  testSymbols : Nat
  testRead : List Byte
  poisonedTransfers : Nat
  /-- parked frames: park EID, header, payload (R314, R536) -/
  parked  : List (Nat × BitVec 512 × List Byte)
  deriving DecidableEq, Repr

/-! ## Packages and groups (chapters 05, 12, 20) -/

/-- A phase group in force (R331 to R334). -/
structure Group where
  kind    : Nat
  members : BitVec 20
  unbooked : Bool
  deriving DecidableEq, Repr

/-- What a write of chapter 12 changed in its tick: admissions decided in that tick still see it as it was (R333). -/
structure GroupWas where
  tick   : Nat
  groups : List Group
  roles  : KV (List Nat)
  /-- towers that joined or left a group in the tick, with the group each was in before -/
  towers : List (Nat × Option Nat)
  deriving DecidableEq, Repr

/-- The guard policy (D:2000.01 to D:2000.03) as it stood before the writes served in a tick: a write applies to decisions whose search
begins in the tick after it (R392). -/
structure GuardWas where
  tick      : Nat
  fraction  : Nat
  pairLimit : Nat
  ctxLimit  : Nat
  deriving DecidableEq, Repr

/-- Window entry of a cost record (Table PH-3). -/
structure WinEntry where
  tower : Nat
  role  : Nat
  win   : Nat
  graph : Nat
  start : Nat
  len   : Nat
  cu    : Nat
  rctx  : Nat
  deriving DecidableEq, Repr

/-- Pair entry of a cost record (Table PH-4). -/
structure PairEntry where
  src   : Nat
  dst   : Nat
  wl    : Nat
  start : Nat
  len   : Nat
  gran  : Nat
  deriving DecidableEq, Repr

/-- Cost record (Table PH-2). -/
structure CostRec where
  shape : Nat
  clg   : Bool
  clb   : Bool
  span  : Nat
  tail  : Nat
  recov : Nat
  wins  : List WinEntry
  pairs : List PairEntry
  deriving DecidableEq, Repr

/-- The package tables of one tower (Table OP-1). -/
structure PkgTables where
  tower   : Nat
  graphs  : List (Nat × Nat)
  descs   : List (BitVec 1024)
  tensors : List (BitVec 256)
  lanes   : List (List Byte)
  persist : List Nat
  deriving DecidableEq, Repr

/-- A placed package (R335, R343, R533 to R536). -/
structure Pkg where
  model   : Nat
  version : Nat
  hash    : Nat
  /-- D:4001.02 -/
  st      : Nat
  kinds   : List Nat
  shapes  : List CostRec
  tables  : List PkgTables
  data    : List (Nat × Nat)
  tick    : Nat
  deriving DecidableEq, Repr

/-- The load in progress (D:4002). -/
structure LoadSt where
  target  : Nat
  parkEid : Nat
  restore : BitVec 20
  st      : Nat
  open_   : Bool
  model   : Nat
  bytes   : Nat
  segs    : Nat
  body    : List Byte
  written : List (Nat × Nat)
  deriving DecidableEq, Repr

/-! ## Ports, requests and the ledger (chapters 13, 14) -/

/-- A frame the module sends; the header fields of Table FR-2 that vary. -/
structure OutFrame where
  port   : Nat
  cls    : Nat
  last   : Bool
  unprot : Bool
  tenant : Nat
  model  : Nat
  reqid  : Nat
  seq    : Nat
  claim  : Nat
  kepoch : Nat
  tick   : Nat
  length : Nat
  word   : Nat
  nonce  : Nat
  /-- the ciphertext, and the tag that follows it (R353) -/
  payload : List Byte
  tag    : BitVec 128
  deriving DecidableEq, Repr

/-- A port (R345 to R348, R358, R366 to R368, Table FR-8). -/
structure Port where
  st       : Nat
  lanes    : BitVec 8
  reversed : Bool
  polarity : BitVec 8
  corrected : Nat
  replays  : Nat
  received : Nat
  sent     : Nat
  discarded : Nat
  notices  : Nat
  refusals : Nat
  /-- units granted to the module and units it has sent since link-up -/
  egressGrant : Nat
  egressSent : Nat
  stall    : Nat
  ingressGrant : Nat
  ingressUsed : Nat
  buffered : Nat
  kSent    : Nat
  resync   : Bool
  /-- request whose payload is arriving, tenant and seq; tick of its last unit sampled -/
  incoming : Option (Nat × Nat)
  lastUnit : Nat
  /-- frames waiting, in the order of R365, and frames that have left, oldest first -/
  queue    : List OutFrame
  out      : List OutFrame
  partnerState : Nat
  partnerLanes : Nat
  /-- rotation epoch of the lane set, and the stream the port sends (R347) -/
  rot      : Bool
  line     : Line
  /-- what the port receives -/
  rx       : LineRx
  deriving DecidableEq, Repr

/-- Where a request stands. -/
inductive ReqPhase where
  | held | pending | accepted | refused | delivered | ended
  deriving DecidableEq, Repr

/-- A G or B request (R355 to R365, R373 to R396, R463 to R476). -/
structure Req where
  tenant : Nat
  seq    : Nat
  reqid  : Nat
  model  : Nat
  cls    : Nat
  port   : Nat
  kepoch : Nat
  deadline : Nat
  shape  : Nat
  length : Nat
  arrival : Nat
  phase  : ReqPhase
  bestEffort : Bool
  prot   : Bool
  promised : Nat
  commit : Nat
  base   : Nat
  slotMap : List (Nat × Nat)
  bank   : Bool
  rec_   : CostRec
  sentRecords : Bool
  /-- the unit runs it; and the units of its frame are in the ingress buffer -/
  here   : Bool
  buffered : Bool
  payload : Option (List Byte)
  payloadTick : Nat
  payloadGood : Bool
  /-- towers whose completion word has arrived, and towers that have reported retirement -/
  words  : List Nat
  retired : List Nat
  reason : Nat
  detail : Nat
  reasonSite : Nat
  endTick : Nat
  /-- result parts received from DELIVER: offset, bytes, LAST -/
  parts  : List (Nat × List Byte × Bool)
  framesLeft : Nat
  lastLeft : Bool
  twinDelivered : Bool
  /-- reason given by the promise compare (R396), to be counted when its deferred end is sent -/
  byCompare : Bool
  /-- granules of spooled windows that it has committed (R473) -/
  delta  : List (Nat × List Byte)
  deriving DecidableEq, Repr

/-- What a booking takes (Table LG-1). -/
inductive Resource where
  | tower (t : Nat) | contexts (s : Nat) | pair (i j : Nat) | egress (x : Nat)
  deriving DecidableEq, Repr

/-- A booking: owner, ledger plane (true: recovery plane, R465), resource, first slot, slots, amount per slot. -/
structure Booking where
  tenant : Nat
  seq    : Nat
  recovery : Bool
  res    : Resource
  start  : Nat
  len    : Nat
  amt    : Nat
  deriving DecidableEq, Repr

/-- The sequence state of a tenant (R357). -/
structure SeqState where
  high  : Nat
  taken : List Nat
  deriving DecidableEq, Repr

/-- The ledger (Table LG-6). -/
structure LedgerSt where
  fraction : Nat
  pairLimit : Nat
  ctxLimit : Nat
  /-- the three before the writes of a tick (R392) -/
  guardWas : Option GuardWas
  margin   : Nat
  gAccepted : Nat
  bAccepted : Nat
  beAccepted : Nat
  refusals : Nat
  lastReason : Nat
  busy     : Nat
  missed   : Nat
  late     : Nat
  exceptions : Nat
  engineFree : Nat
  slot     : Nat
  bookings : List Booking
  reqs     : List Req
  seqs     : KV SeqState
  /-- activation slots assigned: (tower, slot) -/
  slots    : List (Nat × Nat)
  /-- records on their way to towers: tower, record (R89) -/
  inflight : List (Nat × ActRec)
  unitGap  : Nat
  tagFails : Nat
  gapTimeouts : Nat
  reqEnded : Nat
  claimAnomalies : Nat
  deriving DecidableEq, Repr

/-! ## The vault (chapters 15, 16) -/

/-- A key slot (R413 to R417). -/
structure KeySlot where
  epoch   : Nat
  refs    : Nat
  closing : Bool
  since   : Nat
  install : Nat
  counter : Nat
  deriving DecidableEq, Repr

/-- The two slots of an ID. -/
structure KeyId where
  kind : Nat
  id   : Nat
  cur  : Option KeySlot
  prev : Option KeySlot
  deriving DecidableEq, Repr

/-- A measurement entry (Table SK-2). -/
structure Measure where
  kind : Nat
  pend : Bool
  index : Nat
  version : Nat
  tick : Nat
  hash : Nat
  deriving DecidableEq, Repr

/-- Vault states of D:7000.04. -/
inductive VaultMode where
  | normal | transitional | erased
  deriving DecidableEq, Repr

/-- A packet that passed a guest's filter and is not yet answered (R249, R442): the guest, whether it came from there, its EIDs and tag,
its routing bank, answers still to come. -/
structure GuestPkt where
  guest  : Nat
  fromGuest : Bool
  src    : Nat
  dst    : Nat
  tag    : Nat
  bank   : Bool
  left   : Nat
  deriving DecidableEq, Repr

/-- The alarm policy, the firewall rules and the tenant fences as they stood before a ticket of the tick (R434). -/
structure Rw2Was where
  tick        : Nat
  policy      : List Nat
  rules0      : List (BitVec 128)
  rules1      : List (BitVec 128)
  fenceAll    : Bool
  fenceExcept : List Nat
  deriving DecidableEq, Repr

/-- The vault, tickets, alarms and guests. -/
structure VaultSt where
  mode     : VaultMode
  install  : Nat
  pairPos  : Bool
  keys     : List KeyId
  /-- layer secrets, release key generation, pair key present: counts of derivations; 0 = none -/
  secrets  : Nat
  releaseGen : Nat
  pairKey  : Bool
  reportHashes : List Nat
  nonceIn  : Nat
  reportSt : Nat
  reportTick : Nat
  /-- release key and pair binding that the report quotes (Table SK-3) -/
  reportGen : Nat
  reportPaired : Bool
  reportTrans : Bool
  reportEntries : List Measure
  measures : List Measure
  /-- layers pending, or dies reloading, that make the vault transitional (R406) -/
  pendingLayers : List Measure
  reloading : List Nat
  deadSlots : List Nat
  imports  : Nat
  importFails : Nat
  failTicks : List Nat
  grace    : Nat
  reseeds  : Nat
  nextRandom : Nat
  anchors  : List Nat
  -- tickets
  nonce    : Nat
  ticketSt : Nat
  failCheck : Nat
  applied  : Nat
  ticketFails : Nat
  ticketFailTicks : List Nat
  enrolled : Bool
  policy   : List Nat
  /-- what a ticket of the tick has changed, as it stood before (R434) -/
  rw2Was   : Option Rw2Was
  /-- tick at which the policy digest was last recomputed (R404) -/
  policyTick : Nat
  alarms   : Nat
  lastSource : Nat
  lastAlarmTick : Nat
  lastAction : Nat
  /-- D:7202: every tenant's entry reads `fenceAll`, but for the tenants listed -/
  fenceAll : Bool
  fenceExcept : List Nat
  /-- what the alarms of tick `lastAlarmTick` affect: all tenants, or those listed (R448) -/
  tickAll  : Bool
  tickTenants : List Nat
  admitted : BitVec 2
  rules0   : List (BitVec 128)
  rules1   : List (BitVec 128)
  refusals0 : Nat
  refusals1 : Nat
  guestFence : BitVec 2
  gready   : BitVec 2
  grstHigh : BitVec 2
  grstTick : List Nat
  guestReset : BitVec 2
  /-- packets that passed a guest's filter and wait for their answers -/
  guestPkts : List GuestPkt
  deriving DecidableEq, Repr

/-! ## The pair (chapter 17) -/

/-- Pair states of Table PR-6. -/
inductive PairMode where
  | unbound | seeking | syncing | standby | active | solo | isolated
  deriving DecidableEq, Repr

/-- A request in the tail of the spool (R473). -/
structure TailReq where
  tenant : Nat
  seq    : Nat
  cls    : Nat
  delta  : Option (List (Nat × List Byte))
  promised : Nat
  deriving DecidableEq, Repr

/-- A message sent to the twin on PX or TH. -/
inductive TwinMsg where
  | heartbeat (onPx : Bool) (h : HeartbeatIn)
  | decision (d : DecisionRec)
  | status (free limits : List Nat) (spoolFull : Bool)
  | delivered (tenant seq : Nat)
  | config (digest : Nat)
  | delta (tenant seq : Nat) (granules : List (Nat × List Byte))
  | snapshot (tick : Nat)
  | package (model : Nat)
  | image
  | joinReady
  | join (tick : Nat)
  | hello (ident : List Byte) (didh : Nat) (preferred : Bool)
  | epochCount (count : Nat) (onPx : Bool)
  deriving DecidableEq, Repr

/-- A message as it was sent to the twin: the header fields of Table PR-1 and the nonce under the pair key (R456, R458). SEQ is 0 where
the message is no S frame. -/
structure TwinFrame where
  msg   : TwinMsg
  seq   : Nat
  claim : Nat
  tick  : Nat
  nonce : BitVec 96
  deriving DecidableEq, Repr

structure PairSt where
  bound    : Bool
  twinId   : Nat
  preferred : Bool
  seekLimit : Nat
  mode     : PairMode
  claim    : Nat
  twinClaim : Nat
  twinMode : PairMode
  twinLocked : Bool
  twinDecnum : Nat
  twinSpoolFull : Bool
  pxPath   : Nat
  thPath   : Nat
  pxHeard  : Nat
  thHeard  : Nat
  seekSince : Nat
  pathFaults : Nat
  takeovers : Nat
  mirrored : Nat
  notRun   : Nat
  withheld : Nat
  twinDigest : Nat
  sDiscarded : Nat
  sSeqIn   : Nat
  sSeqOut  : Nat
  keyGen   : Nat
  bindFaults : Nat
  /-- lockstep admission runs: the counts have agreed with both units LOCKED since it last stopped (R65) -/
  lockRuns : Bool
  decnum   : Nat
  hbseq    : Nat
  beating  : Bool
  /-- tick from which the next heartbeat is due -/
  nextBeat : Nat
  /-- an S frame was discarded: PX is a path fault until the next handshake (R456) -/
  sFault   : Bool
  /-- JOIN READY has been sent (R479) -/
  readySent : Bool
  resumeTick : Option Nat
  joinTick : Nat
  joinArmed : Bool
  snapshotTick : Nat
  /-- for each X port, the units received when the twin's STATUS came plus the free units it gave (R465) -/
  twinFree : List Nat
  twinLimits : List Nat
  checkpoint : Nat
  spoolWins : List (Nat × Nat)
  spoolStore : Nat
  lastFold : Nat
  tail     : List TailReq
  image    : List (Nat × List Byte)
  spoolUsed : Nat
  spoolSt  : Nat
  sent     : List TwinFrame
  deriving DecidableEq, Repr

/-! ## Power, thermal, logs, bring-up, dictionary -/

/-- A power domain (R487 to R489). -/
structure Domain where
  st      : Nat
  setmV   : Nat
  current : Nat
  power   : Nat
  energy  : Nat
  faults  : Nat
  deriving DecidableEq, Repr

/-- Power controller and input stage (Table PT-7). -/
structure PowerSt where
  inputmV  : Nat
  watts    : Nat
  mean     : Nat
  /-- input power of the last 1,000 power steps, newest first -/
  wattHist : List Nat
  exSt     : Nat
  exCount  : Nat
  /-- tick at which the allowance of the excursion in progress is spent -/
  exLeft   : Nat
  holdUntil : Nat
  inputEvents : Nat
  converters : List Nat
  domains  : List Domain
  boost    : Bool
  cap      : Nat
  calmSteps : Nat
  inputUp  : Bool
  shutdown : Bool
  charged  : Bool
  /-- tick at which a domain was last switched on (R488) -/
  lastOn   : Option Nat
  powerTick : Option Nat
  hubFailed : Bool
  moduleFailed : Bool
  -- coolant and units without a tower
  inlet    : Int
  outlet   : Int
  flow     : Nat
  /-- ticks from which the inlet and the flow have been outside their limits, and both within (R508, Table PT-6) -/
  inletBad : Option Nat
  flowBad  : Option Nat
  coolGood : Option Nat
  coolHold : Bool
  hubDiode : Int
  guestDiode : List Int
  hubTrip  : Nat
  guestTrip : List Nat
  guestTrips : List Nat
  guestBelow : List (Option Nat)
  fieldBand : List Nat
  deriving DecidableEq, Repr

/-- A record of the event and fault log (Table FD-2); CLASS is the upper byte of CODE. -/
structure EvRec where
  tick : Nat
  sev  : Nat
  code : Nat
  unit : Nat
  loc  : Nat
  arg0 : Nat
  arg1 : Nat
  deriving DecidableEq, Repr

/-- The event and fault log and the vectors (chapters 19, 21). -/
structure LogSt where
  recs    : List EvRec
  count   : Nat
  lost    : Nat
  byClass : List Nat
  mask    : BitVec 16
  minSev  : Nat
  /-- copies of D:1110.01 for PCIe and I3C -/
  vecP    : BitVec 32
  vecI    : BitVec 32
  /-- tick of the last raise and of the setting of each vector (R565) -/
  raisedAt : KV Nat
  setAtP  : KV Nat
  setAtI  : KV Nat
  ibiEnable : BitVec 32
  /-- events enabled by ENEC and DISEC; bit 0: in-band interrupts (R558) -/
  i3cEvents : BitVec 8
  msix    : List Nat
  msixPending : BitVec 32
  msixMask : BitVec 32
  msixOn  : Bool
  ibis    : List Nat
  deriving DecidableEq, Repr

/-- A firmware copy in the store: security version, LAYER, its measurement. -/
structure FwCopy where
  svn   : Nat
  raise : Bool
  hash  : Nat
  deriving DecidableEq, Repr

/-- Bring-up, firmware store and resets (chapter 20). -/
structure BootSt where
  modState : Nat
  bootFails : Nat
  recovery : Bool
  layers   : Nat
  copies   : List (Option FwCopy × Option FwCopy)
  running  : List Bool
  /-- An activated copy of layer 1 waits for the next power-up or module reset (R528). -/
  marked   : Bool
  minSvn   : List Nat
  stageSt  : Nat
  stageCheck : Nat
  pending  : Option (Nat × FwCopy)
  activating : Option (Nat × Nat)
  busyUntil : Nat
  baseReady : Bool
  straps   : BitVec 4
  deriving DecidableEq, Repr

/-- The test access port (R537 to R539). -/
structure TapSt where
  ir       : BitVec 8
  access   : Bool
  segments : BitVec 40
  sessions : Nat
  refused  : BitVec 8
  dr       : Nat
  reset    : Bool
  deriving DecidableEq, Repr

/-- An abort record (Table DI-12). -/
structure AbortRec where
  tick : Nat
  index : Nat
  sub  : Nat
  i3c  : Bool
  code : Nat
  arg  : Nat
  deriving DecidableEq, Repr

/-- A segmented write being held: index, subindex, octets so far, tick of the last segment (R555, R557). -/
structure SegWrite where
  index : Nat
  sub   : Nat
  data  : List Byte
  tick  : Nat
  deriving DecidableEq, Repr

/-- The access state of one transport (R546, R549). -/
structure Transport where
  addr   : Nat
  length : Nat
  offset : Nat
  state  : Nat
  count  : Nat
  abort  : Nat
  total  : Nat
  served : Nat
  data   : List Byte
  seg    : Option SegWrite
  /-- copy taken by a segmented read: index, subindex, octets (R556) -/
  copy   : Option (Nat × Nat × List Byte)
  /-- selections, windows and views held per transport, by object key index * 256 + sub -/
  sels   : KV Nat
  deriving DecidableEq, Repr

/-- The dictionary engine, the I3C target and the PCIe endpoint. -/
structure DictSt where
  served  : Nat
  aborted : Nat
  discarded : Nat
  abandoned : Nat
  aborts  : List AbortRec
  abortCount : Nat
  pcie    : Transport
  i3c     : Transport
  pcieUp  : Bool
  /-- level of PE_PERST_L (R578) -/
  perst   : Bool
  i3cAddr : Option (BitVec 7)
  /-- last reply of an I3C CCC or private read -/
  i3cReply : List Byte
  /-- RW objects that only hold a value (window contents being set up), by object key -/
  held    : KV Nat
  /-- RW objects that hold octets -/
  heldOct : KV (List Byte)
  deriving DecidableEq, Repr

/-- What differs from module to module: ordering code, per-module constants (CONST objects without a default). -/
structure Ident where
  guests  : Nat
  laserE  : Bool
  serial  : List Byte
  guestRec0 : Nat
  guestRec1 : Nat
  hwRev   : Nat
  didh    : Nat
  bind    : Nat
  idcode  : Nat
  lpddrRec : Nat
  /-- lengths of the four certificates (D:7001.02) -/
  certLen : List Nat
  guestmV : List Nat
  deriving DecidableEq, Repr

/-- Registers of a vector engine (Table LP-1) and what its pass supplies. -/
structure LaneSt where
  v     : Vector (Vector Word 128) 32
  p     : Vector (BitVec 128) 8
  /-- the instruction buffer and the constant store (R178) -/
  code  : List (BitVec 64)
  pool  : Vector Word 32
  /-- d0 index of lane 0's element and linear row index (LIDX) -/
  d0    : Nat
  row   : Nat
  /-- lanes that hold an element (R177) -/
  elems : BitVec 128
  flags : BitVec 8
  /-- draws made from the tile's stochastic generator (R124) -/
  draws : Nat
  cycles : Nat
  deriving DecidableEq, Repr

/-- Why the machine stops with a fault. No command of this model faults: an abort, a refusal of a frame, a poisoned or
fenced completion are states of the module, and the block has no exception entry. -/
inductive Fault where
  /-- Raised by no command: it keeps the type inhabited. Safe, since nothing stops by it. -/
  | none
  deriving DecidableEq, Repr

/-- Why a command has no meaning. -/
inductive Refusal where
  /-- Raised by Dispatch for a row whose meaning is not written; safe. -/
  | notModelled (mnemonic : String)
  deriving DecidableEq, Repr

/-- The state of the module. -/
structure State where
  pending : List Instr
  ident   : Ident
  time    : TimeSt
  towers  : List Tower
  base    : BaseSt
  mem     : MemSt
  groups  : List Group
  pkgs    : List Pkg
  /-- role maps by model handle -/
  roles   : KV (List Nat)
  /-- the groups and role maps before the writes of the present tick (R333) -/
  groupWas : Option GroupWas
  /-- load status D:4001.05 by model handle, and the graph handle of the failure -/
  loadStatus : KV (Nat × Nat)
  load    : LoadSt
  ports   : List Port
  ledger  : LedgerSt
  vault   : VaultSt
  pair    : PairSt
  power   : PowerSt
  log     : LogSt
  boot    : BootSt
  tap     : TapSt
  dict    : DictSt
  engines : KV LaneSt
  /-- packets that sites have put out, oldest first; units of those bound for other sites that may not leave yet stand in `lines` -/
  net     : List Packet
  /-- sync-plane messages sent -/
  syncOut : List (BitVec 128)
  /-- streams between sites, by ordered pair, as they are sent and as they are received (R226 to R232); blocks of the sync plane, by
  site (R235, R236) -/
  lines   : KV Line
  rxs     : KV LineRx
  spSites : KV SpSite
  /-- read responses that have reached their requesters, oldest first -/
  inbox   : List Packet
  /-- control packets that have reached their stops, with the tower, oldest first (R199) -/
  ctl     : List (Nat × CtlPacket)
  /-- the model's own: index of the next free value drawn (Config.freeValue) -/
  freeCtr : Nat
  deriving DecidableEq, Repr

/-! ## Reset (power-on). Values the spec does not give are named in notes/assumptions/2.md. -/

def TimeSt.fresh : TimeSt :=
  { tally := 0, started := false, hold := 0, refLost := true, goodGates := 0, skip := none, gateNo := 0, refOffset := 0, mode := .unset, cause := 0,
    holdStart := none, holdLimit := 50000000, reference := none, stepped := false, loadN := none, loadUsed := false,
    loadDone := false, epochCount := 0, phaseErr := 0, missRun := 0, missTotal := 0, discarded := 0, lastWindow := none,
    lastClosed := none, lastPulse := none, residual := 0, lastSlew := none, twinCount := 0,
    pairTime := 0, mismatchRun := 0, mismatches := 0, twinSeen := none }

/-- Region `r` at power-on: tiles 0 to 15 active, tile 16 the spare (Table TW-4). -/
def Region.fresh (r : Nat) : Region :=
  { st := .inService, short := 0, target := 1500000, period := 667, running := true, supplyLow := false, pathLow := false, entered := none,
    left := 0, cycles := 0, queue := [], shortSlot := 0, map := 0x0FFFF,
    faulted := 0, subst := none, selfTest := 0, clock := r }

def Channel.fresh : Channel :=
  { width := 1024, spares := [], failed := 0, gen := 0, retries := 0, attempts := 0, trained := false, retiming := 1,
    patrol := 0 }

def McastStore.fresh : McastStore := { store := [], queues := [], wait := [], high := 0 }

def Tower.fresh (isCache : Bool) : Tower :=
  { isCache, mode := .off, group := none, regions := (List.range (if isCache then 4 else 16)).map Region.fresh,
    shortTotal := 0, tileFaults := 0, records := [], queue := [], running := [], ops := [], nextId := 0, nextIssue := 0,
    opsDone := 0, reruns := 0, overruns := 0, lastBooked := 0, signalsOut := [], tree := [], sbHigh := 0, sbStalls := 0, fence := false,
    fenceCause := 0, syncLimit := 10000000, laneFaults := 0, refetches := 0, flitsFixed := 0, linkRetries := 0,
    linkFails := [], linksOut := [], sync := [], gens := [], signalsSent := 0, noticesSent := 0, saturations := 0,
    busyRefusals := 0, fencedCopies := 0, mcast := McastStore.fresh, dieMcast := McastStore.fresh, reductions := [], heldReductions := [], barrier := (0, []),
    smallFixed := 0, remapUsed := 0, remapExhausted := 0, remaps := [], smallSeen := [], resetState := .idle, resetCold := false,
    resetFrom := .off, resetCount := 0, heldInReset := false, reload := [], coldClean := true, coldTick := none, windowFaults := 0, channels := [], layerReset := .idle, layerNo := 0, layerTick := 0, layerQueue := [],
    gates := 0, wordsFixed := 0, wordsBad := 0, poisonReads := 0, validDisagree := 0, patrolPass := 0,
    patrolInterval := 100000000, retireState := .idle, retirePage := 0, replacedPages := [], withdrawnPages := [],
    reserveUsed := [], temp := 0, diode := 0, anchorCorr := 0, useDiode := false, band := 0, ballast := 0,
    ballastUntil := 0, tripState := 0, trips := 0, belowSince := none, overTemps := 0, over110 := false, boostWear := 0 }

def Bank.fresh : Bank := { inService := true, image := none, retrims := 0, calibrating := false }

def BankSet.fresh : BankSet :=
  { banks := List.replicate 12 Bank.fresh, map := List.range 12, loads := 0, skipped := 0, checkFails := 0, retrims := 0,
    clipped := 0, retired := 0, streams := 0 }

/-- The pair from site i to site j at power-on: spare plane (i + j) mod 5, the other four in rotation (R223). -/
def Pair.fresh (i j : Nat) : Pair :=
  { planes := (List.range 5).filter (fun p => decide (p ≠ (i + j) % 5)), spare := 0, rot := false, standFor := none,
    calibrating := none, dead := [], symbols := 0, replays := 0, permFaults := 0, faultAt := none }

def Laser.fresh (st : Nat) : Laser := { st, output := 0, drive := 0, wear := 0, since := 0 }

def BaseSt.fresh : BaseSt :=
  { pairs := [], spDegraded := 0, spResent := 0, busOut := [], planeSt := List.replicate 6 0, window := none,
    windowQueue := [], calSuspended := false, calBegan := none, guestSiteFence := 0, unroutable := 0, activeB := false,
    bankA := [], bankB := [], switchTick := 0, switchSt := 0,
    lasers := List.replicate 6 (Laser.fresh 1) ++ List.replicate 2 (Laser.fresh 0)
      ++ List.replicate 8 (Laser.fresh 1) ++ List.replicate 2 (Laser.fresh 0),
    linkMap := [0, 1, 2, 3, 4, 5, 5], feedMap := List.range 8, linkSwitchDown := false, bankSwitchDown := false,
    bankSets := List.replicate 16 BankSet.fresh, cal := [], engineTick := none, commitTick := 0, commitSt := 0,
    commitKind := 0, commitIndex := 0, commitChecks := [], appliedTick := 0, relockPeriod := 1000000000, bankPeriod := 100000000,
    stepsDone := 0, stepsAbandoned := 0, restoresOk := 0, restoresBad := 0, feedFwd := List.replicate 16 0,
    lockTemp := [], heaterOff := List.replicate 16 0, fieldReset := none,
    fieldBankClean := List.replicate 16 true }

def Stack.fresh : Stack :=
  { refresh := 1, mr4 := 0, st := 0, fixed := 0, bad := 0, linkFixed := 0, patrolPass := 0,
    patrolInterval := 5000000, patrol := [], refreshes := 0, retrainings := 0, failed := [] }

def MemSt.fresh : MemSt :=
  { cells := [], valid := [], poison := [], windows := [], dram := List.replicate 8 Stack.fresh, log := [], logCount := 0,
    logLost := 0, mergeWin := 1000000, testRows := [], testStatus := 0, testSymbols := 0,
    testRead := List.replicate 128 0, poisonedTransfers := 0, parked := [] }

def Group.fresh : Group := { kind := 0, members := 0, unbooked := true }

def LoadSt.fresh : LoadSt :=
  { target := 1, parkEid := 0, restore := 0, st := 0, open_ := false, model := 0, bytes := 0, segs := 0,
    body := [], written := [] }

def Line.fresh : Line :=
  { dealt := 0, seqs := [], sent := [], orphans := [], held := [], bulk := 1024, control := 64 }

def LineRx.fresh : LineRx :=
  { taken := 0, good := [], nack := [], symbols := [], errs := [], reorder := [], stream := [], buffer := [] }

def Port.fresh : Port :=
  { st := 0, lanes := 0, reversed := false, polarity := 0, corrected := 0, replays := 0, received := 0, sent := 0,
    discarded := 0, notices := 0, refusals := 0, egressGrant := 0, egressSent := 0, stall := 0, ingressGrant := 0,
    ingressUsed := 0, buffered := 0, kSent := 0, resync := false, incoming := none, lastUnit := 0, queue := [], out := [],
    partnerState := 0, partnerLanes := 0, rot := false, line := Line.fresh, rx := LineRx.fresh }

def LedgerSt.fresh : LedgerSt :=
  { fraction := 15, pairLimit := 3, ctxLimit := 12, guardWas := none, margin := 0, gAccepted := 0, bAccepted := 0, beAccepted := 0,
    refusals := 0, lastReason := 0, busy := 0, missed := 0, late := 0, exceptions := 0, engineFree := 0, slot := 0,
    bookings := [], reqs := [], seqs := [], slots := [], inflight := [], unitGap := 10000, tagFails := 0,
    gapTimeouts := 0, reqEnded := 0, claimAnomalies := 0 }

/-- Alarm policy at delivery (Table AL-6, default actions of sources 0x01 to 0x09). -/
def policyDefault : List Nat := [3, 2, 2, 1, 1, 2, 0, 0, 3]

def VaultSt.fresh : VaultSt :=
  { mode := .normal, install := 0, pairPos := false, keys := [], secrets := 0, releaseGen := 0, pairKey := false,
    reportHashes := [], nonceIn := 0, reportSt := 0, reportTick := 0, reportGen := 0, reportPaired := false, reportTrans := false, reportEntries := [],
    measures := [], pendingLayers := [], reloading := [], deadSlots := [], imports := 0, importFails := 0, failTicks := [],
    grace := 1000000000, reseeds := 0, nextRandom := 0, anchors := [Config.voleloAnchor.toNat, 0, 0, 0, 0],
    nonce := 0, ticketSt := 0, failCheck := 0, applied := 0, ticketFails := 0, ticketFailTicks := [], enrolled := false,
    policy := policyDefault, rw2Was := none, policyTick := 0, alarms := 0, lastSource := 0, lastAlarmTick := 0, lastAction := 0,
    fenceAll := false, fenceExcept := [], tickAll := false, tickTenants := [], admitted := 0, rules0 := List.replicate 64 0, rules1 := List.replicate 64 0, refusals0 := 0,
    refusals1 := 0, guestFence := 0, gready := 0, grstHigh := 0, grstTick := [0, 0], guestReset := 0, guestPkts := [] }

def PairSt.fresh : PairSt :=
  { bound := false, twinId := 0, preferred := false, seekLimit := 1000000000, mode := .unbound, claim := 0,
    twinClaim := 0, twinMode := .unbound, twinLocked := false, twinDecnum := 0, twinSpoolFull := false, pxPath := 0, thPath := 0, pxHeard := 0,
    thHeard := 0, seekSince := 0, pathFaults := 0, takeovers := 0, mirrored := 0, notRun := 0, withheld := 0,
    twinDigest := 0, sDiscarded := 0, sSeqIn := 0, sSeqOut := 0, keyGen := 0, bindFaults := 0, lockRuns := false, decnum := 0, hbseq := 0,
    beating := false, nextBeat := 0, sFault := false, readySent := false, resumeTick := none, joinTick := 0, joinArmed := false, snapshotTick := 0, twinFree := [],
    twinLimits := [], checkpoint := 100000000, spoolWins := List.replicate 16 (0, 1), spoolStore := 0, lastFold := 0,
    tail := [], image := [], spoolUsed := 0, spoolSt := 0, sent := [] }

/-- Nominal output of each power domain in mV (Table PT-2); the guests' come from their records. -/
def domainNominal (guestmV : List Nat) (d : Nat) : Nat :=
  if d < 16 then 750 else if d < 32 then 800 else if d < 36 then 750 else if d < 40 then 800
  else if d = 40 then 750 else if d = 41 then 900 else if d < 46 then guestmV.getD (d - 42) 0
  else if d = 46 then 900 else 800

def Ident.fresh : Ident :=
  { guests := 0, laserE := false, serial := List.replicate 16 0, guestRec0 := 0, guestRec1 := 0, hwRev := 0, didh := 0,
    bind := 0, idcode := 0, lpddrRec := 0, certLen := [0, 0, 0, 0], guestmV := [0, 0, 0, 0] }

def PowerSt.fresh : PowerSt :=
  { inputmV := 0, watts := 0, mean := 0, wattHist := [], exSt := 0, exCount := 0, exLeft := 0, holdUntil := 0, inputEvents := 0,
    converters := List.replicate 9 1,
    domains := (List.range 48).map (fun d =>
      { st := 0, setmV := domainNominal [0, 0, 0, 0] d, current := 0, power := 0, energy := 0, faults := 0 }),
    boost := true, cap := 16000, calmSteps := 0, inputUp := false, shutdown := false, charged := false, lastOn := none,
    powerTick := none, hubFailed := false, moduleFailed := false, inlet := 0, outlet := 0, flow := 0, inletBad := none, flowBad := none,
    coolGood := none, coolHold := false, hubDiode := 0, guestDiode := [0, 0], hubTrip := 0, guestTrip := [0, 0],
    guestTrips := [0, 0, 0], guestBelow := [none, none, none], fieldBand := List.replicate 16 0 }

def LogSt.fresh : LogSt :=
  { recs := [], count := 0, lost := 0, byClass := List.replicate 12 0, mask := 0x1FFE, minSev := 1, vecP := 0, vecI := 0,
    raisedAt := [], setAtP := [], setAtI := [], ibiEnable := 0x00003A00, i3cEvents := 1, msix := [], msixPending := 0,
    msixMask := 0xFFFFFFFF, msixOn := false, ibis := [] }

def BootSt.fresh : BootSt :=
  { modState := 0, bootFails := 0, recovery := false, layers := 0, copies := List.replicate 3 (none, none),
    running := [false, false, false], marked := false, minSvn := [0, 0, 0], stageSt := 0, stageCheck := 0, pending := none,
    activating := none, busyUntil := 0, baseReady := false, straps := 0 }

def TapSt.fresh : TapSt :=
  { ir := 0x01, access := false, segments := 0, sessions := 0, refused := 0xFF, dr := 0, reset := true }

def Transport.fresh : Transport :=
  { addr := 0, length := 0, offset := 0, state := 0, count := 0, abort := 0, total := 0, served := 0, data := [],
    seg := none, copy := none, sels := [] }

def DictSt.fresh : DictSt :=
  { served := 0, aborted := 0, discarded := 0, abandoned := 0, aborts := [], abortCount := 0, pcie := Transport.fresh,
    i3c := Transport.fresh, pcieUp := false, perst := false, i3cAddr := none, i3cReply := [], held := [], heldOct := [] }

/-- The module right after power is applied: nothing switched on, time UNSET, every object at its default. -/
def State.reset : State :=
  { pending := [], ident := Ident.fresh, time := TimeSt.fresh,
    towers := List.replicate 16 (Tower.fresh false) ++ List.replicate 4 (Tower.fresh true), base := BaseSt.fresh,
    mem := MemSt.fresh, groups := List.replicate 16 Group.fresh, pkgs := [], roles := [], groupWas := none, loadStatus := [],
    load := LoadSt.fresh, ports := List.replicate 5 Port.fresh, ledger := LedgerSt.fresh, vault := VaultSt.fresh,
    pair := PairSt.fresh, power := PowerSt.fresh, log := LogSt.fresh, boot := BootSt.fresh, tap := TapSt.fresh,
    dict := DictSt.fresh, engines := [], net := [], syncOut := [], lines := [], rxs := [], spSites := [], inbox := [], ctl := [], freeCtr := 0 }

end Sys2Proof.Machine
end

