-- ==== Sys2Proof/Machine/Map.lean ====
section
/-! DEFINITION. Maps as lists of pairs with rising keys, list surgery, and byte-order helpers. -/
namespace Sys2Proof.Machine

open Sys2Proof

/-- The value at key `k`, or `d`. -/
def kvGet {α : Type} (m : KV α) (k : Nat) (d : α) : α :=
  match m with
  | [] => d
  | (k', v) :: rest => if k' = k then v else kvGet rest k d

/-- Whether key `k` is present. -/
def kvHas {α : Type} (m : KV α) (k : Nat) : Bool := m.any (fun p => p.1 == k)

/-- Set key `k` to `v`, keeping keys rising. -/
def kvSet {α : Type} (m : KV α) (k : Nat) (v : α) : KV α :=
  match m with
  | [] => [(k, v)]
  | (k', v') :: rest =>
    if k < k' then (k, v) :: (k', v') :: rest
    else if k = k' then (k, v) :: rest
    else (k', v') :: kvSet rest k v

/-- Remove key `k`. -/
def kvErase {α : Type} (m : KV α) (k : Nat) : KV α := m.filter (fun p => p.1 != k)

/-- Apply `f` to the value at `k` (default `d`). -/
def kvMod {α : Type} (m : KV α) (k : Nat) (d : α) (f : α → α) : KV α := kvSet m k (f (kvGet m k d))

/-- Set element `i` of a list, if it exists. -/
def setAt {α : Type} (l : List α) (i : Nat) (v : α) : List α := l.set i v

/-- Apply `f` to element `i` of a list, if it exists. -/
def modAt {α : Type} (l : List α) (i : Nat) (f : α → α) : List α :=
  match l, i with
  | [], _ => []
  | a :: rest, 0 => f a :: rest
  | a :: rest, i + 1 => a :: modAt rest i f

/-- Apply `f` to every element that satisfies `p`. -/
def modWhere {α : Type} (l : List α) (p : α → Bool) (f : α → α) : List α := l.map (fun a => if p a then f a else a)

/-- Apply `f` to the first element that satisfies `p`. -/
def modFirst {α : Type} (l : List α) (p : α → Bool) (f : α → α) : List α :=
  match l with
  | [] => []
  | a :: rest => if p a then f a :: rest else a :: modFirst rest p f

/-- Apply `f` to the last element that satisfies `p`. -/
def modLast {α : Type} (l : List α) (p : α → Bool) (f : α → α) : List α :=
  match l with
  | [] => []
  | a :: rest => if rest.any p then a :: modLast rest p f else (if p a then f a else a) :: rest

/-- Insert keeping a list rising, without repeats. -/
def insertNat (l : List Nat) (n : Nat) : List Nat :=
  match l with
  | [] => [n]
  | a :: rest => if n < a then n :: a :: rest else if n = a then a :: rest else a :: insertNat rest n

/-- Insert `a` before the first element it goes ahead of (`le a b`), for stable ordered queues. -/
def insertBy {α : Type} (before : α → α → Bool) (a : α) (l : List α) : List α :=
  match l with
  | [] => [a]
  | b :: rest => if before a b then a :: b :: rest else b :: insertBy before a rest

/-- Sort by repeated insertion, stable. -/
def sortBy {α : Type} (before : α → α → Bool) (l : List α) : List α :=
  l.foldl (fun acc a => insertBy before a acc) []

def sumNat (l : List Nat) : Nat := l.foldl (· + ·) 0

def maxNat (l : List Nat) : Nat := l.foldl max 0

/-- `n` octets of a natural, least significant first (R20, R542). -/
def leBytes (n v : Nat) : List Byte := (List.range n).map (fun i => BitVec.ofNat 8 (v >>> (8 * i)))

/-! ## Identity octets (D:1000) -/

def asciiPad (n : Nat) (text : List Nat) : List Byte := (text ++ List.replicate n 0).take n |>.map (BitVec.ofNat 8)

/-- "LDT-9616-", the guest count and the laser option (R11, D:1000.01). -/
def orderingCode (i : Ident) : List Byte :=
  asciiPad 16 [76, 68, 84, 45, 57, 54, 49, 54, 45, 48 + i.guests, if i.laserE then 69 else 83]

/-- D:1000.05. -/
def Ident.guestRecords (i : Ident) : Nat := i.guestRec0 % 2 ^ 32 + i.guestRec1 % 2 ^ 32 * 2 ^ 32

/-- The identity objects D:1000.01 to .08, one after another in the widths of their types. -/
def Ident.octets (i : Ident) : List Byte :=
  orderingCode i ++ leBytes 1 i.guests ++ leBytes 1 (if i.laserE then 1 else 0) ++ i.serial ++ leBytes 8 i.guestRecords
    ++ leBytes 2 i.hwRev ++ leBytes 2 0x0100 ++ leBytes 2 3840

/-- The natural that octets spell, least significant first. -/
def leNat (l : List Byte) : Nat :=
  match l with
  | [] => 0
  | b :: rest => b.toNat + 256 * leNat rest

/-- `len` octets of `l` from offset `off`, as a natural. -/
def leAt (l : List Byte) (off len : Nat) : Nat := leNat ((l.drop off).take len)

/-- Bit `i` of a natural. -/
def bit (v i : Nat) : Bool := v.testBit i

/-- Field [hi:lo] of a natural. -/
def field (v hi lo : Nat) : Nat := (v >>> lo) % 2 ^ (hi + 1 - lo)

/-- Two's complement encoding in `bits` bits. -/
def twos (bits : Nat) (v : Int) : Nat := (v % (2 ^ bits : Nat)).toNat

/-- The integer that `bits` bits in two's complement spell. -/
def untwos (bits v : Nat) : Int := if 2 * (v % 2 ^ bits) < 2 ^ bits then (v % 2 ^ bits : Nat) else (v % 2 ^ bits : Nat) - (2 ^ bits : Nat)

end Sys2Proof.Machine
end

