-- ==== Sys2Proof/Machine/Flags.lean ====
section
/-!
DEFINITION. Arithmetic: exact values, the floating-point formats of Table NF-2, rounding (R123, R124), overflow (R125),
conversion (R126) and the flags of the status byte (Table NF-6).
-/
namespace Sys2Proof.Machine

open Sys2Proof

/-! ## Flags (Table NF-6) -/

def flInvalid : BitVec 8 := 0x01
def flNanin : BitVec 8 := 0x02
def flOver : BitVec 8 := 0x04
def flSat : BitVec 8 := 0x08
def flUnder : BitVec 8 := 0x10
def flIntsat : BitVec 8 := 0x20

def flagIf (c : Bool) (f : BitVec 8) : BitVec 8 := if c then f else 0

/-! ## Exact values -/

/-- A value: NaN, an infinity, or (−1)^neg × m × 2^e; a zero keeps its sign (R111). -/
inductive FV where
  | nan
  | inf (neg : Bool)
  | fin (neg : Bool) (m : Nat) (e : Int)
  deriving DecidableEq, Repr

def FV.isNan : FV → Bool
  | .nan => true
  | .inf _ => false
  | .fin _ _ _ => false

def FV.isInf : FV → Bool
  | .nan => false
  | .inf _ => true
  | .fin _ _ _ => false

def FV.isZero : FV → Bool
  | .nan => false
  | .inf _ => false
  | .fin _ m _ => m == 0

def FV.isNeg : FV → Bool
  | .nan => false
  | .inf n => n
  | .fin n _ _ => n

def FV.neg : FV → FV
  | .nan => .nan
  | .inf n => .inf (!n)
  | .fin n m e => .fin (!n) m e

def FV.ofInt (i : Int) : FV := .fin (decide (i < 0)) i.natAbs 0

/-- The value scaled by 2^k. -/
def FV.scale (v : FV) (k : Int) : FV :=
  match v with
  | .nan => .nan
  | .inf n => .inf n
  | .fin n m e => .fin n m (e + k)

/-- Signed magnitude of a finite value in units of 2^q, where q is at most its exponent. -/
def signedAt (neg : Bool) (m : Nat) (e q : Int) : Int :=
  let v : Int := (m * 2 ^ (e - q).toNat : Nat)
  if neg then -v else v

/-- Exact sum of two finite values; `rd`: rounding toward negative infinity, where an exact zero sum of opposite signs is −0
(R111). -/
def addFin (rd : Bool) (n1 : Bool) (m1 : Nat) (e1 : Int) (n2 : Bool) (m2 : Nat) (e2 : Int) : FV :=
  let q := min e1 e2
  let s := signedAt n1 m1 e1 q + signedAt n2 m2 e2 q
  if s = 0 then .fin (if n1 = n2 then n1 else rd) 0 0 else .fin (decide (s < 0)) s.natAbs q

/-- Exact sum and the flags of its operands (R110, R120). -/
def FV.add (rd : Bool) (a b : FV) : FV × BitVec 8 :=
  match a, b with
  | .nan, _ => (.nan, flNanin)
  | .inf _, .nan => (.nan, flNanin)
  | .fin _ _ _, .nan => (.nan, flNanin)
  | .inf x, .inf y => if x = y then (.inf x, 0) else (.nan, flInvalid)
  | .inf x, .fin _ _ _ => (.inf x, 0)
  | .fin _ _ _, .inf y => (.inf y, 0)
  | .fin n1 m1 e1, .fin n2 m2 e2 => (addFin rd n1 m1 e1 n2 m2 e2, 0)

/-- Exact product and flags. -/
def FV.mul (a b : FV) : FV × BitVec 8 :=
  match a, b with
  | .nan, _ => (.nan, flNanin)
  | .inf _, .nan => (.nan, flNanin)
  | .fin _ _ _, .nan => (.nan, flNanin)
  | .inf x, .inf y => (.inf (x != y), 0)
  | .inf x, .fin n m _ => if m = 0 then (.nan, flInvalid) else (.inf (x != n), 0)
  | .fin n m _, .inf y => if m = 0 then (.nan, flInvalid) else (.inf (n != y), 0)
  | .fin n1 m1 e1, .fin n2 m2 e2 => (.fin (n1 != n2) (m1 * m2) (e1 + e2), 0)

/-- Order of two values that are not NaN: −1, 0 or 1; −0 equals +0. -/
def FV.cmp (a b : FV) : Int :=
  match a, b with
  | .nan, _ => 0
  | .inf _, .nan => 0
  | .fin _ _ _, .nan => 0
  | .inf x, .inf y => if x = y then 0 else if x then -1 else 1
  | .inf x, .fin _ _ _ => if x then -1 else 1
  | .fin _ _ _, .inf y => if y then 1 else -1
  | .fin n1 m1 e1, .fin n2 m2 e2 =>
    let q := min e1 e2
    let d := signedAt n1 m1 e1 q - signedAt n2 m2 e2 q
    if d < 0 then -1 else if d = 0 then 0 else 1

/-- maximumNumber or minimumNumber (R111): a NaN yields the other operand, −0 ranks below +0. -/
def FV.pick (wantMax : Bool) (a b : FV) : FV :=
  match a, b with
  | .nan, y => y
  | .inf x, .nan => .inf x
  | .fin n m e, .nan => .fin n m e
  | .inf x, .inf y => if wantMax = x then .inf y else .inf x
  | .inf x, .fin n m e => if wantMax = x then .fin n m e else .inf x
  | .fin n m e, .inf y => if wantMax = y then .fin n m e else .inf y
  | .fin n1 m1 e1, .fin n2 m2 e2 =>
    let c := (FV.fin n1 m1 e1).cmp (.fin n2 m2 e2)
    let aLess := decide (c < 0) || (decide (c = 0) && n1 && !n2)
    if wantMax = aLess then .fin n2 m2 e2 else .fin n1 m1 e1

/-! ## Formats (Tables NF-1, NF-2) -/

/-- A floating-point layout. `maxField`, `maxMant`: exponent field and mantissa of the largest finite value. -/
structure FFmt where
  bits     : Nat
  ebits    : Nat
  mbits    : Nat
  bias     : Nat
  maxField : Nat
  maxMant  : Nat
  hasInf   : Bool
  hasNan   : Bool
  canon    : Nat
  deriving DecidableEq, Repr

def fp32 : FFmt := { bits := 32, ebits := 8, mbits := 23, bias := 127, maxField := 254, maxMant := 2 ^ 23 - 1, hasInf := true, hasNan := true, canon := 0x7FC00000 }
def fp16 : FFmt := { bits := 16, ebits := 5, mbits := 10, bias := 15, maxField := 30, maxMant := 1023, hasInf := true, hasNan := true, canon := 0x7E00 }
def bf16 : FFmt := { bits := 16, ebits := 8, mbits := 7, bias := 127, maxField := 254, maxMant := 127, hasInf := true, hasNan := true, canon := 0x7FC0 }
def e4m3 : FFmt := { bits := 8, ebits := 4, mbits := 3, bias := 7, maxField := 15, maxMant := 6, hasInf := false, hasNan := true, canon := 0x7F }
def e5m2 : FFmt := { bits := 8, ebits := 5, mbits := 2, bias := 15, maxField := 30, maxMant := 3, hasInf := true, hasNan := true, canon := 0x7E }
def e3m2 : FFmt := { bits := 6, ebits := 3, mbits := 2, bias := 3, maxField := 7, maxMant := 3, hasInf := false, hasNan := false, canon := 0 }
def e2m3 : FFmt := { bits := 6, ebits := 2, mbits := 3, bias := 1, maxField := 3, maxMant := 7, hasInf := false, hasNan := false, canon := 0 }
def e2m1 : FFmt := { bits := 4, ebits := 2, mbits := 1, bias := 1, maxField := 3, maxMant := 1, hasInf := false, hasNan := false, canon := 0 }

/-- The value of an encoding (R108). -/
def FFmt.decode (f : FFmt) (w : Nat) : FV :=
  let neg := bit w (f.bits - 1)
  let ef := field w (f.bits - 2) f.mbits
  let mf := w % 2 ^ f.mbits
  if f.maxField < ef then if mf = 0 ∧ f.hasInf then .inf neg else .nan
  else if ef = f.maxField ∧ f.maxMant < mf then .nan
  else if ef = 0 then .fin neg mf (1 - (f.bias : Int) - f.mbits)
  else .fin neg (2 ^ f.mbits + mf) ((ef : Int) - f.bias - f.mbits)

/-- Rounding codes of Table NF-4. -/
def rndNearest : Nat := 0
def rndZero : Nat := 1
def rndDown : Nat := 2
def rndUp : Nat := 3
def rndStochastic : Nat := 4

/-- Round the magnitude n + rem / 2^sh to an integer; `r16` is the 16-bit random fraction of R124. -/
def roundMag (code : Nat) (neg : Bool) (r16 n rem sh : Nat) : Nat :=
  if rem = 0 then n
  else
    let up :=
      if code = rndNearest then decide (2 ^ sh < 2 * rem) || (decide (2 * rem = 2 ^ sh) && decide (n % 2 = 1))
      else if code = rndDown then neg
      else if code = rndUp then !neg
      else if code = rndStochastic then decide (2 ^ sh * 65536 ≤ rem * 65536 + r16 * 2 ^ sh)
      else false
    if up then n + 1 else n

/-- Magnitude m × 2^e in units of 2^q, rounded. -/
def roundAt (code : Nat) (neg : Bool) (r16 m : Nat) (e q : Int) : Nat :=
  if q ≤ e then m * 2 ^ (e - q).toNat
  else
    let sh := (q - e).toNat
    roundMag code neg r16 (m >>> sh) (m % 2 ^ sh) sh

/-- Encode a magnitude n × 2^q that is exact in the format's range of precision: exponent field and mantissa. -/
def FFmt.fields (f : FFmt) (n : Nat) (q : Int) : Nat × Nat :=
  if n < 2 ^ f.mbits then (0, n)
  else if n < 2 ^ (f.mbits + 1) then ((q + f.mbits + f.bias).toNat, n - 2 ^ f.mbits)
  else ((q + 1 + f.mbits + f.bias).toNat, 0)

def FFmt.signed (f : FFmt) (neg : Bool) (mag : Nat) : Nat := if neg then 2 ^ (f.bits - 1) + mag else mag

def FFmt.maxMag (f : FFmt) : Nat := f.maxField * 2 ^ f.mbits + f.maxMant
def FFmt.infMag (f : FFmt) : Nat := (2 ^ f.ebits - 1) * 2 ^ f.mbits

/-- Overflow on conversion (Table NF-5). -/
def FFmt.overflow (f : FFmt) (code : Nat) (sat neg : Bool) : Nat × BitVec 8 :=
  if sat || !f.hasNan then (f.signed neg f.maxMag, flSat)
  else if !f.hasInf then (f.canon, flOver)
  else if code = rndZero || (code = rndDown && !neg) || (code = rndUp && neg) then (f.signed neg f.maxMag, flOver)
  else (f.signed neg f.infMag, flOver)

/-- Convert a value to a floating-point format (R110, R115, R123 to R126). A NaN that is stored raises no flag of its own: NANIN is
raised where an operand is read, INVALID where the NaN was made (R127). DESIGN CHOICE (log 22), since Table NF-6 lets both bits be read so:
a NaN that E4M3 stores for an overflow or an infinity sets OVER and not INVALID as well. -/
def FFmt.encode (f : FFmt) (code : Nat) (sat : Bool) (r16 : Nat) (v : FV) : Nat × BitVec 8 :=
  match v with
  | .nan => (f.canon, 0)
  | .inf neg =>
    if f.hasInf then (f.signed neg f.infMag, 0)
    else if f.hasNan then (f.canon, flOver)
    else (f.signed neg f.maxMag, flSat)
  | .fin neg m e =>
    if m = 0 then (f.signed neg 0, 0)
    else
      let q := max ((Nat.log2 m : Int) + e) (1 - (f.bias : Int)) - f.mbits
      let n := roundAt code neg r16 m e q
      let p := f.fields n q
      if f.maxField < p.1 ∨ (p.1 = f.maxField ∧ f.maxMant < p.2) then f.overflow code sat neg
      else (f.signed neg (p.1 * 2 ^ f.mbits + p.2), flagIf (n == 0) flUnder)

/-- Round a value to an integer and clamp it to `lo` .. `hi` (R126): an unsigned format takes every negative value to 0 and
saturates, and a value that was not zero underflows where it becomes zero. -/
def toInteger (code : Nat) (r16 : Nat) (lo hi : Int) (v : FV) : Int × BitVec 8 :=
  match v with
  | .nan => (0, flInvalid)
  | .inf neg => (if neg then lo else hi, flSat ||| flagIf (neg && lo == 0) flUnder)
  | .fin neg m e =>
    let n := roundAt code neg r16 m e 0
    let i : Int := if neg then -(n : Int) else n
    let r := max lo (min hi i)
    (r, flagIf (decide (r ≠ i) || (neg && m != 0 && lo == 0)) flSat ||| flagIf (m != 0 && r == 0) flUnder)

/-! ## Binary32 operations (R129, R182) -/

def fvOf (w : Word) : FV := fp32.decode w.toNat

/-- Round an exact result to binary32 with no saturation; OVER is the only flag the rounding can raise here. -/
def round32 (code : Nat) (v : FV × BitVec 8) : Word × BitVec 8 :=
  let r := fp32.encode code false 0 v.1
  (BitVec.ofNat 32 r.1, v.2 ||| (r.2 &&& flOver))

def f32Add (code : Nat) (a b : Word) : Word × BitVec 8 := round32 code ((fvOf a).add (decide (code = rndDown)) (fvOf b))
def f32Sub (code : Nat) (a b : Word) : Word × BitVec 8 := round32 code ((fvOf a).add (decide (code = rndDown)) (fvOf b).neg)
def f32Mul (code : Nat) (a b : Word) : Word × BitVec 8 := round32 code ((fvOf a).mul (fvOf b))

/-- a × b + c with one rounding; an infinity times zero is invalid whatever c holds that is not NaN. -/
def f32Fma (code : Nat) (a b c : Word) : Word × BitVec 8 :=
  let p := (fvOf a).mul (fvOf b)
  let q := p.1.add (decide (code = rndDown)) (fvOf c)
  let nanin := (fvOf a).isNan || (fvOf b).isNan || (fvOf c).isNan
  round32 code (q.1, if nanin then flNanin else p.2 ||| (q.2 &&& flInvalid))

/-- Binary32 word of an exact value, to nearest even. -/
def toF32 (v : FV) : Word := BitVec.ofNat 32 (fp32.encode rndNearest false 0 v).1

/-- minimumNumber and maximumNumber on binary32 (R111). -/
def f32Pick (wantMax : Bool) (a b : Word) : Word × BitVec 8 :=
  (toF32 ((fvOf a).pick wantMax (fvOf b)), flagIf ((fvOf a).isNan || (fvOf b).isNan) flNanin)

/-- Round to an integral binary32 value (FRND); a zero result keeps the sign of a. -/
def f32Round (code : Nat) (a : Word) : Word × BitVec 8 :=
  match fvOf a with
  | .nan => (toF32 .nan, flNanin)
  | .inf n => (toF32 (.inf n), 0)
  | .fin neg m e => (toF32 (.fin neg (roundAt code neg 0 m e 0) 0), 0)

/-! ## Elements by format code (Table NF-1) -/

/-- The floating-point layout of a format code; MX codes give that of their elements. -/
def floatFmt (code : Nat) : Option FFmt :=
  if code = 1 then some fp32 else if code = 2 then some fp16 else if code = 3 then some bf16
  else if code = 4 ∨ code = 6 then some e4m3 else if code = 5 ∨ code = 7 then some e5m2
  else if code = 8 then some e3m2 else if code = 9 then some e2m3 else if code = 0x0A then some e2m1 else none

/-- Range of an integer format. -/
def intRange (code : Nat) : Option (Int × Int) :=
  if code = 0x0B then some (-128, 127) else if code = 0x0C then some (-8, 7)
  else if code = 0x0D then some (-2147483648, 2147483647) else if code = 0x0E then some (-32768, 32767)
  else if code = 0x0F then some (0, 65535) else if code = 0x10 then some (0, 255) else none

def isMx (code : Nat) : Bool := decide (6 ≤ code ∧ code ≤ 0x0A)

/-- Bits of one element (Table NF-1). -/
def elemBits (code : Nat) : Nat :=
  if code = 1 ∨ code = 0x0D then 32
  else if code = 2 ∨ code = 3 ∨ code = 0x0E ∨ code = 0x0F then 16
  else if code = 8 ∨ code = 9 then 6
  else if code = 0x0A ∨ code = 0x0C then 4
  else 8

/-- Value of an element encoding; an MX element before its block scale. E8M0 is 2^(field − 127), 0xFF is NaN (R108). -/
def decodeElem (code w : Nat) : FV :=
  match floatFmt code with
  | some f => f.decode w
  | none =>
    match intRange code with
    | some r => if r.1 < 0 then .ofInt (untwos (elemBits code) w) else .ofInt w
    | none => if w = 0xFF then .nan else .fin false 1 ((w : Int) - 127)

/-- Encode a value as an element (R125, R126). An infinity stays infinite where the format has one. DESIGN CHOICE (log 22), since
Table NF-5 has no row for E8M0: an infinity becomes NaN (0xFF) with OVER, an overflow the largest finite value (0xFE) with SAT
whatever the saturation bit, a value below 2^−127 becomes 0x00 with UNDER, and a value that is not positive a free value. -/
def encodeElem (code rnd : Nat) (sat : Bool) (r16 : Nat) (v : FV) : Nat × BitVec 8 :=
  match floatFmt code with
  | some f => f.encode rnd sat r16 v
  | none =>
    match intRange code with
    | some r =>
      let i := toInteger rnd r16 r.1 r.2 v
      (twos (elemBits code) i.1, i.2)
    | none =>
      match v with
      | .nan => (0xFF, 0)
      | .inf _ => (0xFF, flOver)
      | .fin neg m e =>
        if neg || m == 0 then ((Config.realElem 1 [m]).toNat % 256, 0)
        else
          let x := (Nat.log2 m : Int) + e
          let n := roundAt rnd false r16 m e x
          let y := (if n = 2 then x + 1 else x) + 127
          if y < 0 then (0, flUnder) else if 254 < y then (0xFE, flSat) else (y.toNat, 0)

/-- E8M0 scale of an MX block (R115): the largest magnitude decides; `emax` by element format. -/
def mxEmax (code : Nat) : Int :=
  if code = 6 then 8 else if code = 7 then 15 else if code = 8 then 4 else 2

/-- Exponent floor(log2 |v|) of the largest magnitude in a block, none where every value is zero. -/
def blockExp (vs : List FV) : Option Int :=
  vs.foldl (fun acc v =>
    match v with
    | .nan => acc
    | .inf _ => acc
    | .fin _ m e =>
      if m = 0 then acc
      else match acc with
        | none => some ((Nat.log2 m : Int) + e)
        | some x => some (max x ((Nat.log2 m : Int) + e))) none

/-- Write a block of values in an MX format (R115): scale, elements, flags. A block that reads as NaN although none of its values was
one is a NaN made from operands that held none (R127). -/
def mxBlock (code rnd : Nat) (r16 : Nat → Nat) (vs : List FV) : Nat × List Nat × BitVec 8 :=
  if vs.any (fun v => v.isNan || v.isInf) then
    (0xFF, vs.map (fun _ => 0), flagIf (!vs.any FV.isNan) flInvalid)
  else
    match blockExp vs with
    | none => (0, vs.map (fun v => (encodeElem code rnd true 0 v).1), 0)
    | some a =>
      let x := max (-127) (min 127 (a - mxEmax code))
      let es := vs.zipIdx.map (fun p => encodeElem code rnd true (r16 p.2) (p.1.scale (-x)))
      ((x + 127).toNat, es.map (·.1), es.foldl (fun f p => f ||| p.2) 0)

end Sys2Proof.Machine
end

