-- ==== Sys2Proof/Machine/Ops.lean ====
section
/-!
DEFINITION. Operations shared by the meanings: access to the parts of the state, the tally, the event log and vectors,
dictionary accesses, and memory as one canonical list of bytes.
-/
namespace Sys2Proof.Machine

open Sys2Proof

/-! ## Parts of the state -/

def State.mapTime (s : State) (f : TimeSt → TimeSt) : State := { s with time := f s.time }
def State.mapTowers (s : State) (f : List Tower → List Tower) : State := { s with towers := f s.towers }
def State.mapBase (s : State) (f : BaseSt → BaseSt) : State := { s with base := f s.base }
def State.mapMem (s : State) (f : MemSt → MemSt) : State := { s with mem := f s.mem }
def State.mapGroups (s : State) (f : List Group → List Group) : State := { s with groups := f s.groups }
def State.mapPkgs (s : State) (f : List Pkg → List Pkg) : State := { s with pkgs := f s.pkgs }
def State.mapLoad (s : State) (f : LoadSt → LoadSt) : State := { s with load := f s.load }
def State.mapPorts (s : State) (f : List Port → List Port) : State := { s with ports := f s.ports }
def State.mapLedger (s : State) (f : LedgerSt → LedgerSt) : State := { s with ledger := f s.ledger }
def State.mapVault (s : State) (f : VaultSt → VaultSt) : State := { s with vault := f s.vault }
def State.mapPair (s : State) (f : PairSt → PairSt) : State := { s with pair := f s.pair }
def State.mapPower (s : State) (f : PowerSt → PowerSt) : State := { s with power := f s.power }
def State.mapLog (s : State) (f : LogSt → LogSt) : State := { s with log := f s.log }
def State.mapBoot (s : State) (f : BootSt → BootSt) : State := { s with boot := f s.boot }
def State.mapTap (s : State) (f : TapSt → TapSt) : State := { s with tap := f s.tap }
def State.mapDict (s : State) (f : DictSt → DictSt) : State := { s with dict := f s.dict }
def State.mapEngines (s : State) (f : KV LaneSt → KV LaneSt) : State := { s with engines := f s.engines }
def State.sendPacket (s : State) (p : Packet) : State := { s with net := s.net ++ [p] }
def State.mapLines (s : State) (f : KV Line → KV Line) : State := { s with lines := f s.lines }

/-- Apply `f` to tower `t` (t of R105), if there is one. -/
def State.mapTower (s : State) (t : Nat) (f : Tower → Tower) : State := s.mapTowers (fun l => modAt l t f)

/-- Apply `f` to port `x` (X0 to X3; 4 is PX). -/
def State.mapPort (s : State) (x : Nat) (f : Port → Port) : State := s.mapPorts (fun l => modAt l x f)

/-- Tower `t`; where there is no tower `t`, one that is OFF and holds nothing. -/
def State.tower (s : State) (t : Nat) : Tower := s.towers.getD t (Tower.fresh false)

/-- Port `x`; where there is no such port, one that is down. -/
def State.port (s : State) (x : Nat) : Port := s.ports.getD x Port.fresh

/-! ## The control channel of a die (Tables NS-1, NS-3) -/

/-- Stops of the control channel. -/
inductive CtlStop where
  | region (r : Nat)
  | scheduler
  | gate
  | store
  | site
  | management
  deriving DecidableEq, Repr

/-- Number of a stop, in the order of Table NS-1 (DEDUCED, log 27): a Decane die has no sync-object store. -/
def CtlStop.no (isCache : Bool) : CtlStop → Nat
  | .region r => if isCache then r % 4 else r % 16
  | .scheduler => if isCache then 4 else 16
  | .gate => if isCache then 5 else 17
  | .store => if isCache then 5 else 18
  | .site => if isCache then 6 else 19
  | .management => if isCache then 7 else 20

/-- A control packet of Table NS-3, of two flits where it has an argument word. -/
def mkCtl (isCache : Bool) (type : Nat) (dst src : CtlStop) (tag : Nat) (arg : Option (BitVec 64)) : CtlPacket :=
  { hdr := BitVec.ofNat 64 (type % 16 + (if arg.isSome then 16 else 0) + dst.no isCache % 32 * 2 ^ 5 + src.no isCache % 32 * 2 ^ 10
      + tag % 65536 * 2 ^ 16)
    arg := arg.getD 0 }

/-- A control packet goes from stop to stop of tower `t`. -/
def State.ctlTo (s : State) (t type : Nat) (dst src : CtlStop) (tag : Nat := 0) (arg : Option (BitVec 64) := none) : State :=
  { s with ctl := s.ctl ++ [(t, mkCtl (s.tower t).isCache type dst src tag arg)] }

/-- Draw a free value (assumption log 1). -/
def State.drawFree (s : State) : BitVec 32 × State := (Config.freeValue s.freeCtr, { s with freeCtr := s.freeCtr + 1 })

/-- D:7202.02 of a tenant (R447). -/
def VaultSt.tenantFenced (v : VaultSt) (tenant : Nat) : Bool := v.fenceAll != v.fenceExcept.contains tenant

/-! ## The tally (R45 to R49) -/

/-- The tally tick at which a command is sampled: the tally never decreases (R48), and it stands still before its start. -/
def State.advance (s : State) (at_ : Nat) : State :=
  if s.time.started then
    s.mapTime (fun t => { t with tally := max t.tally at_, hold := if t.tally < at_ then 0 else t.hold })
  else s

/-- The tally as a tick (D:1200.01). -/
def State.now (s : State) : Nat := s.time.tally

/-- A command that satisfies `p` waits behind this one: for arrivals of the present tick, whose effect on a timeout does not depend on
the order in which the two stand in the queue (R61, R62). -/
def State.sampled (s : State) (p : Instr → Bool) : Bool := s.pending.any p

/-- The alarm policy, the firewall rules and the tenant fences that govern this tick: those before a ticket that applied in it (R434, R436). -/
def State.rw2Now (s : State) : Rw2Was :=
  match s.vault.rw2Was.filter (fun w => w.tick == s.now) with
  | some w => w
  | none => { tick := s.now, policy := s.vault.policy, rules0 := s.vault.rules0, rules1 := s.vault.rules1
              fenceAll := s.vault.fenceAll, fenceExcept := s.vault.fenceExcept }

/-- A tenant is fenced for an admission of this tick (R434, R447). -/
def State.fencedNow (s : State) (tenant : Nat) : Bool := s.rw2Now.fenceAll != s.rw2Now.fenceExcept.contains tenant

/-- The replica of the tally that die `d` reads (R46): all replicas lie within 1 tk of each other; by how much is free. -/
def State.replica (s : State) (d : Nat) : Nat :=
  if Config.replicaAhead then s.now + (Config.replicaSkew d s.now).toNat else s.now - (Config.replicaSkew d s.now).toNat

/-- The slot that has closed on die `d` (R46, R70): the one whose end its replica has reached within the tick by which replicas differ.
DESIGN CHOICE (log 60): a close is sampled at the hub's tick of it, which the die's own replica may show one tick earlier or later. -/
def State.slotClosed (s : State) (d : Nat) : Nat := (s.replica d + 1) / 1024 - 1

/-- The module takes no commands from outside: shut down under R484 or its hub failed (R489). -/
def State.dead (s : State) : Bool := s.power.shutdown || s.power.hubFailed

/-! ## Event vectors (R564 to R566) -/

/-- A raise of vector `v` at tick `t` (R565); `pcieUp`: the PCIe link is up. -/
def LogSt.raise (l : LogSt) (v t : Nat) (pcieUp : Bool) : LogSt :=
  let wasP := l.vecP.getLsbD v
  let wasI := l.vecI.getLsbD v
  let sendP := !wasP && pcieUp && l.msixOn
  { l with
    vecP := l.vecP ||| (1#32 <<< v)
    vecI := l.vecI ||| (1#32 <<< v)
    raisedAt := kvSet l.raisedAt v t
    setAtP := if wasP then l.setAtP else kvSet l.setAtP v t
    setAtI := if wasI then l.setAtI else kvSet l.setAtI v t
    msix := if sendP && !l.msixMask.getLsbD v then l.msix ++ [v] else l.msix
    msixPending := if sendP && l.msixMask.getLsbD v then l.msixPending ||| (1#32 <<< v) else l.msixPending
    ibis := if !wasI && l.ibiEnable.getLsbD v && l.i3cEvents.getLsbD 0 then l.ibis ++ [v] else l.ibis }

def State.raiseVector (s : State) (v : Nat) : State := s.mapLog (fun l => l.raise v s.now s.dict.pcieUp)

/-- Raise the vector of class `c` for severity `sev` under the masks of R517. -/
def LogSt.raiseClass (l : LogSt) (c sev t : Nat) (pcieUp : Bool) : LogSt :=
  if l.mask.getLsbD c && decide (l.minSev ≤ sev) then l.raise c t pcieUp else l

/-- A named event with no code sets its class's vector as a record of SEV 0x2 would (R566). -/
def State.raiseEvent (s : State) (c : Nat) : State := s.mapLog (fun l => l.raiseClass c 2 s.now s.dict.pcieUp)

/-! ## The event and fault log (R515 to R517, R592) -/

/-- Units of Table FD-2 other than towers. -/
def unitHub : Nat := 0x14
def unitBase : Nat := 0x17
def unitPair : Nat := 0x18
def unitModule : Nat := 0xFF

/-- Severities of R516. -/
def sevLogged : Nat := 1
def sevCapacity : Nat := 2
def sevWork : Nat := 3
def sevModule : Nat := 4

/-- Records of one tick are ordered by CLASS and then by UNIT, those of sparing events of one tower by region (R88); the newest
record stands first. -/
def EvRec.newer (a b : EvRec) : Bool :=
  decide (a.tick ≠ b.tick) || decide (b.code / 256 < a.code / 256) ||
    (decide (a.code / 256 = b.code / 256) && (decide (b.unit < a.unit) || (decide (b.unit = a.unit) &&
      (decide (a.code / 256 ≠ 2) || decide (b.loc ≤ a.loc)))))

def LogSt.record (l : LogSt) (r : EvRec) : LogSt :=
  let c := r.code / 256
  { l with
    recs := (insertBy EvRec.newer r l.recs).take 4096
    count := l.count + 1
    lost := if l.recs.length < 4096 then l.lost else l.lost + 1
    byClass := modAt l.byClass (c - 1) (· + 1) }

/-- Write one record and raise its class's vector (R515, R517). -/
def State.logEv (s : State) (code sev unit : Nat) (loc arg0 arg1 : Nat := 0) : State :=
  s.mapLog (fun l =>
    (l.record { tick := s.now, sev, code, unit, loc, arg0, arg1 }).raiseClass (code / 256) sev s.now s.dict.pcieUp)

/-- ARG1 of a record that concerns one request (R592). -/
def arg1Of (tenant reason completion : Nat) : Nat := tenant % 65536 * 65536 + reason % 256 * 256 + completion % 256

/-! ## Dictionary accesses (R544, R545, R549, R553, R557, R563) -/

def stateAbort (index reason : Nat) : Nat := 0x05000000 + index * 256 + reason

/-- The index of block `b` of tower `t` (R105). -/
def towerIndex (t b : Nat) : Nat := 0x3000 + 0x40 * t + b

def DictSt.transport (d : DictSt) (i3c : Bool) : Transport := if i3c then d.i3c else d.pcie

def DictSt.mapTransport (d : DictSt) (i3c : Bool) (f : Transport → Transport) : DictSt :=
  if i3c then { d with i3c := f d.i3c } else { d with pcie := f d.pcie }

/-- One abort record into the ring of 64 (R563), newest first. -/
def DictSt.abortRecord (d : DictSt) (r : AbortRec) : DictSt :=
  { d with aborts := (r :: d.aborts).take 64, abortCount := d.abortCount + 1 }

/-- Abandon an open segmented write (R557). -/
def DictSt.abandon (d : DictSt) (i3c : Bool) (t : Nat) : DictSt :=
  match (d.transport i3c).seg with
  | none => d
  | some w =>
    let d := d.abortRecord { tick := t, index := w.index, sub := w.sub, i3c, code := 0x01000004, arg := 0 }
    { d.mapTransport i3c (fun x => { x with seg := none }) with abandoned := d.abandoned + 1 }

/-- An access to object `index`.`sub` begins: a segmented write of another object is abandoned (R557) and a copy of another
object ends (R556). -/
def DictSt.begin_ (d : DictSt) (i3c : Bool) (t index sub : Nat) : DictSt :=
  let d := match (d.transport i3c).seg with
    | some w => if w.index = index ∧ w.sub = sub then d else d.abandon i3c t
    | none => d
  d.mapTransport i3c (fun x =>
    { x with copy := match x.copy with
        | some c => if c.1 = index ∧ c.2.1 = sub then some c else none
        | none => none })

/-- An access ends, done (code 0) or aborted (R549, R561, R563; D:1100.01 and D:1100.02). -/
def DictSt.end_ (d : DictSt) (i3c : Bool) (t index sub code arg : Nat) : DictSt :=
  let d := if code = 0 then d
    else { d.abortRecord { tick := t, index, sub, i3c, code, arg } with aborted := d.aborted + 1 }
  { d.mapTransport i3c (fun x =>
      { x with addr := index * 65536 + sub * 256, state := if code = 0 then 2 else 3, abort := code,
               count := (x.count + 1) % 65536, served := t }) with served := d.served + 1 }

def State.endAccess (s : State) (i3c : Bool) (index sub code : Nat) (arg : Nat := 0) : State :=
  s.mapDict (fun d => d.end_ i3c s.now index sub code arg)

/-- Checks that come before the object is looked at: the management cores restart, or recovery (R553). -/
def State.gate (s : State) (index : Nat) : Nat :=
  if s.now < s.boot.busyUntil then 0x01000007
  else if s.boot.recovery && !(index == 0x1000 || decide (0x1020 ≤ index ∧ index ≤ 0x1022)) then 0x01000009
  else 0

/-- Access to object `index`.`sub` over PCIe by procedure `proc`, which answers an abort code and the state: the one shape of
every row that is a write of an object. While the PCIe link is down or the module is dead no access reaches it (R578, R484). -/
def State.pcieWrite (s : State) (index sub : Nat) (proc : State → Nat × State) : State :=
  if s.dead || !s.dict.pcieUp then s
  else
    let s := s.mapDict (fun d => d.begin_ false s.now index sub)
    if s.gate index = 0 then
      let r := proc s
      r.2.endAccess false index sub r.1
    else s.endAccess false index sub (s.gate index)

/-- A procedure refused with a code changes nothing (R544). -/
def refuse (code : Nat) (s : State) : Nat × State := (code, s)

/-- A procedure that is done. -/
def accept (s : State) : Nat × State := (0, s)

/-- The first check that fails, or 0 (R544). -/
def firstAbort (l : List (Bool × Nat)) : Nat :=
  match l with
  | [] => 0
  | (fails, code) :: rest => if fails then code else firstAbort rest

/-- Checks in order, then the effect (R544). -/
def checked (checks : List (Bool × Nat)) (effect : State → State) (s : State) : Nat × State :=
  if firstAbort checks = 0 then (0, effect s) else (firstAbort checks, s)

end Sys2Proof.Machine
end

