-- ==== Sys2Proof/Machine/Memory.lean ====
section
/-!
DEFINITION. Module memory: bonded SRAM, LPDDR5X backing and the weight-bank stores as one canonical list of bytes
(R289 to R293, R313, R319, R320), and the way from a module address to a byte.
-/
namespace Sys2Proof.Machine

open Sys2Proof

/-! ## One byte -/

/-- The byte at key `a`: an unlisted byte reads zero (R319). -/
def cellGet (m : List Host.Cell) (a : Nat) : Byte :=
  match m with
  | [] => 0
  | (a', b) :: rest => if a' = a then b else cellGet rest a

/-- Put a non-zero byte at key `a` of a rising list. -/
def cellPut (m : List Host.Cell) (a : Nat) (b : Byte) : List Host.Cell :=
  match m with
  | [] => [(a, b)]
  | (a', b') :: rest =>
    if a < a' then (a, b) :: (a', b') :: rest
    else if a = a' then (a, b) :: rest
    else (a', b') :: cellPut rest a b

/-- Remove key `a`. -/
def cellDel (m : List Host.Cell) (a : Nat) : List Host.Cell := m.filter (fun c => c.1 != a)

/-- Write one byte, keeping the canonical form: a zero is not listed. -/
def cellSet (m : List Host.Cell) (a : Nat) (b : Byte) : List Host.Cell :=
  if b = 0 then cellDel m a else cellPut m a b

/-- The canonical form: keys strictly rising, and no byte listed that reads as an unlisted one does. -/
abbrev Memory.wf (m : List Host.Cell) : Prop :=
  m.Pairwise (fun a b => a.1 < b.1) ∧ ∀ c ∈ m, c.2 ≠ 0

/-- Read `n` bytes from key `a`. -/
def cellRead (m : List Host.Cell) (a n : Nat) : List Byte := (List.range n).map (fun i => cellGet m (a + i))

/-- Write bytes from key `a` up. -/
def cellWrite (m : List Host.Cell) (a : Nat) (bs : List Byte) : List Host.Cell :=
  match bs with
  | [] => m
  | b :: rest => cellWrite (cellSet m a b) (a + 1) rest

/-- Clear the valid bits of the bytes from `lo` below `hi`: they read zero (R319). -/
def cellClear (m : List Host.Cell) (lo hi : Nat) : List Host.Cell :=
  m.filter (fun c => decide (c.1 < lo) || decide (hi ≤ c.1))

/-! ## Keys -/

/-- Key of byte `b` of page `p` of tower `t`. -/
def sramKey (t p b : Nat) : Nat := t * 2 ^ 40 + p * 65536 + b

/-- Key of backing offset `o` of cache tower K`k`. -/
def backingKey (k o : Nat) : Nat := (32 + k) * 2 ^ 40 + o

/-- Key of offset `o` of the weight-bank store under tower `t` (R262). -/
def storeKey (t o : Nat) : Nat := (64 + t) * 2 ^ 40 + o

/-- The word or codeword that a byte belongs to, by its poison key (Table EC-1): 32 bytes of bonded SRAM; codeword i mod 8
of a group of 1,024 bytes of LPDDR5X. -/
def poisonKey (key : Nat) : Nat :=
  if 32 ≤ key / 2 ^ 40 ∧ key / 2 ^ 40 < 64 then key / 1024 * 1024 + key % 8 else key / 32 * 32

/-- Poison after a write of `n` bytes from `key`: cleared where a whole word, or a whole group of LPDDR5X, is written
(R320). -/
def clearPoison (poison : List Nat) (key n : Nat) : List Nat :=
  poison.filter (fun p =>
    if 32 ≤ key / 2 ^ 40 ∧ key / 2 ^ 40 < 64 then
      !(decide (key ≤ p / 1024 * 1024) && decide (p / 1024 * 1024 + 1024 ≤ key + n))
    else !(decide (key ≤ p) && decide (p + 32 ≤ key + n)))

/-- Bytes that one valid bit covers: a word of bonded SRAM, a 4 KiB page of LPDDR5X backing (R319). -/
def validUnit (key : Nat) : Nat := if 32 ≤ key / 2 ^ 40 ∧ key / 2 ^ 40 < 64 then 4096 else 32

/-- Valid bits after a write of `n` bytes from `key`: the first write sets them. -/
def markValid (valid : List Nat) (key n : Nat) : List Nat :=
  let u := validUnit key
  if n = 0 then valid
  else (List.range ((key + n - 1) / u + 1 - key / u)).foldl (fun v i => insertNat v ((key / u + i) * u)) valid

/-- The valid bit of the word or page of a key. -/
def MemSt.isValid (m : MemSt) (key : Nat) : Bool := m.valid.contains (key / validUnit key * validUnit key)

/-- Write bytes to memory. -/
def MemSt.write (m : MemSt) (key : Nat) (bs : List Byte) : MemSt :=
  { m with cells := cellWrite m.cells key bs, valid := markValid m.valid key bs.length, poison := clearPoison m.poison key bs.length }

/-- Read bytes of memory. -/
def MemSt.read (m : MemSt) (key n : Nat) : List Byte := cellRead m.cells key n

/-- Whether a read of `n` bytes from `key` meets poison. -/
def MemSt.poisoned (m : MemSt) (key n : Nat) : Bool :=
  m.poison.any (fun p =>
    if 32 ≤ key / 2 ^ 40 ∧ key / 2 ^ 40 < 64 then
      decide (p / 1024 * 1024 < key + n) && decide (key < p / 1024 * 1024 + 1024) &&
        (List.range (min n 1024)).any (fun i => decide (poisonKey (key + i) = p))
    else decide (p < key + n) && decide (key < p + 32))

/-- Clear the valid bits of a range of keys. -/
def MemSt.clear (m : MemSt) (lo hi : Nat) : MemSt :=
  { m with cells := cellClear m.cells lo hi, valid := m.valid.filter (fun p => decide (p < lo) || decide (hi ≤ p)), poison := m.poison.filter (fun p => decide (p < lo) || decide (hi ≤ p)) }

/-- Poison the word of a key. -/
def MemSt.addPoison (m : MemSt) (key : Nat) : MemSt := { m with poison := insertNat m.poison (poisonKey key) }

def State.writeMem (s : State) (key : Nat) (bs : List Byte) : State := s.mapMem (fun m => m.write key bs)
def State.readMem (s : State) (key n : Nat) : List Byte := s.mem.read key n

/-! ## Sites, EIDs, windows (R31, R32, R244, R245, R290) -/

/-- Whether site `k` is populated (R6, D:5000.01): guest sites 21 and 22 under the ordering code. -/
def State.populated (s : State) (k : Nat) : Bool := decide (k ≤ 20) || (decide (k = 21) && decide (1 ≤ s.ident.guests))
  || (decide (k = 22) && decide (2 ≤ s.ident.guests))

/-- An EID that host software cannot name in a routing entry, a firewall rule or a placement: the reserved ones of Table PB-8 (R32), and
the management EID of an unpopulated guest site (R6). -/
def State.eidUnnamed (s : State) (v : Nat) : Bool :=
  (decide (0x18 ≤ v) && decide (v ≤ 0x1F)) || ((v == 0x16 || v == 0x17) && !s.populated (v - 1))

/-- Mask of the populated sites. -/
def State.siteMask (s : State) : Nat := 0x1FFFFF + (if 1 ≤ s.ident.guests then 0x200000 else 0) + (if 2 ≤ s.ident.guests then 0x400000 else 0)

/-- The routing entry of an EID in a bank (Tables PB-8, PB-9): management endpoints and 0xFFFF are fixed. -/
def State.routingEntry (s : State) (bankB : Bool) (eid : Nat) : BitVec 32 :=
  if 1 ≤ eid ∧ eid ≤ 0x17 then BitVec.ofNat 32 (1 + (eid - 1) * 4)
  else if eid = 0xFFFF then BitVec.ofNat 32 (2 + s.siteMask * 256)
  else if eid < 0x20 ∨ eid = 0xFFFE then 0
  else kvGet (if bankB then s.base.bankB else s.base.bankA) eid 0

/-- The bank that a decision of this tick takes: a switch whose tick has come is over before decisions are evaluated (R61, R248). -/
def State.bankNow (s : State) : Bool :=
  if s.base.switchSt = 1 ∧ s.base.switchTick ≤ s.now then !s.base.activeB else s.base.activeB

/-- The site of an EID's unicast entry in the active bank. -/
def State.eidSite (s : State) (eid : Nat) : Option Nat :=
  let e := (s.routingEntry s.base.activeB eid).toNat
  if field e 1 0 = 1 then some (field e 6 2) else none

/-- The sites of an EID's multicast entry in the active bank. -/
def State.eidSites (s : State) (eid : Nat) : List Nat :=
  let e := (s.routingEntry s.base.activeB eid).toNat
  if field e 1 0 = 2 then (List.range 23).filter (fun k => bit (field e 30 8) k) else []

/-- Do `f` with bank `b` as the one that routes (R247): work of a record, and a packet, go by the bank they carry. -/
def State.underBank (s : State) (b : Bool) (f : State → State) : State :=
  (f (s.mapBase (fun x => { x with activeB := b }))).mapBase (fun x => { x with activeB := s.base.activeB })

/-- The window of an EID in a space. -/
def State.window? (s : State) (eid space : Nat) : Option Window :=
  s.mem.windows.find? (fun w => w.eid == eid && w.space == space)

/-- Layer (from 1) and channel of a tower page (Table MM-2). -/
def pageLayer (isCache : Bool) (p : Nat) : Nat := if isCache then p % 4 + 1 else p % 3 + 1
def pageChannel (isCache : Bool) (p : Nat) : Nat := if isCache then p / 4 % 32 else p / 3 % 32

/-- Pages of a tower (D:6000.02). -/
def towerPages (isCache : Bool) : Nat := if isCache then 152584 else 114438

/-- Backing pages of a cache tower: 186 GB (R307) in pages of 64 KiB. -/
def backingPages : Nat := 186000000000 / 65536

/-- Key of channel `c` of layer `l` in a tower's channel map. -/
def chanKey (l c : Nat) : Nat := l * 32 + c

def Tower.channel (t : Tower) (l c : Nat) : Channel := kvGet t.channels (chanKey l c) Channel.fresh

/-- Where an access to a module address goes. -/
inductive Loc where
  /-- a byte of memory -/
  | key (k : Nat)
  /-- a poisoned completion; whether the window fault counter D:6000.05 of a tower counts it -/
  | poison (fault : Option Nat)
  /-- no unicast entry: a fenced acknowledgement (R246) -/
  | unrouted
  deriving DecidableEq, Repr

/-- The page of a tower answers: not withdrawn (R325) and its channel not lost (R302). -/
def State.pageOk (s : State) (t p : Nat) : Bool :=
  let tw := s.tower t
  !(tw.withdrawnPages.any (fun w => w.1 == 1 && w.2 == p)) &&
    decide ((tw.channel (pageLayer tw.isCache p) (pageChannel tw.isCache p)).width ≠ 0)

/-- Stack and channel of a backing offset of cache tower K`k` (R307). -/
def backingStack (k o : Nat) : Nat := 2 * k + o / 1024 % 2
def backingChannel (o : Nat) : Nat := o / 1024 / 2 % 16

/-- The LPDDR5X channel of a backing offset answers: it has not failed, nor its stack (code 0x0608). -/
def State.stackOk (s : State) (k o : Nat) : Bool :=
  let m := s.mem.dram.getD (backingStack k o) Stack.fresh
  decide (m.st ≠ 3) && !m.failed.contains (backingChannel o)

/-- Resolve a module address: space, owner EID, byte offset (R289, R290). Space 0x03 is not memory. -/
def State.locate (s : State) (space eid off : Nat) : Loc :=
  match s.eidSite eid with
  | none => .unrouted
  | some site =>
    if space = 4 then if site < 16 ∧ off < 4194304 then .key (storeKey site off) else .poison (some site)
    else if space = 1 ∨ space = 2 ∨ space = 5 then
      match s.window? eid space with
      | none => .poison (some site)
      | some w =>
        if w.len * 65536 ≤ off then .poison (some site)
        else if space = 2 then
          if (s.tower w.tower).withdrawnPages.any (fun x => x.1 == 2 && x.2 == w.base + off / 65536)
              ∨ s.stackOk (w.tower - 16) (w.base * 65536 + off) = false then .poison none
          else .key (backingKey (w.tower - 16) (w.base * 65536 + off))
        else if s.pageOk w.tower (w.base + off / 65536) then
          .key (sramKey w.tower (w.base + off / 65536) (off % 65536))
        else .poison none
    else .poison none

/-- The fields of a 64-bit module address (chapter 10): space, owner EID, byte offset. -/
def addrSpace (a : Nat) : Nat := field a 63 56
def addrEid (a : Nat) : Nat := field a 55 40
def addrOff (a : Nat) : Nat := a % 2 ^ 40
def mkAddr (space eid off : Nat) : Nat := space * 2 ^ 56 + eid * 2 ^ 40 + off

/-- The keys of the area that slot `slot` owns in window `w` (R310, R313). -/
def Window.slotArea (w : Window) (slot : Nat) : Nat × Nat :=
  (sramKey w.tower (w.base + w.frames * slot) 0, sramKey w.tower (w.base + min w.len (w.frames * (slot + 1))) 0)

/-- Clear every KV frame and activation page that slot `slot` owns on tower `t` (R312, R313). -/
def State.clearSlotAreas (s : State) (t slot : Nat) : State :=
  (s.mem.windows.filter (fun w => w.tower == t && (w.space == 5 || w.space == 1) && w.frames != 0)).foldl
    (fun s w => s.mapMem (fun m => m.clear (w.slotArea slot).1 (w.slotArea slot).2)) s

/-- The window of a page of a tower, for the ADDR of an error record. -/
def State.pageAddr (s : State) (t p off : Nat) : Nat :=
  match s.mem.windows.find? (fun w => w.tower == t && w.space != 2 && decide (w.base ≤ p) && decide (p < w.base + w.len)) with
  | some w => mkAddr w.space w.eid ((p - w.base) * 65536 + off)
  | none => 0

/-! ## The configuration that both units of a pair share, and messages to the twin (R456 to R458, R470) -/

/-- A value held between writes, by object key. -/
def State.held (s : State) (key d : Nat) : Nat := kvGet s.dict.held key d

def groupKindKey (g : Nat) : Nat := 0x400002 * 256 + g

/-- The role map of a model handle: 0xFF in each entry until it is written. -/
def State.roleMap (s : State) (model : Nat) : List Nat := kvGet s.roles model (List.replicate 8 0xFF)

/-- D:2202.0B: the published digest over the configuration, in the order of R470. -/
def State.configDigest (s : State) : Nat :=
  (Config.digest
    (((s.vault.measures.filter (fun m => m.kind == 2)).map (·.hash))
      ++ s.pkgs.flatMap (fun p => s.roleMap p.model)
      ++ s.groups.zipIdx.flatMap (fun g => [s.held (groupKindKey g.2) 0, g.1.members.toNat])
      ++ s.mem.windows.flatMap (fun w => [w.eid, w.space, w.base, w.len, w.frames, if w.park then 1 else 0])
      ++ [s.ledger.fraction, s.ledger.pairLimit, s.ledger.ctxLimit]
      ++ s.pair.spoolWins.flatMap (fun w => [w.1, w.2])
      ++ s.vault.keys.flatMap (fun k => [k.kind, k.id,
          match k.cur with
          | some c => c.epoch
          | none => 0,
          match k.prev with
          | some c => c.epoch
          | none => 0]))).toNat

/-- Kinds of Table PR-2: what travels on PX as an S frame. -/
def TwinMsg.isS : TwinMsg → Bool
  | .heartbeat onPx _ => onPx
  | .hello _ _ _ | .epochCount _ _ => false
  | .decision _ | .status _ _ _ | .delivered _ _ | .config _ | .delta _ _ _ | .snapshot _ | .package _ | .image | .joinReady | .join _ => true

/-- Bits [95:64] of the nonce of a frame under the pair key: bit 95, the pair position, and `mid` in bits [93:64] (R456, R458). -/
def State.pairPrefix (s : State) (mid : Nat) : Nat := 2 ^ 31 + (if s.vault.pairPos then 2 ^ 30 else 0) + mid

/-- Send a message to the twin. S frames leave only under a pair key (R452), numbered from 1 after the handshake; the counter of their
nonce is kept per pair key, and that of a TH message is its TICK. -/
def State.sendTwin (s : State) (m : TwinMsg) : State :=
  if m.isS then
    if s.vault.pairKey then
      s.mapPair (fun p =>
        { p with sSeqOut := p.sSeqOut + 1
                 sent := p.sent ++ [({ msg := m, seq := p.sSeqOut + 1, claim := p.claim, tick := s.now
                                       nonce := BitVec.ofNat 96 (s.pairPrefix 0 * 2 ^ 64 + p.sSeqOut) } : TwinFrame)] })
    else s
  else s.mapPair (fun p =>
    { p with sent := p.sent ++ [({ msg := m, seq := 0, claim := p.claim, tick := s.now
                                   nonce := BitVec.ofNat 96 (s.pairPrefix 0x3FFFFFFF * 2 ^ 64 + s.now) } : TwinFrame)] })

/-- The unit receives on PX under a pair key. -/
def State.hearsTwin (s : State) : Bool := s.pair.bound && s.vault.pairKey && !s.dead

/-- CONFIG (Table PR-2): the unit's digest. -/
def State.sendConfig (s : State) : State := if s.hearsTwin then s.sendTwin (.config s.configDigest) else s

end Sys2Proof.Machine
end

