-- ==== Sys2Proof/Machine/Carrier.lean ====
section
/-!
DEFINITION. How traffic crosses the base (R226 to R237): the codewords, units, credits, replay buffers and reorder buffer of an ordered
pair, the sync plane's blocks, and sync-plane messages (Table NS-8). The choices are those of assumption log 57.
-/
namespace Sys2Proof.Machine

open Sys2Proof

/-! ## Units (R227, Table PB-3) -/

/-- The 64-byte units of a bulk packet: its header flit, then its data. -/
def packetUnits (p : Packet) : List (BitVec 512) :=
  p.hdr :: (List.range (cdiv p.data.length 64)).map (fun i => BitVec.ofNat 512 (leNat ((p.data.drop (64 * i)).take 64)))

/-- A control carrier of two flits between the management EIDs of two sites. -/
def controlUnit (src dst : Nat) (flits : BitVec 128) : BitVec 512 :=
  BitVec.ofNat 512 (0xC + (src + 1) % 65536 * 2 ^ 16 + (dst + 1) % 65536 * 2 ^ 32 + flits.toNat * 2 ^ 64)

/-- A credit return. -/
def creditUnit (bulk control : Nat) : BitVec 512 := BitVec.ofNat 512 (0xD + bulk % 4096 * 2 ^ 8 + control % 256 * 2 ^ 20)

def fillUnit : BitVec 512 := 0xF#512

/-- A stream of units, parsed in order: what it carries, and the units of a packet whose data has not all come. A code that is neither a
bulk TYPE nor one of Table PB-3 is passed over, and fill carries nothing; `fuel` bounds the units. -/
def parseUnits (fuel : Nat) (us : List (BitVec 512)) : List Carried × List (BitVec 512) :=
  match fuel, us with
  | 0, us => ([], us)
  | _ + 1, [] => ([], [])
  | fuel + 1, u :: rest =>
    let k := u.toNat % 16
    if 1 ≤ k ∧ k ≤ 8 then
      let n := field u.toNat 7 5
      if rest.length < n then ([], u :: rest)
      else (.bulk u (rest.take n) :: (parseUnits fuel (rest.drop n)).1, (parseUnits fuel (rest.drop n)).2)
    else if k = 0xC then (.control u :: (parseUnits fuel rest).1, (parseUnits fuel rest).2)
    else if k = 0xD then (.credit (field u.toNat 19 8) (field u.toNat 27 20) :: (parseUnits fuel rest).1, (parseUnits fuel rest).2)
    else parseUnits fuel rest

/-- Units of the bulk and of the control buffer that something takes (R230). -/
def Carried.bulkUnits : Carried → Nat
  | .bulk _ data => 1 + data.length
  | .control _ => 0
  | .credit _ _ => 0
def Carried.controlUnits : Carried → Nat
  | .bulk _ _ => 0
  | .control _ => 1
  | .credit _ _ => 0

/-- A credit return is for the sender; it stands in no buffer. -/
def Carried.isCredit : Carried → Bool
  | .bulk _ _ => false
  | .control _ => false
  | .credit _ _ => true

/-! ## Codewords (R226) -/

/-- Units of a codeword. -/
def codewordUnits : Nat := 10

/-- The 20-bit header of Table PB-2. -/
def codewordHeader (kind seq ack : Nat) (nack rot : Bool) : BitVec 20 :=
  BitVec.ofNat 20 ((if rot then 1 else 0) + (if nack then 2 else 0) + ack % 256 * 2 ^ 2 + seq % 256 * 2 ^ 10 + kind % 4 * 2 ^ 18)

/-- Digits of a number in base `b`, lowest first. -/
def leDigits (b : Nat) (l : List Nat) : Nat :=
  match l with
  | [] => 0
  | d :: rest => d % b + b * leDigits b rest

/-- The 514 data symbols of a codeword: its header, then its units. -/
def codewordSymbols (header : BitVec 20) (units : List (BitVec 512)) : List (BitVec 10) :=
  let bits := header.toNat + leDigits (2 ^ 512) (units.map (·.toNat)) * 2 ^ 20
  (List.range 514).map (fun i => BitVec.ofNat 10 (bits / 2 ^ (10 * i)))

/-- A codeword on the wavelength: its data symbols and the 30 check symbols of RS(544,514). -/
def codewordLine (header : BitVec 20) (units : List (BitVec 512)) : List (BitVec 10) :=
  codewordSymbols header units ++ (List.range 30).map (Config.fecCheck (codewordSymbols header units))

/-- KIND of a codeword: resent data once it has been resent. -/
def Codeword.kind (c : Codeword) : Nat := if c.resent = 0 then 1 else 2

end Sys2Proof.Machine

namespace Sys2Proof

open Sys2Proof.Machine

/-- Fields of a received header (Table PB-2). -/
def CodewordIn.kind (w : CodewordIn) : Nat := field w.header.toNat 19 18
def CodewordIn.seq (w : CodewordIn) : Nat := field w.header.toNat 17 10
def CodewordIn.ack (w : CodewordIn) : Nat := field w.header.toNat 9 2
def CodewordIn.nack (w : CodewordIn) : Bool := w.header.getLsbD 1

end Sys2Proof

namespace Sys2Proof.Machine

open Sys2Proof

/-! ## The sender of a stream (R228, R230, R232) -/

/-- Codewords of a replay buffer, and of a reorder buffer; resends of a codeword, and ticks after which none is resent. -/
def replayDepth : Nat := 80
def reorderDepth : Nat := 320
def resendLimit : Nat := 4
def replayWindow : Nat := 2000

def Line.buffer (l : Line) (w : Nat) : List Codeword := kvGet l.sent w []

/-- Wavelength at the position of data codeword `k`: k mod n of the rotation (R228). -/
def position? (planes : List Nat) (k : Nat) : Option Nat := planes[k % planes.length]?

/-- Room in the replay buffer of a wavelength. -/
def Line.fits (l : Line) (w : Nat) : Bool := decide ((l.buffer w).length < replayDepth)

/-- The sender holds a credit for each of `n` units (R230). -/
def Line.pays (l : Line) (kind : UnitKind) (n : Nat) : Bool :=
  match kind with
  | .bulk => decide (n ≤ l.bulk)
  | .control => decide (n ≤ l.control)
  | .credit => true

/-- Units may go: nothing waits to be resent, there is a credit for each, and room in the replay buffer of the wavelength. -/
def Line.room (l : Line) (planes : List Nat) (kind : UnitKind) (n : Nat) : Bool :=
  match position? planes l.dealt with
  | none => false
  | some w => l.orphans.isEmpty && l.pays kind n && l.fits w

/-- Put codeword `c` into the replay buffer of wavelength `w` under its next SEQ. -/
def Line.place (l : Line) (w : Nat) (c : Codeword) : Line :=
  { l with sent := kvSet l.sent w (l.buffer w ++ [{ c with seq := kvGet l.seqs w 0 }]), seqs := kvSet l.seqs w ((kvGet l.seqs w 0 + 1) % 256) }

/-- Deal units as one data codeword completed with fill. -/
def Line.deal (l : Line) (planes : List Nat) (now : Nat) (kind : UnitKind) (units : List (BitVec 512)) : Line :=
  match position? planes l.dealt with
  | none => l
  | some w =>
    { l.place w { no := l.dealt, seq := 0, first := now, resent := 0
                  units := units ++ List.replicate (codewordUnits - units.length) fillUnit } with
      dealt := l.dealt + 1
      bulk := if kind = .bulk then l.bulk - units.length else l.bulk
      control := if kind = .control then l.control - units.length else l.control }

/-- Units of a packet reach the source's interface: they go, or wait behind those that wait. -/
def Line.accept (planes : List Nat) (now : Nat) (kind : UnitKind) (units : List (BitVec 512)) (l : Line) : Line :=
  if l.held.isEmpty && l.room planes kind units.length then l.deal planes now kind units else { l with held := l.held ++ [(kind, units)] }

/-- Codewords of a wavelength that failed are resent, in order, each on its `target` while that has room; from the first that finds none
they wait. The limits of R232 count anew on the wavelength that takes them over (DEDUCED from Table PB-7, log 57). -/
def Line.settle (l : Line) (target : Codeword → Option Nat) (now : Nat) (cs : List Codeword) : Line :=
  match cs with
  | [] => { l with orphans := [] }
  | c :: rest =>
    match target c with
    | none => { l with orphans := c :: rest }
    | some x => if l.fits x then (l.place x { c with resent := 1, first := now }).settle target now rest else { l with orphans := c :: rest }

/-- Waiting units go in order while they may, what is to be resent ahead of new ones; `fuel` bounds them. -/
def Line.releaseNew (planes : List Nat) (now fuel : Nat) (l : Line) : Line :=
  match fuel with
  | 0 => l
  | fuel + 1 =>
    match l.held with
    | [] => l
    | h :: rest =>
      if l.room planes h.1 h.2.length then Line.releaseNew planes now fuel ({ l with held := rest }.deal planes now h.1 h.2) else l

def Line.release (planes : List Nat) (now : Nat) (l : Line) : Line :=
  Line.releaseNew planes now l.held.length (l.settle (fun c => position? planes c.no) now l.orphans)

/-- Index of the codeword of a SEQ in the replay buffer of wavelength `w`. -/
def Line.position (l : Line) (w seq : Nat) : Option Nat := (l.buffer w).findIdx? (fun c => c.seq == seq)

/-- The first `n` codewords of the replay buffer of `w` are acknowledged. -/
def Line.covered (l : Line) (w n : Nat) : Line := { l with sent := kvSet l.sent w ((l.buffer w).drop n) }

/-- An ACK (R232): every codeword up to the one it names is acknowledged. -/
def Line.ack (l : Line) (w seq : Nat) : Line :=
  match l.position w seq with
  | none => l
  | some i => l.covered w (i + 1)

/-- A codeword may be resent (R232). -/
def Codeword.resendable (c : Codeword) (now : Nat) : Bool := decide (c.resent < resendLimit) && decide (now < c.first + replayWindow)

/-- A NACK that names codeword `seq` (R232): those before it are acknowledged; it and every later one are resent, in order. -/
def Line.nack (l : Line) (w seq now : Nat) : Line :=
  match l.position w seq with
  | none => l
  | some i =>
    let m := l.covered w i
    { m with sent := kvSet m.sent w ((m.buffer w).map (fun c => if c.resendable now then { c with resent := c.resent + 1 } else c)) }

/-- A codeword of the wavelength has reached a limit of R232 without acknowledgement. -/
def Line.limited (l : Line) (w now : Nat) : Bool := (l.buffer w).any (fun c => !c.resendable now)

/-- The unacknowledged codewords of a wavelength that failed are resent (R239, R241): on its stand-in where there is one, else on the
wavelengths that remain, ahead of new ones. -/
def Line.moveOff (l : Line) (w : Nat) (standIn : Option Nat) (planes : List Nat) (now : Nat) : Line :=
  { l with sent := kvErase l.sent w }.settle (fun c => standIn.or (position? planes c.no)) now (l.orphans ++ l.buffer w)

/-! ## The receiver of a stream (R224, R226 to R230) -/

/-- Symbols of a codeword. -/
def codewordLength : Nat := 544

def LineRx.waiting (x : LineRx) (w : Nat) : List (List (BitVec 512)) := kvGet x.reorder w []

/-- Codewords come out of the reorder buffer in rotation order (R229); `fuel` bounds them. -/
def LineRx.takeInOrder (x : LineRx) (planes : List Nat) (fuel : Nat) : LineRx :=
  match fuel with
  | 0 => x
  | fuel + 1 =>
    match position? planes x.taken with
    | none => x
    | some w =>
      match x.waiting w with
      | [] => x
      | us :: rest =>
        LineRx.takeInOrder { x with taken := x.taken + 1, reorder := kvSet x.reorder w rest, stream := x.stream ++ us } planes fuel

/-- The units taken are parsed (R227): packets and carriers stand in the receiver's buffers until the die takes them; credit returns are
for the sender of the reverse stream. -/
def LineRx.parsed (x : LineRx) : LineRx × List Carried :=
  let r := parseUnits x.stream.length x.stream
  ({ x with stream := r.2, buffer := x.buffer ++ r.1.filter (fun c => !c.isCredit) }, r.1.filter (·.isCredit))

/-- A codeword is received on wavelength `w.plane` (R224, R226, R229): its symbols count whatever it is. One that does not decode is
asked for again; the units of an idle one, and a codeword out of order, are ignored. -/
def LineRx.codeword (x : LineRx) (planes : List Nat) (w : CodewordIn) (units : List (BitVec 512)) : LineRx :=
  let x := { x with symbols := kvSet x.symbols w.plane (kvGet x.symbols w.plane 0 + codewordLength) }
  if !w.decodes then { x with nack := kvSet x.nack w.plane true }
  else
    let x := { x with errs := kvSet x.errs w.plane (kvGet x.errs w.plane 0 + w.corrected) }
    if (w.kind = 1 ∨ w.kind = 2) ∧ w.seq = (kvGet x.good w.plane 255 + 1) % 256
        ∧ sumNat (x.reorder.map (·.2.length)) < reorderDepth then
      { x with good := kvSet x.good w.plane w.seq, nack := kvSet x.nack w.plane false
               reorder := kvSet x.reorder w.plane (x.waiting w.plane ++ [units]) }.takeInOrder planes reorderDepth
    else x

/-- Symbol error ratio of a wavelength, as symbols corrected and symbols received (R224, R240). -/
def LineRx.errorRatio (x : LineRx) (w : Nat) : Nat × Nat := (kvGet x.errs w 0, kvGet x.symbols w 0)

/-- The header of a codeword a site or port sends on wavelength `w` (R226): its ACK and NACK speak of what `x` has received on the reverse
wavelength. -/
def LineRx.headerFor (x : LineRx) (w kind seq : Nat) (rot : Bool) : BitVec 20 :=
  codewordHeader kind seq (kvGet x.good w 255) (kvGet x.nack w false) rot

/-- What wavelength `w` carries while there is no data codeword for it, a spare's among them (R224, R228): an idle codeword, KIND 0b00.
DESIGN CHOICE (log 57): it carries the SEQ that the next data codeword will have, and takes none. -/
def Line.idleWord (l : Line) (x : LineRx) (w : Nat) (rot : Bool) : List (BitVec 10) :=
  codewordLine (x.headerFor w 0 (kvGet l.seqs w 0) rot) (List.replicate codewordUnits 0)

/-- What wavelength `w` carries for a codeword of its replay buffer. -/
def Codeword.wire (c : Codeword) (x : LineRx) (w : Nat) (rot : Bool) : List (BitVec 10) :=
  codewordLine (x.headerFor w c.kind c.seq rot) c.units

/-! ## Pairs -/

def pairKey (i j : Nat) : Nat := i * 32 + j

/-- The ordered pair from site i to site j. -/
def State.linkPair (s : State) (i j : Nat) : Pair := kvGet s.base.pairs (pairKey i j) (Pair.fresh i j)

/-- The stream of the ordered pair from site i to site j. -/
def State.line (s : State) (i j : Nat) : Line := kvGet s.lines (pairKey i j) Line.fresh

/-- What site j has received of the stream of site i. -/
def State.rx (s : State) (i j : Nat) : LineRx := kvGet s.rxs (pairKey i j) LineRx.fresh

/-- The streams after units have gone from site i to site j. -/
def State.linesWith (s : State) (i j : Nat) (kind : UnitKind) (units : List (BitVec 512)) (l : KV Line) : KV Line :=
  if i = j then l else kvMod l (pairKey i j) Line.fresh (Line.accept (s.linkPair i j).planes s.now kind units)

/-- A site sends a bulk packet: to another site its units cross the base (R227 to R230). -/
def State.sendBulk (s : State) (site : Nat) (dst : Option Nat) (p : Packet) : State :=
  { s with net := s.net ++ [p], lines := match dst with
      | some j => s.linesWith site j .bulk (packetUnits p) s.lines
      | none => s.lines }

/-- The header that a codeword of wavelength `w` from site i to site j carries (R226). -/
def State.headerOf (s : State) (i j w : Nat) (c : Codeword) : BitVec 20 :=
  (s.rx j i).headerFor w c.kind c.seq (s.linkPair i j).rot

/-- The traffic of a pair with no wavelength in service cannot be carried (Table PB-6). -/
def State.pairFailed (s : State) (i j : Nat) : Bool := decide (i ≠ j) && (s.linkPair i j).planes.isEmpty

/-- The die of site j takes over what satisfies `p` from the buffers of its interface for site i: the units it stood in are free, and
their credits go back in the reverse stream (R230). -/
def State.handOff (s : State) (i j : Nat) (p : Carried → Bool) : State :=
  match (s.rx i j).buffer.find? p with
  | none => s
  | some c =>
    { s with rxs := kvMod s.rxs (pairKey i j) LineRx.fresh (fun x => { x with buffer := x.buffer.eraseP p })
             lines := s.linesWith j i .credit [creditUnit c.bulkUnits c.controlUnits] s.lines }

/-- A stream carries packet `p`. -/
def Carried.isPacket (p : Packet) : Carried → Bool
  | .bulk h _ => h == p.hdr
  | .control _ => false
  | .credit _ _ => false

/-- A stream carries a control carrier. -/
def Carried.isControl (u : BitVec 512) : Carried → Bool
  | .bulk _ _ => false
  | .control v => v == u
  | .credit _ _ => false

/-! ## Fences at a site -/

/-- Whether the interface of site `k` is fenced (R250, R440). -/
def State.siteFenced (s : State) (k : Nat) : Bool :=
  if k < 20 then (s.tower k).fence
  else if k = 21 then decide (1 ≤ s.ident.guests) && (!s.vault.admitted.getLsbD 0 || s.vault.guestFence.getLsbD 0 || s.base.guestSiteFence.getLsbD 0)
  else if k = 22 then decide (2 ≤ s.ident.guests) && (!s.vault.admitted.getLsbD 1 || s.vault.guestFence.getLsbD 1 || s.base.guestSiteFence.getLsbD 1)
  else false

/-! ## Sync-plane messages (Table NS-8) -/

def syncMsg (type src dst index gen value mask : Nat) : BitVec 128 :=
  BitVec.ofNat 128 (type % 16 + src % 32 * 2 ^ 4 + dst % 32 * 2 ^ 9 + index % 8192 * 2 ^ 14 + gen % 256 * 2 ^ 27
    + value % 2 ^ 32 * 2 ^ 64 + mask % 2 ^ 23 * 2 ^ 96)

def msgType (m : BitVec 128) : Nat := field m.toNat 3 0
def msgSrc (m : BitVec 128) : Nat := field m.toNat 8 4
def msgDst (m : BitVec 128) : Nat := field m.toNat 13 9
def msgIndex (m : BitVec 128) : Nat := field m.toNat 26 14
def msgGen (m : BitVec 128) : Nat := field m.toNat 34 27
def msgValue (m : BitVec 128) : Nat := field m.toNat 95 64
def msgMask (m : BitVec 128) : Nat := field m.toNat 118 96
/-- REDID and slot in VALUE of types 0x5 to 0x7 (R218). -/
def msgRedid (m : BitVec 128) : Nat := field m.toNat 79 64
def msgSlot (m : BitVec 128) : Nat := field m.toNat 87 80

/-- Sites a sync message goes to: its DST, or every site in MASK. -/
def msgSites (m : BitVec 128) : List Nat :=
  if msgDst m = 0x1F then (List.range 23).filter (fun k => bit (msgMask m) k) else [msgDst m]

/-! ## The sync plane (R234 to R237) -/

/-- Grid channel of SP on which a site sends (R234). -/
def spChannel (site : Nat) : Nat := site + 1

/-- Blocks a site keeps to resend. -/
def spDepth : Nat := 16

/-- The 19 data bytes of a block (Table PB-5): header and message. -/
def spData (seq nsite nseq : Nat) (m : BitVec 128) : List Byte :=
  leBytes 3 (nseq % 256 * 2 ^ 3 + nsite % 32 * 2 ^ 11 + seq % 256 * 2 ^ 16) ++ leBytes 16 m.toNat

/-- A block: its data and the five check bytes of RS(24,19). -/
def SpBlock.bytes (b : SpBlock) : List Byte :=
  let d := spData b.seq b.nsite b.nseq b.msg
  d ++ (List.range 5).map (Config.spCheck d)

/-- A block whose message has TYPE 0x0 is idle. -/
def SpBlock.idle (b : SpBlock) : Bool := b.msg.toNat % 16 == 0

/-- NSITE that names no site. -/
def spNone : Nat := 0x1F

def SpSite.fresh : SpSite := { next := 0, blocks := [], heard := [] }

/-- Buses that are lit: while the window of SP is open the spare first takes SPB and messages run on SPA, then the other way (R254). -/
def State.busesLit (s : State) : BitVec 2 :=
  if s.base.window.any (fun x => x.1 == 5) then (if s.base.linkMap.getD 6 0 = s.base.linkMap.getD 5 0 then 1 else 2) else 3

/-- Buses on which calibration has a ring of site `k` out: a background step, or a commit still to be verified (R277, R282). Planes 5
and 6 of a ring channel are SPA and SPB (Table WB-7). -/
def State.busesTaken (s : State) (k : Nat) : BitVec 2 :=
  let takes := fun (bus kind index : Nat) => decide (kind ≤ 2) && index / 65536 % 256 == k && index / 256 % 256 == 5 + bus
  let out := fun (bus : Nat) => s.base.cal.any (fun c => c.busy && takes bus c.kind c.index) || s.base.commitChecks.any (fun c => takes bus c.1 c.2)
  (if out 0 then 1#2 else 0#2) ||| (if out 1 then 2#2 else 0#2)

/-- Buses on which a site's rings are in service (R234, R237). -/
def State.busesOf (s : State) (k : Nat) : BitVec 2 := ~~~(kvGet s.base.busOut k 0) &&& ~~~(s.busesTaken k) &&& s.busesLit

def State.spDegradedAt (s : State) (k : Nat) : Bool := s.base.spDegraded.getLsbD k

/-- A site sends a message in its next block, on both buses or on the one it has left, with the block it asks for again; it keeps its last
16 blocks. -/
def SpSite.send (b : SpSite) (m : BitVec 128) (buses : BitVec 2) (nsite : Nat := spNone) (nseq : Nat := 0) : SpSite :=
  { b with
    next := (b.next + 1) % 256
    blocks := (b.blocks ++ [({ seq := b.next, nsite, nseq, msg := m, buses, sent := 1 } : SpBlock)]).drop (b.blocks.length + 1 - spDepth) }

/-- The copy of a block that a receiver keeps (R236): of those on the buses of `ok`, which decoded, the first; the other is discarded. -/
def SpBlock.copyKept (b : SpBlock) (ok : BitVec 2) : Option Nat :=
  if (b.buses &&& ok).getLsbD 0 then some 0 else if (b.buses &&& ok).getLsbD 1 then some 1 else none

/-- A block of site `k` comes good at this site, on either bus: a copy whose SEQ it has already had is discarded (R236). -/
def SpSite.hear (b : SpSite) (k seq : Nat) : SpSite := if kvGet b.heard k 256 = seq then b else { b with heard := kvSet b.heard k seq }

/-- No bus carries messages of site `k`: it is sync-degraded, or left with the bus that the window of SP has dark (R237, R254). -/
def State.offPlane (s : State) (k : Nat) : Bool := s.spDegradedAt k || s.busesOf k == 0

/-- Every other site receives the block that site `k` has just sent (R234, R236); one that has lost both buses receives none. -/
def State.spHeard (s : State) (k : Nat) (l : KV SpSite) : KV SpSite :=
  let b := kvGet l k SpSite.fresh
  match b.blocks.getLast? with
  | none => l
  | some c =>
    ((List.range 23).filter (fun d => d != k && s.populated d && !s.offPlane d && (c.copyKept (s.busesOf d)).isSome)).foldl
      (fun l d => kvMod l d SpSite.fresh (fun x => x.hear k c.seq)) l

/-- Whether a message between two sites goes as a control carrier over the data planes (R237). -/
def State.overPlanes (s : State) (src dst : Nat) : Bool := s.offPlane src || s.offPlane dst

/-- The sync messages a fenced site still sends: the acknowledgements of the SIGNALs it discards (R251). -/
def fencePasses (m : BitVec 128) : Bool := msgType m == 2

/-- Send a sync message: in a block of the sync plane, and as a control carrier to each site that the plane does not reach. A fenced site
sends none but acknowledgements (R251). -/
def State.sendSync (s : State) (m : BitVec 128) : State :=
  let k := msgSrc m
  let stopped := s.siteFenced k && !fencePasses m
  { s with
    syncOut := if stopped then s.syncOut else s.syncOut ++ [m]
    spSites := if stopped || s.offPlane k then s.spSites
      else s.spHeard k (kvMod s.spSites k SpSite.fresh (fun b => b.send m (s.busesOf k)))
    lines := if stopped then s.lines
      else (msgSites m).foldl (fun l d => if s.overPlanes k d then s.linesWith k d .control [controlUnit k d m] l else l) s.lines }

/-- A sync message that came as a control carrier leaves the buffers of the sites it reaches (R230, R237). -/
def State.syncTaken (s : State) (m : BitVec 128) : State :=
  (msgSites m).foldl (fun s d => s.handOff (msgSrc m) d (Carried.isControl (controlUnit (msgSrc m) d m))) s

/-- A site asks in its next block for a block of another, of which no copy decoded, and the named site resends it if it still keeps it
(R236). The block that asks carries no message where none waits. -/
def State.spResend (s : State) (requester nsite nseq : Nat) : State :=
  let s := { s with spSites := kvMod s.spSites requester SpSite.fresh (fun b => b.send 0 (s.busesOf requester) nsite nseq) }
  if (kvGet s.spSites nsite SpSite.fresh).blocks.any (fun b => b.seq == nseq) then
    { s with spSites := kvMod (kvMod s.spSites nsite SpSite.fresh (fun b =>
               { b with blocks := modWhere b.blocks (fun k => k.seq == nseq) (fun k => { k with sent := k.sent + 1, buses := s.busesOf nsite }) }))
               requester SpSite.fresh (fun b => b.hear nsite nseq)
             base := { s.base with spResent := s.base.spResent + 1 } }
  else s

end Sys2Proof.Machine
end

