-- ==== Sys2Proof/Machine/Sync.lean ====
section
/-! DEFINITION. Synchronisation objects and sync-plane messages: the operations of Table NS-7 (R140 to R142, R214 to R218). -/
namespace Sys2Proof.Machine

open Sys2Proof

def SyncObj.fresh : SyncObj := { value := 0, subs := 0, tick := none, base := 0, sum := 0, hostWrote := false }

/-- First persistent index (D:4100.07). -/
def persistentBase : Nat := 6144

def Tower.syncObj (t : Tower) (i : Nat) : SyncObj := kvGet t.sync i SyncObj.fresh

/-- Slot generation of an object; 0 for persistent objects (D:4100.06). -/
def Tower.objGen (t : Tower) (i : Nat) : Nat := if i < persistentBase then kvGet t.gens (i / 24) 0 else 0

/-- A sync-plane message is a notice of object `i` of tower `t` to its subscribers. -/
def noticeOf (t i : Nat) (m : BitVec 128) : Bool := msgType m == 4 && msgSrc m == t && msgDst m == 0x1F && msgIndex m == i

/-- A held control carrier that brings a notice of object `i` of tower `t` from its site to site `d` takes message `m` in its place. -/
def Line.renotice (t i d : Nat) (m : BitVec 128) (l : Line) : Line :=
  { l with held := l.held.map (fun h =>
      if h.1 = .control ∧ h.2.any (fun u => noticeOf t i (BitVec.ofNat 128 (u.toNat / 2 ^ 64))) then (h.1, [controlUnit t d m]) else h) }

/-- A notice of object `i` that its site still has to send to site `d` over the data planes (R230, R237). -/
def State.noticeHeld (s : State) (t i d : Nat) : Bool :=
  s.overPlanes t d && (s.line t d).held.any (fun h => h.2.any (fun u => noticeOf t i (BitVec.ofNat 128 (u.toNat / 2 ^ 64))))

/-- Every notice of object `i` of tower `t` that is still unsent takes message `m` (R216). -/
def State.renotice (s : State) (t i : Nat) (m : BitVec 128) : State :=
  { s with
    syncOut := modLast s.syncOut (noticeOf t i) (fun _ => m)
    spSites := kvMod s.spSites t SpSite.fresh (fun b => { b with blocks := modLast b.blocks (fun k => noticeOf t i k.msg) (fun k => { k with msg := m }) })
    lines := (msgSites m).foldl (fun l d => if t = d then l else kvMod l (pairKey t d) Line.fresh (Line.renotice t i d m)) s.lines }

/-- Send the subscribers of object `i` of tower `t` one notice of its value (R216). A notice of an earlier change of this tick (`again`), and
one that waits at the site interface for every site it goes to, is still unsent and takes the new value. -/
def State.notifySubs (s : State) (t i : Nat) (again : Bool) : State :=
  let o := (s.tower t).syncObj i
  let m := syncMsg 4 t 0x1F i ((s.tower t).objGen i) o.value o.subs.toNat
  if o.subs = 0 then s
  else if (again && s.syncOut.any (noticeOf t i)) || (msgSites m).all (fun d => s.noticeHeld t i d) then s.renotice t i m
  else (s.sendSync m).mapTower t (fun x => { x with noticesSent := x.noticesSent + 1 })

/-- The object has changed in tick `now` already. -/
def SyncObj.changed (o : SyncObj) (now : Nat) : Bool := o.tick == some now

/-- The counter before the increments of tick `now`, and their sum so far. -/
def SyncObj.start (o : SyncObj) (now : Nat) : Nat := if o.changed now then o.base else o.value
def SyncObj.soFar (o : SyncObj) (now : Nat) : Nat := if o.changed now then o.sum else 0

/-- An increment sampled at tick `now` (R214, R215): those of one tick are summed, the counter stops at 0xFFFFFFFF, and a host write
of the same tick comes after it. -/
def SyncObj.add (o : SyncObj) (now inc : Nat) : SyncObj :=
  let written := o.changed now && o.hostWrote
  { o with value := if written then o.value else min 0xFFFFFFFF (o.start now + (o.soFar now + inc)), tick := some now
           base := o.start now, sum := o.soFar now + inc, hostWrote := written }

/-- The increments of tick `now` pass 0xFFFFFFFF with this one, and did not without it (R214, R215): one event for their sum. -/
def SyncObj.passes (o : SyncObj) (now inc : Nat) : Bool :=
  decide (0xFFFFFFFF < o.start now + (o.soFar now + inc)) && decide (o.start now + o.soFar now ≤ 0xFFFFFFFF)

/-- Zero at tick `now` (R215): counter and subscriber mask. Increments and host writes of the same tick come after it. -/
def SyncObj.zero (o : SyncObj) (now : Nat) : SyncObj :=
  if o.changed now then { o with value := if o.hostWrote then o.value else min 0xFFFFFFFF o.sum, base := 0, subs := 0 } else SyncObj.fresh

/-- The end notice that retires the record of an activation-local object is sampled in this tick: the zeroing comes before the
increments (R215, R217). -/
def State.zeroesNow (s : State) (t i : Nat) : Bool :=
  decide (i < persistentBase) && (s.tower t).records.any (fun r => r.slot == i / 24 && r.reported) &&
    s.sampled (fun c => match c with
      | .endNotice a t' slot => decide (a ≤ s.now ∧ t' = t ∧ slot = i / 24)
      | _ => false)

/-- The object as the increments of this tick find it. -/
def State.syncNow (s : State) (t i : Nat) : SyncObj :=
  let o := (s.tower t).syncObj i
  if s.zeroesNow t i then { o with value := 0, base := 0, subs := 0 } else o

/-- Signal: add an increment, stopping at 0xFFFFFFFF (R214), and notify. -/
def State.signalObj (s : State) (t i inc : Nat) : State :=
  let o := s.syncNow t i
  let beyond := o.passes s.now inc
  let s := s.mapTower t (fun x =>
    { x with sync := kvSet x.sync i (o.add s.now inc), saturations := if beyond then x.saturations + 1 else x.saturations })
  let s := if beyond then s.logEv 0x0241 sevLogged t 0 i else s
  s.notifySubs t i (o.changed s.now)

/-- Host write of a persistent object (R215). -/
def State.writeObj (s : State) (t i v : Nat) : State :=
  let o := (s.tower t).syncObj i
  let o' := { o with value := v, tick := some s.now, base := o.start s.now, sum := o.soFar s.now, hostWrote := true }
  (s.mapTower t (fun x => { x with sync := kvSet x.sync i o' })).notifySubs t i (o.changed s.now)

/-- Zero objects of a tower; those that are then at their default are not listed. -/
def Tower.zeroObjs (t : Tower) (now : Nat) (p : Nat → Bool) : Tower :=
  { t with sync := t.sync.filterMap (fun o => if p o.1 then (if o.2.changed now then some (o.1, o.2.zero now) else none) else some o) }

/-- Zero one object; a persistent object has no generation. -/
def Tower.zeroObj (t : Tower) (now i : Nat) : Tower := t.zeroObjs now (· == i)

/-- Zero the 24 objects of an activation slot and advance its generation (R142, R215). -/
def Tower.zeroSlot (t : Tower) (now slot : Nat) : Tower :=
  { t.zeroObjs now (fun i => decide (slot * 24 ≤ i) && decide (i < slot * 24 + 24)) with
    gens := kvSet t.gens slot ((kvGet t.gens slot 0 + 1) % 256) }

/-- The object a sync reference names, under an activation record's slot map (R140, R141): tower and index. -/
def syncRef (slotMap : List (Nat × Nat)) (ref : Nat) : Option (Nat × Nat) :=
  let kind := field ref 31 30
  let t := field ref 23 20
  let i := field ref 12 0
  if kind = 1 then some (t, kvGet slotMap t 0 * 24 + i) else if kind = 2 then some (t, i) else none

end Sys2Proof.Machine
end

