-- ==== Sys2Proof/Machine/Answers.lean ====
section
/-!
DEFINITION. What the hub sends on the ports and how it ends a request: key slots and their references (R354, R355, R413,
R417), frames in the order of R365 under egress credit (R366), answers and error notices (R361, R363), ends (R362, R396,
R463, R469) and the withdrawal of a request from its towers (R165, R217).
-/
namespace Sys2Proof.Machine

open Sys2Proof

/-! ## Key slots -/

def kindTenant : Nat := 1
def kindModel : Nat := 2

def KeyId.named (k : KeyId) (kind id : Nat) : Bool := k.kind == kind && k.id == id

def VaultSt.key? (v : VaultSt) (kind id : Nat) : Option KeyId := v.keys.find? (fun k => k.named kind id)

/-- The slot of an ID that an epoch names. -/
def KeyId.slot? (k : KeyId) (epoch : Nat) : Option KeySlot :=
  match k.cur, k.prev with
  | some c, some p => if c.epoch = epoch then some c else if p.epoch = epoch then some p else none
  | some c, none => if c.epoch = epoch then some c else none
  | none, some p => if p.epoch = epoch then some p else none
  | none, none => none

def VaultSt.slot? (v : VaultSt) (kind id epoch : Nat) : Option KeySlot :=
  match v.key? kind id with
  | some k => k.slot? epoch
  | none => none

def KeyId.mapSlot (k : KeyId) (epoch : Nat) (f : KeySlot → KeySlot) : KeyId :=
  match k.cur with
  | some c =>
    if c.epoch = epoch then { k with cur := some (f c) }
    else { k with prev := match k.prev with
        | some p => if p.epoch = epoch then some (f p) else some p
        | none => none }
  | none => { k with prev := match k.prev with
        | some p => if p.epoch = epoch then some (f p) else some p
        | none => none }

def VaultSt.mapSlot (v : VaultSt) (kind id epoch : Nat) (f : KeySlot → KeySlot) : VaultSt :=
  { v with keys := modWhere v.keys (fun k => k.named kind id) (fun k => k.mapSlot epoch f) }

/-- Take or drop a reference on the slot that an epoch names (R415). -/
def State.keyRef (s : State) (kind id epoch : Nat) : State :=
  s.mapVault (fun v => v.mapSlot kind id epoch (fun k => { k with refs := k.refs + 1 }))
def State.keyUnref (s : State) (kind id epoch : Nat) : State :=
  s.mapVault (fun v => v.mapSlot kind id epoch (fun k => { k with refs := k.refs - 1 }))

/-- The nonce of the next frame sealed under a slot (R354, R417): bit 95, pair position, install counter, frame counter. -/
def sealNonce (pairPos : Bool) (k : KeySlot) : Nat :=
  2 ^ 95 + (if pairPos then 2 ^ 94 else 0) + k.install % 2 ^ 30 * 2 ^ 64 + k.counter % 2 ^ 64

/-! ## Ports -/

/-- Number of lanes in service of a lane mask. -/
def laneCount (m : BitVec 8) : Nat := ((List.range 8).filter (fun i => m.getLsbD i)).length

/-- The port on which the frames of port `x` leave: its own, or the lowest X port in service while that X port has failed (R348). -/
def State.outPort (s : State) (x : Nat) : Nat :=
  if x < 4 ∧ (s.port x).st = 4 then
    match (List.range 4).find? (fun i => (s.port i).st == 2 || (s.port i).st == 3) with
    | some i => i
    | none => x
  else x

/-- Units of a frame: header, payload, tag (R349). K and link-control frames carry no tag. -/
def OutFrame.units (f : OutFrame) : Nat := cdiv (64 + f.length + (if f.cls = 6 ∨ f.cls = 15 then 0 else 16)) 64

/-- Order of R365: A and link control, then K, then D by promised tick and SEQ. -/
def OutFrame.rank (f : OutFrame) : Nat := if f.cls = 4 ∨ f.cls = 15 then 0 else if f.cls = 6 then 1 else 2

def OutFrame.before (a b : OutFrame) : Bool :=
  decide (a.rank < b.rank) || (decide (a.rank = 2 ∧ b.rank = 2) &&
    (decide (a.tick < b.tick) || (decide (a.tick = b.tick) && decide (a.seq < b.seq))))

/-- Bytes 0 to 47 of a frame's header (Table FR-2), as a number: the additional data of its tag (R353). -/
def OutFrame.aad (f : OutFrame) : Nat :=
  f.cls % 2 ^ 4 + 2 ^ 4 + (if f.last then 2 ^ 8 else 0) + (if f.unprot then 2 ^ 9 else 0) + f.tenant % 2 ^ 16 * 2 ^ 16 + f.model % 2 ^ 16 * 2 ^ 32
    + f.reqid % 2 ^ 64 * 2 ^ 64 + f.seq % 2 ^ 64 * 2 ^ 128 + f.claim % 2 ^ 32 * 2 ^ 192 + f.kepoch % 2 ^ 8 * 2 ^ 224 + f.tick % 2 ^ 64 * 2 ^ 256
    + f.length % 2 ^ 32 * 2 ^ 320 + f.word % 2 ^ 32 * 2 ^ 352

/-- The header unit of a frame (Table FR-2): bytes 0 to 47, nonce, CRC. -/
def OutFrame.header (f : OutFrame) : BitVec 512 :=
  let h := f.aad + f.nonce % 2 ^ 96 * 2 ^ 384
  BitVec.ofNat 512 (h + crc32c (leBytes 60 h) * 2 ^ 480)

/-- The units of a frame (R349): header, payload and tag, the last padded with zeros. -/
def OutFrame.unitList (f : OutFrame) : List (BitVec 512) :=
  let rest := f.payload ++ (if f.cls = 6 ∨ f.cls = 15 then [] else leBytes 16 f.tag.toNat)
  f.header :: (List.range (cdiv rest.length 64)).map (fun i => BitVec.ofNat 512 (leNat ((rest.drop (64 * i)).take 64)))

/-- Lanes in service, lowest first: the rotation of a port (R228, R347). -/
def Port.laneList (p : Port) : List Nat := (List.range 8).filter (fun i => p.lanes.getLsbD i)

/-- Units enter the port's stream, ten to a codeword; a port's credit is that of R366, which has been spent by now. -/
def Line.emit (lanes : List Nat) (now fuel : Nat) (units : List (BitVec 512)) (l : Line) : Line :=
  match fuel with
  | 0 => l
  | fuel + 1 =>
    if units = [] then l
    else Line.emit lanes now fuel (units.drop codewordUnits) ({ l with bulk := codewordUnits }.accept lanes now .bulk (units.take codewordUnits))

/-- The codeword that brought a frame, as the port receives it (R226, R347): its SEQ goes to what the port acknowledges, its ACK and NACK to
what the port has sent. The frame itself comes by the command. -/
def Port.heard (p : Port) (now : Nat) (cw : Option CodewordIn) : Port :=
  match cw with
  | none => p
  | some w =>
    let line := { p.line with bulk := 1024 }.ack w.plane w.ack
    let asked := w.decodes && w.nack && (line.position w.plane ((w.ack + 1) % 256)).isSome
    { p with corrected := if 0 < w.corrected then p.corrected + 1 else p.corrected
             replays := if asked then p.replays + 1 else p.replays
             rx := p.rx.codeword p.laneList w []
             line := Line.release p.laneList now (if asked then line.nack w.plane ((w.ack + 1) % 256) now else line) }

/-- The header of a codeword on lane `lane` of a port (Table PB-2, R347), in the rotation epoch of its lane set. -/
def Port.headerOf (p : Port) (lane : Nat) (c : Codeword) : BitVec 20 := p.rx.headerFor lane c.kind c.seq p.rot

/-- Credit allows the frame (R366); K and link-control frames, by which credit is granted, need none. -/
def Port.covers (p : Port) (f : OutFrame) : Bool :=
  decide (f.cls = 6) || decide (f.cls = 15) || decide (p.egressSent + f.units ≤ p.egressGrant)

/-- A frame leaves the port. -/
def Port.depart (p : Port) (now : Nat) (f : OutFrame) : Port :=
  { p with out := p.out ++ [f], sent := p.sent + 1
           egressSent := if f.cls = 6 ∨ f.cls = 15 then p.egressSent else p.egressSent + f.units
           notices := if f.cls = 15 ∧ f.word / 2 ^ 24 = 2 then p.notices + 1 else p.notices
           refusals := if f.cls = 4 ∧ f.word / 2 ^ 24 = 2 then p.refusals + 1 else p.refusals
           line := Line.emit p.laneList now f.unitList.length f.unitList p.line }

/-- The frames other than D at the head of the queue leave as credit allows; D frames leave by D_FRAME_DEPARTURE. -/
def Port.drain (p : Port) (now : Nat) (queue : List OutFrame) : Port :=
  match queue with
  | [] => { p with queue := [] }
  | f :: rest =>
    if f.rank < 2 ∧ p.covers f then (p.depart now f).drain now rest
    else { p with queue := f :: rest }

/-- A port carries frames while it is up or degraded. -/
def Port.up (p : Port) : Bool := p.st == 2 || p.st == 3

def Port.enqueue (p : Port) (now : Nat) (f : OutFrame) : Port :=
  let q := insertBy OutFrame.before f p.queue
  if p.up then p.drain now q else { p with queue := q }

/-- A refusal or an end of a request: its key reference lasts until it has left (R415). -/
def OutFrame.ends (f : OutFrame) : Bool := decide (f.cls = 4) && decide (2 ≤ f.word / 2 ^ 24)

/-- Refusals and ends have left, or never will: their references fall. -/
def State.unrefLeft (s : State) (left : List OutFrame) : State :=
  (left.filter OutFrame.ends).foldl (fun s f => s.keyUnref kindTenant f.tenant f.kepoch) s

/-- Frames enter the queue of port `y` or leave it by `f`. -/
def State.queuePort (s : State) (y : Nat) (f : Port → Port) : State :=
  let t := s.mapPort y f
  t.unrefLeft ((t.port y).out.drop (s.port y).out.length)

/-- Queue a frame of port `x` on the port on which its frames leave. -/
def State.sendFrame (s : State) (x : Nat) (f : OutFrame) : State :=
  s.queuePort (s.outPort x) (fun p => p.enqueue s.now { f with port := s.outPort x })

/-- The unit decides: UNBOUND, ACTIVE or SOLO (Table PR-6). -/
def State.decides (s : State) : Bool := s.pair.mode == .unbound || s.pair.mode == .active || s.pair.mode == .solo

/-- The unit drives A, K and link-control frames on the X ports (R455, R466, Table PR-6); a module that is shut down or whose hub has
failed drives nothing (R395). -/
def State.drives (s : State) : Bool := !s.dead && s.decides

/-- ALERT_L is asserted (R583): a unit that drives A frames has bit 9, 11 or 12 of the I3C copy set. -/
def State.alertL (s : State) : Bool := s.drives && (s.log.vecI.getLsbD 9 || s.log.vecI.getLsbD 11 || s.log.vecI.getLsbD 12)

/-- MOD_READY is high (R584). -/
def State.modReady (s : State) : Bool := decide (s.boot.modState = 3) && !s.power.shutdown

def OutFrame.blank : OutFrame :=
  { port := 0, cls := 0, last := false, unprot := false, tenant := 0, model := 0, reqid := 0, seq := 0, claim := 0,
    kepoch := 0, tick := 0, length := 0, word := 0, nonce := 0, payload := [], tag := 0 }

/-- A frame of a tenant's, its plaintext in `payload`, sealed under the slot that its KEPOCH names (R353). -/
def OutFrame.retag (f : OutFrame) : OutFrame := { f with tag := Config.gcmTag kindTenant f.tenant f.kepoch f.nonce f.aad f.payload }
def OutFrame.seal (f : OutFrame) : OutFrame :=
  { f with payload := f.payload.zipIdx.map (fun (b : Byte × Nat) => b.1 ^^^ Config.keyStream kindTenant f.tenant f.kepoch f.nonce b.2) }.retag

/-- An error notice (R363, Table FR-4): reason and class of the faulty frame. -/
def State.sendNotice (s : State) (x reqid seq reason cls : Nat) : State :=
  if s.drives then
    s.sendFrame x { OutFrame.blank with cls := 15, reqid, seq, claim := s.pair.claim,
                                        word := 2 * 2 ^ 24 + reason % 256 * 2 ^ 16 + cls % 16 * 2 ^ 12 }
  else s

/-- A K frame of the hub: the units granted so far (R366, Table FR-4). It grants on its own port, so a port that has failed sends none. -/
def State.sendCredit (s : State) (x : Nat) : State :=
  if s.drives ∧ (s.port x).st ≠ 4 then
    let p := s.port x
    (s.mapPort x (fun p => { p with kSent := p.kSent + 1 })).sendFrame x
      { OutFrame.blank with cls := 6, seq := p.kSent + 1, claim := s.pair.claim, tick := p.ingressGrant }
  else s

/-- Response word (Table FR-6). -/
def responseWord (resp reason detail : Nat) : Nat := resp * 2 ^ 24 + reason % 256 * 2 ^ 16 + detail % 256 * 2 ^ 8

/-- An A frame under the KEPOCH of its input frame; an error notice in its place where the key slot is gone (R355, R363). A refusal or an
end holds a reference of its own until it leaves (R415). -/
def State.sendAnswer (s : State) (x tenant model reqid seq kepoch resp reason detail tick cls : Nat) (unprot : Bool) : State :=
  if !s.drives then s
  else
    match s.vault.slot? kindTenant tenant kepoch with
    | some k =>
      (s.mapVault (fun v => v.mapSlot kindTenant tenant kepoch (fun k =>
        { k with counter := k.counter + 1, refs := if 2 ≤ resp then k.refs + 1 else k.refs }))).sendFrame x
        { OutFrame.blank with cls := 4, unprot, tenant, model, reqid, seq, claim := s.pair.claim, kepoch, tick,
                              word := responseWord resp reason detail, nonce := sealNonce s.vault.pairPos k }.seal
    | none => s.sendNotice x reqid seq reason cls

/-! ## Requests -/

def Req.is (r : Req) (tenant seq : Nat) : Bool := r.tenant == tenant && r.seq == seq

def State.req? (s : State) (tenant seq : Nat) : Option Req := s.ledger.reqs.find? (fun r => r.is tenant seq)

def State.mapReq (s : State) (tenant seq : Nat) (f : Req → Req) : State :=
  s.mapLedger (fun l => { l with reqs := modWhere l.reqs (fun r => r.is tenant seq) f })

/-- Towers a request uses: those its window entries name. -/
def Req.towers (r : Req) : List Nat := (r.rec_.wins.map (·.tower)).foldl insertNat []

/-- Record `slot` of tower `t`. -/
def Tower.record? (t : Tower) (slot : Nat) : Option ActRec := t.records.find? (fun r => r.slot == slot)

def Tower.mapRecord (t : Tower) (slot : Nat) (f : ActRec → ActRec) : Tower :=
  { t with records := modWhere t.records (fun r => r.slot == slot) f }

/-- Chunks of slot `slot` that run on the tower. -/
def Tower.slotRunning (t : Tower) (slot : Nat) : Bool :=
  t.running.any (fun c => t.ops.any (fun o => o.id == c.op && o.slot == slot))

/-- Chunks of slot `slot` run on the tower, or wait to be run again. -/
def Tower.slotBusy (t : Tower) (slot : Nat) : Bool :=
  (t.running ++ t.queue).any (fun c => t.ops.any (fun o => o.id == c.op && o.slot == slot))

/-- A tower retires record `slot`: frames and slot areas cleared, its 24 objects zeroed, the retirement reported (R142, R217,
R312, R313). Granules that the request committed to spooled windows go to the twin as its delta (R473). -/
def State.retireRecord (s : State) (t slot : Nat) : State :=
  match (s.tower t).record? slot with
  | none => s
  | some r =>
    let s := s.clearSlotAreas t slot
    let s := s.mapTower t (fun x =>
      let ids := (x.ops.filter (fun o => o.slot == slot)).map (·.id)
      let x := if x.isCache then x else x.zeroSlot s.now slot
      { x with records := x.records.filter (fun q => q.slot != slot)
               ops := x.ops.filter (fun o => o.slot != slot)
               signalsOut := x.signalsOut.map (fun g => if g.2.2 = slot then (g.1, g.2.1, 256) else g)
               tree := x.tree.filter (fun m => field m.toNat 15 8 != slot)
               queue := x.queue.filter (fun c => !ids.contains c.op) })
    let s := s.mapLedger (fun l => { l with slots := l.slots.filter (fun p => !(p.1 == t && p.2 == slot)) })
    s.mapReq r.tenant r.seq (fun q => { q with retired := insertNat q.retired t })

/-- A frame that tells the end of a request of this tick names the code of the lower site (R165). -/
def OutFrame.amend (f : OutFrame) (tenant seq reason detail : Nat) : OutFrame :=
  if f.cls = 4 ∧ f.tenant = tenant ∧ f.seq = seq ∧ f.word / 2 ^ 24 = 3 then { f with word := responseWord 3 reason detail }.retag else f

/-- The reason of a request that has ended in this tick becomes that of a lower site (R165). -/
def State.amendEnd (s : State) (tenant seq reason detail site : Nat) : State :=
  (s.mapReq tenant seq (fun q => { q with reason, detail, reasonSite := site })).mapPorts (fun l => l.map (fun p =>
    { p with queue := p.queue.map (·.amend tenant seq reason detail), out := p.out.map (·.amend tenant seq reason detail) }))

/-- A fatal code of tower `t` reaches the hub after the request was withdrawn or ended (R165): it is logged. -/
def State.lateCode (s : State) (t : Nat) (r : ActRec) (code : Nat) : State :=
  s.logEv 0x0242 sevLogged t 0 r.seq (arg1Of r.tenant (match s.req? r.tenant r.seq with
    | some q => q.reason
    | none => 0) code)

/-- A record about to be withdrawn has a fatal code that its tower has not reported: a word sampled in this tick still counts among
those of the tick (R165), and the code is logged. The code that the fence of its tenant gave it is the hub's own. -/
def State.unreported (s : State) (t : Nat) (r : ActRec) : State :=
  if r.reported ∨ r.code < 0x80 ∨ r.code = 0x86 then s
  else
    let now := s.sampled (fun c => match c with
      | .completionWord a t' slot => decide (a ≤ s.now ∧ t' = t ∧ slot = r.slot)
      | _ => false)
    let s := match s.req? r.tenant r.seq with
      | some q => if now ∧ q.endTick = s.now ∧ q.reason = 0x82 ∧ t < q.reasonSite then s.amendEnd r.tenant r.seq 0x82 r.code t else s
      | none => s
    (s.lateCode t r r.code).mapTower t (fun x => x.mapRecord r.slot (fun q => { q with reported := true }))

/-- Withdraw record `slot` from tower `t` (R165): no further chunk is issued; it retires when the last running chunk has
committed. -/
def State.withdrawRecord (s : State) (t slot : Nat) : State :=
  let s := match (s.tower t).record? slot with
    | some r => s.unreported t r
    | none => s
  let s := s.mapTower t (fun x =>
    let ids := (x.ops.filter (fun o => o.slot == slot)).map (·.id)
    { x.mapRecord slot (fun r => { r with withdrawn := true }) with
      queue := x.queue.filter (fun c => !ids.contains c.op)
      ops := x.ops.filter (fun o => o.slot != slot || x.running.any (fun c => c.op == o.id)) })
  if (s.tower t).slotRunning slot then s else s.retireRecord t slot

/-- Withdraw a request from every tower that holds its record, and drop records still on their way. -/
def State.withdrawReq (s : State) (tenant seq : Nat) : State :=
  let s := s.mapLedger (fun l =>
    { l with slots := l.slots.filter (fun p => !(l.inflight.any (fun i => i.1 == p.1 && i.2.slot == p.2 && i.2.tenant == tenant
                        && i.2.seq == seq)))
             inflight := l.inflight.filter (fun i => !(i.2.tenant == tenant && i.2.seq == seq)) })
  (List.range 20).foldl (fun s t =>
    ((s.tower t).records.filter (fun r => r.tenant == tenant && r.seq == seq)).foldl (fun s r => s.withdrawRecord t r.slot) s) s

/-- Drop the D frames of a request that have not left. -/
def State.dropResult (s : State) (tenant seq : Nat) : State :=
  s.mapPorts (fun l => l.map (fun p => { p with queue := p.queue.filter (fun f => !(f.cls == 5 && f.tenant == tenant && f.seq == seq)) }))

/-- A decision record of the deciding unit to its twin (R459, R463). -/
def State.mirror (s : State) (d : DecisionRec) : State :=
  if s.pair.bound && s.decides && s.vault.pairKey && decide (s.pair.mode ≠ .unbound) then
    (s.mapPair (fun p => { p with decnum := p.decnum + 1, mirrored := p.mirrored + 1 })).sendTwin
      (.decision { d with decnum := s.pair.decnum + 1 })
  else s

def DecisionRec.blank : DecisionRec :=
  { decnum := 0, port := 0, kind := 0, reason := 0, tenant := 0, seq := 0, tick := 0, base := 0, shape := 0, model := 0,
    commit := 0, slotmap := [], tmask := 0, prot := false }

/-- Slot map as the record carries it: the slot on each tower from T0 up. -/
def slotList (m : List (Nat × Nat)) : List Nat := (List.range 20).map (fun t => kvGet m t 0)

def towerMask (l : List Nat) : Nat := l.foldl (fun m t => m ||| 2 ^ t) 0

/-- Release the bookings of a request. -/
def State.releaseBookings (s : State) (tenant seq : Nat) : State :=
  s.mapLedger (fun l => { l with bookings := l.bookings.filter (fun b => !(b.tenant == tenant && b.seq == seq)) })

/-! ## Ingress credit (R366, R367) -/

/-- Units that a port may still buffer: its own free units, or its twin's where those are fewer, less the units sampled since its STATUS
(R367, R465). -/
def State.freeUnits (s : State) (x : Nat) : Nat :=
  let own := 65536 - (s.port x).buffered
  if s.pair.bound && s.drives && decide (s.pair.mode = .active) then min own (s.pair.twinFree.getD x (65536 + (s.port x).ingressUsed) - (s.port x).ingressUsed) else own

/-- Raise the grant to the units received plus the free buffer, and tell the board. -/
def State.regrant (s : State) (x : Nat) : State :=
  let g := (s.port x).ingressUsed + s.freeUnits x
  if (s.port x).ingressGrant < g then (s.mapPort x (fun p => { p with ingressGrant := g })).sendCredit x else s

/-- The units of a request leave the ingress buffer. -/
def State.freeIngress (s : State) (x units : Nat) : State :=
  (s.mapPort x (fun p => { p with buffered := p.buffered - units })).regrant x

/-- Units of a request's frame. -/
def Req.units (r : Req) : Nat := cdiv (80 + r.length) 64

/-- The frame of a request leaves the ingress buffer, unless it is still arriving. -/
def State.leaveBuffer (s : State) (tenant seq : Nat) : State :=
  match s.req? tenant seq with
  | none => s
  | some r =>
    if !r.buffered ∨ (s.port r.port).incoming = some (tenant, seq) then s
    else (s.mapReq tenant seq (fun q => { q with buffered := false })).freeIngress r.port r.units

/-- The request is over: withdrawn from its towers, its undelivered frames, its place in the ingress buffer and its key reference dropped
(R355, R415); the activation slots of one that this unit does not run are free (log 38). The
bookings of a protected B request are released (R471); all others stay until their slots pass (R391). -/
def State.finishEnd (s : State) (r : Req) : State :=
  let s := (s.withdrawReq r.tenant r.seq).dropResult r.tenant r.seq
  let s := s.mapReq r.tenant r.seq (fun q => { q with phase := .ended, endTick := s.now, payload := none })
  let s := if r.cls = 2 ∧ r.prot then s.releaseBookings r.tenant r.seq else s
  let s := if r.here then s else s.mapLedger (fun l => { l with slots := l.slots.filter (fun q => !r.slotMap.contains q) })
  (s.leaveBuffer r.tenant r.seq).keyUnref kindTenant r.tenant r.kepoch

/-- The end of a request is sent: one A frame with RESP 0x03 (R362), counted in D:2101.0B and D:2001.09, mirrored. It is unprotected
unless the request is protected and the unit has its twin beside it (R10, R467). -/
def State.sendEnd (s : State) (r : Req) (reason detail : Nat) : State :=
  let s := s.mirror { DecisionRec.blank with port := r.port, kind := 5, reason, tenant := r.tenant, seq := r.seq, tick := s.now,
                                             shape := r.shape, model := r.model, commit := s.now }
  let s := s.sendAnswer r.port r.tenant r.model r.reqid r.seq r.kepoch 3 reason detail s.now r.cls (!r.prot || s.pair.mode != .active)
  let s := s.mapLedger (fun l =>
    { l with reqEnded := l.reqEnded + 1, exceptions := if reason = 0x84 ∨ reason = 0x85 then l.exceptions + 1 else l.exceptions })
  s.finishEnd r

/-- A protected G request in a pair: its end is deferred to the promised tick plus D:2201.04 (R469). -/
def State.defers (s : State) (r : Req) : Bool :=
  r.prot && decide (r.cls = 1) && s.pair.bound && decide (s.pair.mode ≠ .unbound)

/-- End an accepted request (R362, R469): `site` is the site whose report gives the reason; of the fatal codes of one tick the
one from the lower site is kept (R165). A unit that does not decide sends no end. -/
def State.endRequest (s : State) (tenant seq reason detail site : Nat) : State :=
  match s.req? tenant seq with
  | none => s
  | some r =>
    if r.phase = .ended ∧ r.endTick = s.now ∧ r.reason = 0x82 ∧ reason = 0x82 ∧ site < r.reasonSite then
      s.amendEnd tenant seq reason detail site
    else if r.phase ≠ .accepted then s
    else if r.reason ≠ 0 then
      if r.endTick = s.now ∧ site < r.reasonSite then
        s.mapReq tenant seq (fun q => { q with reason, detail, reasonSite := site })
      else s
    else
      let s := s.mapReq tenant seq (fun q => { q with reason, detail, reasonSite := site, endTick := s.now })
      if s.defers r then (s.withdrawReq tenant seq).dropResult tenant seq
      else if s.decides then s.sendEnd r reason detail
      else s.finishEnd r

/-- End every accepted request for which `p` holds. -/
def State.endAll (s : State) (p : Req → Bool) (reason site : Nat) : State :=
  (s.ledger.reqs.filter (fun r => r.phase == .accepted && p r)).foldl (fun s r => s.endRequest r.tenant r.seq reason 0 site) s

/-- Whether tower `t` holds a record of the request, or one is on its way there. -/
def State.holdsRecord (s : State) (t : Nat) (r : Req) : Bool :=
  (s.tower t).records.any (fun a => a.tenant == r.tenant && a.seq == r.seq && !a.withdrawn)
    || s.ledger.inflight.any (fun i => i.1 == t && i.2.tenant == r.tenant && i.2.seq == r.seq)

/-- The outage of tower `t` ends accepted work at once: a request with a record there whose end is not deferred (R469, R506, R516). -/
def State.endsAt (s : State) (t : Nat) : Bool := s.ledger.reqs.any (fun r => r.phase == .accepted && s.holdsRecord t r && !s.defers r)

/-! ## Results (R161, R364) -/

/-- Cut the bytes of a part at every result offset that is a multiple of 4,096; `fuel` bounds the pieces. -/
def cutPart (fuel off : Nat) (bytes : List Byte) : List (Nat × List Byte) :=
  match fuel with
  | 0 => []
  | fuel + 1 =>
    if bytes = [] then []
    else
      let n := 4096 - off % 4096
      (off, bytes.take n) :: cutPart fuel (off + n) (bytes.drop n)

/-- Queue one D frame of a request: encrypted under the KEPOCH of its input frame, with the next nonce of that key slot. -/
def State.queueResult (s : State) (r : Req) (off : Nat) (bytes : List Byte) (last : Bool) : State :=
  match s.vault.slot? kindTenant r.tenant r.kepoch with
  | none => s
  | some k =>
    (s.mapVault (fun v => v.mapSlot kindTenant r.tenant r.kepoch (fun k => { k with counter := k.counter + 1 }))).sendFrame r.port
      { OutFrame.blank with cls := 5, last, tenant := r.tenant, model := r.model, reqid := r.reqid, seq := r.seq,
                            claim := s.pair.claim, kepoch := r.kepoch, tick := r.promised, length := bytes.length, word := off,
                            nonce := sealNonce s.vault.pairPos k, payload := bytes }.seal

/-- A DELIVER part reaches the hub. -/
def State.deliverPart (s : State) (tenant seq off : Nat) (bytes : List Byte) (last : Bool) : State :=
  match s.req? tenant seq with
  | none => s
  | some r =>
    if r.phase ≠ .accepted ∨ r.reason ≠ 0 ∨ r.lastLeft then s
    else
      let pieces := cutPart bytes.length off bytes
      let s := s.mapReq tenant seq (fun q => { q with parts := q.parts ++ [(off, bytes, last)], framesLeft := q.framesLeft + pieces.length })
      pieces.zipIdx.foldl (fun s p => s.queueResult r p.1.1 p.1.2 (last && decide (p.2 + 1 = pieces.length))) s

end Sys2Proof.Machine
end

