-- ==== Sys2Proof/Machine/TowerOps.lean ====
section
/-!
DEFINITION. What towers do on their own authority: capacity (R80 to R83), sparing and region loss (R84 to R88), failure and
fences (R101, R102, R104, R250), and the course of a chunk and an operator (R91 to R100, R163 to R166, R205).
-/
namespace Sys2Proof.Machine

open Sys2Proof

/-! ## Capacity -/

def Tower.activeRegions (t : Tower) : Nat := (t.regions.filter (fun r => r.st != .lost)).length

/-- CU of all active regions (B+01.01). -/
def Tower.hwCapacity (t : Tower) : Nat := (if t.isCache then 64 else 16) * t.activeRegions

/-- Floor capacity (R80, R81). -/
def Tower.floorCapacity (t : Tower) : Nat := if t.isCache then 64 * (t.activeRegions - 1) else 16 * t.activeRegions

/-- D:6000.04 (R301, R302): 3 CU for each channel at 512 bits and 6 for each lost one; 2 and 4 on a cache tower. -/
def Tower.derate (t : Tower) : Nat :=
  sumNat (t.channels.map (fun c =>
    if c.2.width = 512 then (if t.isCache then 2 else 3) else if c.2.width = 0 then (if t.isCache then 4 else 6) else 0))

/-! ## Limits (Table LG-1) -/

/-- Limit of a tower in CU (Table LG-1), as D:2002.02 reads it. -/
def State.towerLimit (s : State) (t : Nat) : Nat :=
  let w := s.tower t
  if w.isCache then w.floorCapacity - w.derate else s.ledger.fraction * (w.floorCapacity - w.derate) / 16

/-- The limits that bookings must fit: a tower that is not ACTIVE, or whose site is sync-degraded, takes none. -/
def State.limit (s : State) : Resource → Nat
  | .tower t => if (s.tower t).mode ≠ .active ∨ s.base.spDegraded.getLsbD t then 0 else s.towerLimit t
  | .contexts _ => s.ledger.ctxLimit
  | .pair i j => min s.ledger.pairLimit ((s.linkPair i j).planes.length - 1)
  | .egress x => 400 * (laneCount (s.port x).lanes - 1) - 128

/-- The limits of Table LG-1 for every tower, ordered pair and X port, in index order (Table PR-2). -/
def State.limitList (s : State) : List Nat :=
  (List.range 20).map (fun t => s.limit (.tower t))
    ++ (List.range 23).flatMap (fun i => (List.range 23).map (fun j => s.limit (.pair i j)))
    ++ (List.range 4).map (fun x => s.limit (.egress x))

/-- STATUS (Table PR-2): the free ingress units of X0 to X3, and the limits. -/
def State.sendStatus (s : State) : State :=
  if s.hearsTwin then s.sendTwin (.status ((List.range 4).map (fun x => 65536 - (s.port x).buffered)) s.limitList (s.pair.spoolSt == 2)) else s

/-- What `f` does, told to the twin where it changes a limit of Table LG-1 or the configuration digest (Table PR-2). -/
def State.telling (s : State) (f : State → State) : State :=
  let t := f s
  if t.hearsTwin then
    let t := if t.limitList = s.limitList then t else t.sendStatus
    if t.configDigest = s.configDigest then t else t.sendConfig
  else t

/-- Code of a tower state (Table TW-3). -/
def TowerMode.code : TowerMode → Nat
  | .off => 0 | .training => 1 | .ready => 2 | .active => 3 | .fenced => 4 | .tripped => 5 | .failed => 6

/-- Code of a region state (B+02). -/
def RegionState.code : RegionState → Nat
  | .inService => 0 | .spareInUse => 1 | .noSpare => 2 | .lost => 3

/-- A record belongs to a request that has not completed: it is accepted, and its result has not left. -/
def State.runsFor (s : State) (r : ActRec) : Bool :=
  match s.req? r.tenant r.seq with
  | some q => q.phase == .accepted
  | none => false

/-- The tower holds an activation record of a booked request that has not completed (R101). -/
def State.holdsBooked (s : State) (t : Nat) : Bool := (s.tower t).records.any (fun r => r.booked && !r.withdrawn && s.runsFor r)

/-! ## Fences -/

/-- A tower out of its reset stays in TRAINING in its group until what the reset lost is loaded again (R531, R535). -/
def Tower.waiting (t : Tower) : Bool := t.mode == .training && t.resetState == .idle && !t.heldInReset && t.group.isSome

/-- State of a tower whose fence or reset is over (R531): ACTIVE in a group once no reload is due, READY outside a group. -/
def Tower.restMode (t : Tower) : TowerMode :=
  if t.group.isNone then .ready else if t.reload = [] then .active else .training

/-- Fence tower `t` with a cause of B+08.02: it takes no record and no chunk. -/
def State.fenceTower (s : State) (t cause : Nat) : State :=
  s.mapTower t (fun x =>
    { x with fence := true, fenceCause := cause
             mode := match x.mode with
               | .ready => .fenced
               | .active => .fenced
               | .training => if x.waiting then .fenced else .training
               | .off => .off | .fenced => .fenced | .tripped => .tripped | .failed => .failed })

/-- Lift a fence (R101, R531). -/
def State.unfenceTower (s : State) (t : Nat) : State :=
  s.mapTower t (fun x =>
    { x with fence := false, fenceCause := 0
             mode := match x.mode with
               | .fenced => x.restMode
               | .ready => .ready | .active => .active | .off => .off | .training => .training
               | .tripped => .tripped | .failed => .failed })

/-! ## Failure and loss -/

/-- A region leaves service in slot `slot` (R70); one that is out of it already only loses what stands in its queue. -/
def Region.leave (g : Region) (slot : Nat) : Region :=
  if g.entered.isSome then { g with queue := [], entered := none, left := slot } else { g with queue := [] }

/-- A region enters service in slot `slot` (R70). The slots since it left are not judged: a run of shortfalls that reached up to the slot
it left goes on behind the slot it enters in. -/
def Region.enter (g : Region) (slot : Nat) : Region :=
  { g with entered := some slot, shortSlot := if 0 < g.short ∧ g.left ≤ g.shortSlot + 1 then slot else g.shortSlot }

/-- The regions of a tower enter and leave service in slot `slot`. -/
def Tower.enterRegions (t : Tower) (slot : Nat) : Tower := { t with regions := t.regions.map (fun g => g.enter slot) }
def Tower.leaveRegions (t : Tower) (slot : Nat) : Tower := { t with regions := t.regions.map (fun g => g.leave slot) }

/-- The region was in service for the whole of a slot (R70): its tower has its domain on and is out of its reset, the region is not
lost, and it entered service in an earlier slot. -/
def Tower.judges (x : Tower) (g : Region) (slot : Nat) : Bool :=
  (x.mode == .ready || x.mode == .active || x.mode == .fenced || x.waiting) && g.st != .lost &&
    match g.entered with
    | some e => decide (e < slot)
    | none => false

/-- The slot that has just closed follows the region's run of shortfalls (R70). -/
def Region.follows (g : Region) (slot : Nat) : Bool := decide (g.shortSlot + 1 = slot)

/-- A tower enters FAILED (R104): hub fence, record 0x0205, and every request that holds a record there ends with 0x85. A
tower already FAILED only logs (R513). -/
def State.failTower (s : State) (t : Nat) : State :=
  if (s.tower t).mode = .failed then s.logEv 0x0205 sevLogged t
  else
    let held := s.endsAt t
    let s := s.fenceTower t 5
    let s := s.mapTower t (fun x => { x with mode := .failed }.leaveRegions (s.replica t / 1024))
    let s := s.logEv 0x0205 (if held then sevWork else sevCapacity) t
    let s := s.raiseEvent 2
    s.endAll (fun r => s.holdsRecord t r) 0x85 t

/-- Put a chunk back to be run from its start. -/
def Chunk.restart (c : Chunk) : Chunk := { c with place := none, computed := false, staged := [], badWords := [], flags := 0, code := 0 }

/-- Return the running chunks that satisfy `p` to the head of the tower chunk queue (R87). -/
def Tower.returnChunks (t : Tower) (p : Chunk → Bool) : Tower :=
  let back := t.running.filter p
  { t with queue := back.map Chunk.restart ++ t.queue, running := t.running.filter (fun c => !p c), reruns := t.reruns + back.length
           regions := t.regions.map (fun g => { g with queue := g.queue.filter (fun i => !back.any (fun c => c.id == i)) }) }

/-- The running chunks of region `r` that satisfy `p` go back to the scheduler, each by a control packet of type 0x3 (R87, R198). -/
def State.returning (s : State) (t r : Nat) (p : Chunk → Bool) : State :=
  let n := ((s.tower t).running.filter p).length
  ((List.range n).foldl (fun s _ => s.ctlTo t 3 .scheduler (.region r)) s).mapTower t (fun x => x.returnChunks p)

/-- Whether a chunk runs in region `r`. -/
def Chunk.inRegion (c : Chunk) (r : Nat) : Bool :=
  match c.place with
  | some q => q.1 == r
  | none => false

def Tower.mapRegion (t : Tower) (r : Nat) (f : Region → Region) : Tower := { t with regions := modAt t.regions r f }

/-- Code of a region loss (Table FD-1). -/
def lossCode (t : Nat) : Nat := if t < 16 then 0x0203 else 0x0204

/-- Domain d's tower, if its regulators have one phase group per region (R86): a logic domain. -/
def supplyTower (d : Nat) : Option Nat := if d < 16 then some d else if 32 ≤ d ∧ d < 36 then some (d - 16) else none

/-- The tower that a domain from 0 to 39 supplies. -/
def domainTower (d : Nat) : Nat := if d < 16 then d else if d < 32 then d - 16 else if d < 36 then d - 16 else d - 20

/-- The tower itself fails or trips in this tick: a fault of one of its domains or of the module's, a model step or a diode sample at the
trip temperature. A failure of a part of it in the same tick is only logged (R88, R505, R513). -/
def State.towerFalls (s : State) (t : Nat) : Bool :=
  let x := s.tower t
  decide (x.mode ≠ .tripped ∧ x.mode ≠ .failed) && s.sampled (fun c => match c with
    | .domainFault a y => decide (a ≤ s.now) && y.region.isNone && (decide (y.domain = 46) || (decide (y.domain < 40) && domainTower y.domain == t))
        && (s.power.domains.map (·.st)).getD y.domain 0 != 0
    | .modelStep a t' temp => decide (a ≤ s.now ∧ t' = t ∧ 1200 ≤ temp) && !x.useDiode
    | .diodeSample a u l => decide (a ≤ s.now ∧ u = t) && l.any (fun d => decide (1200 ≤ d))
    | _ => false)

/-- A region is lost (R87, R88, R514): its chunks go back to the head of the queue, capacity falls, its state reads LOST; at
floor capacity 0 the tower fails. A region already lost, or of a tower that fails in this tick, only logs (R513). -/
def State.loseRegion (s : State) (t r : Nat) : State :=
  match (s.tower t).regions[r]? with
  | none => s
  | some g =>
    if g.st = .lost ∨ s.towerFalls t then s.logEv (lossCode t) sevLogged t r
    else
      let s := (s.returning t r (fun c => c.inRegion r)).mapTower t (fun x => x.mapRegion r (fun g => { g with st := .lost, subst := none }))
      let s := (s.logEv (lossCode t) sevCapacity t r).raiseEvent 2
      if (s.tower t).floorCapacity = 0 then s.failTower t else s

/-- Number of tile `i` in a region's tile map. -/
def Region.hasTile (g : Region) (i : Nat) : Bool := g.map.getLsbD i

/-- A shortfall of `cycles` in the slot that has closed is the region's fourth in a row (R70). -/
def State.fourthShort (s : State) (t : Nat) (g : Region) (cycles : Nat) : Bool :=
  (s.tower t).judges g (s.slotClosed t) && decide (cycles < 1489) && decide (3 ≤ g.short) && g.follows (s.slotClosed t)

/-- A loss of region `r` of tower `t` by its oscillator, its supply or a fourth shortfall (R86) is sampled in this tick. -/
def State.losesNow (s : State) (t r : Nat) (g : Region) : Bool :=
  s.sampled (fun c => match c with
    | .regionOscillatorStop a t' r' => decide (a ≤ s.now ∧ t' = t ∧ r' = r)
    | .domainFault a y => decide (a ≤ s.now) && y.region == some r && supplyTower y.domain == some t && (s.power.domains.getD y.domain { st := 0, setmV := 0, current := 0, power := 0, energy := 0, faults := 0 }).st != 0
    | .shortfall a t' r' n => decide (a ≤ s.now ∧ t' = t ∧ r' = r) && s.fourthShort t g n
    | _ => false)

/-- A tile is faulted (R84, R85, R86, R88): tile 16 is the spare until it joins. A fault that falls in the tick of the loss of its
region is only logged. -/
def State.faultTile (s : State) (t r i : Nat) : State :=
  match (s.tower t).regions[r]? with
  | none => s
  | some g =>
    if (s.tower t).isCache then s.loseRegion t r
    else if g.st = .lost ∨ g.faulted.getLsbD i ∨ s.losesNow t r g ∨ s.towerFalls t then s.logEv 0x0201 sevLogged t r
    else
      let s := s.mapTower t (fun x =>
        { x.mapRegion r (fun g => { g with faulted := g.faulted ||| (1#17 <<< i), map := g.map &&& ~~~(1#17 <<< i) }) with
          tileFaults := x.tileFaults + 1 })
      if g.st = .inService ∧ i < 16 ∧ g.subst = none then
        let s := (s.returning t r (fun c => c.place == some (r, i))).mapTower t (fun x =>
          x.mapRegion r (fun g => { g with st := .spareInUse, map := g.map ||| 0x10000#17, subst := some (i, s.now) }))
        s.logEv 0x0201 sevLogged t r
      else if i = 16 ∧ g.subst = none ∧ g.st = .inService then
        (s.mapTower t (fun x => x.mapRegion r (fun g => { g with st := .noSpare }))).logEv 0x0202 sevLogged t r
      else s.loseRegion t r

/-! ## Scoreboard (R97 to R99) -/

/-- Entries a list of ranges takes: one per range of 256-byte granules. -/
def Tower.entriesUsed (t : Tower) : Nat := sumNat ((t.ops.filter (fun o => o.entered)).map (fun o => o.ranges.length))

/-- Two ranges conflict where they overlap and one of them is written. -/
def rangeConflict (a b : Bool × Nat × Nat) : Bool :=
  (a.1 || b.1) && decide (a.2.1 < b.2.2) && decide (b.2.1 < a.2.2)

/-- The hazards of an operator are clear (R97). -/
def Tower.hazardsClear (t : Tower) (o : OpInst) : Bool :=
  (t.ops.filter (fun e => decide (e.issue < o.issue))).all (fun e =>
    o.ranges.all (fun a => e.ranges.all (fun b => !rangeConflict a b)))

/-- A wait of an operator on an object of its own tower is met by the store; one on another tower's by a notice, which removes
it from the list (R141, R215, R216). -/
def State.waitsMet (s : State) (t : Nat) (o : OpInst) : Bool :=
  o.waits.all (fun w => w.1 == t && decide (w.2.2.1 ≤ ((s.tower t).syncObj w.2.1).value))

/-- An operator is ready (R91). -/
def State.opReady (s : State) (t : Nat) (o : OpInst) : Bool :=
  o.entered && (s.tower t).hazardsClear o && s.waitsMet t o

/-- An operator has become eligible: its tick has come (R90), and an unbooked one waits out a ballast pause (R501). -/
def OpInst.open_ (o : OpInst) (now pause : Nat) : Bool := decide (o.eligible ≤ now) && (o.booked || decide (pause ≤ now))

/-- Eligible operators enter the scoreboard in issue order while their ranges fit (R90, R99); one that does not fit waits, and
those behind it wait with it. -/
def enterOps (now pause free : Nat) (ops : List OpInst) : List OpInst :=
  match ops with
  | [] => []
  | o :: rest =>
    if o.entered || !o.open_ now pause then o :: enterOps now pause free rest
    else if o.ranges.length ≤ free then { o with entered := true, stalled := false } :: enterOps now pause (free - o.ranges.length) rest
    else { o with stalled := true } ::
      rest.map (fun p => if p.entered || !p.open_ now pause then p else { p with stalled := true })

/-- Operators that have begun to wait under R99. -/
def newStalls (before after : List OpInst) : Nat :=
  (after.filter (fun o => o.stalled && before.any (fun p => p.id == o.id && !p.stalled))).length

/-- A remote wait sends WATCH to the holding tower when its operator enters the scoreboard (R216). -/
def State.sendWatches (s : State) (t : Nat) (entered : List OpInst) : State :=
  entered.foldl (fun s o => o.waits.foldl (fun s w => if w.1 = t then s else s.sendSync (syncMsg 3 t w.1 w.2.1 0 0 0)) s) s

/-! ## Completion (R96, R163 to R166, R205) -/

def descNat (o : OpInst) (hi lo : Nat) : Nat := field o.word.toNat hi lo

/-- A record's completion code takes a new code: the first fatal one stands, else the highest (Table OP-10). -/
def ActRec.takeCode (r : ActRec) (code desc : Nat) : ActRec :=
  if 0x80 ≤ r.code then r
  else if 0x80 ≤ code ∨ r.code < code ∨ r.codeDesc = 0xFFFF then { r with code, codeDesc := desc }
  else r

/-- Send the signals of an operator's signal entry (R139, R163, R215): to its own tower's store at once, to another tower's by
a SIGNAL that the record then waits to have acknowledged (R205). -/
def State.sendSignal (s : State) (t slot : Nat) (entry : Nat) : State :=
  match (s.tower t).record? slot with
  | none => s
  | some r =>
    match syncRef r.slotMap (field entry 31 0) with
    | none => s
    | some (h, i) =>
      if h = t then s.signalObj t i (field entry 63 32)
      else
        (s.sendSync (syncMsg 1 t h i 0 (field entry 63 32) 0)).mapTower t
          (fun x => { x.mapRecord slot (fun r => { r with unacked := r.unacked + 1 }) with signalsOut := x.signalsOut ++ [(h, i, slot)] })

/-- Operators that have failed leave the scoreboard once nothing of them runs, or is to be run again (R165). -/
def Tower.dropFailed (t : Tower) : Tower :=
  { t with ops := t.ops.filter (fun o => !o.failed || t.running.any (fun c => c.op == o.id) || t.queue.any (fun c => c.op == o.id)) }

/-- An operator ends with a fatal code (R163, R165): it does not count as completed and signals nothing; its chunks that wait are
dropped, and those that run will commit. The code of a request already withdrawn is only logged. -/
def State.failOp (s : State) (t id code : Nat) : State :=
  match (s.tower t).ops.find? (fun o => o.id == id && !o.failed) with
  | none => s.mapTower t Tower.dropFailed
  | some o =>
    let s := s.mapTower t (fun x =>
      { x.mapRecord o.slot (fun r => { r.takeCode code o.desc with status := r.status ||| o.flags, reported := r.reported || r.withdrawn }) with
        ops := modWhere x.ops (fun p => p.id == id) (fun p => { p with failed := true })
        queue := x.queue.filter (fun c => c.op != id) }.dropFailed)
    match (s.tower t).record? o.slot with
    | some r => if r.withdrawn then s.lateCode t r code else s
    | none => s

/-- An operator completes (R96): its code is 0x01 where a copy was fenced (R160); its completion is stamped with the tower's replica of
the tally (R73), by which overruns are judged, counted and logged. -/
def State.completeOp (s : State) (t id : Nat) : State :=
  match (s.tower t).ops.find? (fun o => o.id == id) with
  | none => s
  | some o =>
    let code := if o.fencedCopies = [] then o.code else max o.code 1
    let stamp := s.replica t
    let tenant := match (s.tower t).record? o.slot with
      | some r => r.tenant
      | none => 0
    let s := s.mapTower t (fun x =>
      { x.mapRecord o.slot (fun r =>
          { r.takeCode code o.desc with status := r.status ||| o.flags, done := r.done + 1
                                        stamps := r.stamps ++ [(o.desc, o.started.getD stamp, stamp)] }) with
        ops := x.ops.filter (fun p => p.id != id), opsDone := x.opsDone + 1
        ballastUntil := if o.booked ∨ x.ballast = 0 ∨ x.ballast = 15 then x.ballastUntil else stamp + 1024 * x.ballast })
    let s := o.fencedCopies.foldl (fun s e => s.logEv 0x0340 sevLogged t 0 e) s
    let s := if o.booked ∧ o.closeTick ≤ stamp then
        (s.mapTower t (fun x => { x with overruns := x.overruns + 1 })).logEv 0x0240 sevLogged t 0 o.desc (arg1Of tenant 0 code)
      else s
    let s := if descNat o 7 0 = 0x78 then
        match (s.tower t).record? o.slot with
        | some r => s.deliverPart r.tenant r.seq (descNat o 927 896)
            ((sortBy (fun a b => decide (a.1 < b.1)) o.deliv).flatMap (·.2)) (bit (descNat o 928 928) 0)
        | none => s
      else s
    (s.sendSignal t o.slot (descNat o 831 768)).sendSignal t o.slot (descNat o 895 832)

/-- An operator completes once the sync-object store has counted the arrival of every chunk and its writes are acknowledged (R96, R202,
R205, R210, R213). -/
def State.tryComplete (s : State) (t id : Nat) : State :=
  match (s.tower t).ops.find? (fun o => o.id == id) with
  | none => s
  | some o => if o.cut ∧ !o.failed ∧ o.chunks ≤ o.tree ∧ o.unacked = 0 ∧ !o.remote then s.completeOp t id else s

/-- After a chunk of record `slot` ended: a withdrawn record whose chunks that ran have all committed retires (R165). DESIGN CHOICE (log 51):
one of them that was returned or poisoned is run again, as R96 says of every such chunk, and the record waits for it. -/
def State.settleRecord (s : State) (t slot : Nat) : State :=
  match (s.tower t).record? slot with
  | none => s
  | some r => if r.withdrawn && !(s.tower t).slotBusy slot then s.retireRecord t slot else s

/-- A chunk is read from its region's queue (R71, R77): entries leave it in the order in which they were written, so that those before
it have been read as well. -/
def Tower.dequeue (t : Tower) (chunk : Nat) : Tower :=
  { t with regions := t.regions.map (fun g =>
      { g with queue := if g.queue.contains chunk then (g.queue.dropWhile (· != chunk)).drop 1 else g.queue }) }

/-- A chunk is no longer running: it leaves its tile, and its region's queue if it still stands there (R77). -/
def Tower.finished (t : Tower) (chunk : Nat) : Tower := { t.dequeue chunk with running := t.running.filter (fun k => k.id != chunk) }

/-- A fault that ends the operator of a running chunk: the chunk ends without commit (R190, R153). -/
def State.failChunk (s : State) (t chunk code : Nat) : State :=
  match (s.tower t).running.find? (fun c => c.id == chunk) with
  | none => s
  | some c =>
    let slot := match (s.tower t).ops.find? (fun o => o.id == c.op) with
      | some o => o.slot
      | none => 256
    let s := s.mapTower t (fun x => x.finished chunk)
    (s.failOp t c.op code).settleRecord t slot

/-- A running chunk ends with a poisoned completion (R96): it is rerun from its start, requeued at the head of the queue; the
fourth in a row ends its operator with 0x81 (R163). -/
def State.poisonChunk (s : State) (t chunk : Nat) : State :=
  match (s.tower t).running.find? (fun c => c.id == chunk) with
  | none => s
  | some c =>
    if c.attempts + 1 < 4 then
      s.mapTower t (fun x =>
        { x.finished chunk with
                 reruns := x.reruns + 1
                 queue := { c.restart with attempts := c.attempts + 1, poisoned := true } :: x.queue })
    else
      let tenant := match (s.tower t).ops.find? (fun o => o.id == c.op) with
        | some o => match (s.tower t).record? o.slot with
          | some r => r.tenant
          | none => 0
        | none => 0
      (s.logEv 0x0604 sevWork t 0 0 (arg1Of tenant 0 0x81)).failChunk t chunk 0x81

end Sys2Proof.Machine
end

