-- ==== Sys2Proof/Machine/Operands.lean ====
section
/-!
DEFINITION. Operand forms: the fields of descriptors, operand slots and tensor records (Tables OP-2 to OP-5), the fields of
packets (Tables NS-2 to NS-4), the way from a coordinate to a byte, and the cost and cut of an operator (R144, R145).
-/
namespace Sys2Proof.Machine

open Sys2Proof

/-! ## Descriptor fields (Tables OP-2, OP-3, OP-8) -/

def dBit (w : BitVec 1024) (i : Nat) : Bool := w.getLsbD i
def dField (w : BitVec 1024) (hi lo : Nat) : Nat := field w.toNat hi lo

def dOpcode (w : BitVec 1024) : Nat := dField w 7 0
def dSat (w : BitVec 1024) : Bool := dBit w 8
def dRnd (w : BitVec 1024) : Nat := dField w 11 9
def dBias (w : BitVec 1024) : Bool := dBit w 12
def dEpi (w : BitVec 1024) : Bool := dBit w 13
def dVariant (w : BitVec 1024) : Nat := dField w 31 16
def dLprog (w : BitVec 1024) : Nat := dField w 47 32
def dWindow (w : BitVec 1024) : Nat := dField w 55 48
def dCut (w : BitVec 1024) : Nat := dField w 100 96
def dRedop (w : BitVec 1024) : Nat := dField w 113 112
/-- Parts of a split reduction, 1 to 16. -/
def dParts (w : BitVec 1024) : Nat := dField w 117 114 + 1
def dWait (w : BitVec 1024) (k : Nat) : Nat := dField w (703 + 64 * k) (640 + 64 * k)
def dSig (w : BitVec 1024) (k : Nat) : Nat := dField w (831 + 64 * k) (768 + 64 * k)

/-- An operand slot. -/
structure Slot where
  addr  : Nat
  trec  : Nat
  act   : Bool
  base  : Nat
  scoff : Nat
  deriving DecidableEq, Repr

def dSlot (w : BitVec 1024) (k : Nat) : Slot :=
  let o := 128 + 128 * k
  { addr := dField w (o + 63) o, trec := dField w (o + 79) (o + 64), act := dBit w (o + 80), base := dField w (o + 84) (o + 81),
    scoff := dField w (o + 127) (o + 96) }

/-- With ACT 0, space 0x00 marks the slot unused (Table OP-3). -/
def Slot.used (q : Slot) : Bool := q.act || addrSpace q.addr != 0

/-- Opcodes that work from a scratch area at base 15, and the granule offset of it (Table OP-8). -/
def dScratch (w : BitVec 1024) : Nat := 256 * (if dOpcode w = 0x10 then dField w 975 944 else dField w 927 896)

/-! ## Tensor records (Tables OP-4, OP-5) -/

structure Tensor where
  fmt    : Nat
  layout : Nat
  dims   : List Nat
  pitch  : Nat
  deriving DecidableEq, Repr

/-- Dimensions beyond the rank read as 1 (R138). -/
def tensorOf (w : BitVec 256) : Tensor :=
  let f := fun hi lo => field w.toNat hi lo
  { fmt := f 7 0, layout := f 15 8, pitch := f 223 192
    dims := (List.range 5).map (fun d => if d < f 18 16 then f (63 + 32 * d) (32 + 32 * d) else 1) }

def Tensor.dim (t : Tensor) (d : Nat) : Nat := t.dims.getD d 1

/-- Coordinates d0 to d4. -/
abbrev Coord := List Nat

def Coord.at_ (c : Coord) (d : Nat) : Nat := c.getD d 0

/-- Linear index of the row over d1 to d4. -/
def Tensor.rowIndex (t : Tensor) (c : Coord) : Nat :=
  c.at_ 1 + t.dim 1 * (c.at_ 2 + t.dim 2 * (c.at_ 3 + t.dim 3 * c.at_ 4))

/-- Bit offset of an element from the tensor's address (R113, R116, R139). In layout 0x01 the 64 × 64 tiles stand one after
another, d0 first, and a tile holds its rows in order. -/
def Tensor.bitOffset (t : Tensor) (c : Coord) : Nat :=
  let plane := 8 * t.pitch * t.dim 1
  let above := plane * (c.at_ 2 + t.dim 2 * (c.at_ 3 + t.dim 3 * c.at_ 4))
  if t.layout = 1 then
    let tile := c.at_ 1 / 64 * cdiv (t.dim 0) 64 + c.at_ 0 / 64
    above + (tile * 4096 + c.at_ 1 % 64 * 64 + c.at_ 0 % 64) * elemBits t.fmt
  else above + 8 * t.pitch * c.at_ 1 + c.at_ 0 * elemBits t.fmt

/-- Byte offset of the scale of an element's block from the scale plane (R112, R113). DEDUCED (log 54): "block order" is row order in
layout 0x01 too, not tile order. -/
def Tensor.scaleOffset (t : Tensor) (c : Coord) : Nat := t.rowIndex c * cdiv (t.dim 0) 32 + c.at_ 0 / 32

/-! ## What an operator reads: its record's bases and its package's tables -/

/-- The placed package of a model handle. -/
def State.pkg? (s : State) (model : Nat) : Option Pkg := s.pkgs.find? (fun p => p.model == model)

def Pkg.tablesOf (p : Pkg) (t : Nat) : Option PkgTables := p.tables.find? (fun x => x.tower == t)

/-- What the chunk of an operator works with. -/
structure OpEnv where
  tower  : Nat
  slot   : Nat
  model  : Nat
  id     : Nat
  word   : BitVec 1024
  bases  : List Nat
  slotMap : List (Nat × Nat)
  /-- resolved operand slots 0 to 3: module address, tensor, scale distance -/
  slots  : List (Option (Nat × Tensor × Nat))
  lane   : List Byte
  /-- the key count of an ATTN with paged keys, read when the operator became ready (R152) -/
  keys   : Nat
  /-- the bytes counted for a cost are those of LPDDR5X backing (R309), not of main memory (R144) -/
  lp     : Bool := false
  deriving DecidableEq, Repr

def PkgTables.tensor (p : PkgTables) (i : Nat) : Tensor := tensorOf (p.tensors.getD i 0)

/-- The tensor of an operand slot as its operator sees it: KV_WRITE stores its pages in the format VARIANT names (Table OP-8, R162). -/
def PkgTables.slotTensor (p : PkgTables) (w : BitVec 1024) (k : Nat) : Tensor :=
  let t := p.tensor (dSlot w k).trec
  if dOpcode w = 0x68 ∧ k = 0 then { t with fmt := dVariant w % 256 } else t

/-- The module address of an operand slot (Table OP-3): ACT adds the offset to an activation base. -/
def slotAddr (bases : List Nat) (q : Slot) : Nat := if q.act then bases.getD q.base 0 + q.addr % 2 ^ 40 else q.addr

def opEnv (s : State) (t : Nat) (o : OpInst) : OpEnv :=
  let r := (s.tower t).record? o.slot
  let bases := match r with
    | some r => r.bases
    | none => []
  let model := match r with
    | some r => r.model
    | none => 0
  let tabs := match s.pkg? model with
    | some p => p.tablesOf t
    | none => none
  { tower := t, slot := o.slot, model, id := o.id, word := o.word, bases
    slotMap := match r with
      | some r => r.slotMap
      | none => []
    slots := (List.range 4).map (fun k =>
      let q := dSlot o.word k
      if q.used then
        some (slotAddr bases q, match tabs with
          | some p => p.slotTensor o.word k
          | none => tensorOf 0, q.scoff)
      else none)
    lane := match tabs with
      | some p => p.lanes.getD (dLprog o.word) []
      | none => []
    keys := o.keyCount }

def OpEnv.slotOf (e : OpEnv) (k : Nat) : Option (Nat × Tensor × Nat) := e.slots.getD k none

def OpEnv.tensor (e : OpEnv) (k : Nat) : Tensor :=
  match e.slotOf k with
  | some q => q.2.1
  | none => tensorOf 0

def OpEnv.addr (e : OpEnv) (k : Nat) : Nat :=
  match e.slotOf k with
  | some q => q.1
  | none => 0

def OpEnv.used (e : OpEnv) (k : Nat) : Bool := (e.slotOf k).isSome

/-- The slot that gives the shape and format of the output rows: slot 0, or the result itself for DELIVER. -/
def OpEnv.outSlot (e : OpEnv) : Nat := if dOpcode e.word = 0x78 then 1 else 0

/-- PARAM field [hi:lo] of the descriptor. -/
def OpEnv.param (e : OpEnv) (hi lo : Nat) : Nat := dField e.word hi lo

/-- The routing bank of the record in slot `slot` of tower `t` (R247). -/
def State.slotBank (s : State) (t slot : Nat) : Bool :=
  match (s.tower t).record? slot with
  | some r => r.bank
  | none => s.base.activeB

/-- The routing bank of the record that chunk `chunk`, running on tower `t`, belongs to. -/
def State.chunkBank (s : State) (t chunk : Nat) : Bool :=
  match (s.tower t).running.find? (fun c => c.id == chunk) with
  | none => s.base.activeB
  | some c =>
    match (s.tower t).ops.find? (fun o => o.id == c.op) with
    | some o => s.slotBank t o.slot
    | none => s.base.activeB

/-- A placed package names an EID: as the owner of an operand's or a section's address, or as the destination of a reduction. -/
def Pkg.uses (p : Pkg) (eid : Nat) : Bool :=
  p.data.any (fun d => addrEid d.1 == eid) || p.tables.any (fun t => t.descs.any (fun w =>
    (List.range 4).any (fun k => (dSlot w k).used && !(dSlot w k).act && addrEid (dSlot w k).addr == eid)
      || (dOpcode w == 0x60 && field w.toNat 943 928 == eid)))

/-- The activation windows of tower `t` that a package uses: those under an EID that it names (R313, R341; DEDUCED, log 58). -/
def State.actWindows (s : State) (p : Pkg) (t : Nat) : List Window :=
  s.mem.windows.filter (fun w => w.tower == t && w.space == 1 && w.frames != 0 && p.uses w.eid)

/-! ## Bytes of memory by module address -/

def State.locateAddr (s : State) (a : Nat) : Loc := s.locate (addrSpace a) (addrEid a) (addrOff a)

/-- One byte at a module address, zero where it cannot be read (the chunk is then poisoned). -/
def State.byteAt (s : State) (a : Nat) : Byte :=
  match s.locateAddr a with
  | .key k => cellGet s.mem.cells k
  | .poison _ => 0
  | .unrouted => 0

/-- A byte that reads as a poisoned completion: its address, if so. -/
def State.badAt (s : State) (a : Nat) : List Nat :=
  match s.locateAddr a with
  | .key k => if s.mem.poison.contains (poisonKey k) then [a] else []
  | .poison _ => [a]
  | .unrouted => [a]

def State.bytesAt (s : State) (a n : Nat) : List Byte := (List.range n).map (fun i => s.byteAt (a + i))

/-- A 32-bit little-endian value at a module address. -/
def State.wordAt (s : State) (a : Nat) : Nat := leNat (s.bytesAt a 4)

/-- Address of byte `o` of a tensor in slot `k`: through the page table in slot 3 in layout 0x03 (R139, R152, R310). -/
def OpEnv.byteAddr (e : OpEnv) (s : State) (k o : Nat) : Nat :=
  let t := e.tensor k
  if t.layout = 3 then
    let frame := s.wordAt (e.addr 3 + 4 + 4 * (o / 65536))
    mkAddr 5 (addrEid (e.addr k)) (frame * 65536 + o % 65536)
  else e.addr k + o

/-- The bits of one element. -/
def OpEnv.rawElem (e : OpEnv) (s : State) (k : Nat) (c : Coord) : Nat :=
  let t := e.tensor k
  let o := t.bitOffset c
  let lo := leNat ((List.range 5).map (fun i => s.byteAt (e.byteAddr s k (o / 8 + i))))
  (lo >>> (o % 8)) % 2 ^ elemBits t.fmt

/-- Address of the scale byte of an element's block: the scale plane stands SCOFF bytes after the element address (Table OP-3),
through the page table too where the tensor is paged (DEDUCED, log 54). -/
def OpEnv.scaleAddr (e : OpEnv) (s : State) (k : Nat) (c : Coord) : Nat :=
  match e.slotOf k with
  | some q => e.byteAddr s k (q.2.2 + q.2.1.scaleOffset c)
  | none => 0

/-- Scale byte of an element's block. -/
def OpEnv.scaleByte (e : OpEnv) (s : State) (k : Nat) (c : Coord) : Nat :=
  if e.used k then (s.byteAt (e.scaleAddr s k c)).toNat else 0

/-- A coordinate as an input sees it: an extent of 1 is supplied to every position (R173). -/
def Tensor.clampCoord (t : Tensor) (c : Coord) : Coord := (List.range 5).map (fun d => if t.dim d = 1 then 0 else c.at_ d)

/-- The value of an element (R108, R112, R114): padding beyond an extent reads as zero. -/
def OpEnv.elem (e : OpEnv) (s : State) (k : Nat) (c : Coord) : FV :=
  let t := e.tensor k
  if (List.range 5).any (fun d => decide (t.dim d ≤ c.at_ d)) then .fin false 0 0
  else
    let v := decodeElem t.fmt (e.rawElem s k c)
    if isMx t.fmt then
      if e.scaleByte s k c = 0xFF then .nan else v.scale ((e.scaleByte s k c : Int) - 127)
    else v

/-- Addresses at which the read of an element is poisoned. -/
def OpEnv.elemBad (e : OpEnv) (s : State) (k : Nat) (c : Coord) : List Nat :=
  let t := e.tensor k
  if (List.range 5).any (fun d => decide (t.dim d ≤ c.at_ d)) then []
  else
    let o := t.bitOffset c
    s.badAt (e.byteAddr s k (o / 8)) ++ s.badAt (e.byteAddr s k ((o + elemBits t.fmt - 1) / 8)) ++
      (if isMx t.fmt && e.used k then s.badAt (e.scaleAddr s k c) else [])

/-! ## Ranges for the scoreboard (R97) -/


/-- Elements of d0 as stored: an MX format rounds them up to whole blocks of 32 (R112). -/
def Tensor.stored (t : Tensor) : Nat := if isMx t.fmt then cdiv (t.dim 0) 32 * 32 else t.dim 0

/-- Bytes a tensor spans from its address: from its first to past its last element. -/
def Tensor.span (t : Tensor) : Nat :=
  cdiv (t.bitOffset ((t.stored - 1) :: (t.dims.drop 1).map (· - 1)) + elemBits t.fmt) 8

/-- Bytes of an operand from its address to past its last element and, in an MX format, past its last scale. -/
def OpEnv.extent (e : OpEnv) (k : Nat) : Nat :=
  match e.slotOf k with
  | some q => max q.2.1.span (if isMx q.2.1.fmt then q.2.2 + q.2.1.scaleOffset (q.2.1.dims.map (· - 1)) + 1 else 0)
  | none => 0

/-- Granules of the result of a reduction: those its tensor in slot 0 touches (R208, R209). -/
def OpEnv.resultGranules (e : OpEnv) : Nat := cdiv (e.addr 0 + (e.tensor 0).span) 256 - e.addr 0 / 256

/-- Key ranges in 256-byte granules of `n` bytes from a module address, where they lie in memory of tower `t`; a range in
another tower's memory, in backing or in the store is not tracked (R98). -/
def State.trackRange (s : State) (t a n : Nat) (write : Bool) : List (Bool × Nat × Nat) :=
  match s.locateAddr a with
  | .key k =>
    if k / 2 ^ 40 = t then [(write, k / 256 * 256, cdiv (k + n) 256 * 256)] else []
  | .poison _ => []
  | .unrouted => []

/-- Slots an operator writes: slot 0, and the index output of SORT and TOPK (Table OP-7). -/
def writesSlot (op k : Nat) : Bool := k == 0 || (k == 3 && (op == 0x38 || op == 0x39))

/-- Bytes of the scratch area from its offset: the FP32 partials and, for ATTN, the FP32 maximum and sum of each row. -/
def OpEnv.scratchBytes (e : OpEnv) : Nat :=
  let t := e.tensor 0
  let rows := t.dim 1 * t.dim 2 * t.dim 3 * t.dim 4
  dParts e.word * (4 * (t.dim 0 * rows) + (if dOpcode e.word = 0x10 then 8 * rows else 0))

/-- The frames that the page table in slot 3 names for the first `bytes` bytes of a paged operand (R152, R310). -/
def OpEnv.pageFrames (e : OpEnv) (s : State) (bytes : Nat) : List Nat :=
  (List.range (cdiv bytes 65536)).map (fun i => s.wordAt (e.addr 3 + 4 + 4 * i))

/-- The frames of KV page space that slot `k` of an operator reaches: through the page table where it is paged, for ATTN limited to the
rows that its key count covers, else by its address (R152, R310). -/
def OpEnv.kvFrames (e : OpEnv) (s : State) (k : Nat) : List Nat :=
  let t := e.tensor k
  if t.layout = 3 then
    if dOpcode e.word = 0x10 ∧ e.keys = 0 then []
    else e.pageFrames s (if dOpcode e.word = 0x10 ∧ !isMx t.fmt then e.extent k - t.pitch * (t.dim 1 - e.keys) else e.extent k)
  else if e.used k ∧ addrSpace (e.addr k) = 5 then
    let lo := addrOff (e.addr k) / 65536
    (List.range (cdiv (addrOff (e.addr k) + e.extent k) 65536 - lo)).map (lo + ·)
  else []

/-- The ranges of an operand slot: the page frames its table names where it is paged, else its elements and its scale plane. -/
def State.slotRanges (s : State) (e : OpEnv) (k : Nat) : List (Bool × Nat × Nat) :=
  let w := writesSlot (dOpcode e.word) k
  match e.slotOf k with
  | some q =>
    if q.2.1.layout = 3 then
      (e.pageFrames s (e.extent k)).flatMap (fun f => s.trackRange e.tower (mkAddr 5 (addrEid q.1) (f * 65536)) 65536 w)
    else
      s.trackRange e.tower q.1 q.2.1.span w ++
        (if isMx q.2.1.fmt then s.trackRange e.tower (q.1 + q.2.2) (q.2.1.scaleOffset (q.2.1.dims.map (· - 1)) + 1) w else [])
  | none => []

/-- The ranges of an operator (R97): its slots, their scale planes or page frames, and its scratch area. -/
def State.opRanges (s : State) (e : OpEnv) : List (Bool × Nat × Nat) :=
  (List.range 4).flatMap (s.slotRanges e) ++
  (if 1 < dParts e.word then s.trackRange e.tower (e.bases.getD 15 0 + dScratch e.word) e.scratchBytes true else [])

/-! ## Cost and cut (R144, R145, R147, R168, R188; choices in assumption log 55) -/

/-- Twice the factor f of Table OP-7: 1 when both operands are MXFP4, 2 for any other pairing with MXFP4 (R117), else by the slower. -/
def rateFactor2 (fa fb : Nat) : Nat :=
  let cls := fun f => if f = 1 then 16 else if f = 2 ∨ f = 3 then 4 else 2
  if fa = 0x0A ∧ fb = 0x0A then 1 else if fa = 0x0A ∨ fb = 0x0A then 2 else max (cls fa) (cls fb)

/-- ⌈log2 n⌉. -/
def clog2 (n : Nat) : Nat := if n ≤ 1 then 0 else Nat.log2 (n - 1) + 1

/-- Bytes of `n` elements of a format, scales included. -/
def fmtBytes (fmt n : Nat) : Nat := cdiv (n * elemBits fmt) 8 + (if isMx fmt then cdiv n 32 else 0)

def boxSize (b : List (Nat × Nat)) (d : Nat) : Nat := (b.getD d (0, 1)).2 - (b.getD d (0, 1)).1
def boxElems (b : List (Nat × Nat)) : Nat := (List.range 5).foldl (fun n d => n * max 1 (boxSize b d)) 1

/-- Rows of a box: positions over d1 to d4. -/
def boxRowCount (b : List (Nat × Nat)) : Nat := boxElems b / max 1 (boxSize b 0)

/-- Output rows of a chunk over a box: of a grouped multiply, whose third dimension is the group, the rows of A in it, each of which lies
in one group; of a routed one the capacity of each of its experts, at which R150 costs it. -/
def OpEnv.outRows (e : OpEnv) (b : List (Nat × Nat)) : Nat :=
  if dOpcode e.word = 3 then boxSize b 1
  else if dOpcode e.word = 4 then dField e.word 959 944 * boxSize b 2
  else boxRowCount b

/-- Passes of a lane program over the output rows of a box (R170). -/
def OpEnv.passes (e : OpEnv) (b : List (Nat × Nat)) : Nat := cdiv (boxSize b 0) 128 * e.outRows b

/-- ⌈v⌉ of a positive finite value, at least 1. -/
def FV.ceilNat (v : FV) : Nat :=
  match v with
  | .nan => 1
  | .inf _ => 1
  | .fin neg m e => if neg then 1 else max 1 (roundAt rndUp false 0 m e 0)

/-- Source pixels that one output pixel of RESAMPLE takes: 1, 4 or 16, or the area footprint. -/
def resampleTaps (w : BitVec 1024) : Nat :=
  let v := dVariant w % 4
  if v = 0 then 1 else if v = 1 then 4 else if v = 2 then 16
  else (fvOf (BitVec.ofNat 32 (dField w 927 896))).ceilNat * (fvOf (BitVec.ofNat 32 (dField w 959 928))).ceilNat

/-- Elements of the dimensions that REDUCE reduces. -/
def reduceCount (t : Tensor) (mask : Nat) : Nat := (List.range 5).foldl (fun n d => if bit mask d then n * t.dim d else n) 1

/-- Compute cycles of a chunk (Table OP-7), over output box `b` with its share `k'` of the reduction; on a Decane region each
vector term counts four times (R147, R168). -/
def computeCycles (e : OpEnv) (isCache : Bool) (b : List (Nat × Nat)) (k' : Nat) : Nat :=
  let op := dOpcode e.word
  let el := boxElems b
  let rows := boxRowCount b
  let fa := (e.tensor 1).fmt
  let fb := (e.tensor 2).fmt
  let vec := fun x => if isCache then 4 * x else x
  let mat := fun m n => cdiv (rateFactor2 fa fb * k' * cdiv m 64 * cdiv n 64) 2 + 64
  let n0 := (e.tensor 1).dim 0
  if op = 1 then mat (boxSize b 1) (boxSize b 0)
  else if op = 2 then mat (boxSize b 1) (boxSize b 0) * (boxSize b 2 * boxSize b 3 * boxSize b 4)
  else if op = 3 then mat (boxSize b 1) (boxSize b 0) * boxSize b 2
  else if op = 4 then mat (dField e.word 959 944) (boxSize b 0) * boxSize b 2
  else if op = 8 then mat (boxSize b 0 * boxSize b 1 * boxSize b 3) (boxSize b 2)
  else if op = 0x10 then
    cdiv (boxSize b 1) 64 * boxSize b 2 * (rateFactor2 fa fb * k' * cdiv n0 64 + 6 * cdiv (64 * k') 128)
  else if op = 0x18 then vec (6 * cdiv el 128) + 16
  else if op = 0x20 then vec (e.passes b * leAt e.lane 2 2) + 16
  else if op = 0x28 then vec (cdiv (el * reduceCount (e.tensor 1) (e.param 900 896)) 128) + 16
  else if op = 0x30 ∨ op = 0x32 then vec (2 * cdiv el 128) + 16
  else if op = 0x31 then vec (cdiv ((e.tensor 3).dim 0) 128 + 2 * cdiv el 128) + 16
  else if op = 0x38 then vec (cdiv n0 128 * clog2 n0 * (clog2 n0 + 1) * rows)
  else if op = 0x39 then vec (2 * cdiv n0 128 * (clog2 (dField e.word 911 900) + 1) * rows)
  else if op = 0x40 then vec (2 * cdiv (n0 / 2) 128 * clog2 (n0 / 2) * rows)
  else if op = 0x48 then vec (2 * resampleTaps e.word * cdiv el 128) + 16
  else if op = 0x50 then vec (cdiv el 128) + 16
  else cdiv (rows * fmtBytes (e.tensor e.outSlot).fmt (boxSize b 0)) 1024 + 16

/-- An operand lies in the memory whose bytes are counted: tower main memory or KV page space (R144), or LPDDR5X backing (R309). -/
def OpEnv.inMain (e : OpEnv) (k : Nat) : Bool :=
  e.used k && (if e.lp then !(dSlot e.word k).act && addrSpace (e.addr k) == 2
    else (dSlot e.word k).act || addrSpace (e.addr k) == 1 || addrSpace (e.addr k) == 5)

/-- Main-memory bytes of `rows` rows of `n` elements of slot `k`. -/
def OpEnv.rowBytes (e : OpEnv) (k rows n : Nat) : Nat := if e.inMain k then rows * fmtBytes (e.tensor k).fmt n else 0

/-- Main-memory bytes of the part of slot `k` that supplies a box, an extent of 1 once (R173). -/
def OpEnv.boxBytes (e : OpEnv) (k : Nat) (b : List (Nat × Nat)) : Nat :=
  let n := fun d => min (boxSize b d) ((e.tensor k).dim d)
  e.rowBytes k (n 1 * n 2 * n 3 * n 4) (n 0)

/-- Bytes of the page table or index in slot 3: `n` 32-bit words. -/
def OpEnv.wordBytes (e : OpEnv) (n : Nat) : Nat := if e.inMain 3 then 4 * n else 0

/-- Bytes of the output of a box. -/
def OpEnv.outBytes (e : OpEnv) (b : List (Nat × Nat)) : Nat :=
  e.rowBytes 0 (e.outRows b) (boxSize b 0)

/-- Bytes of one part's partial results over a box. -/
def OpEnv.partialBytes (e : OpEnv) (b : List (Nat × Nat)) : Nat :=
  if e.lp then 0 else 4 * boxElems b + (if dOpcode e.word = 0x10 then 8 * boxRowCount b else 0)

/-- Main-memory bytes that a chunk reads from its inputs: its share of each operand. -/
def inputBytes (e : OpEnv) (b : List (Nat × Nat)) (k' : Nat) : Nat :=
  let op := dOpcode e.word
  let n := boxSize b 0
  let m := boxSize b 1
  let g := boxSize b 2
  let rows := boxRowCount b
  let batch := fun k => min g ((e.tensor k).dim 2) * min (boxSize b 3) ((e.tensor k).dim 3) * min (boxSize b 4) ((e.tensor k).dim 4)
  let pages := fun k => if (e.tensor k).layout = 3 then e.wordBytes (1 + cdiv (e.extent k) 65536) else 0
  if op = 1 ∨ op = 2 then e.rowBytes 1 (m * batch 1) k' + e.rowBytes 2 (n * batch 2) k'
  else if op = 3 then e.rowBytes 1 m k' + e.rowBytes 2 (n * g) k' + e.wordBytes (g + 1)
  else if op = 4 then
    e.rowBytes 1 (dField e.word 959 944 * g) k' + e.rowBytes 2 (n * g) k' + e.wordBytes ((e.tensor 1).dim 1)
  else if op = 8 then
    let kh := dVariant e.word % 256
    let kw := dVariant e.word / 256
    let x := e.tensor 1
    let groups := max 1 (e.param 991 976)
    let w := min (x.dim 0) ((n - 1) * e.param 943 936 + (kw - 1) * e.param 975 968 + 1)
    let h := min (x.dim 1) ((m - 1) * e.param 935 928 + (kh - 1) * e.param 967 960 + 1)
    let chans := min (x.dim 2 / groups) (cdiv k' (max 1 (kh * kw))) * min groups (cdiv (g * groups) (max 1 ((e.tensor 2).dim 1)))
    e.rowBytes 1 (h * chans * boxSize b 3) w + e.rowBytes 2 g k'
  else if op = 0x10 then
    let kv := e.tensor 2
    e.rowBytes 1 (m * g) ((e.tensor 1).dim 0)
      + e.rowBytes 2 (k' * min (kv.dim 2) (cdiv g (max 1 (e.param 943 928))) * kv.dim 3) (kv.dim 0) + pages 2
  else if op = 0x28 then e.rowBytes 1 (rows * reduceCount (e.tensor 1) (e.param 900 896)) n
  else if op = 0x30 then e.rowBytes 1 rows n + e.wordBytes (boxSize b (e.param 898 896))
  else if op = 0x31 then e.rowBytes 1 rows n + e.wordBytes ((e.tensor 3).dim 0)
  else if op = 0x32 then e.rowBytes 1 rows ((e.tensor 1).dim 0)
  else if op = 0x38 ∨ op = 0x39 then e.rowBytes 1 rows ((e.tensor 1).dim 0) + e.wordBytes (rows * n)
  else if op = 0x48 then
    let px := min ((e.tensor 1).dim 0 * (e.tensor 1).dim 1) (resampleTaps e.word * (n * m))
    e.rowBytes 1 (g * boxSize b 3 * boxSize b 4) px + (if bit (dVariant e.word) 8 then e.wordBytes (2 * (n * m)) else 0)
  else if op = 0x68 ∨ op = 0x69 then e.boxBytes 1 b + pages 0 + pages 1
  else if op = 0x78 then e.rowBytes 1 rows n
  else e.boxBytes 1 b + e.boxBytes 2 b + e.boxBytes 3 b

/-- Cycles that the epilogue adds to a chunk: its passes, at the program's cost (R175, R188). -/
def epilogueCycles (e : OpEnv) (isCache : Bool) (b : List (Nat × Nat)) : Nat :=
  if dEpi e.word then e.passes b * leAt e.lane 2 2 * (if isCache then 4 else 1) else 0

/-- Bytes of C, read where BIAS is set. -/
def biasBytes (e : OpEnv) (b : List (Nat × Nat)) : Nat := if dBias e.word then e.boxBytes 3 b else 0

/-- The costed cycles from compute cycles and bytes: `bytes e` of main memory (R144) and, on a Decane region, of LPDDR5X (R309). -/
def costOf (isCache : Bool) (cycles : Nat) (bytes : OpEnv → Nat) (e : OpEnv) : Nat :=
  if isCache then max (max cycles (cdiv (bytes e) 6666)) (cdiv (bytes { e with lp := true }) 53)
  else max cycles (cdiv (bytes e) 78)

/-- Costed cycles of a chunk; with SPLIT its output is one part's partials, and the bias and the epilogue belong to the combining
chunk (R145, R175, R188). -/
def chunkCost (e : OpEnv) (isCache : Bool) (b : List (Nat × Nat)) (k' : Nat) : Nat :=
  if 1 < dParts e.word then costOf isCache (computeCycles e isCache b k') (fun e => inputBytes e b k' + e.partialBytes b) e
  else costOf isCache (computeCycles e isCache b k' + epilogueCycles e isCache b) (fun e => inputBytes e b k' + biasBytes e b + e.outBytes b) e

/-- Costed cycles of a combining chunk (Table OP-12): it reads the partials of every part and writes the output. -/
def combineCost (e : OpEnv) (isCache : Bool) (b : List (Nat × Nat)) : Nat :=
  costOf isCache (cdiv (boxElems b * dParts e.word) 128 + epilogueCycles e isCache b)
    (fun e => dParts e.word * e.partialBytes b + biasBytes e b + e.outBytes b) e

/-- The largest cost of a chunk over a box: the cut keeps both kinds of chunk within bounds. -/
def boxCost (e : OpEnv) (isCache : Bool) (b : List (Nat × Nat)) (k' : Nat) : Nat :=
  if 1 < dParts e.word then max (chunkCost e isCache b k') (combineCost e isCache b) else chunkCost e isCache b k'

/-- Extents of the output dimensions that a cut divides; the third dimension of grouped multiplies is the group. -/
def cutExtents (e : OpEnv) : List Nat :=
  let op := dOpcode e.word
  let t := e.tensor e.outSlot
  if op = 3 ∨ op = 4 then [t.dim 0, t.dim 1, dField e.word 943 928] else t.dims

/-- Smallest part of a dimension: a 64 × 64 tile for matrix operators (pixels by channels for CONV), a row of 128 elements otherwise. -/
def cutFloor (op d : Nat) : Nat :=
  if op = 8 then (if d = 0 ∨ d = 2 then 64 else 1)
  else if op ≤ 0x10 then (if d ≤ 1 then 64 else 1)
  else if d = 0 then 128 else 1

/-- Halve the extents from d4 down to d0 until a chunk costs at most 2,048 cycles, at most `fuel` times. DESIGN CHOICE (log 55): half of an
odd extent rounds up, and half of an extent that would fall below one tile or one row of 128 is that tile or row; the last part is then
the smaller one. -/
def cutParts (e : OpEnv) (isCache : Bool) (k' fuel : Nat) (ext : List Nat) : List Nat :=
  match fuel with
  | 0 => ext
  | fuel + 1 =>
    if boxCost e isCache (ext.map (fun x => (0, x))) k' ≤ 2048 then ext
    else
      match [4, 3, 2, 1, 0].find? (fun d => bit (dCut e.word) d && decide (cutFloor (dOpcode e.word) d < ext.getD d 1)) with
      | some d =>
        cutParts e isCache k' fuel (modAt ext d (fun x => max (cutFloor (dOpcode e.word) d) (cdiv x 2)))
      | none => ext

/-- Ranges of one dimension cut into parts of length `p`. -/
def cutRange (ext p : Nat) : List (Nat × Nat) :=
  (List.range (cdiv ext (max 1 p))).map (fun i => (i * max 1 p, min ext ((i + 1) * max 1 p)))

/-- All boxes of a cut. -/
def cutBoxes (ext parts : List Nat) : List (List (Nat × Nat)) :=
  match ext, parts with
  | [], _ => [[]]
  | x :: xs, [] => ((cutBoxes xs []).map (fun b => (0, x) :: b))
  | x :: xs, p :: ps =>
    (cutBoxes xs ps).flatMap (fun b => (cutRange x p).map (fun r => r :: b))

/-- Extent of the reduction dimension of an operator: the keys of ATTN, d0 of the filter for CONV, d0 of A otherwise. -/
def reduceExtent (e : OpEnv) : Nat :=
  if dOpcode e.word = 0x10 then (e.tensor 2).dim 1 else (e.tensor (if dOpcode e.word = 8 then 2 else 1)).dim 0

/-- The share of the reduction of one part; with an MX operand whole blocks of 32, so that a block lies inside one accumulation
group (R118, R149). -/
def partShare (e : OpEnv) : Nat :=
  let k := cdiv (reduceExtent e) (dParts e.word)
  if dOpcode e.word ≠ 0x10 ∧ (isMx (e.tensor 1).fmt || isMx (e.tensor 2).fmt) then cdiv k 32 * 32 else k

/-- A chunk that has not run. -/
def newChunk (o : OpInst) (kind : ChunkKind) (box : List (Nat × Nat)) (part cost : Nat) : Chunk :=
  { id := 0, op := o.id, kind, box, part, cost, booked := o.booked, closeTick := o.closeTick, issue := o.issue,
    place := none, attempts := 0, poisoned := false, badWords := [], computed := false, staged := [], flags := 0, code := 0 }

/-- The slot number that stands for no activation record: that of the copy of a page retirement (R324). -/
def copySlot : Nat := 256

/-- The chunks an operator is cut into: for each box one chunk for each part of a split reduction, then the combining chunks
(R145). `id0` is the first chunk number. -/
def cutChunks (e : OpEnv) (isCache : Bool) (o : OpInst) (id0 : Nat) : List Chunk :=
  let parts := dParts e.word
  let k' := partShare e
  let ext := cutExtents e
  let boxes := cutBoxes ext (cutParts e isCache k' 128 ext)
  let normal := boxes.flatMap (fun b => (List.range parts).map (fun p => newChunk o .normal b p (chunkCost e isCache b k')))
  let combine := if parts = 1 then [] else boxes.map (fun b => newChunk o .combining b 0 (combineCost e isCache b))
  (normal ++ combine).zipIdx.map (fun p => { p.1 with id := id0 + p.2 })

end Sys2Proof.Machine
end

