-- ==== Sys2Proof/Machine/IntegrityOps.lean ====
section
/-!
DEFINITION. Errors in arrays: the error log (R328), uncorrectable words and poison (R320), loss of what an array belongs to (R318).
-/
namespace Sys2Proof.Machine

open Sys2Proof

/-- EVENT codes of Table EC-3 that are copied to the event and fault log, with their codes there. -/
def eccCopy (event : Nat) : Option Nat :=
  if event = 2 then some 0x0604 else if event = 4 then some 0x0605 else if event = 6 then some 0x0606
  else if event = 7 then some 0x0607 else none

/-- One record of the error log; a corrected error on a page with a corrected record younger than the merge window is merged
into that record (R328). A backing page is one page over all channels of both stacks. -/
def State.eccRecord (s : State) (r : EccRec) : State :=
  let same := fun (q : EccRec) => q.event == 1 && q.array == r.array && q.tower == r.tower && q.page == r.page
    && decide (s.now < q.tick + s.mem.mergeWin)
  if r.event = 1 ∧ s.mem.log.any same then
    s.mapMem (fun m => { m with log := modWhere m.log same (fun q => { q with merged := q.merged + 1 }) })
  else
    let index := s.mem.logCount % 1024
    let s := s.mapMem (fun m =>
      { m with log := (r :: m.log).take 1024, logCount := m.logCount + 1
               logLost := if m.log.length < 1024 then m.logLost else m.logLost + 1 })
    match eccCopy r.event with
    | some code => s.logEv code sevLogged r.tower (r.unit * 65536 + r.channel % 256 * 256) (if r.event = 6 ∨ r.event = 7 then r.page else 0) index
    | none => s

/-- Where a memory key lies, as an error record names it: array, tower, unit, channel, page, word, module address. -/
structure KeyPlace where
  array : Nat
  tower : Nat
  unit  : Nat
  channel : Nat
  page  : Nat
  word  : Nat
  addr  : Nat
  deriving DecidableEq, Repr

def State.keyPlace (s : State) (key : Nat) : KeyPlace :=
  let hi := key / 2 ^ 40
  let off := key % 2 ^ 40
  if 32 ≤ hi then
    let k := hi - 32
    let g := off / 1024
    let addr := match s.mem.windows.find? (fun w => w.tower == 16 + k && w.space == 2 && decide (w.base ≤ off / 65536)
        && decide (off / 65536 < w.base + w.len)) with
      | some w => mkAddr 2 w.eid (off - w.base * 65536)
      | none => 0
    { array := 3, tower := 16 + k, unit := 2 * k + g % 2, channel := g / 2 % 16, page := off / 65536, word := off % 65536 / 1024, addr }
  else
    let p := off / 65536
    let c := (s.tower hi).isCache
    { array := 2, tower := hi, unit := pageLayer c p, channel := pageChannel c p, page := p, word := off % 65536 / 32
      addr := s.pageAddr hi p (off % 65536) }

def KeyPlace.record (p : KeyPlace) (tick event symbols found : Nat) : EccRec :=
  { tick, array := p.array, event, symbols, found, tower := p.tower, unit := p.unit, channel := p.channel, page := p.page,
    word := p.word, merged := 0, addr := p.addr }

def State.mapStack (s : State) (k : Nat) (f : Stack → Stack) : State := s.mapMem (fun m => { m with dram := modAt m.dram k f })

/-- Count a read of a poisoned word (D:6100.12). -/
def State.poisonRead (s : State) (key : Nat) : State :=
  s.mapTower (s.keyPlace key).tower (fun x => { x with poisonReads := x.poisonReads + 1 })

/-- Count an access refused at the region router (D:6000.05). -/
def State.windowFault (s : State) (t : Option Nat) : State :=
  match t with
  | some t => s.mapTower t (fun x => { x with windowFaults := x.windowFaults + 1 })
  | none => s

/-- A read finds the word at a key uncorrectable (R320): it is poisoned and logged once. -/
def State.uncorrectable (s : State) (key found : Nat) : State :=
  let p := s.keyPlace key
  if s.mem.poison.contains (poisonKey key) then s
  else
    let s := s.mapMem (fun m => m.addPoison key)
    let s := if p.array = 3 then s.mapStack p.unit (fun k => { k with bad := k.bad + 1 })
      else s.mapTower p.tower (fun x => { x with wordsBad := x.wordsBad + 1 })
    s.eccRecord (p.record s.now 2 0 found)

/-- A read corrects `symbols` symbols of the word at a key. -/
def State.corrected (s : State) (key symbols found : Nat) : State :=
  let p := s.keyPlace key
  let s := if p.array = 3 then s.mapStack p.unit (fun k => { k with fixed := k.fixed + 1 })
    else s.mapTower p.tower (fun x => { x with wordsFixed := x.wordsFixed + 1 })
  s.eccRecord (p.record s.now 1 symbols found)

/-- A copy of a valid bit disagrees with the other two (R319): it is rewritten, counted and logged. -/
def State.validDisagrees (s : State) (key found : Nat) : State :=
  let p := s.keyPlace key
  (s.mapTower p.tower (fun x => { x with validDisagree := x.validDisagree + 1 })).eccRecord (p.record s.now 5 0 found)

/-- The bytes of the word or codeword of a key, in order (Table EC-1). -/
def wordKeys (key : Nat) : List Nat :=
  if 32 ≤ key / 2 ^ 40 ∧ key / 2 ^ 40 < 64 then (List.range 128).map (fun i => key / 1024 * 1024 + key % 8 + 8 * i)
  else (List.range 32).map (fun i => key / 32 * 32 + i)

/-- A miscorrected word holds other data from now on (Table EC-1). -/
def MemSt.miscorrect (m : MemSt) (key : Nat) (data : List Byte) : MemSt :=
  { m with cells := ((wordKeys key).zip data).foldl (fun c p => cellSet c p.1 p.2) m.cells }

/-- What a read of `n` bytes from key `base` finds in one word (R316, R319, R321); `found` is FOUND of Table EC-3. Where the valid bit is 0
only the copies of that bit are checked, and a poisoned word is not corrected. -/
def State.finds (s : State) (base n found : Nat) (f : WordFind) : State :=
  let key := base + f.off
  if n ≤ f.off then s
  else
    match f.what with
    | .validCopy => s.validDisagrees key found
    | .symbols k =>
      if s.mem.isValid key = false ∨ s.mem.poison.contains (poisonKey key) ∨ k = 0 then s
      else if k ≤ 2 then s.corrected key k found
      else s.uncorrectable key found
    | .miscorrected k data =>
      if s.mem.isValid key = false ∨ s.mem.poison.contains (poisonKey key) ∨ k = 0 ∨ 2 < k then s
      else (s.corrected key k found).mapMem (fun m => m.miscorrect key data)

/-- What a read finds in its words, one after another. -/
def State.readFinds (s : State) (base n found : Nat) (l : List WordFind) : State := l.foldl (fun s f => s.finds base n found f) s

/-! ## Reads and writes of a chunk that end poisoned -/

/-- A module address lies in a withdrawn page (R325). -/
def State.withdrawnAt (s : State) (a : Nat) : Bool :=
  match s.window? (addrEid a) (addrSpace a) with
  | some w => decide (addrOff a / 65536 < w.len) &&
      (s.tower w.tower).withdrawnPages.any (fun x => x.1 == (if w.space = 2 then 2 else 1) && x.2 == w.base + addrOff a / 65536)
  | none => false

/-- Poisoned completions at some addresses, counted once for each granule: a poisoned word (D:6100.12), or an access refused at its region
router (D:6000.05). -/
def State.countPoisoned (s : State) (bad : List Nat) : State :=
  (bad.foldl (fun (l : List Nat) a => if l.any (fun b => b / 256 == a / 256) then l else l ++ [a]) []).foldl (fun s a =>
    match s.locateAddr a with
    | .key k => s.poisonRead k
    | .poison f => s.windowFault f
    | .unrouted => s) s

/-- A running chunk meets poisoned completions at some addresses (R96, R302, R320): it is rerun. One of a withdrawn page is never retried
(R325): the operator ends at once, with 0x84 (DESIGN CHOICE but for ATTN, log 36). -/
def State.meetPoison (s : State) (t chunk : Nat) (bad : List Nat) : State :=
  let s := s.countPoisoned bad
  if bad.any s.withdrawnAt then s.failChunk t chunk 0x84 else s.poisonChunk t chunk

end Sys2Proof.Machine
end

