-- ==== Sys2Proof/Machine/LaneOps.lean ====
section
/-!
DEFINITION. The vector engine: registers of a pass (R169 to R172), the fields of a lane instruction word (Table LP-4), what
each opcode of Table LP-5 does to the registers, and programs with counted loops (R185).
-/
namespace Sys2Proof.Machine

open Sys2Proof

/-! ## Registers -/

/-- Registers at pass entry with no inputs (Table LP-2). -/
def LaneSt.fresh : LaneSt :=
  { v := Vector.replicate 32 (Vector.replicate 128 0), p := (Vector.replicate 8 0).set 1 (BitVec.allOnes 128), code := [], pool := Vector.replicate 32 0, d0 := 0,
    row := 0, elems := BitVec.allOnes 128, flags := 0, draws := 0, cycles := 0 }

/-- Vector register `r`. -/
def LaneSt.reg (l : LaneSt) (r : BitVec 5) : Vector Word 128 := l.v[r.toNat]

/-- Lane `i` of vector register `r`. -/
def LaneSt.lane (l : LaneSt) (r : BitVec 5) (i : Nat) : Word := (l.reg r).getD i 0

/-- Predicate register `r`; p0 reads all ones. -/
def LaneSt.pred (l : LaneSt) (r : BitVec 3) : BitVec 128 := if r = 0 then BitVec.allOnes 128 else l.p[r.toNat]

/-- Predicate named by the low three bits of a register field. -/
def predOf (r : BitVec 5) : BitVec 3 := r.setWidth 3

/-- Active lanes of an instruction (R180). -/
def LaneSt.active (l : LaneSt) (o : LaneOp) : BitVec 128 := if o.pneg then ~~~(l.pred o.pred) else l.pred o.pred

/-- Flags of the lanes that are active and hold an element (R177). -/
def LaneSt.laneFlags (l : LaneSt) (act : BitVec 128) (f : Nat → BitVec 8) : BitVec 8 :=
  (List.range 128).foldl (fun acc i => if (act &&& l.elems).getLsbD i then acc ||| f i else acc) 0

/-- Write `f i` to each active lane `i` of VD, with its flags; `cost` cycles. -/
def LaneSt.each (l : LaneSt) (o : LaneOp) (cost : Nat) (f : Nat → Word × BitVec 8) : LaneSt :=
  let act := l.active o
  { l with v := l.v.set o.vd.toNat (Vector.ofFn (fun i => if act.getLsbD i then (f i).1 else l.lane o.vd i))
           flags := l.flags ||| l.laneFlags act (fun i => (f i).2)
           cycles := l.cycles + cost }

/-- The 128-bit mask whose bit i is `f i`. -/
def maskOf (f : Nat → Bool) : BitVec 128 :=
  (List.range 128).foldl (fun acc i => if f i then acc ||| (1#128 <<< i) else acc) 0

/-- Write bit `f i` to each active lane `i` of predicate VD; p0 cannot be written. -/
def LaneSt.eachPred (l : LaneSt) (o : LaneOp) (f : Nat → Bool × BitVec 8) : LaneSt :=
  let act := l.active o
  let old := l.pred (predOf o.vd)
  let new := (act &&& maskOf (fun i => (f i).1)) ||| (~~~act &&& old)
  { l with p := if predOf o.vd = 0 then l.p else l.p.set (predOf o.vd).toNat new
           flags := l.flags ||| l.laneFlags act (fun i => (f i).2)
           cycles := l.cycles + 1 }

/-! ## Shapes of opcodes -/

def LaneSt.un (l : LaneSt) (o : LaneOp) (cost : Nat) (f : Word → Word × BitVec 8) : LaneSt :=
  l.each o cost (fun i => f (l.lane o.va i))

def LaneSt.bin (l : LaneSt) (o : LaneOp) (f : Word → Word → Word × BitVec 8) : LaneSt :=
  l.each o 1 (fun i => f (l.lane o.va i) (l.lane o.vb i))

/-- An opcode that raises no flag. -/
def LaneSt.bits (l : LaneSt) (o : LaneOp) (f : Word → Word → Word) : LaneSt := l.bin o (fun a b => (f a b, 0))

/-! ## Floating point -/

/-- FSGN: modes 0 to 3 (Table LP-5). -/
def fsgn (mode : Nat) (a b : Word) : Word × BitVec 8 :=
  if (fvOf a).isNan then (toF32 .nan, flNanin)
  else
    let mag := a &&& 0x7FFFFFFF
    let sa := a &&& 0x80000000
    let sb := b &&& 0x80000000
    if mode = 0 then (mag, 0)
    else if mode = 1 then (a ^^^ 0x80000000, 0)
    else if mode = 2 then (mag ||| sb, flagIf (fvOf b).isNan flNanin)
    else (mag ||| (sa ^^^ sb), flagIf (fvOf b).isNan flNanin)

/-- COND of FCMP (IEEE 754-2019 comparison). -/
def fcmpCond (mode : Nat) (a b : FV) : Bool :=
  let un := a.isNan || b.isNan
  let c := a.cmp b
  if mode = 0 then !un && decide (c = 0)
  else if mode = 1 then un || decide (c ≠ 0)
  else if mode = 2 then !un && decide (c < 0)
  else if mode = 3 then !un && decide (c ≤ 0)
  else if mode = 4 then !un && decide (0 < c)
  else if mode = 5 then !un && decide (0 ≤ c)
  else if mode = 6 then un
  else !un

/-- COND of ICMP. -/
def icmpCond (mode : Nat) (a b : Word) : Bool :=
  if mode = 0 then a == b
  else if mode = 1 then a != b
  else if mode = 2 then decide (a.toInt < b.toInt)
  else if mode = 3 then decide (a.toInt ≤ b.toInt)
  else if mode = 4 then decide (b.toInt < a.toInt)
  else if mode = 5 then decide (b.toInt ≤ a.toInt)
  else if mode = 6 then decide (a.toNat < b.toNat)
  else decide (b.toNat ≤ a.toNat)

/-! ## Approximations (Table LP-6, R184) -/

/-- Binary32 value at `k` units in the last place from word `w`, by its magnitude. -/
def ulpStep (w : Word) (k : Int) : Word := BitVec.ofNat 32 ((w.toNat : Int) + k).toNat

/-- 1 / (m × 2^e) truncated to 40 bits of quotient, for rounding. -/
def recipTrunc (neg : Bool) (m : Nat) (e : Int) : FV :=
  let sh := Nat.log2 m + 60
  .fin neg (2 * (2 ^ sh / m) + (if 2 ^ sh % m = 0 then 0 else 1)) (-e - sh - 1)

/-- Square root of 1 / (m × 2^e), truncated, with a sticky bit below. -/
def rsqrtTrunc (m : Nat) (e : Int) : FV :=
  let m' := if e % 2 = 0 then m else 2 * m
  let e' := if e % 2 = 0 then e else e - 1
  let sh := Nat.log2 m' + 120
  let sh := if sh % 2 = 0 then sh else sh + 1
  let q := Nat.sqrt (2 ^ sh / m')
  .fin false (2 * q + 1) (-e' / 2 - (sh / 2 : Nat) - 1)

/-- One of the values within an ulp of the exact result `x`: the two neighbours that bracket it, or x itself where it is a
binary32 value. -/
def withinUlp (choice : Word) (x : FV) : Word :=
  let lo := (fp32.encode rndZero false 0 x).1
  let hi := (fp32.encode (if x.isNeg then rndDown else rndUp) false 0 x).1
  BitVec.ofNat 32 (if choice.getLsbD 0 then lo else hi)

/-- FRCP. -/
def frcp (a : Word) : Word × BitVec 8 :=
  match fvOf a with
  | .nan => (toF32 .nan, flNanin)
  | .inf n => (toF32 (.fin n 0 0), 0)
  | .fin n m e =>
    if m = 0 then (toF32 (.inf n), 0)
    else
      let x := recipTrunc n m e
      if (fp32.encode rndZero true 0 x).2 &&& flSat ≠ 0 then (toF32 (.inf n), flOver)
      else (withinUlp (Config.approx 0x09 a) x, 0)

/-- FRSQ. -/
def frsq (a : Word) : Word × BitVec 8 :=
  match fvOf a with
  | .nan => (toF32 .nan, flNanin)
  | .inf n => if n then (toF32 .nan, flInvalid) else (0, 0)
  | .fin n m e =>
    if m = 0 then (toF32 (.inf n), 0)
    else if n then (toF32 .nan, flInvalid)
    else (withinUlp (Config.approx 0x0A a) (rsqrtTrunc m e), 0)

/-! ### Within two units in the last place

Exact values in fixed point with `prec` bits after the point, truncated; their error is far below a unit in the last place of a
binary32 result. -/

def prec : Nat := 256

/-- ln 2 in fixed point: the sum of 1 / (k · 2^k). -/
def fixLn2 : Nat := (List.range prec).foldl (fun a k => a + 2 ^ prec / ((k + 1) * 2 ^ (k + 1))) 0

/-- 2^f for a fraction `f` in fixed point: the power series of e^(f · ln 2). -/
def fixExp2 (f : Nat) : Nat :=
  let x := f * fixLn2 / 2 ^ prec
  ((List.range 64).foldl (fun (a : Nat × Nat) k => (a.1 + a.2, a.2 * x / (2 ^ prec * (k + 1)))) (0, 2 ^ prec)).1

/-- log2 y for y in [1, 2) in fixed point: one bit of the result for each squaring, `n` of them. -/
def fixLog2 (y : Nat) : Nat → Nat
  | 0 => 0
  | n + 1 =>
    let z := y * y / 2 ^ prec
    if 2 ^ (prec + 1) ≤ z then 2 ^ n + fixLog2 (z / 2) n else fixLog2 z n

/-- Integer part and fraction, in fixed point, of m × 2^e. -/
def fixOf (neg : Bool) (m : Nat) (e : Int) : Int × Nat :=
  let v := signedAt neg (if 0 ≤ e + prec then m * 2 ^ (e + prec).toNat else m / 2 ^ (-(e + prec)).toNat) 0 0
  (v / (2 ^ prec : Nat), (v % (2 ^ prec : Nat)).toNat)

/-- A word at most 2 ulp from the exact value `x`, which is not binary32 itself: one of the four nearest, as the free `choice` has it, but for
the one above where `x` lies in the last gap of its binade, from which it is more than 2 of that binade's units away. -/
def withinTwoUlp (choice : Word) (x : FV) : Word :=
  let lo := (fp32.encode rndZero true 0 x).1
  let mag := lo % 2 ^ 31
  let top := if mag % 2 ^ 23 = 2 ^ 23 - 1 then mag + 1 else mag + 2
  BitVec.ofNat 32 (lo - mag + min 0x7F7FFFFF (min top (mag + choice.toNat % 4 - 1)))

/-- FEXP2 (Table LP-6): special results; the rest within 2 ulp of 2^a. DESIGN CHOICE (log 61): a power of two with a whole exponent is exact,
where the table only bounds it. -/
def fexp2 (a : Word) : Word × BitVec 8 :=
  match fvOf a with
  | .nan => (toF32 .nan, flNanin)
  | .inf n => (toF32 (if n then .fin false 0 0 else .inf false), 0)
  | .fin n m e =>
    if (FV.fin n m e).cmp (.ofInt 128) ≥ 0 then (toF32 (.inf false), flOver)
    else if (FV.fin n m e).cmp (.ofInt (-149)) < 0 then (0, 0)
    else
      let p := fixOf n m e
      if p.2 = 0 then (toF32 (.fin false 1 p.1), 0)
      else (withinTwoUlp (Config.approx 0x0B a) (.fin false (fixExp2 p.2) (p.1 - prec)), 0)

/-- FLOG2: exact for powers of two. -/
def flog2 (a : Word) : Word × BitVec 8 :=
  match fvOf a with
  | .nan => (toF32 .nan, flNanin)
  | .inf n => if n then (toF32 .nan, flInvalid) else (toF32 (.inf false), 0)
  | .fin n m e =>
    if m = 0 then (toF32 (.inf true), 0)
    else if n then (toF32 .nan, flInvalid)
    else if 2 ^ Nat.log2 m = m then (toF32 (.ofInt ((Nat.log2 m : Int) + e)), 0)
    else
      let k := Nat.log2 m
      let l : Int := 2 ^ 128 * ((k : Int) + e) + fixLog2 (m * 2 ^ prec / 2 ^ k) 128
      (withinTwoUlp (Config.approx 0x0C a) (.fin (decide (l < 0)) (2 * l.natAbs + (if l < 0 then 0 else 1) - (if l < 0 then 1 else 0)) (-129)), 0)

/-- FTANH. -/
def ftanh (a : Word) : Word × BitVec 8 :=
  match fvOf a with
  | .nan => (toF32 .nan, flNanin)
  | .inf n => (toF32 (.fin n 1 0), 0)
  | .fin n m e =>
    if m = 0 then (a, 0)
    else if (FV.fin false m e).cmp (.ofInt 10) ≥ 0 then (toF32 (.fin n 1 0), 0)
    else if (FV.fin false m e).cmp (.fin false 1 (-12)) < 0 then
      (withinTwoUlp (Config.approx 0x0D a) (.fin n (2 * m * 2 ^ 30 - 1) (e - 31)), 0)
    else
      let y := (fixOf false m e).1.toNat * 2 ^ prec + (fixOf false m e).2
      let q := 2 * y * 2 ^ prec / fixLn2
      let big := fixExp2 (q % 2 ^ prec) * 2 ^ (q / 2 ^ prec)
      (withinTwoUlp (Config.approx 0x0D a) (.fin n ((big - 2 ^ prec) * 2 ^ 64 / (big + 2 ^ prec)) (-64)), 0)

/-! ## Conversion -/

/-- A lane as a value of format `fmt` (R182). -/
def laneValue (fmt : Nat) (a : Word) : FV := decodeElem fmt (a.toNat % 2 ^ elemBits fmt)

/-- An encoding of format `fmt` as a lane holds it: INT8 sign-extended, FP16 and BF16 zero-extended. -/
def laneWordOf (fmt w : Nat) : Word := if fmt = 0x0B then BitVec.ofInt 32 (untwos 8 w) else BitVec.ofNat 32 w

/-- CVT of one lane. -/
def cvtLane (o : LaneOp) (r16 : Nat) (a : Word) : Word × BitVec 8 :=
  let r := encodeElem (field o.imm.toNat 15 8) o.rnd.toNat o.sat r16 (laneValue (field o.imm.toNat 7 0) a)
  (laneWordOf (field o.imm.toNat 15 8) r.1, r.2 ||| flagIf (laneValue (field o.imm.toNat 7 0) a).isNan flNanin)

/-! ## Across lanes (R183) -/

/-- One stage of the tree of RSUM: neighbours are added. DESIGN CHOICE (log 61): each addition raises its own flags (R127), so that a NaN made
in one stage raises NANIN as it enters the next. -/
def rsumStage (l : List (Word × BitVec 8)) : List (Word × BitVec 8) :=
  match l with
  | a :: b :: rest =>
    let r := f32Add rndNearest a.1 b.1
    (r.1, a.2 ||| b.2 ||| r.2) :: rsumStage rest
  | [a] => [a]
  | [] => []

/-- Seven stages over 128 lanes. -/
def rsumTree (l : List (Word × BitVec 8)) : Word × BitVec 8 :=
  (rsumStage (rsumStage (rsumStage (rsumStage (rsumStage (rsumStage (rsumStage l))))))).headD (0x80000000, 0)

def LaneSt.rsumAll (l : LaneSt) (o : LaneOp) : Word × BitVec 8 :=
  rsumTree ((List.range 128).map (fun i => (if (l.active o).getLsbD i then l.lane o.va i else 0x80000000, 0)))

/-- maximumNumber or minimumNumber over the active lanes. -/
def LaneSt.pickAll (l : LaneSt) (wantMax : Bool) (o : LaneOp) : Word :=
  toF32 (((List.range 128).filter (fun i => (l.active o).getLsbD i)).foldl
    (fun acc i => acc.pick wantMax (fvOf (l.lane o.va i))) .nan)

/-! ## The fields of an instruction word (Table LP-4) -/

/-- The word of an instruction. -/
def laneWord (opc : BitVec 8) (o : LaneOp) : BitVec 64 :=
  o.imm ++ o.mode ++ BitVec.ofBool o.sat ++ o.rnd ++ o.vc ++ o.vb ++ o.va ++ o.vd ++ BitVec.ofBool o.pneg ++ o.pred ++ opc

/-- Opcode and fields of a word. -/
def laneFields (w : BitVec 64) : BitVec 8 × LaneOp :=
  (w.extractLsb' 0 8,
   { pred := w.extractLsb' 8 3, pneg := w.getLsbD 11, vd := w.extractLsb' 12 5, va := w.extractLsb' 17 5,
     vb := w.extractLsb' 22 5, vc := w.extractLsb' 27 5, rnd := w.extractLsb' 32 3, sat := w.getLsbD 35,
     mode := w.extractLsb' 36 4, imm := w.extractLsb' 40 24 })

/-! ## The opcodes of Table LP-5 on the registers -/

def LaneSt.fadd (l : LaneSt) (o : LaneOp) : LaneSt := l.bin o (f32Add o.rnd.toNat)
def LaneSt.fsub (l : LaneSt) (o : LaneOp) : LaneSt := l.bin o (f32Sub o.rnd.toNat)
def LaneSt.fmul (l : LaneSt) (o : LaneOp) : LaneSt := l.bin o (f32Mul o.rnd.toNat)
def LaneSt.ffma (l : LaneSt) (o : LaneOp) : LaneSt :=
  l.each o 1 (fun i => f32Fma o.rnd.toNat (l.lane o.va i) (l.lane o.vb i) (l.lane o.vc i))
def LaneSt.fmin (l : LaneSt) (o : LaneOp) : LaneSt := l.bin o (f32Pick false)
def LaneSt.fmax (l : LaneSt) (o : LaneOp) : LaneSt := l.bin o (f32Pick true)
def LaneSt.fsgn (l : LaneSt) (o : LaneOp) : LaneSt := l.bin o (Sys2Proof.Machine.fsgn o.mode.toNat)
def LaneSt.frnd (l : LaneSt) (o : LaneOp) : LaneSt := l.un o 1 (f32Round o.rnd.toNat)
def LaneSt.frcp (l : LaneSt) (o : LaneOp) : LaneSt := l.un o 4 Sys2Proof.Machine.frcp
def LaneSt.frsq (l : LaneSt) (o : LaneOp) : LaneSt := l.un o 4 Sys2Proof.Machine.frsq
def LaneSt.fexp2 (l : LaneSt) (o : LaneOp) : LaneSt := l.un o 4 Sys2Proof.Machine.fexp2
def LaneSt.flog2 (l : LaneSt) (o : LaneOp) : LaneSt := l.un o 4 Sys2Proof.Machine.flog2
def LaneSt.ftanh (l : LaneSt) (o : LaneOp) : LaneSt := l.un o 4 Sys2Proof.Machine.ftanh
def LaneSt.fcmp (l : LaneSt) (o : LaneOp) : LaneSt :=
  l.eachPred o (fun i =>
    let a := fvOf (l.lane o.va i)
    let b := fvOf (l.lane o.vb i)
    (fcmpCond o.mode.toNat a b, flagIf (a.isNan || b.isNan) flNanin))
def LaneSt.iadd (l : LaneSt) (o : LaneOp) : LaneSt := l.bits o (· + ·)
def LaneSt.isub (l : LaneSt) (o : LaneOp) : LaneSt := l.bits o (· - ·)
def LaneSt.imul (l : LaneSt) (o : LaneOp) : LaneSt := l.bits o (· * ·)
def LaneSt.imin (l : LaneSt) (o : LaneOp) : LaneSt := l.bits o (fun a b => if a.toInt ≤ b.toInt then a else b)
def LaneSt.imax (l : LaneSt) (o : LaneOp) : LaneSt := l.bits o (fun a b => if a.toInt ≤ b.toInt then b else a)
def LaneSt.and_ (l : LaneSt) (o : LaneOp) : LaneSt := l.bits o (· &&& ·)
def LaneSt.or_ (l : LaneSt) (o : LaneOp) : LaneSt := l.bits o (· ||| ·)
def LaneSt.xor_ (l : LaneSt) (o : LaneOp) : LaneSt := l.bits o (· ^^^ ·)
def LaneSt.shl (l : LaneSt) (o : LaneOp) : LaneSt := l.bits o (fun a b => a <<< (b.toNat % 32))
def LaneSt.shr (l : LaneSt) (o : LaneOp) : LaneSt := l.bits o (fun a b => a >>> (b.toNat % 32))
def LaneSt.sra (l : LaneSt) (o : LaneOp) : LaneSt := l.bits o (fun a b => a.sshiftRight (b.toNat % 32))
def LaneSt.icmp (l : LaneSt) (o : LaneOp) : LaneSt :=
  l.eachPred o (fun i => (icmpCond o.mode.toNat (l.lane o.va i) (l.lane o.vb i), 0))
/-- CVT on engine `eng`: lane i takes draw number draws + i of the tile's generator (R124). -/
def LaneSt.cvt (l : LaneSt) (eng : Nat) (o : LaneOp) : LaneSt :=
  let l' := l.each o 1 (fun i => cvtLane o (Config.stochastic eng (l.draws + i)).toNat (l.lane o.va i))
  { l' with draws := if o.rnd = 4 then l.draws + 128 else l.draws }
def LaneSt.mov (l : LaneSt) (o : LaneOp) : LaneSt := l.bits o (fun a _ => a)
/-- SEL writes every lane. -/
def LaneSt.sel (l : LaneSt) (o : LaneOp) : LaneSt :=
  { l with v := l.v.set o.vd.toNat (Vector.ofFn (fun i => if (l.active o).getLsbD i then l.lane o.va i else l.lane o.vb i))
           cycles := l.cycles + 1 }
def LaneSt.movi (l : LaneSt) (o : LaneOp) : LaneSt :=
  l.each o 1 (fun _ => (if o.mode = 0 then o.imm.signExtend 32 else o.imm ++ 0#8, 0))
def LaneSt.ldc (l : LaneSt) (o : LaneOp) : LaneSt := l.each o 1 (fun _ => (l.pool.getD (o.imm.toNat % 32) 0, 0))
def LaneSt.lidx (l : LaneSt) (o : LaneOp) : LaneSt :=
  l.each o 1 (fun i => (BitVec.ofNat 32 (if o.mode = 0 then i else if o.mode = 1 then l.d0 + i else l.row), 0))
/-- RSUM. DESIGN CHOICE (log 61): the tree is one operation, whose flags count where any lane with an element is active, whichever lanes
raised them; RMAX and RMIN count the NaNs of lanes with an element (R177). -/
def LaneSt.rsum (l : LaneSt) (o : LaneOp) : LaneSt := l.each o 8 (fun _ => l.rsumAll o)
def LaneSt.rmax (l : LaneSt) (o : LaneOp) : LaneSt :=
  l.each o 8 (fun i => (l.pickAll true o, flagIf (fvOf (l.lane o.va i)).isNan flNanin))
def LaneSt.rmin (l : LaneSt) (o : LaneOp) : LaneSt :=
  l.each o 8 (fun i => (l.pickAll false o, flagIf (fvOf (l.lane o.va i)).isNan flNanin))
def LaneSt.rot (l : LaneSt) (o : LaneOp) : LaneSt :=
  l.each o 2 (fun i => (l.lane o.va ((i + 128 - o.imm.toNat % 128) % 128), 0))
def LaneSt.bcst (l : LaneSt) (o : LaneOp) : LaneSt := l.each o 2 (fun _ => (l.lane o.va (o.imm.toNat % 128), 0))
def LaneSt.pand (l : LaneSt) (o : LaneOp) : LaneSt :=
  l.eachPred o (fun i => ((l.pred (predOf o.va)).getLsbD i && (l.pred (predOf o.vb)).getLsbD i, 0))
def LaneSt.por (l : LaneSt) (o : LaneOp) : LaneSt :=
  l.eachPred o (fun i => ((l.pred (predOf o.va)).getLsbD i || (l.pred (predOf o.vb)).getLsbD i, 0))
def LaneSt.pnot (l : LaneSt) (o : LaneOp) : LaneSt := l.eachPred o (fun i => (!(l.pred (predOf o.va)).getLsbD i, 0))

/-- One instruction other than LOOP; a word whose opcode Table LP-5 does not hold never passes validation (R189). -/
def LaneSt.step (eng : Nat) (w : BitVec 64) (l : LaneSt) : LaneSt :=
  let o := (laneFields w).2
  match (laneFields w).1.toNat with
  | 0x01 => l.fadd o | 0x02 => l.fsub o | 0x03 => l.fmul o | 0x04 => l.ffma o | 0x05 => l.fmin o | 0x06 => l.fmax o
  | 0x07 => l.fsgn o | 0x08 => l.frnd o | 0x09 => l.frcp o | 0x0A => l.frsq o | 0x0B => l.fexp2 o | 0x0C => l.flog2 o
  | 0x0D => l.ftanh o | 0x0E => l.fcmp o | 0x10 => l.iadd o | 0x11 => l.isub o | 0x12 => l.imul o | 0x13 => l.imin o
  | 0x14 => l.imax o | 0x15 => l.and_ o | 0x16 => l.or_ o | 0x17 => l.xor_ o | 0x18 => l.shl o | 0x19 => l.shr o
  | 0x1A => l.sra o | 0x1B => l.icmp o | 0x20 => l.cvt eng o | 0x21 => l.mov o | 0x22 => l.sel o | 0x23 => l.movi o
  | 0x24 => l.ldc o | 0x25 => l.lidx o | 0x28 => l.rsum o | 0x29 => l.rmax o | 0x2A => l.rmin o | 0x2B => l.rot o
  | 0x2C => l.bcst o | 0x30 => l.pand o | 0x31 => l.por o | 0x32 => l.pnot o
  | _ => l

/-- Repeat. -/
def iterate {α : Type} (f : α → α) (n : Nat) (a : α) : α :=
  match n with
  | 0 => a
  | n + 1 => iterate f n (f a)

/-- Iterations and body length of a LOOP. -/
def loopCount (o : LaneOp) : Nat := o.imm.toNat % 65536 + 1
def loopBody (o : LaneOp) : Nat := field o.imm.toNat 23 16

/-- Run instructions in program order (R181, R185); `fuel` is at least their number. -/
def runLanes (eng fuel : Nat) (code : List (BitVec 64)) (l : LaneSt) : LaneSt :=
  match fuel, code with
  | 0, _ => l
  | _ + 1, [] => l
  | fuel + 1, w :: rest =>
    if (laneFields w).1 = 0x38#8 then
      let o := (laneFields w).2
      runLanes eng fuel (rest.drop (loopBody o))
        (iterate (runLanes eng fuel (rest.take (loopBody o))) (loopCount o) { l with cycles := l.cycles + 1 })
    else runLanes eng fuel rest (l.step eng w)

/-- LOOP with the instructions that follow it. -/
def LaneSt.loop (l : LaneSt) (eng : Nat) (o : LaneOp) (body : List (BitVec 64)) : LaneSt :=
  iterate (runLanes eng body.length (body.take (loopBody o))) (loopCount o) { l with cycles := l.cycles + 1 }

/-! ## Engines -/

/-- The number of the vector engine of tile `i` of region `r` of tower `t`; a Decane region has the one slice. -/
def engineOf (t r i : Nat) : Nat := t * 512 + r * 17 + i

/-- Cycles of engine `eng` for work that costs `n` in a compute tile: a Decane slice takes four beats (R168). -/
def beatCost (eng n : Nat) : Nat := if 16 ≤ eng / 512 then 4 * n else n

/-- The engine after an instruction, with its cycles in beats of its own kind. -/
def beats (eng : Nat) (l l' : LaneSt) : LaneSt := { l' with cycles := l.cycles + beatCost eng (l'.cycles - l.cycles) }

/-- Apply an instruction to vector engine `eng`. -/
def State.onEngine (s : State) (eng : Nat) (f : LaneSt → LaneSt) : State :=
  s.mapEngines (fun m => kvMod m eng LaneSt.fresh (fun l => beats eng l (f l)))

/-! ## Program table entries (Table LP-3) -/

def laneLen (e : List Byte) : Nat := leAt e 0 2
def lanePcyc (e : List Byte) : Nat := leAt e 2 2
def lanePool (e : List Byte) : Vector Word 32 := Vector.ofFn (fun k => BitVec.ofNat 32 (leAt e (32 + 4 * k) 4))
def laneCode (e : List Byte) : List (BitVec 64) := (List.range (laneLen e)).map (fun i => BitVec.ofNat 64 (leAt e (160 + 8 * i) 8))

/-- A chunk starts on an engine (R171, R178): the whole entry goes to its instruction buffer and constant store, and the registers are
those of a pass of `n` elements. -/
def LaneSt.load (l : LaneSt) (entry : List Byte) (n : Nat) : LaneSt :=
  let mask := maskOf (fun i => decide (i < n))
  { LaneSt.fresh with code := laneCode entry, pool := lanePool entry, p := LaneSt.fresh.p.set 1 mask, elems := mask,
                      draws := l.draws, cycles := l.cycles }

/-- One pass of a program over registers set as Table LP-2 says; answers v0 and the flags. -/
def runPass (eng : Nat) (entry : List Byte) (l : LaneSt) : LaneSt :=
  runLanes eng (laneLen entry) (laneCode entry) { l with pool := lanePool entry }

end Sys2Proof.Machine
end

