-- ==== Sys2Proof/Machine/Staging.lean ====
section
/-!
DEFINITION. From the results of a chunk to the bytes it stages (R95): output conversion (R125, R126), MX blocks (R115), the
epilogue (R154, R170 to R177), partials in the scratch area (R145).
-/
namespace Sys2Proof.Machine

open Sys2Proof

/-- What the computation of a chunk gives. -/
structure ChunkResult where
  /-- rows of an output slot: slot, first coordinate, elements along d0; `none` is not written -/
  rows    : List (Nat × Coord × List (Option FV))
  /-- bytes moved as they are: module address and byte -/
  bytes   : List (Nat × Byte)
  flags   : BitVec 8
  /-- module addresses whose reads were poisoned -/
  bad     : List Nat
  /-- completion 0x02 applies (R150, R155) -/
  skipped : Bool
  /-- first draw of the stochastic generator left for the conversions that follow (R124); 0: none drawn -/
  draws   : Nat
  deriving DecidableEq, Repr

def ChunkResult.empty : ChunkResult := { rows := [], bytes := [], flags := 0, bad := [], skipped := false, draws := 0 }

/-- A value with the flags its computation raised and the addresses of operands that read as poison. -/
structure Elem where
  v     : FV
  flags : BitVec 8
  bad   : List Nat
  deriving DecidableEq, Repr

def Elem.ofWord (w : Word) (f : BitVec 8) (bad : List Nat) : Elem := { v := fvOf w, flags := f, bad }

/-! ## Boxes -/

def rangeList (r : Nat × Nat) : List Nat := (List.range (r.2 - r.1)).map (r.1 + ·)

/-- Range of dimension `d` of a box; a dimension the box does not name has the one index 0. -/
def boxRange (b : List (Nat × Nat)) (d : Nat) : Nat × Nat := b.getD d (0, 1)

/-- First coordinates of the rows of a box, d1 fastest. -/
def boxRows (b : List (Nat × Nat)) : List Coord :=
  (rangeList (boxRange b 4)).flatMap (fun c4 => (rangeList (boxRange b 3)).flatMap (fun c3 =>
    (rangeList (boxRange b 2)).flatMap (fun c2 => (rangeList (boxRange b 1)).map (fun c1 => [(boxRange b 0).1, c1, c2, c3, c4]))))

/-- The coordinate `i` elements along d0 from `c`. -/
def Coord.along (c : Coord) (i : Nat) : Coord := (c.at_ 0 + i) :: c.drop 1

/-- Coordinate with component `d` replaced. -/
def Coord.put (c : Coord) (d v : Nat) : Coord := (List.range 5).map (fun i => if i = d then v else c.at_ i)

/-- Rows of slot 0 over a box, each element computed by `f`. -/
def evalRows (b : List (Nat × Nat)) (f : Coord → Elem) : ChunkResult :=
  let n := (boxRange b 0).2 - (boxRange b 0).1
  let rows := (boxRows b).map (fun c => (c, (List.range n).map (fun i => f (c.along i))))
  { ChunkResult.empty with
    rows := rows.map (fun r => (0, r.1, r.2.map (fun e => some e.v)))
    flags := rows.foldl (fun a r => r.2.foldl (fun a e => a ||| e.flags) a) 0
    bad := rows.flatMap (fun r => r.2.flatMap (·.bad)) }

/-! ## Staged bytes -/

/-- The byte at `a` as staged so far, else as memory holds it. -/
def stagedByte (s : State) (acc : List (Nat × Byte)) (a : Nat) : Byte :=
  match acc.find? (fun p => p.1 == a) with
  | some p => p.2
  | none => s.byteAt a

/-- Put the low `bits` bits of `raw` at bit offset `o` of slot `k`: whole bytes at once, part of a byte beside what it holds. -/
def packElem (s : State) (e : OpEnv) (k : Nat) (acc : List (Nat × Byte)) (o bits raw : Nat) : List (Nat × Byte) :=
  if bits % 8 = 0 then
    (List.range (bits / 8)).foldl (fun acc i => (e.byteAddr s k (o / 8 + i), BitVec.ofNat 8 (raw >>> (8 * i))) :: acc) acc
  else
    (List.range ((o % 8 + bits + 7) / 8)).foldl (fun acc i =>
      let a := e.byteAddr s k (o / 8 + i)
      let old := (stagedByte s acc a).toNat
      let mask := ((2 ^ bits - 1) <<< (o % 8)) >>> (8 * i) % 256
      let new := ((raw % 2 ^ bits) <<< (o % 8)) >>> (8 * i) % 256
      (a, BitVec.ofNat 8 (old &&& (255 - mask) ||| new)) :: acc.filter (fun p => p.1 != a)) acc

/-- What staging carries: bytes, flags, draws of the stochastic generator. -/
structure Stage where
  acc   : List (Nat × Byte)
  flags : BitVec 8
  draws : Nat
  deriving DecidableEq, Repr

/-- The chunk's tile copies the program's entry into its instruction buffer and constant store, once at the start of the chunk (R178)
and again at a refetch (R190). -/
def State.loadEntry (s : State) (t : Nat) (c : Chunk) : State :=
  match (s.tower t).ops.find? (fun o => o.id == c.op), c.place with
  | some o, some q =>
    if dEpi o.word ∨ dOpcode o.word = 0x20 then
      s.mapEngines (fun m => kvMod m (engineOf t q.1 q.2) LaneSt.fresh (fun l => l.load (opEnv s t o).lane (min 128 (boxSize c.box 0))))
    else s
  | some _, none => s
  | none, _ => s

/-- Draw `i` of the generator of engine `eng` (R124). -/
def drawR16 (eng i : Nat) : Nat := (Config.stochastic (2 ^ 20 + eng) i).toNat

/-- Stage one element that is not of an MX format. -/
def stageElem (s : State) (e : OpEnv) (k fmt eng : Nat) (st : Stage) (c : Coord) (v : FV) : Stage :=
  let r := encodeElem fmt (dRnd e.word) (dSat e.word) (drawR16 eng st.draws) v
  { acc := packElem s e k st.acc ((e.tensor k).bitOffset c) (elemBits fmt) r.1
    flags := st.flags ||| r.2
    draws := if dRnd e.word = rndStochastic then st.draws + 1 else st.draws }

/-- Stage one block of an MX format: its scale byte and its elements, those beyond the row as zero (R112, R115). -/
def stageBlock (s : State) (e : OpEnv) (k fmt eng : Nat) (st : Stage) (c : Coord) (vs : List FV) : Stage :=
  let r := mxBlock fmt (dRnd e.word) (fun i => drawR16 eng (st.draws + i)) (vs ++ List.replicate (32 - vs.length) (.fin false 0 0))
  let scale := e.scaleAddr s k c
  let acc := r.2.1.zipIdx.foldl (fun acc p => packElem s e k acc ((e.tensor k).bitOffset (c.along p.2)) (elemBits fmt) p.1)
    ((scale, BitVec.ofNat 8 r.1) :: st.acc)
  { acc, flags := st.flags ||| r.2.2, draws := if dRnd e.word = rndStochastic then st.draws + vs.length else st.draws }

/-- Stage a row in blocks of 32; `fuel` bounds the blocks. -/
def stageBlocks (s : State) (e : OpEnv) (k fmt eng fuel : Nat) (st : Stage) (c : Coord) (vs : List FV) : Stage :=
  match fuel with
  | 0 => st
  | fuel + 1 =>
    if vs = [] then st
    else stageBlocks s e k fmt eng fuel (stageBlock s e k fmt eng st c (vs.take 32)) (c.along 32) (vs.drop 32)

/-- Stage a row in format `fmt`. -/
def stageRow (s : State) (e : OpEnv) (k fmt eng : Nat) (st : Stage) (c : Coord) (vs : List (Option FV)) : Stage :=
  if isMx fmt then stageBlocks s e k fmt eng vs.length st c (vs.map (fun v => v.getD (.fin false 0 0)))
  else vs.zipIdx.foldl (fun st p =>
    match p.1 with
    | some v => stageElem s e k fmt eng st (c.along p.2) v
    | none => st) st

/-! ## Lane programs over rows (R170 to R175) -/

/-- An element widened to a lane (R172): floats to FP32, integers to INT32. -/
def widen (fmt : Nat) (v : FV) : Word :=
  match intRange fmt with
  | some r => BitVec.ofInt 32 (toInteger rndNearest 0 (min r.1 (-2147483648)) (max r.2 2147483647) v).1
  | none => toF32 v

/-- The value of a lane of v0 as it is stored to a slot of format `fmt` (R174). -/
def narrow (fmt : Nat) (w : Word) : FV :=
  match intRange fmt with
  | some _ => .ofInt w.toInt
  | none => fvOf w

/-- Registers at pass entry: `regs` for v0 to v3, `n` elements (Table LP-2). -/
def passEntry (regs : List (List Word)) (d0 row n draws : Nat) : LaneSt :=
  let mask := maskOf (fun i => decide (i < n))
  { LaneSt.fresh with
    v := Vector.ofFn (fun r => Vector.ofFn (fun i => if i < n then (regs.getD r []).getD i 0 else 0))
    p := (Vector.replicate 8 0).set 1 mask
    d0, row, elems := mask, draws }

/-- Run a program over a row, pass by pass; `regs` gives the registers of `n` elements from position `i`. -/
def lanePasses (eng : Nat) (entry : List Byte) (d0 row fuel len i : Nat) (regs : Nat → Nat → List (List Word))
    (acc : List Word × BitVec 8 × Nat) : List Word × BitVec 8 × Nat :=
  match fuel with
  | 0 => acc
  | fuel + 1 =>
    if len ≤ i then acc
    else
      let n := min 128 (len - i)
      let l := runPass eng entry (passEntry (regs i n) (d0 + i) row n acc.2.2)
      lanePasses eng entry d0 row fuel len (i + 128) regs
        (acc.1 ++ (List.range n).map (fun j => l.lane 0 j), acc.2.1 ||| l.flags, l.draws)

/-- The epilogue over one row (R175): the program sees values of the output format in v0 and v1. DESIGN CHOICE (log 61): positions that the
operator does not write, the gaps of a SCATTER, enter as zeros in lanes that hold an element, and nothing is stored there. -/
def epilogueRow (s : State) (e : OpEnv) (eng : Nat) (st : Stage) (c : Coord) (vs : List (Option FV)) : Stage :=
  let k := e.outSlot
  let fmt := (e.tensor k).fmt
  let conv := vs.zipIdx.map (fun p => encodeElem fmt (dRnd e.word) (dSat e.word) (drawR16 eng (st.draws + p.2)) (p.1.getD (.fin false 0 0)))
  let words := conv.map (fun r => widen fmt (decodeElem fmt r.1))
  let draws := if dRnd e.word = rndStochastic then st.draws + vs.length else st.draws
  let r := lanePasses (2 ^ 20 + eng) e.lane (c.at_ 0) ((e.tensor k).rowIndex c) vs.length vs.length 0
    (fun i n => [(words.drop i).take n, (words.drop i).take n]) ([], 0, draws)
  let out := vs.zipIdx.map (fun p => p.1.map (fun _ => narrow fmt (r.1.getD p.2 0)))
  stageRow s e k fmt eng { acc := st.acc, flags := (conv.foldl (fun f q => f ||| q.2) st.flags) ||| r.2.1, draws := r.2.2 } c out

/-- Whether the chunk's output goes to the scratch area as FP32 partials (R145). -/
def OpEnv.partials (e : OpEnv) (c : Chunk) : Bool := decide (1 < dParts e.word) && decide (c.kind = .normal)

/-- Module address of a partial (assumption log 21): part-major FP32 in the shape of slot 0. -/
def OpEnv.partialAddr (e : OpEnv) (part : Nat) (c : Coord) : Nat :=
  let t := e.tensor 0
  let elems := t.dim 0 * t.dim 1 * t.dim 2 * t.dim 3 * t.dim 4
  e.bases.getD 15 0 + dScratch e.word + 4 * (part * elems + t.rowIndex c * t.dim 0 + c.at_ 0)

/-- Module address of a row's statistics in an ATTN part (assumption log 21): after the partials of every part, the FP32 maximum and
then the FP32 sum of each row. -/
def OpEnv.statAddr (e : OpEnv) (part : Nat) (c : Coord) : Nat :=
  let t := e.tensor 0
  let rows := t.dim 1 * t.dim 2 * t.dim 3 * t.dim 4
  e.bases.getD 15 0 + dScratch e.word + 4 * (dParts e.word * (t.dim 0 * rows)) + 8 * (part * rows + t.rowIndex c)

/-- The bytes of a 32-bit word at an address, as staged. -/
def wordBytesAt (a : Nat) (w : Word) : List (Nat × Byte) := (List.range 4).map (fun i => (a + i, BitVec.ofNat 8 (w.toNat >>> (8 * i))))

/-- Stage a row of partials. -/
def stagePartial (e : OpEnv) (part : Nat) (st : Stage) (c : Coord) (vs : List (Option FV)) : Stage :=
  vs.zipIdx.foldl (fun st p =>
    match p.1 with
    | some v =>
      let a := e.partialAddr part (c.along p.2)
      { st with acc := (List.range 4).foldl (fun acc i => (a + i, BitVec.ofNat 8 ((toF32 v).toNat >>> (8 * i))) :: acc) st.acc }
    | none => st) st

/-- Number of the stochastic generator of the tile or region that runs a chunk on tower `t`. -/
def Chunk.engine (t : Nat) (c : Chunk) : Nat :=
  match c.place with
  | some q => engineOf t q.1 q.2
  | none => t * 512

/-- Everything a chunk stages. -/
def stageAll (s : State) (e : OpEnv) (c : Chunk) (r : ChunkResult) : Stage :=
  let eng := c.engine e.tower
  r.rows.foldl (fun st row =>
    if e.partials c then stagePartial e c.part st row.2.1 row.2.2
    else if dEpi e.word && decide (row.1 = 0) then epilogueRow s e eng st row.2.1 row.2.2
    else stageRow s e row.1 (e.tensor row.1).fmt eng st row.2.1 row.2.2)
    { acc := r.bytes.reverse, flags := r.flags, draws := max s.freeCtr r.draws }

/-- A frame is not a page the request may reach: no page, another slot's, or retired (R153, R311). -/
def OpEnv.badFrame (e : OpEnv) (s : State) (k frame : Nat) : Bool :=
  match s.window? (addrEid (e.addr k)) 5 with
  | none => true
  | some w =>
    let slot := if w.tower = e.tower then e.slot else kvGet e.slotMap w.tower 256
    decide (frame = 0xFFFFFFFF) || decide (w.frames = 0) || decide (frame / w.frames ≠ slot) ||
      (s.tower w.tower).withdrawnPages.any (fun x => x.1 == 1 && x.2 == w.base + frame)

/-- The conditions that end an operator with 0x84 (R153, R311): a bad frame, or for ATTN a key count above the costed extent. -/
def OpEnv.kvFault (e : OpEnv) (s : State) : Bool :=
  (decide (dOpcode e.word = 0x10) && bit (dVariant e.word) 1 && decide ((e.tensor 2).dim 1 < e.keys)) ||
    (List.range 3).any (fun k => (e.kvFrames s k).any (fun f => e.badFrame s k f))

/-- Frames of another slot that the operands of an operator name (R311): the routers that hold them refuse them and count. -/
def OpEnv.refusedFrames (e : OpEnv) (s : State) : List Nat :=
  (List.range 3).flatMap (fun k =>
    match s.window? (addrEid (e.addr k)) 5 with
    | none => []
    | some w =>
      let slot := if w.tower = e.tower then e.slot else kvGet e.slotMap w.tower 256
      ((e.kvFrames s k).filter (fun f => decide (f ≠ 0xFFFFFFFF) && decide (w.frames = 0 ∨ f / w.frames ≠ slot))).map (fun _ => w.tower))

/-- Run the computation of chunk `chunk` of tower `t`, if it runs there for an operator of opcode `opc` and has not been
computed: its tile takes it from the region's queue, and it ends with 0x84, is poisoned, or has its outputs staged (R95, R96, R163). -/
def State.computeChunk (s : State) (t chunk opc : Nat) (eval : State → OpEnv → Chunk → ChunkResult) : State :=
  match (s.tower t).running.find? (fun c => c.id == chunk) with
  | none => s
  | some c =>
    match (s.tower t).ops.find? (fun o => o.id == c.op) with
    | none => s
    | some o =>
      let e := opEnv s t o
      if c.computed ∨ dOpcode o.word ≠ opc then s
      else
        if e.kvFault s then ((e.refusedFrames s).foldl (fun s k => s.windowFault (some k)) s).failChunk t chunk 0x84
        else
        let r := eval s e c
        if r.bad ≠ [] then s.meetPoison t chunk r.bad
        else
          let st := stageAll s e c r
          { s.mapTower t (fun x =>
              { x.dequeue chunk with
                running := modWhere x.running (fun k => k.id == chunk)
                         (fun k => { k with computed := true, attempts := 0, poisoned := false, staged := st.acc.reverse,
                                            flags := st.flags, code := if r.skipped then 2 else 0 }) }) with
            freeCtr := st.draws }

/-- The same, routed by the record's bank. -/
def State.runChunk (s : State) (t chunk opc : Nat) (eval : State → OpEnv → Chunk → ChunkResult) : State :=
  s.underBank (s.chunkBank t chunk) (fun s => s.computeChunk t chunk opc eval)

end Sys2Proof.Machine
end

