-- ==== Sys2Proof/Machine/OperatorEval.lean ====
section
/-!
DEFINITION. What each operator of the catalogue computes over the output box of a chunk (R149 to R162).
-/
namespace Sys2Proof.Machine

open Sys2Proof

/-- Input element of slot `k` as supplied to position `c` (R173). -/
def OpEnv.input (e : OpEnv) (s : State) (k : Nat) (c : Coord) : FV := e.elem s k ((e.tensor k).clampCoord c)
def OpEnv.inputBad (e : OpEnv) (s : State) (k : Nat) (c : Coord) : List Nat := e.elemBad s k ((e.tensor k).clampCoord c)

/-- An element moved or converted: NANIN where it reads NaN. -/
def moved (v : FV) (bad : List Nat) : Elem := { v, flags := flagIf v.isNan flNanin, bad }

/-- A signed 32-bit index at coordinate `c` of slot `k`. -/
def OpEnv.int (e : OpEnv) (s : State) (k : Nat) (c : Coord) : Int := untwos 32 (e.rawElem s k c)

def FV.toWord (v : FV) : Word := toF32 v

/-- A value taken into FP32 (R126), which every format but MX fits: an MX value beyond it follows R125 under the saturation bit. -/
def OpEnv.intoF32 (e : OpEnv) (v : FV) (bad : List Nat) : Elem :=
  let r := fp32.encode rndNearest (dSat e.word) 0 v
  { v := fp32.decode r.1, flags := flagIf v.isNan flNanin ||| r.2, bad }

/-- Binary32 operations on elements, with their flags: a NaN among them has raised its flag where it was read or made, and raises nothing
again (R120, R127). -/
def Elem.op (f : Word → Word → Word × BitVec 8) (a b : Elem) : Elem :=
  let r := f a.v.toWord b.v.toWord
  Elem.ofWord r.1 (a.flags ||| b.flags ||| (if a.v.isNan || b.v.isNan then 0 else r.2)) (a.bad ++ b.bad)

def Elem.add (a b : Elem) : Elem := a.op (f32Add rndNearest) b
def Elem.mul (a b : Elem) : Elem := a.op (f32Mul rndNearest) b

/-- A 32-bit word read as an FP32 operand. -/
def wordOperand (w : Nat) : Elem := moved (fvOf (BitVec.ofNat 32 w)) []

/-! ## Matrix multiplication (R114, R117 to R121, R149) -/

/-- Products along the reduction: the pairs of operands at each index, and the addresses at which they are poisoned. -/
abbrev Products := List (FV × FV × List Nat)

/-- Accumulation group (Table NF-3); 0: the whole reduction. DEDUCED (log 54) for the pairs of formats from different rows of the
table, which it does not name: the smaller group, 1 with FP32 and 16 with BF16 or FP16. -/
def groupSize (fa fb : Nat) : Nat :=
  if (intRange fa).isSome then 0 else if fa = 1 ∨ fb = 1 then 1
  else if fa = 2 ∨ fa = 3 ∨ fb = 2 ∨ fb = 3 then 16 else 32

/-- An exact sum into a running value: a NaN already in it raises nothing again (R120). -/
def accStep (acc : FV × BitVec 8) (m : FV × BitVec 8) : FV × BitVec 8 :=
  let a := acc.1.add false m.1
  (a.1, acc.2 ||| m.2 ||| (if acc.1.isNan || m.1.isNan then 0 else a.2))

/-- Exact sum of the products of one group, with flags. -/
def groupSum (g : Products) : FV × BitVec 8 := g.foldl (fun acc p => accStep acc (p.1.mul p.2.1)) (.fin false 0 0, 0)

/-- Accumulate a reduction in groups of `n` (R118, R120): a group of one is a fused multiply-add of the exact product, a larger one is
summed exactly and rounded, and its rounded sum is added to the accumulator. -/
def accumulate (n fuel : Nat) (ps : Products) (acc : Word × BitVec 8) : Word × BitVec 8 :=
  match fuel with
  | 0 => acc
  | fuel + 1 =>
    match ps with
    | [] => acc
    | p :: rest =>
      let g := if n = 1 then p.1.mul p.2.1 else
        let w := round32 rndNearest (groupSum ((p :: rest).take n))
        (fvOf w.1, w.2)
      accumulate n fuel ((p :: rest).drop (max 1 n)) (round32 rndNearest (accStep (fvOf acc.1, acc.2) g))

/-- The exact integer value of a finite value with exponent 0 or more. -/
def FV.toInt (v : FV) : Int :=
  match v with
  | .nan => 0
  | .inf _ => 0
  | .fin n m e => signedAt n m e 0

/-- The accumulator of a reduction: FP32, or INT32 saturated (R119). DEDUCED (log 54): the FP32 accumulator and each group sum start at
+0, a start the spec does not give; a reduction whose products are all −0 gives +0. -/
def reduceProducts (fa fb : Nat) (ps : Products) : Elem :=
  let bad := ps.flatMap (·.2.2)
  if groupSize fa fb = 0 then
    let i := ps.foldl (fun (a : Int) p => a + p.1.toInt * p.2.1.toInt) 0
    { v := .ofInt (max (-2147483648) (min 2147483647 i))
      flags := flagIf (decide (i < -2147483648) || decide (2147483647 < i)) flIntsat, bad }
  else
    let r := accumulate (groupSize fa fb) ps.length ps (0, 0)
    Elem.ofWord r.1 r.2 bad

/-- α and C (R149): α multiplies in FP32, C is added in FP32; an integer product with α = 1 stays exact. -/
def finishProduct (s : State) (e : OpEnv) (intAcc : Bool) (c : Coord) (a : Elem) : Elem :=
  let alpha := if dOpcode e.word ≤ 4 then e.param 991 960 else 0x3F800000
  let one := alpha == 0x3F800000
  let m := if one then a else a.mul (wordOperand alpha)
  if dBias e.word && e.used 3 && decide (dOpcode e.word ≠ 3 ∧ dOpcode e.word ≠ 4) then
    let cv := e.input s 3 c
    let bad := a.bad ++ e.inputBad s 3 c
    if intAcc && one && (intRange (e.tensor 3).fmt).isSome then { v := .ofInt (a.v.toInt + cv.toInt), flags := a.flags, bad }
    else
      m.add (e.intoF32 cv (e.inputBad s 3 c))
  else m

/-- An order that is not fixed (R121, R131): `l` by the rank of each member in combination `n`. -/
def anyOrder {α : Type} (n : Nat) (l : List α) : List α :=
  (sortBy (fun a b => decide (Config.rank n a.2 < Config.rank n b.2)) l.zipIdx).map (·.1)

/-- The combination number of an operator. -/
def OpEnv.combination (e : OpEnv) : Nat := 1 + e.tower + 32 * e.id

/-- Addresses at which a word of memory is poisoned. -/
def State.wordBad (s : State) (a : Nat) : List Nat := (List.range 4).flatMap (fun i => s.badAt (a + i))

/-- A word of the scratch area. -/
def State.scratchElem (s : State) (a : Nat) : Elem := Elem.ofWord (BitVec.ofNat 32 (s.wordAt a)) 0 (s.wordBad a)

/-- Sum of the partials of an output element, in an order that is not fixed (R121, R145). -/
def combinePartials (s : State) (e : OpEnv) (c : Coord) : Elem :=
  ((anyOrder e.combination (List.range (dParts e.word))).map (fun p => s.scratchElem (e.partialAddr p c))).foldl Elem.add
    (Elem.ofWord 0x80000000 0 [])

/-- A matrix operator over a box, from the products of one element along a range of the reduction. -/
def evalProducts (s : State) (e : OpEnv) (c : Chunk) (box : List (Nat × Nat)) (products : Coord → Nat × Nat → Products) :
    ChunkResult :=
  let fa := (e.tensor 1).fmt
  let fb := (e.tensor 2).fmt
  let k := reduceExtent e
  let share := partShare e
  let intAcc := groupSize fa fb = 0
  evalRows box (fun x =>
    if c.kind = .combining then finishProduct s e intAcc x (combinePartials s e x)
    else
      let r := reduceProducts fa fb (products x (min k (c.part * share), min k ((c.part + 1) * share)))
      if e.partials c then r else finishProduct s e intAcc x r)

/-- MATMUL and MATMUL_BATCHED: D = αA·Bᵀ (+C); A is m × K, B is n × K, K in d0. -/
def evalMatmul (s : State) (e : OpEnv) (c : Chunk) : ChunkResult :=
  evalProducts s e c c.box (fun x r =>
    (rangeList r).map (fun k =>
      let ca := [k, x.at_ 1, x.at_ 2, x.at_ 3, x.at_ 4]
      let cb := [k, x.at_ 0, x.at_ 2, x.at_ 3, x.at_ 4]
      (e.input s 1 ca, e.input s 2 cb, e.inputBad s 1 ca ++ e.inputBad s 2 cb)))

/-- Product of row `m` of A with row `n` of matrix `g` of B. -/
def groupElem (s : State) (e : OpEnv) (g : Nat) (x : Coord) : Elem :=
  finishProduct s e (groupSize (e.tensor 1).fmt (e.tensor 2).fmt = 0) x
    (reduceProducts (e.tensor 1).fmt (e.tensor 2).fmt ((List.range ((e.tensor 1).dim 0)).map (fun k =>
      let ca := [k, x.at_ 1]
      let cb := [k, x.at_ 0, g]
      (e.input s 1 ca, e.input s 2 cb, e.inputBad s 1 ca ++ e.inputBad s 2 cb))))

/-- Rows of the output computed from some rows only: those for which `g` names a group. -/
def evalSomeRows (s : State) (e : OpEnv) (box : List (Nat × Nat)) (g : Nat → Option Nat) (zero : Nat → Bool) : ChunkResult :=
  let n := rangeList (boxRange box 0)
  (rangeList (boxRange box 1)).foldl (fun acc m =>
    match g m with
    | some grp =>
      let es := n.map (fun x => groupElem s e grp [x, m])
      { acc with rows := acc.rows ++ [(0, [(boxRange box 0).1, m], es.map (fun q => some q.v))]
                 flags := es.foldl (fun f q => f ||| q.flags) acc.flags, bad := acc.bad ++ es.flatMap (·.bad) }
    | none =>
      if zero m then
        { acc with rows := acc.rows ++ [(0, [(boxRange box 0).1, m], n.map (fun _ => some (.fin false 0 0)))], skipped := true }
      else acc) ChunkResult.empty

/-- MATMUL_GROUPED (R150): group g multiplies rows offset[g] to offset[g + 1] − 1 of A by matrix g of B. -/
def evalGrouped (s : State) (e : OpEnv) (c : Chunk) : ChunkResult :=
  let off := fun g => e.int s 3 [g]
  let r := evalSomeRows s e c.box (fun m =>
    (rangeList (boxRange c.box 2)).find? (fun g => decide (off g ≤ m) && decide ((m : Int) < off (g + 1)))) (fun _ => false)
  { r with bad := r.bad ++ (List.range (e.param 943 928 + 1)).flatMap (fun g => e.elemBad s 3 [g]) }

/-- MATMUL_ROUTED (R150): each row is multiplied by its expert's matrix; a row whose expert number lies outside, and a row
beyond its expert's capacity, is skipped and written as zero. -/
def evalRouted (s : State) (e : OpEnv) (c : Chunk) : ChunkResult :=
  let groups := e.param 943 928
  let cap := e.param 959 944
  let expert := fun m => e.int s 3 [m]
  let rank := fun m => ((List.range m).filter (fun i => expert i == expert m)).length
  let valid := fun m => decide (0 ≤ expert m) && decide (expert m < groups)
  let mine := fun m => (rangeList (boxRange c.box 2)).any (fun g => (g : Int) == expert m)
  let box := [boxRange c.box 0, (0, (e.tensor 0).dim 1)]
  let r := evalSomeRows s e box
    (fun m => if valid m && mine m && decide (rank m < cap) then some (expert m).toNat else none)
    (fun m => if valid m then mine m && decide (cap ≤ rank m) else decide ((boxRange c.box 2).1 = 0))
  { r with bad := r.bad ++ (List.range ((e.tensor 1).dim 1)).flatMap (fun m => e.elemBad s 3 [m]) }

/-- CONV (R151): channels of the input in d2, the reduction over kw, kh and Cin/groups in d0 of the filter; padding is zero. -/
def evalConv (s : State) (e : OpEnv) (c : Chunk) : ChunkResult :=
  let kh := dVariant e.word % 256
  let kw := dVariant e.word / 256
  let x := e.tensor 1
  let groups := max 1 (e.param 991 976)
  let cin := x.dim 2 / groups
  let coutG := max 1 ((e.tensor 2).dim 1 / groups)
  evalProducts s e c c.box (fun o r =>
    (rangeList r).map (fun k =>
      let ix := k % max 1 kw
      let iy := k / max 1 kw % max 1 kh
      let ch := o.at_ 2 / coutG * cin + k / max 1 (kw * kh)
      let px : Int := o.at_ 0 * e.param 943 936 + ix * e.param 975 968 - e.param 959 952
      let py : Int := o.at_ 1 * e.param 935 928 + iy * e.param 967 960 - e.param 951 944
      let inside := decide (0 ≤ px) && decide (px < x.dim 0) && decide (0 ≤ py) && decide (py < x.dim 1)
      let ci := [px.toNat, py.toNat, ch, o.at_ 3]
      let cf := [k, o.at_ 2]
      (if inside then e.elem s 1 ci else .fin false 0 0, e.elem s 2 cf, (if inside then e.elemBad s 1 ci else []) ++ e.elemBad s 2 cf)))

/-! ## Values the spec does not fix bit for bit (assumption log 22) -/

/-- An element read as an operand: NANIN where it is a NaN (R127). -/
def OpEnv.operand (e : OpEnv) (s : State) (k : Nat) (c : Coord) : Elem := moved (e.input s k c) (e.inputBad s k c)

/-- An element read as an operand of FP32 arithmetic. -/
def OpEnv.operand32 (e : OpEnv) (s : State) (k : Nat) (c : Coord) : Elem := e.intoF32 (e.input s k c) (e.inputBad s k c)

/-- A free value of the elements it depends on; a NaN among them sets NANIN. -/
def freeElem (op : Nat) (params : List Nat) (deps : List Elem) : Elem :=
  Elem.ofWord (Config.realElem op (params ++ deps.map (·.v.toWord.toNat))) (deps.foldl (fun f d => f ||| d.flags) 0) (deps.flatMap (·.bad))

/-- The row of slot `k` at `c`. -/
def OpEnv.rowOf (e : OpEnv) (s : State) (k : Nat) (c : Coord) : List Elem :=
  (List.range ((e.tensor k).dim 0)).map (fun i => e.operand32 s k (c.put 0 i))

def OpEnv.rowBad (e : OpEnv) (s : State) (k : Nat) (c : Coord) : List Nat := (e.rowOf s k c).flatMap (·.bad)

/-- A quotient with a sticky bit for the rounding that follows. -/
def FV.div (a b : FV) : FV × BitVec 8 :=
  match a, b with
  | .nan, _ => (.nan, flNanin)
  | .inf _, .nan => (.nan, flNanin)
  | .fin _ _ _, .nan => (.nan, flNanin)
  | .inf _, .inf _ => (.nan, flInvalid)
  | .inf x, .fin n _ _ => (.inf (x != n), 0)
  | .fin n _ _, .inf y => (.fin (n != y) 0 0, 0)
  | .fin n1 m1 e1, .fin n2 m2 e2 =>
    if m2 = 0 then (if m1 = 0 then (.nan, flInvalid) else (.inf (n1 != n2), 0))
    else
      let q := m1 * 2 ^ 64 / m2
      (.fin (n1 != n2) (2 * q + (if m1 * 2 ^ 64 % m2 = 0 then 0 else 1)) (e1 - e2 - 65), 0)

def f32Div (a b : Word) : Word × BitVec 8 := round32 rndNearest ((fvOf a).div (fvOf b))

/-! ## Attention (R152, R153; choices in assumption log 22) -/

/-- Keys that query position `q` of an ATTN chunk sees, of `n` cached keys and `m` queries (R152): with the causal bit, up to
its own position counted from the end of the cached keys; a query that stands before the first of them sees none. -/
def attnKeys (causal : Bool) (n m q : Nat) : Nat := if causal then min n (n + q + 1 - m) else n

/-- e^d of a score less its maximum, as the engine forms it: 1 at 0 and 0 at −∞; its bits elsewhere are not given (a free value). -/
def attnExp (d : Elem) : Elem :=
  if d.v.isNan then d
  else if d.v.isZero then { d with v := .fin false 1 0 }
  else if d.v.isInf && d.v.isNeg then { d with v := .fin false 0 0 }
  else Elem.ofWord (Config.realElem 0x10 [d.v.toWord.toNat]) d.flags d.bad

/-- The larger of two scores (R111): a NaN has set its flag where it was read or made. -/
def Elem.max2 (a b : Elem) : Elem := { v := a.v.pick true b.v, flags := a.flags ||| b.flags, bad := a.bad ++ b.bad }

/-- −∞, the maximum of no score. -/
def Elem.least : Elem := { v := .inf true, flags := 0, bad := [] }

def Elem.zero : Elem := { v := .fin false 0 0, flags := 0, bad := [] }

/-- a − b. -/
def Elem.sub (a b : Elem) : Elem := a.op (f32Sub rndNearest) b

/-- The score of key `k` for the query of row `x`: the matrix product of Q and K, multiplied by the softmax scale in FP32. -/
def attnScore (s : State) (e : OpEnv) (x : Coord) (k : Nat) : Elem :=
  let perKv := max 1 (e.param 943 928)
  let p := reduceProducts (e.tensor 1).fmt (e.tensor 2).fmt ((List.range ((e.tensor 1).dim 0)).map (fun i =>
    let ca := [i, x.at_ 1, x.at_ 2]
    let cb := [i, k, x.at_ 2 / perKv, 0]
    (e.input s 1 ca, e.input s 2 cb, e.inputBad s 1 ca ++ e.inputBad s 2 cb)))
  p.mul (Elem.ofWord (BitVec.ofNat 32 (e.param 927 896)) 0 [])

/-- How many keys the query of a row sees. -/
def attnSeen (e : OpEnv) (x : Coord) : Nat :=
  let n := if bit (dVariant e.word) 1 then e.keys else (e.tensor 2).dim 1
  attnKeys (bit (dVariant e.word) 0) n ((e.tensor 1).dim 1) (x.at_ 1)

/-- The keys a chunk's row takes: those its query sees, within the chunk's part. -/
def attnRange (e : OpEnv) (c : Chunk) (x : Coord) : List Nat :=
  let seen := attnSeen e x
  let share := partShare e
  if e.partials c then rangeList (min seen (c.part * share), min seen ((c.part + 1) * share)) else List.range seen

/-- Row maximum, row sum and the sum of one output column over the keys of a row (R152), all in FP32. The sums of one chunk are not
divided, and run in one order on every tower (R131, R132). -/
def attnRow (s : State) (e : OpEnv) (c : Chunk) (x : Coord) : Elem × Elem × Elem :=
  let perKv := max 1 (e.param 943 928)
  let scores := (attnRange e c x).map (fun k => (k, attnScore s e x k))
  let top := scores.foldl (fun a q => a.max2 q.2) Elem.least
  let ps := (anyOrder 0 scores).map (fun q => (q.1, attnExp (q.2.sub top)))
  (top, ps.foldl (fun a q => a.add q.2) Elem.zero,
    ps.foldl (fun a q => a.add (q.2.mul (e.operand32 s 2 [x.at_ 0, q.1, x.at_ 2 / perKv, 1]))) Elem.zero)

/-- The parts of a split row combined: each part rescaled by its row maximum before the sum (R153). -/
def attnCombine (s : State) (e : OpEnv) (x : Coord) : Elem :=
  let parts := (anyOrder e.combination (List.range (dParts e.word))).map (fun p =>
    (s.scratchElem (e.statAddr p x), s.scratchElem (e.statAddr p x + 4), s.scratchElem (e.partialAddr p x)))
  let top := parts.foldl (fun a q => a.max2 q.1) Elem.least
  let scaled := parts.map (fun q => let w := attnExp (q.1.sub top); (w.mul q.2.1, w.mul q.2.2))
  (scaled.foldl (fun a q => a.add q.2) Elem.zero).op f32Div (scaled.foldl (fun a q => a.add q.1) Elem.zero)

/-- ATTN: softmax(scale · QKᵀ + mask)·V; with SPLIT a part keeps its unscaled column sums, row maxima and row sums in the scratch area.
The spec states no result for a query that sees no key (log 22): a free value. -/
def evalAttn (s : State) (e : OpEnv) (c : Chunk) : ChunkResult :=
  let r := evalRows c.box (fun x =>
    if attnSeen e x = 0 then freeElem 0x11 [e.param 927 896] [e.operand32 s 1 x]
    else if c.kind = .combining then attnCombine s e x
    else
      let q := attnRow s e c x
      if e.partials c then q.2.2 else q.2.2.op f32Div q.2.1)
  if e.partials c then
    { r with bytes := (boxRows c.box).flatMap (fun x =>
        let q := attnRow s e c x
        wordBytesAt (e.statAddr c.part x) q.1.v.toWord ++ wordBytesAt (e.statAddr c.part x + 4) q.2.1.v.toWord) }
  else r

/-- NORM: layer, RMS or group normalisation along d0 with γ and β. -/
def evalNorm (s : State) (e : OpEnv) (c : Chunk) : ChunkResult :=
  evalRows c.box (fun x => freeElem 0x18 [dVariant e.word, e.param 927 896, e.param 943 928, x.at_ 0]
    (e.rowOf s 1 x ++ (if e.used 2 then [e.operand32 s 2 x] else []) ++ (if e.used 3 then [e.operand32 s 3 x] else [])))

/-! ## Fourier transform (R157; choices in assumption log 22) -/

/-- A complex value. -/
abbrev Cplx := Elem × Elem

/-- e^(−2πik/n), or its conjugate: exact at the multiples of a quarter turn, else free FP32 values. -/
def twiddle (inverse : Bool) (k n : Nat) : Cplx :=
  let one : Elem := { v := .fin false 1 0, flags := 0, bad := [] }
  let w : Cplx :=
    if k = 0 then (one, Elem.zero)
    else if 4 * k = n then (Elem.zero, { one with v := .fin true 1 0 })
    else (Elem.ofWord (Config.realElem 0x40 [0, k, n]) 0 [], Elem.ofWord (Config.realElem 0x40 [1, k, n]) 0 [])
  if inverse then (w.1, { w.2 with v := w.2.v.neg }) else w

def Cplx.mul (a b : Cplx) : Cplx := ((a.1.mul b.1).sub (a.2.mul b.2), (a.1.mul b.2).add (a.2.mul b.1))
def Cplx.add (a b : Cplx) : Cplx := (a.1.add b.1, a.2.add b.2)
def Cplx.sub (a b : Cplx) : Cplx := (a.1.sub b.1, a.2.sub b.2)

/-- Every second member of a list, from the first. -/
def everySecond {α : Type} (l : List α) : List α :=
  match l with
  | [] => []
  | [a] => [a]
  | a :: _ :: rest => a :: everySecond rest

/-- The transform in log2 n steps of FP32 butterflies (`fuel` of them), decimated in time. -/
def fftSteps (inverse : Bool) (fuel : Nat) (xs : List Cplx) : List Cplx :=
  match fuel with
  | 0 => xs
  | fuel + 1 =>
    let ev := fftSteps inverse fuel (everySecond xs)
    let od := (fftSteps inverse fuel (everySecond (xs.drop 1))).zipIdx.map (fun p => (twiddle inverse p.2 xs.length).mul p.1)
    (ev.zip od).map (fun p => Cplx.add p.1 p.2) ++ (ev.zip od).map (fun p => Cplx.sub p.1 p.2)

/-- One row of FFT: the transform of its interleaved pairs, scaled by 1/n in VARIANT 2. -/
def fftRow (s : State) (e : OpEnv) (x : Coord) : List Elem :=
  let n := (e.tensor 1).dim 0 / 2
  let xs := (List.range n).map (fun i => (e.operand s 1 (x.put 0 (2 * i)), e.operand s 1 (x.put 0 (2 * i + 1))))
  let ys := fftSteps (decide (dVariant e.word ≠ 0)) (clog2 n) xs
  let scale : Elem := { v := .fin false 1 (-(clog2 n : Int)), flags := 0, bad := [] }
  ys.flatMap (fun y => if dVariant e.word = 2 then [y.1.mul scale, y.2.mul scale] else [y.1, y.2])

/-- FFT (R157): one transform per row of interleaved pairs. -/
def evalFft (s : State) (e : OpEnv) (c : Chunk) : ChunkResult :=
  evalRows c.box (fun x => (fftRow s e x).getD (x.at_ 0) Elem.zero)

/-! ## Vector operators -/

/-- ELEMENTWISE (R154, R170 to R174): the lane program over each row of slot 0. -/
def evalElementwise (s : State) (e : OpEnv) (c : Chunk) : ChunkResult :=
  let t := e.tensor 0
  let eng := 2 ^ 20 + c.engine e.tower
  let n := (boxRange c.box 0).2 - (boxRange c.box 0).1
  let out := (boxRows c.box).foldl (fun (acc : List (Nat × Coord × List (Option FV)) × BitVec 8 × Nat) x =>
    let reg := fun k i len => if e.used k then (List.range len).map (fun j => widen (e.tensor k).fmt (e.input s k (x.along (i + j)))) else []
    let r := lanePasses eng e.lane (x.at_ 0) (t.rowIndex x) n n 0 (fun i len => [[], reg 1 i len, reg 2 i len, reg 3 i len]) ([], 0, acc.2.2)
    (acc.1 ++ [(0, x, r.1.map (fun w => some (narrow t.fmt w)))], acc.2.1 ||| r.2.1, r.2.2)) ([], 0, s.freeCtr)
  { ChunkResult.empty with
    rows := out.1, flags := out.2.1, draws := out.2.2
    bad := (boxRows c.box).flatMap (fun x => (List.range n).flatMap (fun i =>
      [1, 2, 3].flatMap (fun k => if e.used k then e.inputBad s k (x.along i) else []))) }

/-- Coordinates of X that an output position of REDUCE covers: every index of the reduced dimensions. -/
def reduceCoords (x : Tensor) (mask : Nat) (c : Coord) : List Coord :=
  (List.range 5).foldl (fun cs d => if bit mask d then cs.flatMap (fun q => (List.range (x.dim d)).map (fun i => q.put d i)) else cs)
    [(List.range 5).map c.at_]

/-- A value divided by a count, with a sticky bit for the rounding that follows. -/
def FV.divNat (v : FV) (n : Nat) : FV :=
  match v with
  | .nan => .nan
  | .inf g => .inf g
  | .fin g m e =>
    let q := m * 2 ^ 64 / max 1 n
    .fin g (2 * q + (if m * 2 ^ 64 % max 1 n = 0 then 0 else 1)) (e - 65)

/-- Combine two values under REDOP in FP32, or exactly in integers (R119, Table OP-2). -/
def redopStep (op : Nat) (int : Bool) (a b : Elem) : Elem :=
  if op = 0 then
    if int then
      let i := a.v.toInt + b.v.toInt
      { v := .ofInt (max (-2147483648) (min 2147483647 i))
        flags := a.flags ||| b.flags ||| flagIf (decide (i < -2147483648) || decide (2147483647 < i)) flIntsat, bad := a.bad ++ b.bad }
    else a.add b
  else { v := a.v.pick (op = 1) b.v, flags := a.flags ||| b.flags, bad := a.bad ++ b.bad }

/-- An element that a combination takes: in FP32 where it sums floats, as it is otherwise. -/
def OpEnv.combined (e : OpEnv) (s : State) (op k : Nat) (int : Bool) (c : Coord) : Elem :=
  if op = 0 ∧ !int then e.operand32 s k c else e.operand s k c

/-- Combine a list under REDOP. -/
def redopAll (op : Nat) (int : Bool) (l : List Elem) : Elem :=
  match l with
  | [] => { v := .fin false 0 0, flags := 0, bad := [] }
  | a :: rest => rest.foldl (redopStep op int) a

/-- REDUCE (Table OP-8): sum, maximum or minimum over the masked dimensions, divided by the count where a mean is asked. The
order of the sum is not stated: an order the model leaves open. -/
def evalReduce (s : State) (e : OpEnv) (c : Chunk) : ChunkResult :=
  let int := (intRange (e.tensor 1).fmt).isSome
  evalRows c.box (fun x =>
    let cs := reduceCoords (e.tensor 1) (e.param 900 896) x
    let es := (anyOrder 0 cs).map (e.combined s (e.param 113 112) 1 int)
    let r := redopAll (e.param 113 112) int es
    if bit (e.param 901 901) 0 then { r with v := fvOf (toF32 (r.v.divNat cs.length)) } else r)

/-- GATHER (R155): index tensor along the indexed dimension of the output; an index outside the extent reads zeros. -/
def evalGather (s : State) (e : OpEnv) (c : Chunk) : ChunkResult :=
  let d := e.param 898 896
  let idx := fun (x : Coord) => e.int s 3 [x.at_ d]
  let out := fun (i : Int) => decide (i < 0) || decide ((e.tensor 1).dim d ≤ i)
  let r := evalRows c.box (fun x =>
    let i := idx x
    if out i then { v := .fin false 0 0, flags := 0, bad := e.elemBad s 3 [x.at_ d] }
    else moved (e.input s 1 (x.put d i.toNat)) (e.inputBad s 1 (x.put d i.toNat) ++ e.elemBad s 3 [x.at_ d]))
  { r with skipped := (rangeList (boxRange c.box d)).any (fun p => out (e.int s 3 [p])) }

/-- SCATTER (R155): for each destination of the chunk, the source at the highest index position that names it, or all of them
combined in ascending position; destinations that no index names are not written. -/
def evalScatter (s : State) (e : OpEnv) (c : Chunk) : ChunkResult :=
  let d := e.param 898 896
  let n := (e.tensor 3).dim 0
  let idx := fun p => e.int s 3 [p]
  let int := (intRange (e.tensor 1).fmt).isSome
  let hits := fun (x : Coord) => (List.range n).filter (fun p => idx p == (x.at_ d : Int))
  let value := fun (x : Coord) =>
    match hits x with
    | [] => none
    | ps => some (if bit (e.param 899 899) 0 then redopAll (e.param 113 112) int (ps.map (fun p => e.combined s (e.param 113 112) 1 int (x.put d p)))
      else e.operand s 1 (x.put d (maxNat ps)))
  let w := (boxRange c.box 0).2 - (boxRange c.box 0).1
  let rows := (boxRows c.box).map (fun x => (x, (List.range w).map (fun i => value (x.along i))))
  { ChunkResult.empty with
    rows := rows.map (fun r => (0, r.1, r.2.map (fun o => o.map (·.v))))
    flags := rows.foldl (fun f r => r.2.foldl (fun f o => match o with | some q => f ||| q.flags | none => f) f) 0
    bad := rows.flatMap (fun r => r.2.flatMap (fun o => match o with | some q => q.bad | none => [])) ++ (List.range n).flatMap (fun p => e.elemBad s 3 [p])
    skipped := (List.range n).any (fun p => decide (idx p < 0) || decide ((e.tensor 0).dim d ≤ idx p)) }

/-- INDEX: the d0 positions of the non-zero elements of each row, compacted; what follows them is not written. -/
def evalIndex (s : State) (e : OpEnv) (c : Chunk) : ChunkResult :=
  let n := (e.tensor 1).dim 0
  { ChunkResult.empty with
    flags := (boxRows c.box).foldl (fun f x => (e.rowOf s 1 x).foldl (fun f q => f ||| q.flags) f) 0
    rows := (boxRows c.box).map (fun x =>
      (0, x.put 0 0, ((List.range n).filter (fun i => !(e.input s 1 (x.put 0 i)).isZero)).map (fun (i : Nat) => some (FV.ofInt i))))
    bad := (boxRows c.box).flatMap (fun x => e.rowBad s 1 x) }

/-- Order of SORT (R156): NaN after every number in either direction; −0 before +0 ascending. -/
def sortBefore (desc : Bool) (a b : FV) : Bool :=
  if a.isNan then false
  else if b.isNan then true
  else
    let c := a.cmp b
    let lt := decide (c < 0) || (decide (c = 0) && a.isZero && a.isNeg && !b.isNeg)
    let gt := decide (0 < c) || (decide (c = 0) && a.isZero && !a.isNeg && b.isNeg)
    if desc then gt else lt

/-- Keys of a row in sorted order with their index, stable. -/
def sortedRow (s : State) (e : OpEnv) (x : Coord) : List (FV × Nat) :=
  sortBy (fun a b => sortBefore (bit (e.param 896 896) 0) a.1 b.1)
    ((List.range ((e.tensor 1).dim 0)).map (fun i => (e.elem s 1 (x.put 0 i), i)))

/-- SORT and TOPK: the first `k` of each sorted row to slot 0, their indices to slot 3 where it is used. -/
def evalSorted (s : State) (e : OpEnv) (c : Chunk) (k : Nat) : ChunkResult :=
  let rows := (boxRows c.box).map (fun x => (x.put 0 0, (sortedRow s e x).take k))
  { ChunkResult.empty with
    rows := rows.map (fun r => (0, r.1, r.2.map (fun q => some q.1)))
      ++ (if e.used 3 then rows.map (fun r => (3, r.1, r.2.map (fun q => some (.ofInt q.2)))) else [])
    flags := (boxRows c.box).foldl (fun f x => (e.rowOf s 1 x).foldl (fun f q => f ||| q.flags) f) 0
    bad := (boxRows c.box).flatMap (fun x => e.rowBad s 1 x) }

def evalSort (s : State) (e : OpEnv) (c : Chunk) : ChunkResult := evalSorted s e c ((e.tensor 1).dim 0)
def evalTopk (s : State) (e : OpEnv) (c : Chunk) : ChunkResult := evalSorted s e c (e.param 911 900)

/-! ## Resampling (R158; choices in assumption log 22) -/

/-- Source coordinate of RESAMPLE along one dimension: origin + step × index in FP32, or the map's value. DESIGN CHOICE (log 22): the map has
the shape of the output plane in d0 and d1, and its d2 index selects the coordinate, 0 for d0 and 1 for d1. -/
def resampleCoord (s : State) (e : OpEnv) (x : Coord) (d : Nat) : Elem :=
  if bit (dVariant e.word) 8 then e.operand32 s 3 [x.at_ 0, x.at_ 1, d]
  else
    let step := BitVec.ofNat 32 (if d = 0 then e.param 927 896 else e.param 959 928)
    let org := BitVec.ofNat 32 (if d = 0 then e.param 991 960 else e.param 1023 992)
    let r := f32Fma rndNearest step (toF32 (.ofInt (x.at_ d))) org
    Elem.ofWord r.1 r.2 []

/-- The unit of fixed-point coordinates, of which every FP32 value and half of it are whole multiples. -/
def fixOne : Int := 2 ^ 150

/-- A finite value in fixed point; none for a NaN and an infinity. -/
def FV.fixed? (v : FV) : Option Int :=
  match v with
  | .nan => none
  | .inf _ => none
  | .fin n m e => some (signedAt n m e (-150))

/-- A fixed-point number over 2^q as an element rounded to FP32. -/
def fixElem (i : Int) (q : Nat) : Elem := Elem.ofWord (toF32 (.fin (decide (i < 0)) i.natAbs (-(q : Int)))) 0 []

/-- Bicubic kernel with a = −0.5 at distance `d` (fixed point), in units of 2^−451. -/
def cubicWeight (d : Int) : Int :=
  let t := if d < 0 then -d else d
  if t ≤ fixOne then 3 * t * t * t - 5 * t * t * fixOne + 2 * fixOne * fixOne * fixOne
  else if t < 2 * fixOne then -(t * t * t) + 5 * t * t * fixOne - 8 * t * fixOne * fixOne + 4 * fixOne * fixOne * fixOne
  else 0

/-- Overlap of the pixel at `j` with the footprint [lo, hi], both in fixed point; −1 and `n` take all that lies outside the source. -/
def areaOverlap (lo hi : Int) (n : Nat) (j : Int) : Int :=
  let half := fixOne / 2
  let a := if j = -1 then lo else max lo (j * fixOne - half)
  let b := if j = (n : Int) then hi else min hi (j * fixOne + half)
  max 0 (b - a)

/-- Source positions along one dimension of extent `n` and their weights, from coordinate `x` and step `w` in fixed point. DESIGN CHOICE
(log 22): the area footprint is as wide as the step's magnitude and centred on the coordinate, from the map too, and pixel j covers
j − 1/2 to j + 1/2. -/
def filterTaps (kind n : Nat) (x w : Int) : List (Int × Elem) :=
  let i := x / fixOne
  if kind = 1 then
    (i, fixElem (fixOne - x % fixOne) 150) :: (if x % fixOne = 0 then [] else [(i + 1, fixElem (x % fixOne) 150)])
  else if kind = 2 then
    (([-1, 0, 1, 2].map (fun k => i + k)).map (fun j => (j, cubicWeight (x - j * fixOne)))).filterMap (fun p =>
      if p.2 = 0 then none else some (p.1, fixElem p.2 451))
  else
    let h := (if w < 0 then -w else w) / 2
    ((List.range (n + 2)).map (fun (k : Nat) => ((k : Int) - 1, areaOverlap (x - h) (x + h) n ((k : Int) - 1)))).filterMap (fun p =>
      if p.2 = 0 then none else some (p.1, fixElem p.2 150))

/-- The source pixel at a position, clamped to the edge or zero outside the source (VARIANT[9]). -/
def resamplePixel (s : State) (e : OpEnv) (x : Coord) (i j : Int) : Elem :=
  let t := e.tensor 1
  let clampI := fun (v : Int) (n : Nat) => (max 0 (min v ((n : Int) - 1))).toNat
  let inside := decide (0 ≤ i) && decide (i < t.dim 0) && decide (0 ≤ j) && decide (j < t.dim 1)
  if inside || bit (dVariant e.word) 9 then e.operand32 s 1 [clampI i (t.dim 0), clampI j (t.dim 1), x.at_ 2, x.at_ 3, x.at_ 4] else Elem.zero

/-- Weighted sum of a row or column of taps in FP32. -/
def tapSum (taps : List (Int × Elem)) (f : Int → Elem) : Elem :=
  match taps with
  | [] => Elem.zero
  | p :: rest => rest.foldl (fun a q => a.add (q.2.mul (f q.1))) (p.2.mul (f p.1))

/-- One output element from fixed-point source coordinates. DESIGN CHOICE (log 22): the nearest filter takes the even pixel of two at the same
distance. -/
def resampleAt (s : State) (e : OpEnv) (x : Coord) (px py : Int) : Elem :=
  let kind := dVariant e.word % 4
  let near := fun (v : Int) => let k := v / fixOne; let r := 2 * (v % fixOne); if r < fixOne ∨ (r = fixOne ∧ k % 2 = 0) then k else k + 1
  if kind = 0 then resamplePixel s e x (near px) (near py)
  else
    let step := fun (w : Nat) => ((fvOf (BitVec.ofNat 32 w)).fixed?).getD 0
    let tx := filterTaps kind ((e.tensor 1).dim 0) px (step (e.param 927 896))
    let ty := filterTaps kind ((e.tensor 1).dim 1) py (step (e.param 959 928))
    let sum := tapSum ty (fun j => tapSum tx (fun i => resamplePixel s e x i j))
    if kind = 3 then sum.op f32Div ((tx.foldl (fun a q => a.add q.2) Elem.zero).mul (ty.foldl (fun a q => a.add q.2) Elem.zero)) else sum

/-- RESAMPLE (R158): the chosen filter at the source coordinates of each output pixel, band by band; a coordinate that is no finite
number gives a free value. -/
def evalResample (s : State) (e : OpEnv) (c : Chunk) : ChunkResult :=
  evalRows c.box (fun x =>
    let cx := resampleCoord s e x 0
    let cy := resampleCoord s e x 1
    let r := match cx.v.fixed?, cy.v.fixed? with
      | some px, some py => resampleAt s e x px py
      | some _, none => freeElem 0x48 [dVariant e.word] [cx, cy]
      | none, some _ => freeElem 0x48 [dVariant e.word] [cx, cy]
      | none, none => freeElem 0x48 [dVariant e.word] [cx, cy]
    { r with flags := r.flags ||| cx.flags ||| cy.flags, bad := r.bad ++ cx.bad ++ cy.bad })

/-- CONVERT (R126): each element to the format of slot 0, multiplied in FP32 where VARIANT[0] is set; an MX value beyond FP32 follows R125
on the way into that product. -/
def evalConvert (s : State) (e : OpEnv) (c : Chunk) : ChunkResult :=
  evalRows c.box (fun x =>
    let v := e.input s 1 x
    let bad := e.inputBad s 1 x
    if bit (dVariant e.word) 0 then
      (e.intoF32 v bad).mul (wordOperand (e.param 927 896))
    else moved v bad)

/-! ## Data movement -/

/-- The rows of slot 1 in a box as values, to be converted to the format of slot 0. -/
def evalMove (s : State) (e : OpEnv) (c : Chunk) : ChunkResult := evalRows c.box (e.operand s 1)

/-- Bytes of the rows of slot 1 in a box, moved as they are to the same rows of slot 0, scales with them. -/
def copyBytes (s : State) (e : OpEnv) (c : Chunk) : ChunkResult :=
  let src := e.tensor 1
  let dst := e.tensor 0
  let d0 := boxRange c.box 0
  let n := cdiv ((d0.2 - d0.1) * elemBits src.fmt) 8
  let blocks := if isMx src.fmt then cdiv (d0.2 - d0.1) 32 else 0
  let moves := (boxRows c.box).flatMap (fun x =>
    (List.range n).map (fun i => (e.byteAddr s 0 (dst.bitOffset x / 8 + i), e.byteAddr s 1 (src.bitOffset x / 8 + i))) ++
    (List.range blocks).map (fun i => (e.scaleAddr s 0 (x.along (32 * i)), e.scaleAddr s 1 (x.along (32 * i)))))
  { ChunkResult.empty with bytes := moves.map (fun m => (m.1, s.byteAt m.2)), bad := moves.flatMap (fun m => s.badAt m.2) }

/-- A move whose formats agree copies bytes; an epilogue, which runs over the output rows (R154, R175), takes their values. -/
def evalCopy (s : State) (e : OpEnv) (c : Chunk) : ChunkResult := if dEpi e.word then evalMove s e c else copyBytes s e c

/-- KV_WRITE and KV_READ: rows moved as they are where the formats agree, else converted (R162). -/
def evalKv (s : State) (e : OpEnv) (c : Chunk) : ChunkResult :=
  if (e.tensor 0).fmt = (e.tensor 1).fmt then evalCopy s e c else evalMove s e c

/-- The rows of a DELIVER after its epilogue, staged over slot 1's own addresses. -/
def deliverStage (s : State) (e : OpEnv) (c : Chunk) : Stage :=
  let st : Stage := { acc := [], flags := 0, draws := s.freeCtr }
  if dEpi e.word then
    (boxRows c.box).foldl (fun st x => epilogueRow s e (c.engine e.tower) st (x.put 0 0)
      ((e.rowOf s 1 x).map (fun q => some q.v))) st
  else st

/-- DELIVER (R161): the packed bytes of the rows of slot 1, after its epilogue where it has one (R154). -/
def evalDeliver (s : State) (e : OpEnv) (c : Chunk) : ChunkResult :=
  let src := e.tensor 1
  let n := cdiv (src.dim 0 * elemBits src.fmt) 8
  let addrs := (boxRows c.box).flatMap (fun x => (List.range n).map (fun i => e.byteAddr s 1 (src.bitOffset (x.put 0 0) / 8 + i)))
  let st := deliverStage s e c
  { ChunkResult.empty with
    bytes := addrs.zipIdx.map (fun a => (a.2, stagedByte s st.acc a.1)), bad := addrs.flatMap (fun a => s.badAt a)
    flags := st.flags, draws := st.draws }

end Sys2Proof.Machine
end

