-- ==== Sys2Proof/Machine/OpticalOps.lean ====
section
/-!
DEFINITION. Optical weight banks: bank set records (R263), the rounds and chunks of an OPTICAL operator (R269 to R272), the
codes a bank returns (R264, R265) and what a failing bank does (R273, R274).
-/
namespace Sys2Proof.Machine

open Sys2Proof

/-! ## Bank set records (Table WB-1) -/

/-- Address of the bank set record of an operator. -/
def OpEnv.record (e : OpEnv) : Nat := e.addr 2

def OpEnv.segs (e : OpEnv) : Nat := cdiv ((e.tensor 1).dim 0) 64
def OpEnv.nblk (e : OpEnv) : Nat := cdiv ((e.tensor 2).dim 1) 64
def bankGain (s : State) (e : OpEnv) : Nat := field (leNat (s.bytesAt e.record 4)) 18 16
def bankScaleOff (s : State) (e : OpEnv) : Nat := s.wordAt (e.record + 4)

/-- Weight of output n and input k: image (n / 64, k / 64), row n mod 64 (R263). -/
def bankWeight (s : State) (e : OpEnv) (n k : Nat) : Int :=
  untwos 8 (s.byteAt (e.record + 64 + 4096 * (n / 64 * e.segs + k / 64) + 64 * (n % 64) + k % 64)).toNat

/-! ## Rounds (R269, Table WB-3) -/

/-- Logical banks of a mask whose physical bank is in service. -/
def BankSet.usable (b : BankSet) (mask : Nat) : List Nat :=
  (List.range 12).filter (fun l => bit mask l && (b.banks.getD (b.map.getD l 12) { Bank.fresh with inService := false }).inService)

/-- Output blocks per round, of `b` banks: ⌊b / s⌋; where fewer than s banks remain, one (assumption log 23). -/
def blocksPerRound (b segs : Nat) : Nat := max 1 (b / max 1 segs)

/-- Bytes per output element. -/
def outBytes (e : OpEnv) : Nat := if (e.tensor 0).fmt = 1 then 4 else 2

/-- Ticks of a stream chunk of `r` rows. -/
def streamTicks (e : OpEnv) (nb r : Nat) : Nat :=
  let d := max (cdiv e.segs 8) (cdiv (nb * outBytes e) 8)
  cdiv (r * d) 16 + 48

/-- Rows of a stream chunk: X is halved along d1, where CUT allows it (R145), until a stream stays within 1,408 tk. -/
def streamRows (e : OpEnv) (nb fuel r : Nat) : Nat :=
  match fuel with
  | 0 => r
  | fuel + 1 => if streamTicks e nb r ≤ 1408 ∨ bit (dCut e.word) 1 = false then r else streamRows e nb fuel (cdiv r 2)

/-- The chunks of an OPTICAL operator on `b` banks: for each round a load chunk, then its stream chunks (R269, R271). -/
def opticalChunks (e : OpEnv) (b : Nat) (o : OpInst) (id0 : Nat) : List Chunk :=
  let nb := blocksPerRound b e.segs
  let m := (e.tensor 1).dim 1
  let r := streamRows e nb 64 m
  let n := (e.tensor 2).dim 1
  let rounds := (List.range (cdiv e.nblk nb)).flatMap (fun i =>
    let cols := (64 * nb * i, min n (64 * nb * (i + 1)))
    newChunk o .load [cols, (0, 1)] i 1455 ::
      (cutRange m r).map (fun q => newChunk o .stream [cols, q] i (cdiv (streamTicks e nb (q.2 - q.1) * 1489) 1024)))
  rounds.zipIdx.map (fun p => { p.1 with id := id0 + p.2 })

/-- The chunks of an operator ready to be cut (R92, R145, R269). -/
def State.opChunks (s : State) (t : Nat) (o : OpInst) (id0 : Nat) : List Chunk :=
  let e := opEnv s t o
  if o.slot = copySlot then [{ newChunk o .copy [(0, 1)] 0 2048 with id := id0 }]
  else if dOpcode o.word = 0x58 then
    opticalChunks e (((s.base.bankSets.getD t BankSet.fresh).usable (e.param 907 896)).length) o id0
  else cutChunks e (s.tower t).isCache o id0

/-! ## Codes (R264, R265) -/

/-- Bound of the systematic error, in hundredths of a code, for an ideal value of `z` hundredths (Table WB-2): wider in band 3. -/
def biasBound (band : Nat) (z : Int) : Int := if band = 3 then 150 + z.natAbs * 2 / 100 else 100 + z.natAbs / 100

/-- Code of one segment of one row (R264, R266): the ideal value `sum` / 2^(13 − GAIN), here in hundredths of a code, and the bank's errors,
rounded; a value beyond ±127 codes returns ±127. DESIGN CHOICE (log 1): the random error of a sample is free, for its RMS of Table WB-2
bounds no single sample. -/
def bankCode (band gain : Nat) (bias noise sum : Int) : Int × Bool :=
  let z := sum * 100 / (2 ^ (13 - gain) : Nat)
  let c := (z + max (-(biasBound band z)) (min (biasBound band z) bias) + noise + 50) / 100
  if 12700 < z then (127, true) else if z < -12700 then (-127, true) else (max (-127) (min 127 c), false)

/-- Σ w · x over one segment of 64 inputs. -/
def segmentSum (s : State) (e : OpEnv) (n m seg : Nat) : Int :=
  ((List.range 64).filter (fun j => decide (64 * seg + j < (e.tensor 1).dim 0))).foldl (fun (a : Int) j =>
    a + bankWeight s e n (64 * seg + j) * untwos 8 (e.rawElem s 1 [64 * seg + j, m])) 0

/-- One output element: the codes of its segments, each worth 2^(13 − GAIN), summed exactly, times sw[n] (R265); and how many
samples were clipped. -/
def opticalElem (s : State) (e : OpEnv) (draw : Nat) (x : Coord) : Elem × Nat :=
  let gain := bankGain s e
  let codes := (List.range e.segs).map (fun g =>
    bankCode (s.tower e.tower).band gain (Config.opticalBias e.tower (x.at_ 0) g)
      (Config.opticalNoise (draw + (x.at_ 1 * (e.tensor 2).dim 1 + x.at_ 0) * e.segs + g)) (segmentSum s e (x.at_ 0) (x.at_ 1) g))
  let sum : Int := codes.foldl (fun a c => a + c.1 * (2 ^ (13 - gain) : Nat)) 0
  let clipped := (codes.filter (·.2)).length
  let sw : Word := BitVec.ofNat 32 (s.wordAt (e.record + bankScaleOff s e + 4 * x.at_ 0))
  let r := f32Mul rndNearest (toF32 (.ofInt sum)) sw
  ({ v := fvOf r.1, flags := r.2 ||| flagIf (decide (0 < clipped)) flSat
     bad := (List.range ((e.tensor 1).dim 0)).flatMap (fun k => e.elemBad s 1 [k, x.at_ 1]) }, clipped)

/-- OPTICAL over a stream chunk; a load chunk computes nothing. -/
def evalOptical (s : State) (e : OpEnv) (c : Chunk) : ChunkResult :=
  if c.kind = .stream then evalRows c.box (fun x => (opticalElem s e (s.freeCtr * 2 ^ 40) x).1) else ChunkResult.empty

/-- Clipped samples of a stream chunk (D:5400.08). -/
def opticalClipped (s : State) (e : OpEnv) (c : Chunk) : Nat :=
  if c.kind = .stream then
    sumNat ((boxRows c.box).flatMap (fun x => (List.range ((boxRange c.box 0).2 - (boxRange c.box 0).1)).map (fun i =>
      (opticalElem s e (s.freeCtr * 2 ^ 40) (x.along i)).2)))
  else 0

/-! ## The bank engine of a tower -/

def State.bankSet (s : State) (t : Nat) : BankSet := s.base.bankSets.getD t BankSet.fresh
def State.mapBankSet (s : State) (t : Nat) (f : BankSet → BankSet) : State :=
  s.mapBase (fun b => { b with bankSets := modAt b.bankSets t f })

/-- The images of a round and the physical bank each one stands in: block-major, segments within a block (R269). -/
def roundImages (b : BankSet) (e : OpEnv) (c : Chunk) : List (Nat × (Nat × Nat × Nat)) :=
  let usable := b.usable (e.param 907 896)
  let lo := (boxRange c.box 0).1 / 64
  let hi := cdiv (boxRange c.box 0).2 64
  let imgs := (rangeList (lo, hi)).flatMap (fun j => (List.range e.segs).map (fun g => (e.record, j, g)))
  imgs.zipIdx.map (fun p => (b.map.getD (usable.getD (p.2 % max 1 usable.length) 0) 0, p.1))

/-- Image `i` of a record stands where `n` bytes from address `a` have changed, or the record's header does (R263). -/
def State.imageTouched (s : State) (i : Nat × Nat × Nat) (a n : Nat) : Bool :=
  let at_ := i.1 + 64 + 4096 * (i.2.1 * (s.byteAt i.1).toNat + i.2.2)
  (decide (a < at_ + 4096) && decide (at_ < a + n)) || (decide (a < i.1 + 64) && decide (i.1 < a + n))

/-- `n` bytes of the weight-bank store from address `a` have changed: no bank of its tower holds an image of them any more (R262,
R272). -/
def State.storeTouched (s : State) (a n : Nat) : State :=
  if addrSpace a = 4 then
    match s.eidSite (addrEid a) with
    | some t => s.mapBankSet t (fun b => { b with banks := b.banks.map (fun k =>
        { k with image := if k.image.any (fun i => s.imageTouched i a n) then none else k.image }) })
    | none => s
  else s

/-! ## Calibration channels that work meets (R278, R285) -/

/-- The field a site stands on (Table OV-4); the hub's rings follow F31, the first of its two fields (assumption log 19). -/
def siteField (k : Nat) : Nat := if k < 16 then k else if k < 20 then k - 12 else if k = 20 then 13 else if k = 21 then 12 else 15

/-- Site of a ring channel. -/
def ringSite (index : Nat) : Nat := index / 65536 % 256

/-- The field of a ring or bank channel. -/
def channelField (kind index : Nat) : Nat := if kind = 3 then index / 256 % 16 else siteField (ringSite index)

def channelKey (kind index : Nat) : Nat := kind * 2 ^ 32 + index

/-- A channel has locked, or a bank has loaded: ΔT counts from the present base temperature (R285). -/
def State.markLock (s : State) (kind index : Nat) : State :=
  s.mapBase (fun b => { b with lockTemp := kvSet b.lockTemp (channelKey kind index) (b.feedFwd.getD (channelField kind index) 0) })

/-- A load chunk sets the images of its round (R272): a bank that holds the image already is skipped; one under background
calibration abandons that calibration (R278). -/
def State.loadBanks (s : State) (t : Nat) (e : OpEnv) (c : Chunk) : State :=
  let imgs := roundImages (s.bankSet t) e c
  let abandoned := (imgs.filter (fun i => ((s.bankSet t).banks.getD i.1 Bank.fresh).calibrating)).length
  let s := (imgs.filter (fun i => ((s.bankSet t).banks.getD i.1 Bank.fresh).image != some i.2)).foldl (fun s i => s.markLock 3 (t * 256 + i.1)) s
  let s := s.mapBase (fun b => { b with
    stepsAbandoned := b.stepsAbandoned + abandoned
    fieldBankClean := setAt b.fieldBankClean t false
    cal := b.cal.map (fun ch => if imgs.any (fun i => ch.kind == 3 && ch.index == t * 256 + i.1) then { ch with busy := false } else ch) })
  s.mapBankSet t (fun b => imgs.foldl (fun b i =>
    let old := (b.banks.getD i.1 Bank.fresh).image
    { b with banks := modAt b.banks i.1 (fun k => { k with image := some i.2, calibrating := false })
             skipped := if old = some i.2 then b.skipped + 1 else b.skipped }) { b with loads := b.loads + 1 })

/-- Physical banks a chunk uses. -/
def chunkBanks (b : BankSet) (e : OpEnv) (c : Chunk) : List Nat := ((roundImages b e c).map (·.1)).foldl insertNat []

/-- Put a running chunk back to be computed again on its tile (R273). -/
def State.rerunInPlace (s : State) (t chunk : Nat) : State :=
  s.mapTower t (fun x => { x with running := modWhere x.running (fun k => k.id == chunk) (fun k =>
    { k with computed := false, staged := [], flags := 0, code := 0 }) })

/-- Cut an OPTICAL operator anew on the banks that remain (R274). -/
def State.recutOptical (s : State) (t : Nat) (o : OpInst) : State :=
  let cs := s.opChunks t o (s.tower t).nextId
  s.mapTower t (fun x =>
    { x with tree := x.tree.filter (fun m => !(field m.toNat 15 8 == o.slot && field m.toNat 31 16 == o.desc))
             queue := cs ++ x.queue.filter (fun c => c.op != o.id), running := x.running.filter (fun c => c.op != o.id)
             regions := x.regions.map (fun g =>
               { g with queue := g.queue.filter (fun i => !x.running.any (fun c => c.op == o.id && c.id == i)) })
             nextId := x.nextId + cs.length
             ops := modWhere x.ops (fun p => p.id == o.id) (fun p => { p with chunks := cs.length, arrived := 0, tree := 0, flags := 0 }) })

/-- A commit of a channel, armed or not yet verified, is abandoned (R284). -/
def State.abandonCommit (s : State) (kind index : Nat) : State :=
  if (s.base.commitSt = 1 ∧ s.base.commitKind = kind ∧ s.base.commitIndex = index) ∨ s.base.commitChecks.contains (kind, index) then
    ((s.mapBase (fun b => { b with commitSt := 4, commitChecks := b.commitChecks.filter (· != (kind, index)) })).logEv 0x0440 sevLogged unitBase 0
      index).raiseVector 0
  else s

/-- A bank is retired (R274): its logical bank goes to a physical bank in service that the operator does not use, and the two
logical banks change places, and the image that a stream needs is loaded there; with none free the operator is cut anew on the banks that remain and the tower event is raised. -/
def State.retireBank (s : State) (t : Nat) (e : OpEnv) (o : OpInst) (c : Chunk) (bank : Nat) : State :=
  let image := if c.kind = .stream then ((roundImages (s.bankSet t) e c).find? (fun i => i.1 == bank)).map (·.2) else none
  let s := s.mapBankSet t (fun b =>
    { b with banks := modAt b.banks bank (fun k => { k with inService := false, image := none, calibrating := false }), retired := b.retired + 1 })
  let s := s.abandonCommit 3 (t * 256 + bank)
  let b := s.bankSet t
  let used := ((List.range 12).filter (fun l => bit (e.param 907 896) l)).map (fun l => b.map.getD l 12)
  match (List.range 12).find? (fun p => (b.banks.getD p { Bank.fresh with inService := false }).inService && !used.contains p) with
  | some p =>
    (s.mapBankSet t (fun b =>
      { b with map := b.map.map (fun q => if q = bank then p else if q = p then bank else q)
               banks := modAt b.banks p (fun k => { k with image }) })).logEv 0x0501 sevLogged t bank
  | none => (((s.logEv 0x0501 sevLogged t bank).logEv 0x0502 sevLogged t bank).raiseEvent 2).recutOptical t o

/-- A bank fails its reference check (R273, R274): the fourth failure in a row, after three retrims, retires it; otherwise its
heaters are retrimmed, and its next load is full. -/
def State.failBank (s : State) (t : Nat) (e : OpEnv) (o : OpInst) (c : Chunk) (bank : Nat) : State :=
  let s := s.mapBankSet t (fun b => { b with checkFails := b.checkFails + 1 })
  if 3 ≤ ((s.bankSet t).banks.getD bank Bank.fresh).retrims then s.retireBank t e o c bank
  else s.mapBankSet t (fun b =>
    { b with retrims := b.retrims + 1, banks := modAt b.banks bank (fun k => { k with retrims := k.retrims + 1, image := none }) })

/-- OPTICAL on a running chunk: `failing` are the physical banks whose reference check fails. -/
def State.computeOptical (s : State) (t chunk : Nat) (failing : List Nat) : State :=
  match (s.tower t).running.find? (fun c => c.id == chunk) with
  | none => s
  | some c =>
    match (s.tower t).ops.find? (fun o => o.id == c.op) with
    | none => s
    | some o =>
      let e := opEnv s t o
      if c.computed ∨ dOpcode o.word ≠ 0x58 ∨ (s.bankSet t).usable (e.param 907 896) = [] then s
      else
        let used := chunkBanks (s.bankSet t) e c
        let bad := used.filter (fun b => failing.contains b)
        let clipped := opticalClipped s e c
        let s := if c.kind = .load then s.loadBanks t e c
          else s.mapBankSet t (fun b => { b with streams := b.streams + 1, clipped := b.clipped + clipped })
        if bad = [] then
          let s := s.mapBankSet t (fun b => { b with banks := b.banks.zipIdx.map (fun k => if used.contains k.2 then { k.1 with retrims := 0 } else k.1) })
          let s := s.computeChunk t chunk 0x58 evalOptical
          { s with freeCtr := s.freeCtr + 1 }
        else
          let s := s.mapBankSet t (fun b => { b with banks := b.banks.zipIdx.map (fun k =>
            if used.contains k.2 && !bad.contains k.2 then { k.1 with retrims := 0 } else k.1) })
          (bad.foldl (fun s b => s.failBank t e o c b) s).rerunInPlace t chunk

/-- The same, routed by the record's bank. -/
def State.runOptical (s : State) (t chunk : Nat) (failing : List Nat) : State :=
  s.underBank (s.chunkBank t chunk) (fun s => s.computeOptical t chunk failing)

end Sys2Proof.Machine
end

