-- ==== Sys2Proof/Machine/BaseOps.lean ====
section
/-!
DEFINITION. The planes of the base: how a pair of sites loses, replaces and regains a wavelength (R222 to R243), how a plane
leaves and returns (R254 to R256), and which comb modules are spare (R252).
-/
namespace Sys2Proof.Machine

open Sys2Proof

/-! ## Pairs -/

def State.setPair (s : State) (i j : Nat) (p : Pair) : State := s.mapBase (fun b => { b with pairs := kvSet b.pairs (pairKey i j) p })

/-- The spare plane of a pair (R223). -/
def sparePlane (i j : Nat) : Nat := (i + j) % 5

/-- Both sites are populated and differ. -/
def State.pairExists (s : State) (i j : Nat) : Bool := s.populated i && s.populated j && decide (i ≠ j)

/-- The plane whose position of the rotation a plane holds: the spare holds that of the plane it replaces (R228, R239). -/
def Pair.home (p : Pair) (q pl : Nat) : Nat := if pl = q then p.standFor.getD pl else pl

/-- The rotation in order of position. -/
def Pair.reorder (p : Pair) (q : Nat) : Pair :=
  { p with planes := sortBy (fun a b => decide (p.home q a < p.home q b)) p.planes }

def Pair.without (p : Pair) (pl : Nat) : Pair := { p with planes := p.planes.filter (· != pl), rot := !p.rot }

/-- The spare takes the position of plane `w`; `st` is the spare state that follows. -/
def Pair.replace (p : Pair) (q w st : Nat) : Pair :=
  { p with planes := p.planes.map (fun x => if x = w then q else x), standFor := some w, spare := st, rot := !p.rot }

/-- Plane `w` leaves the rotation (R239, R241, Table PB-6): while the spare is available it takes the position; otherwise the
rotation runs on the remaining planes. `st`: the spare state of a substitution, 1 for a stand-in, 2 for a permanent one. -/
def Pair.leave (p : Pair) (q w st : Nat) : Pair :=
  if p.spare = 0 ∧ w = q then { p with spare := 3 }
  else if !p.planes.contains w then
    if p.standFor = some w ∧ p.spare = 1 then { p with spare := st, calibrating := if st = 2 then none else p.calibrating } else p
  else if p.spare = 0 then p.replace q w st
  else if w = q ∧ p.spare = 1 then { p.without w with spare := 3, standFor := none }
  else p.without w

/-- Plane `w` comes back (R239, R241): a stand-in for it ends; while the spare stands in elsewhere the plane rejoins at its own
position; where another plane is still out the spare moves there. -/
def Pair.rejoin (p : Pair) (q w : Nat) : Pair :=
  if p.dead.contains w ∨ p.planes.contains w then p
  else if w = q then
    if p.spare = 3 then { p with spare := 0 } else ({ p with planes := w :: p.planes, rot := !p.rot }).reorder q
  else if p.standFor = some w then
    match (List.range 5).find? (fun o => o != q && o != w && !p.planes.contains o) with
    | some o =>
      ({ p with planes := w :: p.planes, standFor := some o, spare := if p.dead.contains o then 2 else 1, calibrating := none,
                rot := !p.rot }).reorder q
    | none =>
      ({ p with planes := p.planes.map (fun x => if x = q then w else x), standFor := none, spare := 0, calibrating := none,
                rot := !p.rot }).reorder q
  else
    ({ p with planes := w :: p.planes, calibrating := if p.calibrating = some w then none else p.calibrating, rot := !p.rot }).reorder q

/-- A wavelength is out of service: not in the rotation, not permanently faulted, and not the spare that waits (R238). -/
def Pair.anyOut (p : Pair) (q : Nat) : Bool :=
  (List.range 5).any (fun w => !p.planes.contains w && !p.dead.contains w && !(w == q && p.spare == 0))

/-- The unacknowledged codewords of wavelength `w` of a pair are resent on what replaces it (R239, R241). -/
def State.resendOff (s : State) (i j w : Nat) : State :=
  let p := s.linkPair i j
  let q := sparePlane i j
  s.mapLines (fun l => kvMod l (pairKey i j) Line.fresh (fun l => l.moveOff w (if p.standFor = some w ∧ p.planes.contains q then some q else none) p.planes s.now))

/-- The plane that an output of the link switch feeds: DP0 to DP4; SPA and SPB are SP. -/
def outputPlane (o : Nat) : Nat := min o 5

/-- Planes that link module `m` drives. -/
def BaseSt.planesOf (b : BaseSt) (m : Nat) : List Nat :=
  ((List.range 7).filter (fun o => b.linkMap.getD o 99 == m)).foldl (fun acc o => insertNat acc (outputPlane o)) []

/-- A wavelength of the pair has a fault in this tick, which no calibration step of the pair begins in (R241). -/
def State.pairFaultNow (s : State) (i j : Nat) : Bool :=
  (s.linkPair i j).faultAt == some s.now || s.sampled (fun c => match c with
    | .lockLoss a x y _ => decide (a ≤ s.now ∧ x = i ∧ y = j)
    | .wavelengthPermanentFault a x y _ => decide (a ≤ s.now ∧ x = i ∧ y = j)
    | .replayLimit a (.site x) y w _ => decide (a ≤ s.now ∧ x = i ∧ y = j) && (s.line i j).limited w s.now
    | .lossOfLight a m => decide (a ≤ s.now) && (s.base.planesOf m).any (fun w => (s.linkPair i j).planes.contains w)
    | _ => false)

/-- The pair had a fault in this tick (R241). -/
def Pair.faulted (p : Pair) (now : Nat) : Pair := { p with faultAt := some now }

/-- Put a pair back; a change of D:5001.06 raises the plane event (R242). -/
def State.putPair (s : State) (i j : Nat) (p : Pair) : State :=
  let n := (s.linkPair i j).planes.length
  let s := s.setPair i j p
  if p.planes.length = n then s else s.raiseEvent 4

/-- The channels of the two rings of wavelength `w` of a pair: the transmit ring and the receive ring (R222, Table WB-7). -/
def txRing (i j w : Nat) : Nat := i * 65536 + w * 256 + (j + 32 - i) % 32
def rxRing (i j w : Nat) : Nat := j * 65536 + w * 256 + (j + 32 - i) % 32

/-- A background step of a pair on the planes of `on` is abandoned. -/
def State.abandonCalOn (s : State) (i j : Nat) (on : Nat → Bool) : State :=
  let p := s.linkPair i j
  match p.calibrating with
  | some c =>
    if !on c then s
    else
      (s.setPair i j { p with calibrating := none }).mapBase (fun b =>
        { b with stepsAbandoned := b.stepsAbandoned + 1
                 cal := b.cal.map (fun ch =>
                   if (ch.kind = 1 ∧ ch.index = txRing i j c) ∨ (ch.kind = 2 ∧ ch.index = rxRing i j c) then { ch with busy := false } else ch) })
  | none => s

/-- A calibration that a fault of another plane abandons (R241). -/
def State.abandonPairCal (s : State) (i j w : Nat) : State := s.abandonCalOn i j (· != w)

/-- Background calibration has a ring of site `i` out: one of its own ring channels, or the ring of a pair it sends on (R238). -/
def State.ringOut (s : State) (i : Nat) : Bool :=
  s.base.cal.any (fun d => d.busy && decide (d.kind ≤ 2) && ringSite d.index == i) ||
    (List.range 23).any (fun b => b != i && (s.linkPair i b).calibrating.isSome)

/-! ## Background steps and commits (R277, R278) -/

/-- Longest outage of a background step of a kind (Table WB-4). -/
def stepBound (kind : Nat) : Nat := if kind = 3 then 400000 else 20000

/-- Site of a channel: a bank's or a regulator's tower or guest, a ring's own, else the hub's. -/
def calSite (kind index : Nat) : Nat :=
  if kind = 3 then index / 256
  else if kind = 4 then 20
  else if kind = 5 then
    (if index < 16 then index else if index < 36 then index - 16 else if index < 40 then index - 20
     else if index = 42 ∨ index = 43 then 21 else if index = 44 ∨ index = 45 then 22 else 20)
  else ringSite index

/-- A step that begins now could still be running at the tick of an armed commit at its site (R278). -/
def State.commitNear (s : State) (kind index : Nat) : Bool :=
  decide (s.base.commitSt = 1) && decide (calSite s.base.commitKind s.base.commitIndex = calSite kind index) &&
    decide (s.base.commitTick < s.now + stepBound kind)

/-- LOC of a record of class 0x04. -/
def planeLoc (i j p : Nat) : Nat := i * 65536 + j * 256 + p

/-- A ring of the pair loses lock outside a schedule (R239, R241). -/
def State.lockLoss (s : State) (i j w : Nat) : State :=
  if !s.pairExists i j ∨ 5 ≤ w then s
  else
    let s := s.abandonPairCal i j w
    (s.putPair i j (((s.linkPair i j).leave (sparePlane i j) w 1).faulted s.now)).resendOff i j w

/-- A wavelength has a permanent fault (R240, R241, R243; codes 0x0401 to 0x0403). One already out for good is only logged
(R513). -/
def State.permanentFault (s : State) (i j w : Nat) : State :=
  if !s.pairExists i j ∨ 5 ≤ w then s
  else
    let q := sparePlane i j
    let p0 := s.linkPair i j
    if p0.dead.contains w then s.logEv 0x0401 sevLogged unitBase (planeLoc i j w)
    else
      let s := s.abandonPairCal i j w
      let p := ((s.linkPair i j).leave q w 2).faulted s.now
      let s := (s.putPair i j { p with dead := insertNat p.dead w, permFaults := p.permFaults + 1 }).resendOff i j w
      let s := (s.abandonCommit 1 (txRing i j w)).abandonCommit 2 (rxRing i j w)
      let sev := if p.planes.length < p0.planes.length then sevCapacity else sevLogged
      if p.planes.length = 0 ∧ p0.planes.length ≠ 0 then s.logEv 0x0403 sevCapacity unitBase (planeLoc i j w)
      else if w = q ∧ p0.spare ≠ 2 then s.logEv 0x0402 sev unitBase (planeLoc i j w)
      else s.logEv 0x0401 sev unitBase (planeLoc i j w)

/-- Every ordered pair of populated sites. -/
def State.allPairs (s : State) : List (Nat × Nat) :=
  (List.range 23).flatMap (fun i => ((List.range 23).filter (fun j => s.pairExists i j)).map (fun j => (i, j)))

/-- Every pair loses plane `w` for a time: for a window its replay buffers drain (R239, R254), on a loss of light they are resent,
as on a lock loss of each, and its calibrations are abandoned (R241, R255). -/
def State.planeLeaves (s : State) (w : Nat) (lost : Bool) : State :=
  s.allPairs.foldl (fun s x =>
    let s := if lost then (s.abandonCalOn x.1 x.2 (fun _ => true)) else s
    let p := (s.linkPair x.1 x.2).leave (sparePlane x.1 x.2) w 1
    let s := s.putPair x.1 x.2 (if lost then p.faulted s.now else p)
    if lost then s.resendOff x.1 x.2 w else s) s

/-! ## Sync plane -/

/-- Site `k` has lost both buses (R237): it falls back to the data planes, and the ledger books nothing there. -/
def State.syncDegrade (s : State) (k : Nat) : State :=
  if s.base.spDegraded.getLsbD k then s
  else
    (s.mapBase (fun b => { b with spDegraded := b.spDegraded ||| (1#23 <<< k) })).logEv 0x0406 sevCapacity unitBase (planeLoc k 0xFF 5)

/-! ## Planes and comb modules -/

def State.laser (s : State) (m : Nat) : Laser := s.base.lasers.getD m (Laser.fresh 5)
def State.mapLaser (s : State) (m : Nat) (f : Laser → Laser) : State := s.mapBase (fun b => { b with lasers := modAt b.lasers m f })

/-- A spare module on the switch of module `m` that can be switched in: LC0 to LC7 are modules 0 to 7, WC0 to WC9 8 to 17 (R252,
R490). -/
def State.spareModule (s : State) (m : Nat) : Option Nat :=
  if m < 8 then
    if s.base.linkSwitchDown then none else (List.range 8).find? (fun k => (s.laser k).st == 0)
  else
    if s.base.bankSwitchDown then none else ((List.range 10).map (· + 8)).find? (fun k => (s.laser k).st == 0)

/-- A plane is degraded (R256): out of service for every pair; a degraded SP leaves every site on the fallback. A pair that has no wavelength
left has failed (R242); the record's severity is that of what the pairs have lost (R516). -/
def State.degradePlane (s : State) (w : Nat) : State :=
  if s.base.planeSt.getD w 2 = 2 then s
  else
    let was := s
    let s := s.mapBase (fun b => { b with planeSt := setAt b.planeSt w 2, window := b.window.filter (fun x => x.1 != w)
                                          windowQueue := b.windowQueue.filter (· != w)
                                          calSuspended := b.calSuspended && !b.window.any (fun x => x.1 == w) })
    let s :=
      if w = 5 then s.mapBase (fun b => { b with spDegraded := BitVec.ofNat 23 s.siteMask })
      else
        s.allPairs.foldl (fun s x =>
          let s := s.abandonPairCal x.1 x.2 w
          let p := ((s.linkPair x.1 x.2).leave (sparePlane x.1 x.2) w 2).faulted s.now
          (s.putPair x.1 x.2 { p with dead := insertNat p.dead w }).resendOff x.1 x.2 w) s
    let less := s.allPairs.any (fun x => decide ((s.linkPair x.1 x.2).planes.length < (was.linkPair x.1 x.2).planes.length))
    let s := s.allPairs.foldl (fun s x =>
      if (s.linkPair x.1 x.2).planes = [] ∧ (was.linkPair x.1 x.2).planes ≠ [] then s.logEv 0x0403 sevCapacity unitBase (planeLoc x.1 x.2 w) else s) s
    (s.logEv 0x0405 (if w = 5 ∨ less then sevCapacity else sevLogged) unitBase (planeLoc 0xFF 0xFF w)).raiseEvent 4

/-- A spare module takes over every output of module `m` (R253 to R255). -/
def State.switchLink (s : State) (m new st : Nat) : State :=
  ((s.mapLaser m (fun l => { l with st })).mapLaser new (fun l => { l with st := 1 })).mapBase (fun b =>
    { b with linkMap := b.linkMap.map (fun k => if k = m then new else k) })

/-- The window of plane `w`, or what follows its loss of light, is over once every pair that can has the plane back (R254, R255);
background calibration goes on when no plane is left in one. -/
def State.closeWindow (s : State) (w : Nat) : State :=
  if s.base.planeSt.getD w 0 = 1 ∧ s.allPairs.all (fun y =>
      let p := s.linkPair y.1 y.2
      p.dead.contains w || p.planes.contains w || (decide (w = sparePlane y.1 y.2) && decide (p.spare = 0))) then
    s.mapBase (fun b =>
      let planeSt := setAt b.planeSt w 0
      { b with window := b.window.filter (fun x => x.1 != w), planeSt, calSuspended := planeSt.any (· == 1) })
  else s

/-- A wavelength returns to service (R239): its rings have locked (R285). -/
def State.returnWavelength (s : State) (i j w : Nat) : State :=
  if !s.pairExists i j ∨ 5 ≤ w then s
  else ((((s.putPair i j ((s.linkPair i j).rejoin (sparePlane i j) w)).markLock 1 (txRing i j w)).markLock 2 (rxRing i j w))).closeWindow w

/-! ## Weight-bank feeds (R261, R275) -/

def State.feedModule (s : State) (feed : Nat) : Nat := 8 + s.base.feedMap.getD feed 99

/-- An OPTICAL chunk runs on tower `t`; one runs or waits there. -/
def Tower.opticalRunning (t : Tower) : Bool := t.running.any (fun c => c.kind == .load || c.kind == .stream)
def Tower.opticalQueued (t : Tower) : Bool := t.opticalRunning || t.queue.any (fun c => c.kind == .load || c.kind == .stream)

/-- A running OPTICAL chunk is abandoned; where `loaded`, the images of a stream chunk's round stand in their banks again after a full load
(R275). -/
def State.abandonOptical (s : State) (t : Nat) (c : Chunk) (loaded : Bool) : State :=
  let s := s.rerunInPlace t c.id
  match (s.tower t).ops.find? (fun o => o.id == c.op) with
  | some o =>
    if loaded ∧ c.kind = .stream then
      let v := s.mapBase (fun b => { b with activeB := s.slotBank t o.slot })
      let imgs := roundImages (s.bankSet t) (opEnv v t o) c
      s.mapBankSet t (fun b => { b with banks := imgs.foldl (fun l i => modAt l i.1 (fun k => { k with image := some i.2 })) b.banks })
    else s
  | none => s

/-- The running OPTICAL chunks of a tower. -/
def Tower.opticalChunks (t : Tower) : List Chunk := t.running.filter (fun c => c.kind == .load || c.kind == .stream)

/-- The feed's banks hold nothing that can be skipped; its running OPTICAL chunks are run again after a full load. -/
def State.clearFeed (s : State) (feed : Nat) (rerun : Bool) : State :=
  [2 * feed, 2 * feed + 1].foldl (fun s t =>
    let s := s.mapBankSet t (fun b => { b with banks := b.banks.map (fun k => { k with image := none }) })
    if rerun then (s.tower t).opticalChunks.foldl (fun s c => s.abandonOptical t c true) s else s) s

/-- The calibrations in progress on a feed's banks are abandoned (R255, R275). -/
def State.abandonFeedCal (s : State) (feed : Nat) : State :=
  let mine := fun (c : CalChannel) => c.busy && c.kind == 3 && c.index / 512 == feed
  let s := s.mapBase (fun b => { b with
    stepsAbandoned := b.stepsAbandoned + (b.cal.filter mine).length
    cal := modWhere b.cal mine (fun c => { c with busy := false }) })
  [2 * feed, 2 * feed + 1].foldl (fun s t =>
    s.mapBankSet t (fun b => { b with banks := b.banks.map (fun k => { k with calibrating := false }) })) s

/-- A feed has no module left (R275): its banks are out of service, what runs on them is abandoned, and both towers report it. -/
def State.feedDown (s : State) (feed : Nat) : State :=
  let s := [2 * feed, 2 * feed + 1].foldl (fun s t =>
    (s.tower t).opticalChunks.foldl (fun s c => s.abandonOptical t c false)
      (s.mapBankSet t (fun b => { b with banks := b.banks.map (fun k => { k with inService := false, image := none, calibrating := false }) }))) s
  (s.logEv 0x0504 sevLogged unitBase).raiseEvent 2

/-- Module `m` (8 to 17) of feed `feed` gives way to a spare; `st` is the state it is left in. -/
def State.switchFeed (s : State) (feed new st : Nat) (rerun : Bool) : State :=
  let m := s.feedModule feed
  (((s.mapLaser m (fun l => { l with st })).mapLaser new (fun l => { l with st := 1 })).mapBase (fun b =>
    { b with feedMap := setAt b.feedMap feed (new - 8) })).clearFeed feed rerun

/-- A weight-bank module loses its light (R275). -/
def State.feedLoss (s : State) (feed : Nat) : State :=
  let m := s.feedModule feed
  let s := if (s.laser m).st = 5 then s else (s.mapLaser m (fun l => { l with st := 5 })).logEv 0x0503 sevLogged unitBase
  let s := s.abandonFeedCal feed
  match s.spareModule m with
  | some new => s.switchFeed feed new 5 true
  | none => s.feedDown feed

end Sys2Proof.Machine
end

