-- ==== Sys2Proof/Machine/NetOps.lean ====
section
/-!
DEFINITION. Bulk packets (Table NS-2): fields, how they are built and sent, and where a packet finds its bytes (R194, R208, R212,
R250, R251).
-/
namespace Sys2Proof

open Sys2Proof.Machine

/-! ## Fields (Table NS-2) -/

def Packet.f (p : Packet) (hi lo : Nat) : Nat := field p.hdr.toNat hi lo
def Packet.type (p : Packet) : Nat := p.f 3 0
/-- The routing bank the packet carries (R247). -/
def Packet.tepoch (p : Packet) : Bool := bit (p.f 4 4) 0
def Packet.len (p : Packet) : Nat := p.f 7 5
def Packet.src (p : Packet) : Nat := p.f 23 8
def Packet.dst (p : Packet) : Nat := p.f 39 24
def Packet.slot (p : Packet) : Nat := p.f 47 40
def Packet.slotv (p : Packet) : Bool := bit (p.f 48 48) 0
def Packet.addr (p : Packet) : Nat := p.f 127 64
def Packet.tag (p : Packet) : Nat := p.f 143 128
def Packet.redid (p : Packet) : Nat := p.f 159 144
def Packet.rop (p : Packet) : Nat := p.f 161 160
def Packet.rfmt (p : Packet) : Nat := p.f 163 162
def Packet.ccount (p : Packet) : Nat := p.f 168 164
def Packet.rgran (p : Packet) : Nat := p.f 179 169

/-- Whether a packet is management traffic of site `k`. -/
def Packet.mgmt (p : Packet) (k : Nat) : Bool := p.dst == k + 1 || p.src == k + 1

end Sys2Proof

namespace Sys2Proof.Machine

open Sys2Proof

/-- Fields of a packet to be sent. -/
structure PktFields where
  type  : Nat
  src   : Nat
  dst   : Nat
  slot  : Option Nat := none
  addr  : Nat
  tag   : Nat
  redid : Nat := 0
  rop   : Nat := 0
  rfmt  : Nat := 0
  ccount : Nat := 0
  rgran : Nat := 0
  deriving DecidableEq, Repr

/-- A packet of fields and data; `tepoch` is the active routing bank. -/
def mkPacket (tepoch : Bool) (f : PktFields) (data : List Byte) : Packet :=
  { data
    hdr := BitVec.ofNat 512 (f.type % 16 + (if tepoch then 16 else 0) + data.length / 64 % 8 * 2 ^ 5 + f.src % 65536 * 2 ^ 8
      + f.dst % 65536 * 2 ^ 24 + f.slot.getD 0 % 256 * 2 ^ 40 + (if f.slot.isSome then 2 ^ 48 else 0)
      + f.addr % 2 ^ 64 * 2 ^ 64 + f.tag % 65536 * 2 ^ 128 + f.redid % 65536 * 2 ^ 144 + f.rop % 4 * 2 ^ 160
      + f.rfmt % 4 * 2 ^ 162 + f.ccount % 32 * 2 ^ 164 + f.rgran % 2048 * 2 ^ 169) }

/-- The EID by which a tower's packets name it: the lowest EID whose unicast entry in the active bank is its site, else its
management EID (assumption log 24). -/
def State.siteEid (s : State) (site : Nat) : Nat :=
  match (if s.base.activeB then s.base.bankB else s.base.bankA).find? (fun p => field p.2.toNat 1 0 == 1 && field p.2.toNat 6 2 == site) with
  | some p => p.1
  | none => site + 1

def mgmtEid (site : Nat) : Nat := site + 1

/-- A multicast copy bound for member `m`: it carries the slot that the request's slot map gives for that tower (R340; DEDUCED, log 25: the
branch at the source, which makes the copy, puts it in). -/
def State.copyFor (s : State) (site m : Nat) (p : Packet) : Packet :=
  match (s.tower site).record? p.slot with
  | some r => { p with hdr := BitVec.ofNat 512 (p.hdr.toNat - p.slot * 2 ^ 40 + kvGet r.slotMap m p.slot % 256 * 2 ^ 40) }
  | none => p

/-- Send a packet from a site, by the bank it carries (R246, R247, R251): a fenced site sends nothing but management traffic; a packet whose EID has an unused
entry is counted and answered by the source's own interface with a fenced acknowledgement. -/
def State.sendFrom (s : State) (site : Nat) (p : Packet) : State :=
  let v := s.mapBase (fun b => { b with activeB := p.tepoch })
  if s.siteFenced site && !p.mgmt site then s
  else if field (s.routingEntry p.tepoch p.dst).toNat 1 0 ≠ 0 then s.sendBulk site (v.eidSite p.dst) p
  else
    (s.mapBase (fun b => { b with unroutable := b.unroutable + 1 })).sendPacket
      (mkPacket p.tepoch { type := 8, src := p.dst, dst := p.src, addr := p.addr, tag := p.tag } [])

/-- Where the bytes of a multicast copy go at member site `k` (assumption log 25): its own window where the address's EID lies
there, else the window of the lowest EID of that site in the same space. -/
def State.memberLoc (s : State) (site a : Nat) : Loc :=
  if s.eidSite (addrEid a) = some site then s.locateAddr a
  else
    match s.mem.windows.find? (fun w => w.space == addrSpace a && w.tower == site) with
    | some w => s.locate (addrSpace a) w.eid (addrOff a)
    | none => .poison (some site)

/-- The window that those bytes fall in. -/
def State.memberWindow? (s : State) (site a : Nat) : Option Window :=
  if s.eidSite (addrEid a) = some site then s.window? (addrEid a) (addrSpace a)
  else s.mem.windows.find? (fun w => w.space == addrSpace a && w.tower == site)

/-- The space of a packet is memory that packets reach (Table MM-1). -/
def packetSpace (a : Nat) : Bool := decide (addrSpace a = 1) || decide (addrSpace a = 2) || decide (addrSpace a = 5)

/-- A packet may not reach its frame of KV page space in window `w`: no slot, or a slot that does not own it (R311). -/
def Window.kvRefuses (w : Window) (p : Packet) : Bool :=
  decide (w.space = 5) && (!p.slotv || decide (w.frames = 0) || decide (addrOff p.addr / 65536 / max 1 w.frames ≠ p.slot))

/-- Whether tower `t` holds key `k` in its own bonded SRAM or, as a cache tower, in its backing. -/
def ownKey (t k : Nat) : Bool := k / 2 ^ 40 == t || (decide (16 ≤ t) && k / 2 ^ 40 == 16 + t)

/-- The bytes a list of staged bytes puts at address `a`, if any: the last one stands. -/
def stagedAt (l : List (Nat × Byte)) (a : Nat) : Option Byte := (l.reverse.find? (fun p => p.1 == a)).map (·.2)

/-- Granules (256 bytes) that staged bytes fall in, rising. -/
def granulesOf (l : List (Nat × Byte)) : List Nat := l.foldl (fun acc p => insertNat acc (p.1 / 256)) []

/-- The data of one packet for granule `g`: whole 64-byte flits from the first to the last one staged, other bytes of them as
memory holds them; address and bytes. -/
def granuleData (s : State) (l : List (Nat × Byte)) (g : Nat) : Nat × List Byte :=
  let flits := (List.range 4).filter (fun f => l.any (fun p => p.1 / 64 == g * 4 + f))
  let lo := flits.headD 0
  let n := maxNat flits + 1 - lo
  let a := g * 256 + lo * 64
  (a, (List.range (n * 64)).map (fun i => (stagedAt l (a + i)).getD (s.byteAt (a + i))))

/-- The key of module address `a`, where it resolves to memory. -/
def State.keyAt? (s : State) (a : Nat) : Option Nat :=
  match s.locateAddr a with
  | .key k => some k
  | .poison _ => none
  | .unrouted => none

/-- Clear the poison of the words, and of the LPDDR5X groups, all of whose bytes are among the keys written (R320). -/
def MemSt.clearCovered (m : MemSt) (keys : List Nat) : MemSt :=
  { m with poison := m.poison.filter (fun p =>
      if 32 ≤ p / 2 ^ 40 ∧ p / 2 ^ 40 < 64 then !(List.range 1024).all (fun i => keys.contains (p / 1024 * 1024 + i))
      else !(List.range 32).all (fun i => keys.contains (p + i))) }

/-- Write bytes at keys, as one write. -/
def State.writeKeys (s : State) (l : List (Nat × Byte)) : State :=
  (l.foldl (fun s p => s.writeMem p.1 [p.2]) s).mapMem (fun m => m.clearCovered (l.map (·.1)))

/-- Write a byte list at module address `a` where it resolves to memory. -/
def State.putBytes (s : State) (a : Nat) (bytes : List Byte) : State :=
  s.writeKeys (bytes.zipIdx.filterMap (fun p => (s.keyAt? (a + p.2)).map (fun k => (k, p.1))))

/-- Write staged bytes to the tower's own memory in one commit (R95). -/
def State.commitLocal (s : State) (t : Nat) (l : List (Nat × Byte)) : State :=
  s.writeKeys (l.filterMap (fun p => match s.keyAt? p.1 with
    | some k => if ownKey t k then some (k, p.2) else none
    | none => none))

/-- Whether a staged byte belongs to another site. -/
def State.isRemote (s : State) (t : Nat) (a : Nat) : Bool :=
  match s.locateAddr a with
  | .key k => !ownKey t k
  | .poison _ => false
  | .unrouted => true

/-- The slot a packet to the owner of an address carries (R340). -/
def slotFor (s : State) (t slot : Nat) (slotMap : List (Nat × Nat)) (a : Nat) : Nat :=
  match s.eidSite (addrEid a) with
  | some k => if k = t then slot else kvGet slotMap k slot
  | none => slot

end Sys2Proof.Machine
end

