-- ==== Sys2Proof/Machine/Towers.lean ====
section
/-! DEFINITION. Capacity, sparing, failure and fences of towers: commands of chapter 03 that do not move chunks. -/
namespace Sys2Proof.Machine

open Sys2Proof

/-- A region delivers `cycles` in the slot that has just closed (R69, R70), as its counter reads: 1,489 or more end a run of
shortfalls; a fourth consecutive shortfall loses the region. -/
def State.shortfall (s : State) (t r cycles : Nat) : State :=
  match (s.tower t).regions[r]? with
  | none => s
  | some g =>
    let slot := s.slotClosed t
    let s := s.mapTower t (fun x => x.mapRegion r (fun g => { g with cycles := cycles }))
    if !(s.tower t).judges g slot then s
    else if 1489 ≤ cycles then s.mapTower t (fun x => x.mapRegion r (fun g => { g with short := 0 }))
    else
      let run := if 0 < g.short ∧ g.follows slot then g.short + 1 else 1
      let s := s.mapTower t (fun x =>
        { x.mapRegion r (fun g => { g with short := run, shortSlot := slot }) with shortTotal := x.shortTotal + 1 })
      if 4 ≤ run then s.loseRegion t r else s

/-- SHORTFALL (R70). -/
def execShortfall (at_ tower region cycles : Nat) (s : State) : Host.Outcome State Fault Refusal :=
  .next ((s.advance at_).telling (fun s => s.shortfall tower region cycles))

/-- TILE_FAULT (R84, R85, R86). -/
def execTileFault (at_ tower region tile : Nat) (s : State) : Host.Outcome State Fault Refusal :=
  .next ((s.advance at_).telling (fun s => if tile < 17 then s.faultTile tower region tile else s))

/-- A chunk that has run `cycles` cycles: past four times its costed cycles its tile is faulted (R84). -/
def State.chunkOverrun (s : State) (t chunk cycles : Nat) : State :=
  match (s.tower t).running.find? (fun c => c.id == chunk) with
  | none => s
  | some c =>
    match c.place with
    | some q => if 4 * c.cost < cycles then s.telling (fun s => s.faultTile t q.1 q.2) else s
    | none => s

/-- CHUNK_OVERRUN (R84). -/
def execChunkOverrun (at_ tower chunk cycles : Nat) (s : State) : Host.Outcome State Fault Refusal :=
  .next ((s.advance at_).chunkOverrun tower chunk cycles)

/-- The self-test of a waiting spare, every 100,000,000 tk (R85); a failure faults the spare (R84, R86). -/
def State.spareSelfTest (s : State) (t r : Nat) (pass : Bool) : State :=
  match (s.tower t).regions[r]? with
  | none => s
  | some g =>
    if (s.tower t).isCache ∨ g.st ≠ .inService ∨ s.replica t < g.selfTest + 100000000 then s
    else
      let s := s.mapTower t (fun x => x.mapRegion r (fun g => { g with selfTest := s.replica t }))
      if pass then s else s.telling (fun s => s.faultTile t r 16)

/-- SPARE_SELF_TEST (R85). -/
def execSpareSelfTest (at_ tower region : Nat) (pass : Bool) (s : State) : Host.Outcome State Fault Refusal :=
  .next ((s.advance at_).spareSelfTest tower region pass)

/-- REGION_OSCILLATOR_STOP (R86): the region is lost, and its oscillator no longer runs. -/
def execRegionOscillatorStop (at_ tower region : Nat) (s : State) : Host.Outcome State Fault Refusal :=
  .next (((s.advance at_).mapTower tower (fun x => x.mapRegion region (fun g => { g with running := false }))).telling
    (fun s => s.loseRegion tower region))

/-- SCHEDULER_FAULT (R104): the scheduler, scoreboard or write gate of a tower reports a fault. -/
def execSchedulerFault (at_ tower : Nat) (s : State) : Host.Outcome State Fault Refusal :=
  .next (if tower < 20 then (s.advance at_).telling (fun s => s.failTower tower) else s.advance at_)

/-- A write of B+08.01 (R101, R106, R533). Causes 0x02 to 0x05 are fences the hub holds. -/
def towerFenceProc (t value : Nat) (s : State) : Nat × State :=
  let x := s.tower t
  checked
    [(decide (1 < value), 0x04000003),
     (decide (value = 1) && s.holdsBooked t, stateAbort (towerIndex t 0x06) 1),
     (decide (value = 1) && x.group.isSome, stateAbort (towerIndex t 0x00) 5),
     (decide (value = 0) && x.fence && decide (x.fenceCause ≠ 1), stateAbort (towerIndex t 0x08) 2)]
    (fun s =>
      if value = 1 then (if x.fence then s else s.fenceTower t 1)
      else if x.fence then s.unfenceTower t else s) s

/-- TOWER_FENCE_WRITE (R101). -/
def execTowerFenceWrite (at_ tower value : Nat) (s : State) : Host.Outcome State Fault Refusal :=
  .next (if tower < 20 then (s.advance at_).telling (fun s => s.pcieWrite (towerIndex tower 0x08) 0x01 (towerFenceProc tower value))
    else s.advance at_)

end Sys2Proof.Machine
end

