-- ==== Sys2Proof/Machine/Schedule.lean ====
section
/-!
DEFINITION. The tower scheduler (R89 to R100): activation records, windows, the chunk queue, commits, completion words and end
notices.
-/
namespace Sys2Proof.Machine

open Sys2Proof

/-! ## Readiness -/

/-- The key count that an ATTN with the paged bit set reads when it becomes ready (R152). -/
def State.keyCount (s : State) (t : Nat) (o : OpInst) : Nat :=
  if dOpcode o.word = 0x10 ∧ bit (dVariant o.word) 1 = true then s.wordAt ((opEnv s t o).addr 3) else 0

/-- Cut a ready operator into chunks and queue them; combining chunks wait for the partials (R92, R93, R145). -/
def State.cutOp (s : State) (t : Nat) (o : OpInst) : State :=
  let keys := s.keyCount t o
  let cs := s.opChunks t o (s.tower t).nextId
  s.mapTower t (fun x =>
    { x with queue := x.queue ++ cs.filter (fun c => c.kind != .combining), nextId := x.nextId + cs.length
             ops := modWhere x.ops (fun p => p.id == o.id) (fun p => { p with cut := true, chunks := cs.length, keyCount := keys }) })

/-- The ranges of the operators that have not entered, as their windows and page tables stand now, each under its slot's bank (R97). -/
def State.freshRanges (s : State) (t : Nat) (o : OpInst) : OpInst :=
  if o.entered then o
  else
    let v := s.mapBase (fun b => { b with activeB := s.slotBank t o.slot })
    { o with ranges := v.opRanges (opEnv v t o) }

/-- Operators whose turn has come enter the scoreboard with the ranges that their operands then have (R90, R97, R99), by the tower's
replica of the tally (R46). -/
def State.enterTower (s : State) (t : Nat) : State :=
  s.mapTower t (fun x =>
    let x' := { x with ops := enterOps (s.replica t) x.ballastUntil (1024 - x.entriesUsed) (x.ops.map (s.freshRanges t)) }
    { x' with sbHigh := max x'.sbHigh x'.entriesUsed, sbStalls := x'.sbStalls + newStalls x.ops x'.ops })

/-- Evaluate a tower: operators enter the scoreboard, remote waits are watched, ready operators are cut (R90, R91, R216). -/
def State.schedule (s : State) (t : Nat) : State :=
  let before := (s.tower t).ops
  let s := s.enterTower t
  let fresh := (s.tower t).ops.filter (fun o => o.entered && before.any (fun p => p.id == o.id && !p.entered))
  let s := s.sendWatches t fresh
  (s.tower t).ops.foldl (fun s o => if !o.cut && !o.failed && s.opReady t o then s.cutOp t o else s) s

/-! ## Activation records -/

/-- The waits of a descriptor under a record's slot map. -/
def opWaits (word : BitVec 1024) (slotMap : List (Nat × Nat)) : List (Nat × Nat × Nat × Option Nat) :=
  [0, 1].filterMap (fun k =>
    match syncRef slotMap (dWait word k % 2 ^ 32) with
    | some r => some (r.1, r.2, dWait word k / 2 ^ 32, none)
    | none => none)

/-- The operator of descriptor `desc` of a record (R90): booked work is eligible at the first tick of its window. -/
def newOp (s : State) (t : Nat) (r : ActRec) (id desc : Nat) (word : BitVec 1024) : OpInst :=
  let w := r.windows.find? (fun w => w.win == dWindow word)
  let booked := r.booked && w.isSome
  { id, slot := r.slot, desc, word, issue := id, booked, win := dWindow word
    eligible := match w with
      | some w => if booked then w.open_ else s.replica t
      | none => s.replica t
    closeTick := match w with
      | some w => if booked then w.close else 0
      | none => 0
    entered := false, started := none, ranges := [], waits := opWaits word r.slotMap, cut := false, chunks := 0, arrived := 0, flags := 0,
    code := 0, unacked := 0, remote := false, tree := 0, stalled := false, fencedCopies := [], failed := false, keyCount := 0, pieces := [], offers := [], deliv := [] }

/-- The task graphs a record runs, each once, in window order. -/
def ActRec.graphs (r : ActRec) : List Nat :=
  r.windows.foldl (fun acc w => if acc.contains w.graph then acc else acc ++ [w.graph]) []

/-- Descriptor indices of the record's graphs, in issue order. -/
def graphDescs (p : PkgTables) (graphs : List Nat) : List Nat :=
  graphs.flatMap (fun g => match p.graphs[g]? with
    | some q => (List.range q.2).map (q.1 + ·)
    | none => [])

/-- The tables of a record's package for tower `t`; none, where the package has no section for it. -/
def State.recordTables (s : State) (t : Nat) (r : ActRec) : PkgTables :=
  ((s.pkg? r.model).bind (fun p => p.tablesOf t)).getD { tower := t, graphs := [], descs := [], tensors := [], lanes := [], persist := [] }

/-- An activation record arrives at its tower (R89, R90): only an ACTIVE tower takes one, at most 256. -/
def State.install (s : State) (t slot : Nat) : State :=
  let x := s.tower t
  match s.ledger.inflight.find? (fun i => i.1 == t && i.2.slot == slot) with
  | none => s
  | some (_, r) =>
    if x.mode ≠ .active ∨ 256 ≤ x.records.length ∨ x.records.any (fun q => q.slot == slot) then s
    else
      let s := s.ctlTo t 1 .scheduler .management
      let tabs := s.recordTables t r
      let ops := (graphDescs tabs r.graphs).zipIdx.map (fun d => newOp s t r (x.nextIssue + d.2) d.1 (tabs.descs.getD d.1 0))
      let s := s.mapLedger (fun l => { l with inflight := l.inflight.filter (fun i => !(i.1 == t && i.2.slot == slot)) })
      let s := s.mapTower t (fun x =>
        { x with records := x.records ++ [{ r with total := ops.length, done := 0, status := 0, code := 0, codeDesc := 0xFFFF }]
                 ops := x.ops ++ ops, nextIssue := x.nextIssue + ops.length, coldClean := false })
      s.schedule t

/-- ACTIVATION_INSTALL (R89). -/
def execActivationInstall (at_ tower slot : Nat) (s : State) : Host.Outcome State Fault Refusal :=
  .next ((s.advance at_).install tower slot)

/-- A booked window of a record opens (R90). -/
def State.windowOpens (s : State) (t slot win : Nat) : State :=
  match (s.tower t).record? slot with
  | none => s
  | some r =>
    if r.windows.any (fun w => w.win == win && decide (w.open_ ≤ s.replica t)) then
      (s.mapTower t (fun x => x.mapRecord slot (fun r =>
        { r with windows := modWhere r.windows (fun w => w.win == win) (fun w => { w with opened := true }) }))).schedule t
    else s

/-- WINDOW_OPEN (R90). -/
def execWindowOpen (at_ tower slot win : Nat) (s : State) : Host.Outcome State Fault Refusal :=
  .next ((s.advance at_).windowOpens tower slot win)

/-! ## Chunks -/

/-- A booked window is open on the tower now. -/
def Tower.windowNow (t : Tower) (now : Nat) : Bool :=
  t.records.any (fun r => r.booked && r.windows.any (fun w => decide (w.open_ ≤ now) && decide (now < w.close)))

/-- A queued chunk may start: unbooked work as R334 allows, one OPTICAL chunk at a time (R270), a poisoned chunk once the
vertical channels report trained (R96), no unbooked chunk at ballast level 15 (R501). -/
def State.mayStart (s : State) (t : Nat) (c : Chunk) : Bool :=
  let x := s.tower t
  let unbooked := match x.group with
    | some g => (s.groups.getD g Group.fresh).unbooked
    | none => true
  let optical := fun (c : Chunk) => c.kind == .load || c.kind == .stream
  (c.booked || (unbooked && x.ballast != 15) || (c.kind == .copy && !x.windowNow (s.replica t) && x.ballast != 15)) &&
    !(optical c && x.running.any optical) && !(c.poisoned && x.layerReset != .idle)

/-- Order of R93: booked before unbooked; earliest close first; then issue order. -/
def Chunk.ahead (a b : Chunk) : Bool :=
  (a.booked && !b.booked) || (a.booked && b.booked && (decide (a.closeTick < b.closeTick) ||
    (decide (a.closeTick = b.closeTick) && decide (a.issue < b.issue)))) || (!a.booked && !b.booked && decide (a.issue < b.issue))

/-- The chunk that an idle tile takes next. DESIGN CHOICE (log 51): a chunk returned to the head of the queue (R87) stands before those of
its own class, window close and issue position, and not before a booked chunk whose window closes earlier: R93's order goes first. -/
def State.nextChunk (s : State) (t : Nat) : Option Chunk :=
  ((s.tower t).queue.filter (fun c => s.mayStart t c)).foldl (fun best c =>
    match best with
    | none => some c
    | some b => if c.ahead b then some c else some b) none

/-- Tile `i` of region `r` is in the active set, its region in service, and nothing runs on it; on a cache tower the region is
the one engine. -/
def Tower.idle (t : Tower) (r i : Nat) : Bool :=
  match t.regions[r]? with
  | none => false
  | some g =>
    g.st != .lost && (if t.isCache then i == 0 else decide (i < 17) && g.hasTile i) && !t.running.any (fun c => c.place == some (r, i))

/-- The tower runs chunks: ACTIVE, or READY with the records it kept when it left its group (R333). -/
def Tower.runs (t : Tower) : Bool := !t.fence && (t.mode == .active || t.mode == .ready)

/-- A chunk goes to tile `i` of region `r` by the region's crossing, which holds 16 entries (R71, R77). Its operator's start is stamped
with its first chunk (R73). -/
def Tower.issue (x : Tower) (c : Chunk) (r i stamp : Nat) : Tower :=
  { x.mapRegion r (fun g => { g with queue := g.queue ++ [c.id] }) with
    queue := x.queue.filter (fun q => q.id != c.id)
    running := x.running ++ [{ c with place := some (r, i) }]
    ops := modWhere x.ops (fun o => o.id == c.op) (fun o => { o with started := some (o.started.getD stamp) }) }

/-- The crossing to region `r` takes an entry; a source that finds its 16 entries full stalls (R71). -/
def Tower.crosses (x : Tower) (r : Nat) : Bool :=
  match x.regions[r]? with
  | some g => decide (g.queue.length < 16)
  | none => false

/-- An idle tile or Decane region takes the next chunk (R93). -/
def State.issueChunk (s : State) (t r i : Nat) : State :=
  let s := s.schedule t
  if (s.tower t).runs && (s.tower t).idle r i && (s.tower t).crosses r then
    match s.nextChunk t with
    | none => s
    | some c => (s.mapTower t (fun x => x.issue c r i (s.replica t))).loadEntry t { c with place := some (r, i) }
  else s

/-- CHUNK_ISSUE (R93). -/
def execChunkIssue (at_ tower region tile : Nat) (s : State) : Host.Outcome State Fault Refusal :=
  .next ((s.advance at_).issueChunk tower region tile)

/-! ## Commit -/

/-- The bytes of a contribution that a commit of operator `o` completes (R208): those of granules now whole, and with the operator's last
chunk all that are left; the others wait. -/
def OpInst.wholeGranules (o : OpInst) (staged : List (Nat × Byte)) : List (Nat × Byte) × List (Nat × Byte) :=
  let l := o.pieces ++ staged
  let ready := fun (g : Nat) => decide (o.chunks ≤ o.arrived + 1) || (List.range 256).all (fun i => l.any (fun p => p.1 == 256 * g + i))
  (l.filter (fun p => ready (p.1 / 256)), l.filter (fun p => !ready (p.1 / 256)))

/-- What the operator of a commit sends to other sites: writes, multicast copies, or contributions to a reduction, one packet for each
granule. -/
def commitPackets (s : State) (t : Nat) (o : OpInst) (r : Option ActRec) (c : Chunk) : List Packet :=
  let op := dOpcode o.word
  let slotMap := match r with
    | some r => r.slotMap
    | none => []
  let remote := if op = 0x60 ∨ op = 0x62 then (o.wholeGranules c.staged).1
    else if op = 0x61 then c.staged else c.staged.filter (fun p => s.isRemote t p.1)
  let e := opEnv s t o
  let granules := e.resultGranules
  (granulesOf remote).map (fun g =>
    let d := granuleData s remote g
    if op = 0x60 ∨ op = 0x62 then
      let dst := e.param 943 928
      let site := if op = 0x60 then (s.eidSite dst).getD 0 else (s.eidSites dst).headD 0
      let fmt := (e.tensor 1).fmt
      mkPacket s.base.activeB
        { type := 5, src := s.siteEid t, dst := if op = 0x60 then dst else s.siteEid site, slot := some (kvGet slotMap site o.slot),
          addr := d.1, tag := o.id % 32768, redid := e.param 911 896, rop := dRedop o.word,
          rfmt := if fmt = 1 then 0 else if fmt = 3 then 1 else 2, ccount := 1, rgran := granules } d.2
    else if op = 0x61 then
      mkPacket s.base.activeB { type := 6, src := s.siteEid t, dst := e.param 911 896, slot := some o.slot, addr := d.1, tag := o.id % 32768 } d.2
    else
      mkPacket s.base.activeB
        { type := 3, src := s.siteEid t, dst := addrEid d.1, slot := some (slotFor s t o.slot slotMap d.1), addr := d.1, tag := o.id % 32768 } d.2)

/-- Acknowledgements that the packets of a commit will bring (R205, R213). -/
def acksOf (s : State) (op : Nat) (ps : List Packet) : Nat :=
  if op = 0x60 ∨ op = 0x62 then 0
  else if op = 0x61 then sumNat (ps.map (fun p => max 1 (s.eidSites p.dst).length))
  else ps.length

/-- Queue the combining chunks once every partial of the operator has committed (R145). -/
def State.queueCombining (s : State) (t : Nat) (o : OpInst) : State :=
  let cs := s.opChunks t o (s.tower t).nextId
  if o.chunks = o.arrived ∨ dParts o.word ≤ 1 ∨ o.arrived ≠ (cs.filter (fun c => c.kind != .combining)).length then s
  else
    s.mapTower t (fun x => { x with queue := x.queue ++ cs.filter (fun c => c.kind == .combining), nextId := x.nextId + cs.length })

/-- The granules of spooled windows among staged bytes, by address (R473). -/
def State.spooledIn (s : State) (l : List (Nat × Byte)) : List Nat :=
  ((granulesOf l).map (256 * ·)).filter (fun a => s.pair.spoolWins.any (fun w => w.1 != 0 && w.1 == addrEid a && w.2 == addrSpace a))

/-- The arrival of one chunk on the sync tree (Table NS-4). -/
def arrivalMsg (slot desc : Nat) (flags : BitVec 8) : BitVec 64 :=
  BitVec.ofNat 64 (1 + slot % 256 * 2 ^ 8 + desc % 65536 * 2 ^ 16 + 2 ^ 32 + flags.toNat * 2 ^ 48)

/-- The site whose reducer takes what an operator of tower `t` contributes, under its record's bank (R159, R211, R247). -/
def State.reducerSite (s : State) (t : Nat) (o : OpInst) : Nat :=
  let v := s.mapBase (fun b => { b with activeB := s.slotBank t o.slot })
  if dOpcode o.word = 0x60 then (v.eidSite (descNat o 943 928)).getD 0 else (v.eidSites (descNat o 943 928)).headD 0

/-- The slot that the packets of an operator of tower `t` carry to site `k` (R340). -/
def Tower.slotAt (x : Tower) (o : OpInst) (k : Nat) : Nat :=
  match x.record? o.slot with
  | some r => kvGet r.slotMap k o.slot
  | none => o.slot

/-- The reducer has refused the reduction of operator `o`: its tower holds it (R210). -/
def State.reductionHeld (s : State) (t : Nat) (o : OpInst) : Bool :=
  let k := s.reducerSite t o
  decide (dOpcode o.word = 0x60 ∨ dOpcode o.word = 0x62) &&
    (s.tower t).heldReductions.contains (descNat o 911 896, (s.tower t).slotAt o k, k)

/-- A chunk whose computation passed its checks releases its staged outputs as one commit (R95), and its region sends one arrival
with the chunk's status byte (R202). -/
def State.commitChunk (s : State) (t : Nat) (c : Chunk) (o : OpInst) : State :=
  let op := dOpcode o.word
  let v := s.mapBase (fun b => { b with activeB := s.slotBank t o.slot })
  let ps := if op = 0x78 then [] else commitPackets v t o ((s.tower t).record? o.slot) c
  let acks := acksOf v op ps
  let s := if op = 0x78 ∨ op = 0x60 ∨ op = 0x61 ∨ op = 0x62 then s
    else s.underBank (s.slotBank t o.slot) (fun s => s.commitLocal t c.staged)
  let held := s.reductionHeld t o
  let s := s.mapTower t (fun x =>
    { (x.finished c.id).mapRecord o.slot (fun r => { r with spooled := (s.spooledIn c.staged).foldl insertNat r.spooled }) with
             tree := x.tree ++ [arrivalMsg o.slot o.desc c.flags]
             ops := modWhere x.ops (fun p => p.id == o.id) (fun p =>
               { p with arrived := p.arrived + 1, code := max p.code c.code,
                        unacked := p.unacked + acks, remote := p.remote || decide (op = 0x60 ∨ op = 0x62)
                        pieces := if op = 0x60 ∨ op = 0x62 then (o.wholeGranules c.staged).2 else p.pieces
                        offers := if op = 0x60 ∨ op = 0x62 then p.offers ++ ps else p.offers
                        deliv := if op = 0x78 then
                            p.deliv ++ [((boxRange c.box 1).1, (sortBy (fun a b => decide (a.1 < b.1)) c.staged).map (·.2))]
                          else p.deliv }) })
  let s := if held then s else ps.foldl (fun s p => s.sendFrom t p) s
  let s := match (s.tower t).ops.find? (fun p => p.id == o.id && !p.failed) with
    | some p => s.queueCombining t p
    | none => s
  ((s.mapTower t Tower.dropFailed).settleRecord t o.slot).schedule t

/-- The copy chunk of a page retirement commits (R324, R328): the page keeps its number and contents, poison among them, and is
replaced. -/
def State.commitCopy (s : State) (t : Nat) (c : Chunk) : State :=
  let page := (s.tower t).retirePage
  let s := s.mapTower t (fun x =>
    { x.finished c.id with
      ops := x.ops.filter (fun o => o.id != c.op), retireState := .replaced
      replacedPages := insertNat x.replacedPages page })
  ((s.eccRecord ((s.keyPlace (sramKey t page 0)).record s.now 6 0 0)).raiseVector 0).schedule t

/-- Addresses to which a chunk may not write (R290, R302, R325): their routers answer its writes with poisoned completions. Contributions,
copies and deliveries are packets, which their receivers judge. -/
def State.refusedWrites (s : State) (o : OpInst) (c : Chunk) : List Nat :=
  if dOpcode o.word = 0x78 ∨ dOpcode o.word = 0x60 ∨ dOpcode o.word = 0x61 ∨ dOpcode o.word = 0x62 then []
  else (c.staged.map (·.1)).filter (fun a => match s.locateAddr a with
    | .poison _ => true
    | .key _ => false
    | .unrouted => false)

/-- A computed chunk commits, unless one of its writes is refused. -/
def State.commitOrPoison (s : State) (t : Nat) (c : Chunk) (o : OpInst) : State :=
  let b := s.slotBank t o.slot
  let bad := (s.mapBase (fun x => { x with activeB := b })).refusedWrites o c
  if bad = [] then s.commitChunk t c o else s.underBank b (fun s => s.meetPoison t c.id bad)

/-- A finished chunk: failed checks fault the tile that ran it (R84), else it commits. -/
def State.chunkCommit (s : State) (t chunk : Nat) (checksOk : Bool) : State :=
  match (s.tower t).running.find? (fun c => c.id == chunk) with
  | none => s
  | some c =>
    if !checksOk then
      match c.place with
      | some q => s.telling (fun s => s.faultTile t q.1 q.2)
      | none => s
    else
      match (s.tower t).ops.find? (fun o => o.id == c.op) with
      | some o => if c.kind = .copy then s.commitCopy t c else if c.computed then s.commitOrPoison t c o else s
      | none => s

/-- CHUNK_COMMIT (R95, R96). -/
def execChunkCommit (at_ tower chunk : Nat) (checksOk : Bool) (s : State) : Host.Outcome State Fault Refusal :=
  .next ((s.advance at_).chunkCommit tower chunk checksOk)

/-! ## Waits that expire (R100) -/

/-- Tick at which the waits of an operator expire. -/
def OpInst.expiry (o : OpInst) (limit : Nat) : Nat :=
  if o.booked then max (o.eligible + limit) (o.closeTick - 1) else o.eligible + limit

/-- The increments of object `i` of tower `t` that are sampled in this tick (R61). -/
def State.queuedSignals (s : State) (t i : Nat) : Nat :=
  sumNat (s.pending.map (fun c => match c with
    | .signal a m => if a ≤ s.now ∧ msgDst m = t ∧ msgIndex m = i then msgValue m else 0
    | _ => 0))

/-- A notice sampled in this tick meets a wait on another tower's object (R216): the reply to its WATCH, or one of the generation that
the reply gave. -/
def State.noticeArrives (s : State) (h i threshold : Nat) (gen : Option Nat) : Bool :=
  s.sampled (fun c => match c with
    | .notice a m => decide (a ≤ s.now ∧ msgSrc m = h ∧ msgIndex m = i ∧ threshold ≤ msgValue m) &&
        (gen == some (msgGen m) || (gen.isNone && msgDst m != 0x1F))
    | _ => false)

/-- The waits of an operator are met, with the increments and notices of this tick (R62, R100). -/
def State.waitsArrive (s : State) (t : Nat) (o : OpInst) : Bool :=
  o.waits.all (fun w =>
    if w.1 = t then decide (w.2.2.1 ≤ ((s.tower t).syncObj w.2.1).value + s.queuedSignals t w.2.1) else s.noticeArrives w.1 w.2.1 w.2.2.1 w.2.2.2)

/-- A sync wait reaches its expiry tick unmet (R100): the operator ends with 0x80. A wait that has been met is no wait. -/
def State.syncWaitExpiry (s : State) (t op : Nat) : State :=
  match (s.tower t).ops.find? (fun o => o.id == op) with
  | none => s
  | some o =>
    if o.cut ∨ s.waitsArrive t o ∨ s.replica t < o.expiry (s.tower t).syncLimit ∨ s.replica t < o.eligible then s
    else ((s.failOp t op 0x80).settleRecord t o.slot).schedule t

/-- SYNC_WAIT_EXPIRY (R100). -/
def execSyncWaitExpiry (at_ tower op : Nat) (s : State) : Host.Outcome State Fault Refusal :=
  .next ((s.advance at_).syncWaitExpiry tower op)

/-! ## Completion words and end notices (R164, R165, R217) -/

/-- The word a record reports (Table OP-10). -/
def ActRec.word (r : ActRec) : BitVec 64 :=
  BitVec.ofNat 64 (r.status.toNat + r.code % 256 * 2 ^ 8 + r.codeDesc % 65536 * 2 ^ 16 + r.done % 65536 * 2 ^ 32)

/-- The record is ready to report: a fatal code at once, otherwise when its last operator has completed and every signal it
sent is acknowledged (R164, R217). -/
def ActRec.due (r : ActRec) : Bool := !r.reported && (decide (0x80 ≤ r.code) || (decide (r.done = r.total) && decide (r.unacked = 0)))

/-- The hub receives the completion word of record `slot` of tower `t` (R165): a fatal code ends and withdraws the request,
logged as 0x0242; a fatal code after that is only logged. -/
def State.completionWord (s : State) (t slot : Nat) : State :=
  match (s.tower t).record? slot with
  | none => s
  | some r =>
    if !r.due then s
    else
      let s := s.mapTower t (fun x => x.mapRecord slot (fun q => { q with reported := true }))
      if r.code < 0x80 then s.mapReq r.tenant r.seq (fun q => { q with words := insertNat q.words t })
      else
        match s.req? r.tenant r.seq with
        | none => s.logEv 0x0242 sevLogged t 0 r.seq (arg1Of r.tenant 0 r.code)
        | some q =>
          if q.phase = .accepted ∧ q.reason = 0 then
            (s.endRequest r.tenant r.seq 0x82 r.code t).logEv 0x0242 sevWork t 0 r.seq (arg1Of r.tenant 0x82 r.code)
          else
            (s.endRequest r.tenant r.seq 0x82 r.code t).logEv 0x0242 sevLogged t 0 r.seq (arg1Of r.tenant q.reason r.code)

/-- COMPLETION_WORD (R164, R165). -/
def execCompletionWord (at_ tower slot : Nat) (s : State) : Host.Outcome State Fault Refusal :=
  .next ((s.advance at_).completionWord tower slot)

/-- Granules of spooled windows that a record has committed (R473): module address and the 256 bytes as they stand. -/
def State.spoolGranules (s : State) (t slot : Nat) : List (Nat × List Byte) :=
  match (s.tower t).record? slot with
  | some r => r.spooled.map (fun a => (a, s.bytesAt a 256))
  | none => []

/-- Every record of a B request has retired: a protected one's bookings are released (R471), and its delta goes to the twin (R473). One that ran again after a takeover with its promise past is over (R476). -/
def State.requestRetired (s : State) (tenant seq : Nat) : State :=
  match s.req? tenant seq with
  | none => s
  | some q =>
    if q.cls = 2 ∧ q.towers.all (fun k => q.retired.contains k) then
      let s := if q.prot then s.releaseBookings tenant seq else s
      let s := if q.lastLeft ∧ q.phase = .accepted then s.finishEnd q else s
      if s.hearsTwin ∧ s.decides then s.sendTwin (.delta tenant seq q.delta) else s
    else s

/-- The hub's end notice for a request that completed normally reaches tower `t` (R217): once every tower's word is in, the
record retires and its 24 objects are zeroed. -/
def State.endNotice (s : State) (t slot : Nat) : State :=
  match (s.tower t).record? slot with
  | none => s
  | some r =>
    match s.req? r.tenant r.seq with
    | none => s
    | some q =>
      if q.towers.all (fun k => q.words.contains k) && r.reported then
        let g := if q.cls = 2 then s.spoolGranules t slot else []
        let s := s.mapReq r.tenant r.seq (fun q => { q with delta := q.delta ++ g })
        ((s.retireRecord t slot).requestRetired r.tenant r.seq).schedule t
      else s

/-- END_NOTICE (R142, R217). -/
def execEndNotice (at_ tower slot : Nat) (s : State) : Host.Outcome State Fault Refusal :=
  .next ((s.advance at_).endNotice tower slot)

end Sys2Proof.Machine
end

