-- ==== Sys2Proof/Machine/MemorySys.lean ====
section
/-! DEFINITION. Windows, vertical channels, layer resets and LPDDR5X: commands of chapter 10. -/
namespace Sys2Proof.Machine

open Sys2Proof

/-! ## Windows (R290, R291) -/

/-- The window that D:6001.01 to D:6001.06 describe. -/
def State.windowHeld (s : State) (tower : Nat) : Window :=
  { eid := s.held 0x600101 0x20, space := s.held 0x600102 1, base := s.held 0x600103 0, len := s.held 0x600104 0
    frames := s.held 0x600105 0, park := decide (s.held 0x600106 0 = 1), tower }

/-- Two windows draw on the same page pool. -/
def Window.samePool (a b : Window) : Bool := a.tower == b.tower && ((a.space == 2) == (b.space == 2))

def Window.overlaps (a b : Window) : Bool :=
  a.samePool b && decide (0 < a.len) && decide (a.base < b.base + b.len) && decide (b.base < a.base + a.len)

/-- Pages of the pool a window draws on. -/
def poolPages (site space : Nat) : Nat :=
  if space = 2 then (if 16 ≤ site ∧ site < 20 then backingPages else 0)
  else if site < 16 then towerPages false else if site < 20 then towerPages true else 0

/-- The valid bits of every page of a window are cleared (R319). -/
def State.clearWindow (s : State) (w : Window) : State :=
  s.mapMem (fun m =>
    if w.space = 2 then m.clear (backingKey (w.tower - 16) (w.base * 65536)) (backingKey (w.tower - 16) ((w.base + w.len) * 65536))
    else m.clear (sramKey w.tower w.base 0) (sramKey w.tower (w.base + w.len) 0))

/-- MODEL and KEPOCH of a frame header (Table FR-2). -/
def hdrModel (h : BitVec 512) : Nat := field h.toNat 47 32
def hdrEpoch (h : BitVec 512) : Nat := field h.toNat 231 224

/-- Key slots that the frames parked under an EID hold a reference on, each once: model and epoch (R415). -/
def MemSt.parkedKeys (m : MemSt) (eid : Nat) : List (Nat × Nat) :=
  (m.parked.filter (fun p => p.1 == eid)).foldl (fun l p =>
    if l.contains (hdrModel p.2.1, hdrEpoch p.2.1) then l else l ++ [(hdrModel p.2.1, hdrEpoch p.2.1)]) []

/-- The package parked under an EID is gone, and its references with it. -/
def State.dropParked (s : State) (eid : Nat) : State :=
  ((s.mem.parkedKeys eid).foldl (fun s k => s.keyUnref kindModel k.1 k.2) s).mapMem (fun m =>
    { m with parked := m.parked.filter (fun p => p.1 != eid) })

/-- Set, change or remove a window. -/
def State.applyWindow (s : State) (w : Window) : State :=
  let old := s.mem.windows.filter (fun x => x.eid == w.eid && x.space == w.space)
  let s := old.foldl (fun s x => s.clearWindow x) s
  let s := if old.any (·.park) then s.dropParked w.eid else s
  let s := s.mapMem (fun m => { m with windows := m.windows.filter (fun x => !(x.eid == w.eid && x.space == w.space)) })
  if w.len = 0 then s
  else
    (s.clearWindow w).mapMem (fun m =>
      { m with windows := insertBy (fun a b => decide (a.eid < b.eid) || (decide (a.eid = b.eid) && decide (a.space < b.space))) w m.windows })

/-- A write of D:6001.07 (R291, R325). -/
def applyWindowProc (value : Nat) (s : State) : Nat × State :=
  let eid := s.held 0x600101 0x20
  let site := s.eidSite eid
  let k := site.getD 99
  let w := s.windowHeld k
  let on := decide (value = 1)
  checked
    [(decide (1 < value), 0x04000003),
     (on && site.isNone, stateAbort 0x5100 4),
     (on && s.pkgs.any (fun p => p.uses eid), stateAbort 0x4001 5),
     (on && s.mem.windows.any (fun x => !(x.eid == w.eid && x.space == w.space) && w.overlaps x), stateAbort 0x6001 5),
     (on && decide (0 < w.len) && decide (poolPages k w.space < w.base + w.len), 0x04000001),
     (on && !(w.space == 1 || w.space == 2 || w.space == 5), 0x04000001),
     (on && ((w.space == 5 && w.frames == 0) || (w.space == 2 && w.frames != 0)), stateAbort 0x6001 5),
     (on && w.park && w.space != 2, stateAbort 0x6001 5),
     (on && (s.tower k).withdrawnPages.any (fun x => x.1 == (if w.space = 2 then 2 else 1) && decide (w.base ≤ x.2) && decide (x.2 < w.base + w.len)),
      stateAbort 0x6200 5)]
    (fun s => if on then s.applyWindow w else s) s

/-- APPLY_WINDOW (R291). -/
def execApplyWindow (at_ value : Nat) (s : State) : Host.Outcome State Fault Refusal :=
  .next ((s.advance at_).telling (fun s => s.pcieWrite 0x6001 0x07 (applyWindowProc value)))

/-! ## Vertical channels (R293 to R303) -/

/-- Layers of a tower. -/
def Tower.layers (t : Tower) : Nat := if t.isCache then 4 else 3

def Tower.hasChannel (t : Tower) (l c : Nat) : Bool := decide (1 ≤ l) && decide (l ≤ t.layers) && decide (c < 32)

def Tower.mapChannel (t : Tower) (l c : Nat) (f : Channel → Channel) : Tower :=
  { t with channels := kvMod t.channels (chanKey l c) Channel.fresh f }

/-- LOC of a record of class 0x06. -/
def channelLoc (l c : Nat) : Nat := l * 65536 + c * 256

/-- A vertical burst is resent (R296): at most four times. -/
def State.burstRetry (s : State) (t l c : Nat) (good : Bool) : State :=
  if !(s.tower t).hasChannel l c ∨ 20 ≤ t ∨ 4 ≤ ((s.tower t).channel l c).attempts ∨ ((s.tower t).channel l c).width = 0 then s
  else s.mapTower t (fun x => x.mapChannel l c (fun k => { k with retries := k.retries + 1, attempts := if good then 0 else k.attempts + 1 }))

/-- BURST_RETRY (R296). -/
def execBurstRetry (at_ tower layer channel : Nat) (good : Bool) (s : State) : Host.Outcome State Fault Refusal :=
  .next ((s.advance at_).burstRetry tower layer channel good)

/-- The channel's width falls to 512 or 0 bits (R301, R302; codes 0x0602 and 0x0603). -/
def State.narrow (s : State) (t l c width : Nat) : State :=
  let s := s.mapTower t (fun x => x.mapChannel l c (fun k => { k with width, gen := (k.gen + 1) % 65536, attempts := 0 }))
  (s.logEv (if width = 0 then 0x0603 else 0x0602) sevCapacity t (channelLoc l c)).raiseEvent 2

/-- A wire fails (R300 to R302): a spare takes its place; with none left the channel narrows to 512 bits while 512 wires pass, and
is lost otherwise. A failure of a lost channel, or in the tick in which the tower itself fails, is only logged (R513). -/
def State.wireFails (s : State) (t l c wire : Nat) (trains512 : Bool) : State :=
  if !(s.tower t).hasChannel l c ∨ 20 ≤ t ∨ 1056 ≤ wire then s
  else
    let k := (s.tower t).channel l c
    if k.width = 0 then s.logEv 0x0603 sevLogged t (channelLoc l c)
    else if s.towerFalls t then s.logEv 0x0601 sevLogged t (channelLoc l c)
    else
      let s := s.mapTower t (fun x => x.mapChannel l c (fun k => { k with failed := k.failed + 1 }))
      if k.width = 1024 ∧ k.spares.length < 32 then
        (s.mapTower t (fun x => x.mapChannel l c (fun k => { k with spares := k.spares ++ [wire], gen := (k.gen + 1) % 65536, attempts := 0 }))).logEv
          0x0601 sevLogged t (channelLoc l c)
      else if !trains512 ∨ 544 < k.failed + 1 then s.narrow t l c 0
      else if k.width = 1024 then s.narrow t l c 512
      else
        (s.mapTower t (fun x => x.mapChannel l c (fun k => { k with gen := (k.gen + 1) % 65536, attempts := 0 }))).logEv 0x0601 sevLogged t
          (channelLoc l c)

/-- WIRE_FAILURE (R300, R301, R302). -/
def execWireFailure (at_ tower layer channel wire : Nat) (trains512 : Bool) (s : State) : Host.Outcome State Fault Refusal :=
  .next ((s.advance at_).telling (fun s => s.wireFails tower layer channel wire trains512))

/-- A channel of an LPDDR5X stack fails, in training or by its link ECC after retraining (code 0x0608): its groups answer poisoned; a stack
with no channel left has failed. -/
def State.stackChannelFails (s : State) (m c : Nat) : State :=
  if 8 ≤ m ∨ 16 ≤ c ∨ (s.mem.dram.getD m Stack.fresh).failed.contains c then s
  else
    let s := s.mapStack m (fun k => { k with failed := insertNat k.failed c, st := if 15 ≤ k.failed.length then 3 else 2 })
    s.logEv 0x0608 sevLogged (16 + m / 2) (channelLoc m c)

/-- The stacks of a cache tower train with it (R306, Table MM-5): those whose rails were off go into service. -/
def State.trainStacks (s : State) (t : Nat) : State :=
  let up := fun (k : Stack) => if k.st = 0 then { k with st := 1, failed := [] } else k
  if 16 ≤ t ∧ t < 20 then (s.mapStack (2 * (t - 16)) up).mapStack (2 * (t - 16) + 1) up else s

/-- Wires that training finds below margin (R298): each is mapped to a spare, or narrows its channel (R300 to R302). Layer 0 names an
LPDDR5X channel of a cache tower that does not train: 0 to 15 of its first stack, 16 to 31 of its second. -/
def State.failWires (s : State) (t : Nat) (wires : List (Nat × Nat × Nat)) : State :=
  wires.foldl (fun s w =>
    if w.1 = 0 then (if 16 ≤ t ∧ t < 20 ∧ w.2.1 < 32 then s.stackChannelFails (2 * (t - 16) + w.2.1 / 16) (w.2.1 % 16) else s)
    else s.wireFails t w.1 w.2.1 w.2.2 true) s

/-- The region whose oscillator clocks the channels of lost region `r` (R293): r XOR 1, else the next region in service above it. -/
def Tower.clockFor (t : Tower) (r : Nat) : Nat :=
  let up : Nat → Bool := fun q => match t.regions[q]? with
    | some g => g.st != .lost
    | none => false
  let n := t.regions.length
  let x := if r % 2 = 0 then r + 1 else r - 1
  if up x then x
  else match ((List.range n).map (fun i => (x + 1 + i) % max 1 n)).find? up with
    | some q => q
    | none => r

/-- CHANNEL_CLOCK_CHANGE (R293): every channel clocked from a lost region takes another region's clock. -/
def execChannelClockChange (at_ tower region : Nat) (s : State) : Host.Outcome State Fault Refusal :=
  .next ((s.advance at_).mapTower tower (fun x =>
    match x.regions[region]? with
    | some g =>
      if g.st = .lost then
        { x with regions := x.regions.map (fun h => if h.clock = region then { h with clock := x.clockFor region } else h) }
      else x
    | none => x))

/-- Retiming stages per crossing of a band (Table PT-4). -/
def bandRetiming (band : Nat) : Nat := if band < 2 then 1 else 2

/-- BAND_CHANGE (R297): at a burst boundary with both replay buffers empty. -/
def execBandChange (at_ tower layer channel : Nat) (s : State) : Host.Outcome State Fault Refusal :=
  .next ((s.advance at_).mapTower tower (fun x =>
    if x.hasChannel layer channel && decide ((x.channel layer channel).attempts = 0) then
      x.mapChannel layer channel (fun k => { k with retiming := bandRetiming x.band })
    else x))

/-- What training finds on one channel (R303): the smallest of the record and of what the two dies report; at a tower reset a lost
channel is trained at 512 bits (R302). The record takes a new generation where the values differ. -/
def Channel.train (k : Channel) (reported : List Nat) (towerReset : Bool) (retiming : Nat) : Channel :=
  let w := if k.width = 0 then (if towerReset ∧ !reported.contains 0 then 512 else 0) else reported.foldl min k.width
  { k with width := w, gen := if w = k.width ∧ (k.width = 0 ∨ reported.all (· == k.width)) then k.gen else (k.gen + 1) % 65536
           trained := true, attempts := 0, retiming }

/-- Train the channels of layers 1 to `top` (R298); `widths` are what dies report that differs from the record: layer, channel, bits. A change
of a width raises the tower event (R301, R302). -/
def State.trainChannels (s : State) (t top : Nat) (widths : List (Nat × Nat × Nat)) (towerReset : Bool) : State :=
  let all := (List.range top).flatMap (fun l => (List.range 32).map (fun c => (l + 1, c)))
  all.foldl (fun s lc =>
    let k := (s.tower t).channel lc.1 lc.2
    let rep := (widths.filter (fun w => w.1 == lc.1 && w.2.1 == lc.2)).map (·.2.2)
    let n := k.train rep towerReset (bandRetiming (s.tower t).band)
    let s := s.mapTower t (fun x => x.mapChannel lc.1 lc.2 (fun _ => n))
    let s := if n.width < k.width then s.logEv (if n.width = 0 then 0x0603 else 0x0602) sevCapacity t (channelLoc lc.1 lc.2) else s
    if n.width = k.width then s else s.raiseEvent 2) s

/-! ## Layer reset (R304, R305) -/

/-- A layer reset begins (R305): the hub fences the tower and its drain limit runs. -/
def State.beginLayerReset (s : State) (t k : Nat) : State :=
  let s := if (s.tower t).fence then s else s.fenceTower t 2
  s.mapTower t (fun x => { x with layerReset := .draining, layerNo := k, layerTick := s.now + 100000 })

/-- A reset of layer `k` of tower `t` is requested; while one runs on the tower a second one waits. -/
def State.requestLayerReset (s : State) (t k : Nat) : State :=
  if (s.tower t).layerReset = .idle then s.beginLayerReset t k
  else s.mapTower t (fun x => { x with layerQueue := x.layerQueue ++ [k] })

/-- A write of D:6003.01 (R304); aborted while a tower reset runs (R532). -/
def layerResetProc (value : Nat) (s : State) : Nat × State :=
  let t := value / 8
  let k := value % 8
  checked
    [(decide (20 ≤ t) || decide (k = 0) || decide ((s.tower t).layers < k), 0x04000001),
     (s.holdsBooked t, stateAbort (towerIndex t 0x06) 1), ((s.tower t).group.isSome, stateAbort (towerIndex t 0x00) 5),
     (decide ((s.tower t).resetState ≠ .idle), stateAbort (towerIndex t 0x0F) 4)]
    (fun s => s.requestLayerReset t k) s

/-- LAYER_RESET_REQUEST (R304): by host software, or by the hub on a fault, which no condition stops. -/
def execLayerResetRequest (at_ value : Nat) (byHub : Bool) (s : State) : Host.Outcome State Fault Refusal :=
  let s := s.advance at_
  .next (if byHub then
      (if value / 8 < 20 ∧ 1 ≤ value % 8 ∧ value % 8 ≤ (s.tower (value / 8)).layers then s.requestLayerReset (value / 8) (value % 8) else s)
    else s.pcieWrite 0x6003 0x01 (layerResetProc value))

/-- No transfer is outstanding: the layer is switched off for 10,000 tk. -/
def Tower.layerOff (t : Tower) (now : Nat) : Tower :=
  if t.layerReset = .draining ∨ t.layerReset = .forced then
    { t with layerReset := .off, layerTick := now + 10000, gates := t.gates &&& ~~~(1#4 <<< (t.layerNo - 1)) }
  else t

/-- LAYER_DRAIN_COMPLETE (R305). -/
def execLayerDrainComplete (at_ tower : Nat) (s : State) : Host.Outcome State Fault Refusal :=
  let s := s.advance at_
  .next (s.mapTower tower (fun x => x.layerOff s.now))

/-- A range of keys of tower `t` has a page on a channel that crosses layer `top`: one of layers 1 to `top` (R297). The layers of a run of
pages repeat after four. -/
def rangeCrosses (isCache : Bool) (top : Nat) (r : Bool × Nat × Nat) : Bool :=
  let lo := r.2.1 % 2 ^ 40 / 65536
  (List.range 4).any (fun i => decide (65536 * (lo + i) < r.2.2 - r.2.1 / 2 ^ 40 * 2 ^ 40) && decide (pageLayer isCache (lo + i) ≤ top))

/-- A running chunk holds a transfer on a channel that crosses the layer under reset (R305): of what it reads until it is computed, then of
what it writes. DEDUCED (log 58): any range of its operator on such a channel counts. -/
def Tower.holdsTransfer (x : Tower) (c : Chunk) : Bool :=
  (x.ops.find? (fun o => o.id == c.op)).any (fun o =>
    (o.ranges.filter (fun r => !c.computed || r.1)).any (rangeCrosses x.isCache x.layerNo))

/-- The drain limit expires (R305): outstanding transfers end poisoned; the chunks that hold them go back to the queue. -/
def State.forceLayerReset (s : State) (t : Nat) : State :=
  if (s.tower t).layerReset = .draining ∧ (s.tower t).layerTick ≤ s.now then
    let n := ((s.tower t).running.filter (s.tower t).holdsTransfer).length
    (s.mapTower t (fun x => { x.returnChunks x.holdsTransfer with layerReset := .forced })).mapMem (fun m =>
      { m with poisonedTransfers := m.poisonedTransfers + n })
  else s

/-- LAYER_RESET_FORCED (R305). -/
def execLayerResetForced (at_ tower : Nat) (s : State) : Host.Outcome State Fault Refusal := .next ((s.advance at_).forceLayerReset tower)

/-- After 10,000 tk the layer is switched on, and the channels that cross it train. -/
def Tower.layerOn (t : Tower) (now : Nat) : Tower :=
  if t.layerReset = .off ∧ t.layerTick ≤ now then
    { t with layerReset := .training, gates := t.gates ||| (1#4 <<< (t.layerNo - 1))
             channels := (List.range t.layerNo).foldl (fun cs l => (List.range 32).foldl (fun cs c =>
               kvMod cs (chanKey (l + 1) c) Channel.fresh (fun k => { k with trained := false })) cs) t.channels }
  else t

/-- LAYER_POWER_ON (R305). -/
def execLayerPowerOn (at_ tower : Nat) (s : State) : Host.Outcome State Fault Refusal :=
  let s := s.advance at_
  .next (s.mapTower tower (fun x => x.layerOn s.now))

/-- Every affected channel reports trained (R303, R305): the hub lifts its fence, chunks rerun, a waiting request begins. -/
def State.layerTrained (s : State) (t : Nat) (widths wires : List (Nat × Nat × Nat)) : State :=
  if (s.tower t).layerReset ≠ .training then s
  else
    let s := (s.trainChannels t (s.tower t).layerNo widths false).failWires t wires
    let s := (s.mapTower t (fun x => { x with layerReset := .idle, layerNo := 0 })).raiseVector 0
    match (s.tower t).layerQueue with
    | k :: rest => (s.mapTower t (fun x => { x with layerQueue := rest })).beginLayerReset t k
    | [] => (if (s.tower t).fenceCause = 2 then s.unfenceTower t else s).schedule t

/-- LAYER_TRAINED (R303, R305). -/
def execLayerTrained (at_ tower : Nat) (trained : TrainedIn) (s : State) : Host.Outcome State Fault Refusal :=
  .next ((s.advance at_).telling (fun s => s.layerTrained tower trained.widths trained.wires))

/-! ## LPDDR5X (R306 to R308) -/

/-- Refresh multiplier of a band (Table PT-4). -/
def bandRefresh (band : Nat) : Nat := if band < 2 then 1 else if band = 2 then 2 else 4

/-- A stack is in service, all of it or but for channels that have failed (D:6004.05). -/
def Stack.serves (k : Stack) : Bool := k.st == 1 || k.st == 2

/-- REFRESH (R308): at each refresh interval the multiplier is that of the stack's field, or the higher rate MR4 requires. -/
def execRefresh (at_ stack : Nat) (s : State) : Host.Outcome State Fault Refusal :=
  let s := s.advance at_
  .next (s.mapStack stack (fun k =>
    if k.serves then
      { k with refreshes := k.refreshes + 1, refresh := max (bandRefresh (s.power.fieldBand.getD (8 + stack / 2) 0)) (Config.mr4Rate k.mr4) }
    else k))

/-- MR4_POLL (R306). -/
def execMr4Poll (at_ stack value : Nat) (s : State) : Host.Outcome State Fault Refusal :=
  .next ((s.advance at_).mapStack stack (fun k => if k.serves then { k with mr4 := value % 256 } else k))

/-- A stack retrains (R306); a channel that still fails after it is lost. -/
def State.retrainStack (s : State) (k : StackIn) : State :=
  if (s.mem.dram.getD k.stack Stack.fresh).serves then
    let s := s.mapStack k.stack (fun x => { x with retrainings := x.retrainings + 1 })
    match k.failed with
    | some c => s.stackChannelFails k.stack c
    | none => s
  else s

/-- WCK2DQ_RETRAINING (R306). -/
def execWck2dqRetraining (at_ : Nat) (k : StackIn) (s : State) : Host.Outcome State Fault Refusal := .next ((s.advance at_).retrainStack k)

end Sys2Proof.Machine
end

