-- ==== Sys2Proof/Machine/PackageCheck.lean ====
section
/-!
DEFINITION. Validation of a model package at load (R167, R189, R263, R267, R335, R337, R338, R472, R533): the fields of manifest,
sections and cost records, and the first failure as graph handle and abort code (Table DI-11). A check answers 0 where it passes.
-/
namespace Sys2Proof.Machine

open Sys2Proof

/-! ## Abort codes of validation (Table DI-9, DI-11) -/

/-- 0x07KKNNNN. -/
def valCode (kind index : Nat) : Nat := 0x07000000 + kind * 65536 + index % 65536

/-- A failure: graph handle (0xFFFF: none) and code. -/
abbrev Failure := Nat × Nat

/-- The first failure of a list. -/
def firstFailure (l : List (Option Failure)) : Option Failure :=
  match l with
  | [] => none
  | some f :: _ => some f
  | none :: rest => firstFailure rest

/-! ## Container (R533, Tables BR-5 and BR-6) -/

structure Section where
  kind   : Nat
  tower  : Nat
  rsvd   : Nat
  offset : Nat
  length : Nat
  dest   : Nat
  deriving DecidableEq, Repr

/-- Body offset of the manifest fields of Table BR-5. NSECT stands in bits [207:192], NSHAPE in bits [223:208]. -/
def manNsect (body : List Byte) : Nat := leAt body 24 2
def manNshape (body : List Byte) : Nat := leAt body 26 2
def manModel (body : List Byte) : Nat := leAt body 1 2
def manNrole (body : List Byte) : Nat := leAt body 3 1
def manVersion (body : List Byte) : Nat := leAt body 4 4
def manLength (body : List Byte) : Nat := leAt body 8 8
def manRoles (body : List Byte) : List Nat := (List.range 8).map (fun r => leAt body (16 + r) 1)

def sectionAt (body : List Byte) (i : Nat) : Section :=
  let w := leAt body (256 + 32 * i) 32
  { kind := field w 7 0, tower := field w 12 8, rsvd := field w 63 13, offset := field w 127 64, length := field w 191 128
    dest := field w 255 192 }

def sectionsOf (body : List Byte) : List Section := (List.range (manNsect body)).map (sectionAt body)

def Section.bytes (q : Section) (body : List Byte) : List Byte := (body.drop q.offset).take q.length

/-- The section of a kind on a tower. -/
def findSection (l : List Section) (kind tower : Nat) : Option Section := l.find? (fun q => q.kind == kind && q.tower == tower)

/-! ## Cost records (Tables PH-2 to PH-4) -/

/-- One cost record at an offset: its bytes in all, the record, and whether its reserved bits are 0. -/
def costAt (b : List Byte) (off : Nat) : Nat × CostRec × Bool :=
  let h := leAt b off 32
  let nwin := field h 47 40
  let npair := field h 55 48
  let wins := (List.range nwin).map (fun i => leAt b (off + 32 + 16 * i) 16)
  let pairs := (List.range npair).map (fun i => leAt b (off + 32 + 16 * nwin + 16 * i) 16)
  (32 + 16 * nwin + 16 * npair,
   { shape := field h 31 0, clg := bit h 32, clb := bit h 33, span := field h 95 64, tail := field h 127 96, recov := field h 159 128
     wins := wins.map (fun w =>
       { tower := field w 4 0, role := field w 7 5, win := field w 11 8, graph := field w 31 16, start := field w 47 32
         len := field w 63 48, cu := field w 72 64, rctx := field w 76 73 })
     pairs := pairs.map (fun w =>
       { src := field w 4 0, dst := field w 9 5, wl := field w 11 10, start := field w 31 16, len := field w 47 32
         gran := field w 79 48 }) },
   decide (field h 39 34 = 0 ∧ field h 63 56 = 0 ∧ field h 255 160 = 0)
     && wins.all (fun w => decide (field w 15 12 = 0 ∧ field w 127 77 = 0))
     && pairs.all (fun w => decide (field w 15 12 = 0 ∧ field w 127 80 = 0)))

/-- `n` cost records from an offset, one after another. -/
def costsFrom (b : List Byte) (n off : Nat) : List (CostRec × Bool) × Nat :=
  match n with
  | 0 => ([], off)
  | n + 1 =>
    let r := costAt b off
    let rest := costsFrom b n (off + r.1)
    ((r.2.1, r.2.2) :: rest.1, rest.2)

/-! ## Lane program table (Table LP-3) -/

/-- The entries of a lane program table: each takes 160 + 8 × LEN bytes, padded to a multiple of 64. -/
def laneEntries (fuel : Nat) (b : List Byte) : List (List Byte) :=
  match fuel with
  | 0 => []
  | fuel + 1 =>
    if b = [] then []
    else
      let n := cdiv (160 + 8 * leAt b 0 2) 64 * 64
      b.take n :: laneEntries fuel (b.drop n)

/-! ## Tables of a tower (Table OP-1) -/

/-- Graph table entry (assumption log 34): first descriptor index, then descriptor count, 16 bits each. -/
def graphEntries (b : List Byte) : List (Nat × Nat) := (List.range (b.length / 4)).map (fun i => (leAt b (4 * i) 2, leAt b (4 * i + 2) 2))

def tablesOn (body : List Byte) (secs : List Section) (t : Nat) : PkgTables :=
  let get := fun k => match findSection secs k t with
    | some q => q.bytes body
    | none => []
  { tower := t
    graphs := graphEntries (get 1)
    descs := (List.range ((get 2).length / 128)).map (fun i => BitVec.ofNat 1024 (leAt (get 2) (128 * i) 128))
    tensors := (List.range ((get 3).length / 32)).map (fun i => BitVec.ofNat 256 (leAt (get 3) (32 * i) 32))
    lanes := laneEntries 1025 (get 4)
    persist := (List.range ((get 7).length / 2)).map (fun i => leAt (get 7) (2 * i) 2) }

/-- The cost records of a body. -/
def costsOf (body : List Byte) : List (CostRec × Bool) × Nat :=
  match (sectionsOf body).find? (fun q => q.kind == 6) with
  | some q => costsFrom (q.bytes body) (manNshape body) 0
  | none => ([], 0)

/-- The package that a body describes. -/
def packageOf (body : List Byte) (tick : Nat) : Pkg :=
  let secs := sectionsOf body
  let towers := (secs.filter (fun q => decide (1 ≤ q.kind ∧ q.kind ≤ 4))).foldl (fun l q => insertNat l q.tower) []
  { model := manModel body, version := manVersion body, hash := (Config.digest (body.map (·.toNat))).toNat, st := 2
    kinds := manRoles body, shapes := (costsOf body).1.map (·.1), tables := towers.map (tablesOn body secs)
    data := (secs.filter (fun q => q.kind == 5)).map (fun q => (q.dest, q.length)), tick }

/-! ## Manifest and directory (kind 0x10) -/

/-- Two data sections overlap at their destinations. -/
def destOverlap (l : List Section) : Bool :=
  match l with
  | [] => false
  | q :: rest => rest.any (fun r => decide (q.dest < r.dest + r.length) && decide (r.dest < q.dest + q.length)) || destOverlap rest

/-- The destination of a data section: inside an applied window of the tower, or the tower's weight-bank store. -/
def State.destOk (s : State) (q : Section) : Bool :=
  if addrSpace q.dest = 4 then
    decide (s.eidSite (addrEid q.dest) = some q.tower) && decide (q.tower < 16) && decide (addrOff q.dest + q.length ≤ 4194304)
  else if addrSpace q.dest = 1 then
    match s.window? (addrEid q.dest) 1 with
    | some w => w.tower == q.tower && decide (addrOff q.dest + q.length ≤ w.len * 65536)
    | none => false
  else false

/-- Sections of a table kind hold whole entries within the limits of Table OP-1. -/
def Section.sized (q : Section) : Bool :=
  if q.kind = 1 then q.length % 4 == 0 && decide (q.length / 4 ≤ 1024)
  else if q.kind = 2 then q.length % 128 == 0 && decide (q.length / 128 ≤ 65536)
  else if q.kind = 3 then q.length % 32 == 0 && decide (q.length / 32 ≤ 65535)
  else if q.kind = 7 then q.length % 2 == 0
  else true

def State.directoryOk (s : State) (model : Nat) (body : List Byte) : Bool :=
  let secs := sectionsOf body
  let count := fun k t => (secs.filter (fun q => q.kind == k && q.tower == t)).length
  decide (256 + 32 * manNsect body ≤ body.length) && leAt body 0 1 == 1 && manModel body == model
    && decide (1 ≤ manNrole body ∧ manNrole body ≤ 8) && manLength body == body.length
    && decide (1 ≤ manNsect body ∧ manNsect body ≤ 16384) && decide (1 ≤ manNshape body ∧ manNshape body ≤ 1024)
    && decide (leAt body 28 228 = 0)
    && (manRoles body).zipIdx.all (fun p => if p.2 < manNrole body then decide (p.1 ≤ 4) else decide (p.1 = 0))
    && secs.all (fun q => decide (1 ≤ q.kind ∧ q.kind ≤ 7) && decide (q.tower < 20) && decide (q.rsvd = 0)
        && decide (q.offset + q.length ≤ body.length) && q.sized && (q.kind != 6 || q.tower == 0)
        && (if q.kind = 5 then s.destOk q else decide (q.dest = 0)))
    && (secs.filter (fun q => q.kind == 6)).length == 1
    && !destOverlap (secs.filter (fun q => q.kind == 5))
    && (List.range 20).all (fun t => decide (count 4 t ≤ 1) && decide (count 7 t ≤ 1) && decide (count 1 t ≤ 1) && decide (count 2 t ≤ 1)
        && decide (count 3 t ≤ 1))
    && (costsOf body).1.all (fun c => c.1.wins.all (fun w => decide (20 ≤ w.tower) ||
        (count 1 w.tower == 1 && count 2 w.tower == 1 && count 3 w.tower == 1)))
    && (secs.find? (fun q => q.kind == 6)).any (fun q => q.length == (costsOf body).2)
    && secs.all (fun q => q.kind != 4 || decide ((laneEntries 1026 (q.bytes body)).length ≤ 1024))
    && secs.all (fun q => q.kind != 7 || (List.range (q.length / 2)).all (fun i =>
        decide (6144 ≤ leAt (q.bytes body) (2 * i) 2) && decide (leAt (q.bytes body) (2 * i) 2 < 8192) && decide (q.tower < 16)))

/-! ## Lane programs (R179, R182, R186, R187, R189) -/

/-- What an opcode uses: cycles, destination (1 vector, 2 predicate, 0 none), sources VA and VB (0 none, 1 vector, 2 predicate), VC,
RND, SAT, number of MODE values, bits of IMM. -/
structure LaneForm where
  cycles : Nat
  vd : Nat
  va : Nat
  vb : Nat
  vc : Bool
  rnd : Bool
  sat : Bool
  modes : Nat
  imm : Nat
  deriving DecidableEq, Repr

def LaneForm.bin (cycles : Nat) (rnd : Bool) (modes : Nat) : LaneForm :=
  { cycles, vd := 1, va := 1, vb := 1, vc := false, rnd, sat := false, modes, imm := 0 }

def LaneForm.un (cycles : Nat) : LaneForm :=
  { cycles, vd := 1, va := 1, vb := 0, vc := false, rnd := false, sat := false, modes := 1, imm := 0 }

/-- Table LP-5. -/
def laneForm (opc : Nat) : Option LaneForm :=
  if 1 ≤ opc ∧ opc ≤ 3 then some (.bin 1 true 1)
  else if opc = 4 then some { LaneForm.bin 1 true 1 with vc := true }
  else if opc = 5 ∨ opc = 6 then some (.bin 1 false 1)
  else if opc = 7 then some (.bin 1 false 4)
  else if opc = 8 then some { LaneForm.un 1 with rnd := true }
  else if 9 ≤ opc ∧ opc ≤ 0x0D then some (.un 4)
  else if opc = 0x0E ∨ opc = 0x1B then some { LaneForm.bin 1 false 8 with vd := 2 }
  else if 0x10 ≤ opc ∧ opc ≤ 0x1A then some (.bin 1 false 1)
  else if opc = 0x20 then some { LaneForm.un 1 with rnd := true, sat := true, imm := 16 }
  else if opc = 0x21 then some (.un 1)
  else if opc = 0x22 then some (.bin 1 false 1)
  else if opc = 0x23 then some { LaneForm.un 1 with va := 0, modes := 2, imm := 24 }
  else if opc = 0x24 then some { LaneForm.un 1 with va := 0, imm := 5 }
  else if opc = 0x25 then some { LaneForm.un 1 with va := 0, modes := 3 }
  else if 0x28 ≤ opc ∧ opc ≤ 0x2A then some (.un 8)
  else if opc = 0x2B ∨ opc = 0x2C then some { LaneForm.un 2 with imm := 7 }
  else if opc = 0x30 ∨ opc = 0x31 then some { LaneForm.bin 1 false 1 with vd := 2, va := 2, vb := 2 }
  else if opc = 0x32 then some { LaneForm.un 1 with vd := 2, va := 2 }
  else if opc = 0x38 then some { LaneForm.un 1 with vd := 0, va := 0, imm := 24 }
  else none

/-- A register field: unused must be 0; a predicate name takes three bits. -/
def regFieldOk (use v : Nat) : Bool := if use = 0 then v == 0 else if use = 2 then decide (v < 8) else true

/-- FSGN reads b only in modes 2 and 3. -/
def fsgnUnary (w : Nat) : Bool := field w 7 0 == 7 && decide (field w 39 36 < 2)

/-- One instruction word against R179 and R189. -/
def laneWordOk (nconst w : Nat) : Bool :=
  match laneForm (field w 7 0) with
  | none => false
  | some f =>
    let src := field w 47 40
    let dst := field w 55 48
    let narrows := decide (elemBits dst < elemBits src)
    let cvtFmt := fun c => c == 1 || c == 2 || c == 3 || c == 0x0B || c == 0x0D
    regFieldOk f.vd (field w 16 12) && !(f.vd == 2 && field w 16 12 == 0)
      && regFieldOk f.va (field w 21 17) && regFieldOk (if fsgnUnary w then 0 else f.vb) (field w 26 22)
      && (f.vc || field w 31 27 == 0)
      && (f.rnd || field w 34 32 == 0) && decide (field w 34 32 ≤ 4)
      && !(field w 34 32 == 4 && !(field w 7 0 == 0x20 && narrows))
      && (f.sat || !bit w 35) && decide (field w 39 36 < f.modes)
      && decide (field w 63 40 < 2 ^ f.imm)
      && !(field w 10 8 == 0 && bit w 11)
      && (field w 7 0 != 0x20 || (cvtFmt src && cvtFmt dst && src != dst))
      && (field w 7 0 != 0x24 || decide (field w 44 40 < nconst))
      && (field w 7 0 != 0x38 || (field w 10 8 == 0 && decide (field w 63 56 ≠ 0)))

/-- Loops of a run of instructions: bodies end within the run that encloses them, nested at most four deep (R186). -/
def loopsOk (fuel depth : Nat) (ws : List Nat) : Bool :=
  match fuel, ws with
  | 0, _ => ws == []
  | _, [] => true
  | fuel + 1, w :: rest =>
    if field w 7 0 = 0x38 then
      let b := field w 63 56
      decide (depth < 4) && decide (b ≤ rest.length) && loopsOk fuel (depth + 1) (rest.take b) && loopsOk fuel depth (rest.drop b)
    else loopsOk fuel depth rest

/-- Cycles of a run of instructions, bodies as often as they run (R187). -/
def laneCycles (fuel : Nat) (ws : List Nat) : Nat :=
  match fuel, ws with
  | 0, _ => 0
  | _, [] => 0
  | fuel + 1, w :: rest =>
    let c := match laneForm (field w 7 0) with
      | some f => f.cycles
      | none => 0
    if field w 7 0 = 0x38 then
      let b := field w 63 56
      c + (field w 55 40 + 1) * laneCycles fuel (rest.take b) + laneCycles fuel (rest.drop b)
    else c + laneCycles fuel rest

/-- A lane program entry passes R189. -/
def laneEntryOk (e : List Byte) : Bool :=
  let len := leAt e 0 2
  let nconst := leAt e 4 1 % 64
  let ws := (laneCode e).map (·.toNat)
  decide (1 ≤ len ∧ len ≤ 256) && decide (160 + 8 * len ≤ e.length) && decide (nconst ≤ 32)
    && decide (leAt e 4 1 / 64 = 0 ∧ leAt e 5 27 = 0)
    && (List.range 32).all (fun k => decide (k < nconst) || decide (leAt e (32 + 4 * k) 4 = 0))
    && ws.all (laneWordOk nconst) && loopsOk 512 0 ws && leAt e 2 2 == 2 + laneCycles 512 ws

/-! ## Descriptors (R167) -/

/-- Opcodes of Table OP-7 and the kind of tower they run on. -/
def runsOn (op : Nat) (isCache : Bool) : Bool :=
  if op = 0x69 ∨ op = 0x70 then isCache
  else if op = 0x18 ∨ op = 0x20 ∨ op = 0x28 ∨ (0x30 ≤ op ∧ op ≤ 0x32) ∨ op = 0x38 ∨ op = 0x39 ∨ op = 0x48 ∨ op = 0x50 ∨ op = 0x78 then true
  else ((1 ≤ op ∧ op ≤ 4) || op == 8 || op == 0x10 || op == 0x40 || op == 0x58 || (0x60 ≤ op ∧ op ≤ 0x62) || op == 0x68) && !isCache

/-- Bits of VARIANT and of PARAM that an operator names (Table OP-8). -/
def variantBits (op : Nat) : Nat :=
  if op = 8 then 0xFFFF else if op = 0x10 then 3 else if op = 0x18 ∨ op = 0x40 then 3 else if op = 0x48 then 0x303
  else if op = 0x50 then 1 else if op = 0x68 then 0xFF else 0

def paramBits (op variant : Nat) : Nat :=
  let r := fun hi lo => 2 ^ (hi + 1) - 2 ^ lo
  if op = 1 ∨ op = 2 then r 31 0 + r 95 64
  else if op = 3 then r 47 0 + r 95 64
  else if op = 4 then r 63 0 + r 95 64
  else if op = 8 then r 95 0
  else if op = 0x10 then r 79 0
  else if op = 0x18 then (if variant = 2 then r 47 0 else r 31 0)
  else if op = 0x28 then r 5 0
  else if op = 0x30 then r 2 0
  else if op = 0x31 then r 3 0
  else if op = 0x38 then 1
  else if op = 0x39 then 1 + r 15 4
  else if op = 0x48 then r 127 0
  else if op = 0x50 then (if variant % 2 = 1 then r 31 0 else 0)
  else if op = 0x58 then r 11 0
  else if op = 0x60 ∨ op = 0x62 then r 47 0
  else if op = 0x61 then r 15 0
  else if op = 0x78 then r 32 0
  else 0

/-- A wait or signal entry: reserved bits 0, and an entry without a reference holds nothing else. -/
def syncEntryOk (e : Nat) : Bool :=
  if field e 31 30 = 0 then decide (field e 63 32 = 0) else decide (field e 29 24 = 0 ∧ field e 19 13 = 0)

/-- Reserved bits and encodings of a descriptor (R25, R123, R136, R137, R148). -/
def descReserved (w : BitVec 1024) : Bool :=
  let op := dOpcode w
  let p := fun hi lo => dField w (896 + hi) (896 + lo)
  decide (dField w 15 14 = 0 ∧ dField w 63 56 = 0 ∧ dField w 111 101 = 0 ∧ dField w 127 118 = 0)
    && decide (dRnd w ≤ 4) && decide (dRedop w ≠ 3)
    && (List.range 4).all (fun k => dField w (128 + 128 * k + 95) (128 + 128 * k + 85) == 0
        && (!(dSlot w k).act || decide ((dSlot w k).addr < 2 ^ 40)))
    && [0, 1].all (fun k => syncEntryOk (dWait w k) && syncEntryOk (dSig w k))
    && (dVariant w ||| variantBits op) == variantBits op
    && (p 127 0 ||| paramBits op (dVariant w)) == paramBits op (dVariant w)
    && (if op = 3 ∨ op = 4 then decide (1 ≤ p 47 32 ∧ p 47 32 ≤ 256)
        else if op = 8 then decide (1 ≤ dVariant w % 256 ∧ dVariant w % 256 ≤ 15 ∧ 1 ≤ dVariant w / 256 ∧ dVariant w / 256 ≤ 15)
          && decide (1 ≤ p 39 32 ∧ p 39 32 ≤ 8 ∧ 1 ≤ p 47 40 ∧ p 47 40 ≤ 8) && decide (p 55 48 ≤ 7 ∧ p 63 56 ≤ 7)
          && decide (1 ≤ p 71 64 ∧ p 71 64 ≤ 8 ∧ 1 ≤ p 79 72 ∧ p 79 72 ≤ 8) && decide (1 ≤ p 95 80)
        else if op = 0x10 then decide (1 ≤ p 47 32 ∧ p 47 32 ≤ 64)
        else if op = 0x18 ∨ op = 0x40 then decide (dVariant w ≤ 2)
        else if op = 0x30 ∨ op = 0x31 then decide (p 2 0 ≤ 4)
        else if op = 0x39 then decide (1 ≤ p 15 4 ∧ p 15 4 ≤ 1024)
        else if op = 0x60 ∨ op = 0x62 then decide (2 ≤ p 31 16 ∧ p 31 16 ≤ 23)
        else if op = 0x61 then decide (0xF000 ≤ p 15 0 ∧ p 15 0 ≤ 0xFFFD)
        else true)

/-- Operand slots an operator uses (Table OP-7). `none`: either way. -/
def slotUse (w : BitVec 1024) (k : Nat) : Option Bool :=
  let op := dOpcode w
  if op = 1 ∨ op = 2 ∨ op = 8 then (if k < 3 then some true else some (dBias w))
  else if op = 3 ∨ op = 4 ∨ op = 0x18 then some true
  else if op = 0x10 then (if k < 3 then some true else some (bit (dVariant w) 1))
  else if op = 0x20 then (if k = 0 then some true else none)
  else if op = 0x30 ∨ op = 0x31 ∨ op = 0x38 ∨ op = 0x39 ∨ op = 0x68 ∨ op = 0x69 then some (k != 2)
  else if op = 0x48 then (if k < 2 then some true else if k = 3 then some (bit (dVariant w) 8) else some false)
  else if op = 0x58 then some (decide (k < 3))
  else if op = 0x78 then some (k == 1)
  else some (decide (k < 2))

/-- The operator declares a scratch offset. -/
def hasScratch (op : Nat) : Bool := decide (1 ≤ op ∧ op ≤ 4) || op == 8 || op == 0x10

def isMatrix (op : Nat) : Bool := hasScratch op

def isFloatFmt (f : Nat) : Bool := decide (1 ≤ f ∧ f ≤ 0x0A)

/-- A format the vector engine loads and stores (Table NF-1, R172). -/
def vectorFmt (f : Nat) : Bool := !(isMx f) && f != 0x11

/-- Formats an operator accepts in a slot (R107, R148, R150, R155 to R159): matrix operands by the matrix column; rows that the vector
engine works on, those of an epilogue among them, by the vector one; index tables in INT32 and the coordinate map in FP32. -/
def fmtRole (w : BitVec 1024) (k f : Nat) : Bool :=
  let op := dOpcode w
  decide (1 ≤ f ∧ f ≤ 0x11) && (!(dEpi w && k == (if op = 0x78 then 1 else 0)) || vectorFmt f) &&
    (if isMatrix op ∧ (k = 1 ∨ k = 2) then decide (f ≤ 0x0C)
     else if k = 3 ∧ (op = 3 ∨ op = 4 ∨ op = 0x30 ∨ op = 0x31 ∨ op = 0x38 ∨ op = 0x39) then f == 0x0D
     else if k = 3 ∧ op = 0x48 then f == 1
     else if op = 0x40 then f == 1 || f == 3
     else if op = 0x18 ∨ op = 0x20 ∨ op = 0x28 ∨ op = 0x32 ∨ op = 0x48 ∨ op = 0x38 ∨ op = 0x39 then vectorFmt f
     else if op = 0x60 ∨ op = 0x62 then f == 1 || f == 3 || f == 0x0D
     else true)

/-- A tensor record (R25, R138, R139). -/
def tensorReserved (w : BitVec 256) : Bool :=
  let f := fun hi lo => field w.toNat hi lo
  let t := tensorOf w
  decide (f 31 19 = 0 ∧ f 255 224 = 0) && decide (f 15 8 ≤ 3) && decide (1 ≤ f 18 16 ∧ f 18 16 ≤ 5)
    && decide (f 63 32 ≤ 2 ^ 24) && t.dims.all (fun d => decide (1 ≤ d))
    && decide (t.pitch % 64 = 0) && decide (cdiv (t.stored * elemBits t.fmt) 8 ≤ t.pitch)

/-- The rows of a tensor, MX padding among them, fit its pitch (Table OP-4, R112). -/
def tensorFits (t : Tensor) : Bool := decide (cdiv (t.stored * elemBits t.fmt) 8 ≤ t.pitch)

/-- Dimensions that CUT may name, and whether SPLIT is allowed (Table OP-7). -/
def cutMask (w : BitVec 1024) : Nat :=
  let op := dOpcode w
  if op = 1 ∨ (0x60 ≤ op ∧ op ≤ 0x62) then 3 else if op = 2 ∨ op = 0x20 ∨ op = 0x30 ∨ op = 0x50 then 31 else if op = 3 then 7
  else if op = 4 then 5 else if op = 8 then 15 else if op = 0x10 ∨ op = 0x68 ∨ op = 0x69 then 6 else if op = 0x28 then 31 - dField w 900 896
  else if op = 0x48 then 14 else if op = 0x58 ∨ op = 0x70 ∨ op = 0x78 then 2 else 30

def splitAllowed (op : Nat) : Bool := op == 1 || op == 2 || op == 8 || op == 0x10

/-- The operator environment of a descriptor at load: activation bases stand at 0. -/
def loadEnv (tab : PkgTables) (w : BitVec 1024) : OpEnv :=
  { tower := tab.tower, slot := 0, model := 0, id := 0, word := w, bases := [], slotMap := []
    slots := (List.range 4).map (fun k =>
      let q := dSlot w k
      if q.used then some (slotAddr [] q, tab.slotTensor w k, q.scoff) else none)
    lane := tab.lanes.getD (dLprog w) [], keys := 0 }

def loadOp (w : BitVec 1024) : OpInst :=
  { id := 0, slot := 0, desc := 0, word := w, issue := 0, booked := false, win := 0, eligible := 0, closeTick := 0, entered := false, started := none,
    ranges := [], waits := [], cut := false, chunks := 0, arrived := 0, flags := 0, code := 0, unacked := 0, remote := false, tree := 0,
    stalled := false, fencedCopies := [], failed := false, keyCount := 0, pieces := [], offers := [], deliv := [] }

def maskBits (m : Nat) : Nat := ((List.range 12).filter (fun i => bit m i)).length

/-- The chunks of a descriptor for the cut of R145 or R269. -/
def loadChunks (isCache : Bool) (tab : PkgTables) (w : BitVec 1024) : List Chunk :=
  let e := loadEnv tab w
  if dOpcode w = 0x58 then opticalChunks e (maskBits (dField w 907 896)) (loadOp w) 0 else cutChunks e isCache (loadOp w) 0

/-- Batch dimensions d2 to d4 of an operand agree with those of the output, or have an extent of 1. -/
def batchOk (x d : Tensor) : Bool := [2, 3, 4].all (fun k => x.dim k == d.dim k || x.dim k == 1)

/-- Extents of the operands of a matrix operator (R149 to R152): the reduction in d0 of both, rows and columns those of the output. -/
def matrixExtents (e : OpEnv) : Bool :=
  let op := dOpcode e.word
  let a := e.tensor 1
  let b := e.tensor 2
  let d := e.tensor 0
  let g := e.param 943 928
  if op = 1 ∨ op = 2 then
    a.dim 0 == b.dim 0 && d.dim 0 == b.dim 1 && d.dim 1 == a.dim 1 && batchOk a d && batchOk b d
  else if op = 3 ∨ op = 4 then
    a.dim 0 == b.dim 0 && d.dim 0 == b.dim 1 && d.dim 1 == a.dim 1 && b.dim 2 == g
      && (e.tensor 3).dim 0 == (if op = 3 then g + 1 else a.dim 1)
  else if op = 8 then
    let groups := max 1 (e.param 991 976)
    b.dim 0 == a.dim 2 / groups * (dVariant e.word % 256) * (dVariant e.word / 256) && b.dim 1 == d.dim 2 && a.dim 3 == d.dim 3
      && (a.layout == 0 || a.layout == 2)
  else
    let per := max 1 (e.param 943 928)
    a.dim 0 == b.dim 0 && d.dims == a.dims && b.dim 2 == cdiv (a.dim 2) per && b.dim 3 == 2
      && ((b.layout == 3) == bit (dVariant e.word) 1)

/-- C and D overlap, where their addresses can be compared: both fixed, or both at one activation base (R149). -/
def overlapsC (e : OpEnv) : Bool :=
  let d := dSlot e.word 0
  let c := dSlot e.word 3
  dBias e.word && d.act == c.act && (!d.act || d.base == c.base)
    && decide (e.addr 0 < e.addr 3 + e.extent 3) && decide (e.addr 3 < e.addr 0 + e.extent 0)

/-- The operands of a matrix operator against R117 and R149: float with float; an MX operand has the reduction in d0, which the input of
CONV has not; every MX slot has its scale plane; C in the output format or FP32 and clear of D; extents that fit. -/
def matrixOk (e : OpEnv) : Bool :=
  let mxOk := fun k => !(isMx (e.tensor k).fmt) || decide ((dSlot e.word k).scoff ≠ 0)
  isFloatFmt (e.tensor 1).fmt == isFloatFmt (e.tensor 2).fmt && [0, 1, 2, 3].all (fun k => !e.used k || mxOk k)
    && !(dOpcode e.word == 8 && isMx (e.tensor 1).fmt) && matrixExtents e
    && (!(dBias e.word) || (e.tensor 3).fmt == (e.tensor 0).fmt || (e.tensor 3).fmt == 1) && !overlapsC e

/-- The groups of CONV divide the input channels and the output channels (Table OP-8). -/
def groupsDivide (e : OpEnv) : Bool :=
  let g := max 1 (e.param 991 976)
  dOpcode e.word != 8 || (decide ((e.tensor 1).dim 2 % g = 0) && decide ((e.tensor 2).dim 1 % g = 0))

/-- The length of an FFT is a power of two from 64 to 65,536 (R157). -/
def fftOk (e : OpEnv) : Bool :=
  let n := (e.tensor 1).dim 0 / 2
  dOpcode e.word != 0x40 || (decide ((e.tensor 1).dim 0 % 2 = 0) && decide (64 ≤ n ∧ n ≤ 65536) && decide (2 ^ Nat.log2 n = n))

/-- A non-ACT operand lies wholly inside its window (R291) and, in space 0x01, under an EID placed on that tower, but for the destinations
of 0x60, 0x61 and 0x68 (R167); backing and the pages of a KV_READ are the tower's own (R162); the record of an OPTICAL stands in the
weight-bank store (R267); and no operand names an EID that stands for no site (R6, R32). -/
def State.operandOk (s : State) (t op k : Nat) (q : Slot) (tz : Tensor) : Bool :=
  let free := k == 0 && (op == 0x60 || op == 0x61 || op == 0x68)
  let sp := addrSpace q.addr
  if q.act ∨ !q.used then op != 0x58 || k != 2 || !q.act
  else if s.eidUnnamed (addrEid q.addr) then false
  else if op = 0x58 ∧ k = 2 then sp == 4 && decide (s.eidSite (addrEid q.addr) = some t)
  else
    match s.window? (addrEid q.addr) sp with
    | none => false
    | some w =>
      !w.park && (sp != 1 || free || w.tower == t) && (sp != 2 || (!free && w.tower == t))
        && (op != 0x69 || sp != 5 || w.tower == t)
        && (tz.layout == 3 || decide (addrOff q.addr + tz.span ≤ w.len * 65536))
        && (!(isMx tz.fmt) || decide (addrOff q.addr + q.scoff + tz.scaleOffset (tz.dims.map (· - 1)) < w.len * 65536))

/-- Range entries of an operand slot (R97, R99): one for its elements and one for its scale plane, or one for each frame of a paged
operand; none where it lies outside the memory of the tower, which the scoreboard does not track (R98). -/
def State.slotEntries (s : State) (e : OpEnv) (k : Nat) : Nat :=
  let t := e.tensor k
  let sp := addrSpace (e.addr k)
  let mine := (dSlot e.word k).act || ((sp == 1 || sp == 5) && (s.window? (addrEid (e.addr k)) sp).any (fun w => w.tower == e.tower))
  if !e.used k || !mine then 0
  else if t.layout = 3 then cdiv (e.extent k) 65536
  else if isMx t.fmt then 2 else 1

/-- Range entries of an operator: its operand slots and its scratch area. -/
def State.rangeEntries (s : State) (e : OpEnv) : Nat :=
  sumNat ((List.range 4).map (s.slotEntries e)) + (if 1 < dParts e.word then 1 else 0)

/-- The bank set record of an OPTICAL operator (R263), read from the store. -/
def State.bankRecordOk (s : State) (e : OpEnv) : Bool :=
  let h := leNat (s.bytesAt e.record 64)
  let k := (e.tensor 1).dim 0
  let n := (e.tensor 2).dim 1
  let images := 4096 * e.segs * e.nblk
  decide (field h 7 0 = e.segs ∧ field h 15 8 = e.nblk) && decide (field h 31 19 = 0 ∧ field h 511 64 = 0)
    && decide (addrOff e.record % 64 = 0) && decide (addrOff e.record + field h 63 32 + 256 * e.nblk ≤ 4194304)
    && decide (addrOff e.record + 64 + images ≤ 4194304)
    && decide (e.segs ≤ 11 ∧ e.nblk ≤ 64)
    && (List.range (64 * e.nblk)).all (fun i => (List.range (64 * e.segs)).all (fun j =>
        if i < n ∧ j < k then decide (bankWeight s e i j ≠ -128) else decide (bankWeight s e i j = 0)))

/-- R267. -/
def State.opticalOk (s : State) (e : OpEnv) : Bool :=
  let w := e.word
  let x := e.tensor 1
  let b := e.tensor 2
  let d := e.tensor 0
  let n := maskBits (dField w 907 896)
  x.fmt == 0x0B && x.layout == 0 && b.fmt == 0x0B && b.layout == 0 && x.dim 0 == b.dim 0
    && (d.fmt == 1 || d.fmt == 2 || d.fmt == 3) && d.dim 0 == b.dim 1 && d.dim 1 == x.dim 1
    && decide (x.dim 0 ≤ 704) && decide (n ≤ 11) && decide (e.segs ≤ n) && !(dBias w) && !(dEpi w) && dParts w == 1
    && s.bankRecordOk e

/-- What a cost record that names a graph gives a tower: window count, and the compute towers it names. -/
def graphUses (shapes : List CostRec) (t g : Nat) : List (Nat × List Nat) :=
  (shapes.filter (fun c => c.wins.any (fun w => w.tower == t && w.graph == g))).map (fun c =>
    ((c.wins.filter (fun w => w.tower == t)).length, (c.wins.map (·.tower)).filter (· < 16)))

/-- A sync reference against R140 and R167. -/
def syncTargetOk (uses : List (Nat × List Nat)) (e : Nat) : Bool :=
  let kind := field e 31 30
  let idx := field e 12 0
  if kind = 0 then true
  else if kind = 1 then decide (idx < 24) && uses.all (fun u => u.2.contains (field e 23 20))
  else if kind = 2 then decide (6144 ≤ idx)
  else false

/-- The first check of R167, R263, R267 and R209 that descriptor `w` of graph `g` fails: a kind of Table DI-11. -/
def State.descCheck (s : State) (isCache : Bool) (shapes : List CostRec) (tab : PkgTables) (g : Nat) (w : BitVec 1024) : Nat :=
  let op := dOpcode w
  let e := loadEnv tab w
  let slots := (List.range 4).filter (fun k => (dSlot w k).used)
  let chunks := loadChunks isCache tab w
  let uses := graphUses shapes tab.tower g
  firstAbort
    [(!runsOn op isCache, 3),
     (!descReserved w || !groupsDivide e || slots.any (fun k => !tensorReserved (tab.tensors.getD (dSlot w k).trec 0)
        || !tensorFits (e.tensor k)), 1),
     (slots.any (fun k => !fmtRole w k (e.tensor k).fmt)
        || (op == 0x68 && !([3, 4, 5, 6, 7].contains (dVariant w))), 2),
     ((List.range 4).any (fun k => slotUse w k == some (!(dSlot w k).used)), 4),
     (!(hasScratch op) && (List.range 4).any (fun k => (dSlot w k).act && (dSlot w k).base == 15), 4),
     (slots.any (fun k => !(isMx (e.tensor k).fmt) && decide ((dSlot w k).scoff ≠ 0)), 4),
     (dBias w && !(op == 1 || op == 2 || op == 8 || op == 0x58), 4),
     (isMatrix op && !matrixOk e, 4),
     ((op == 0x38 || op == 0x39) && decide (65536 < (e.tensor 1).dim 0), 4),
     (!fftOk e, 4),
     (slots.any (fun k => !s.operandOk tab.tower op k (dSlot w k) (e.tensor k)), 5),
     ((op == 0x60 || op == 0x62) && s.eidUnnamed (e.param 943 928), 5),
     ((dCut w ||| cutMask w) != cutMask w || (dParts w != 1 && !splitAllowed op && op != 0x58), 6),
     (op == 0x58 && !s.opticalOk e, 0x0B),
     (chunks.any (fun c => decide (2048 < c.cost)), 6),
     (decide (dField w 95 64 ≠ sumNat (chunks.map (·.cost))), 6),
     (dWindow w != 0xFF && (decide (16 ≤ dWindow w) || uses.any (fun u => decide (u.1 ≤ dWindow w))), 7),
     ([dWait w 0, dWait w 1, dSig w 0, dSig w 1].any (fun x => !syncTargetOk uses x), 7),
     ([dSig w 0, dSig w 1].any (fun x => field x 31 30 != 0 && field x 63 32 == 0), 7),
     ((dLprog w != 0xFFFF && decide (tab.lanes.length ≤ dLprog w)) || ((dEpi w || op == 0x20) && dLprog w == 0xFFFF), 8),
     (decide (1024 < s.rangeEntries e), 9),
     ((op == 0x60 || op == 0x62) && decide (1024 < e.resultGranules), 0x0C)]

/-- Descriptors of the table that no graph holds. -/
def PkgTables.looseDescs (tab : PkgTables) : List Nat :=
  (List.range tab.descs.length).filter (fun i => !tab.graphs.any (fun g => decide (g.1 ≤ i) && decide (i < g.1 + g.2)))

/-- The first failure among the graphs, the descriptors in and outside them, and the tensor records of one tower (R167). -/
def State.tablesCheck (s : State) (shapes : List CostRec) (tab : PkgTables) : Option Failure :=
  let isCache := (s.tower tab.tower).isCache
  let check := fun (g i : Nat) =>
    let c := s.descCheck isCache shapes tab g (tab.descs.getD i 0)
    if c = 0 then none else some (g, valCode c i)
  firstFailure
    (tab.graphs.zipIdx.flatMap (fun g =>
        if 16384 < g.1.2 ∨ tab.descs.length < g.1.1 + g.1.2 then [some (g.2, valCode 1 g.1.1)]
        else (List.range g.1.2).map (fun i => check g.2 (g.1.1 + i)))
      ++ tab.looseDescs.map (check 0xFFFF)
      ++ tab.tensors.zipIdx.map (fun p =>
        if !tensorReserved p.1 then some (0xFFFF, valCode 1 p.2)
        else if decide (1 ≤ (tensorOf p.1).fmt ∧ (tensorOf p.1).fmt ≤ 0x11) then none else some (0xFFFF, valCode 2 p.2)))

def lanesCheck (tab : PkgTables) : Option Failure :=
  firstFailure (tab.lanes.zipIdx.map (fun p => if laneEntryOk p.1 then none else some (0xFFFF, valCode 8 p.2)))

/-! ## Cost records (R337, R338, R146, R472) -/

/-- Sum, over the sequential phases of an operator, of the largest chunk cost in each (R146, R271). -/
def phaseCost (isCache : Bool) (tab : PkgTables) (w : BitVec 1024) : Nat :=
  let cs := loadChunks isCache tab w
  if dOpcode w = 0x58 then sumNat (cs.map (·.cost))
  else maxNat ((cs.filter (fun c => c.kind == .normal)).map (·.cost)) + maxNat ((cs.filter (fun c => c.kind == .combining)).map (·.cost))

/-- Descriptors of graph `g` with window number `win`, in order. -/
def windowDescs (tab : PkgTables) (g win : Nat) : List (BitVec 1024) :=
  match tab.graphs[g]? with
  | some q => ((List.range q.2).map (fun i => tab.descs.getD (q.1 + i) 0)).filter (fun w => dWindow w == win)
  | none => []

/-- Descriptors of a window on a tower (R337): those with its number in every graph that the cost record names there. -/
def CostRec.descsOf (c : CostRec) (tab : PkgTables) (win : Nat) : List (BitVec 1024) :=
  (((c.wins.filter (fun w => w.tower == tab.tower)).map (·.graph)).foldl (fun (l : List Nat) g => if l.contains g then l else l ++ [g]) []).flatMap
    (fun g => windowDescs tab g win)

/-- Ranges of an operator at load: written?, activation base (16: none), first granule, granule after the last. -/
def loadRanges (e : OpEnv) : List (Bool × Nat × Nat × Nat) :=
  (List.range 4).flatMap (fun k =>
    match e.slotOf k with
    | some q =>
      let b := if (dSlot e.word k).act then (dSlot e.word k).base else 16
      let w := writesSlot (dOpcode e.word) k
      (w, b, q.1 / 256, cdiv (q.1 + q.2.1.span) 256) ::
        (if isMx q.2.1.fmt then [(w, b, (q.1 + q.2.2) / 256, cdiv (q.1 + e.extent k) 256)] else [])
    | none => []) ++
  (if 1 < dParts e.word then [(true, 15, dScratch e.word / 256, cdiv (dScratch e.word + e.scratchBytes) 256)] else [])

def loadConflict (a b : List (Bool × Nat × Nat × Nat)) : Bool :=
  a.any (fun x => b.any (fun y => (x.1 || y.1) && x.2.1 == y.2.1 && decide (x.2.2.1 < y.2.2.2) && decide (y.2.2.1 < x.2.2.2)))

/-- Operator `b` waits on an object that `a` signals. -/
def syncDep (a b : BitVec 1024) : Bool :=
  [dSig a 0, dSig a 1].any (fun x => decide (field x 31 30 ≠ 0) && [dWait b 0, dWait b 1].any (fun y => field x 31 0 == field y 31 0))

/-- Waits on an object of another tower (R143). -/
def remoteWaits (t : Nat) (w : BitVec 1024) : Nat :=
  ([dWait w 0, dWait w 1].filter (fun x => decide (field x 31 30 ≠ 0) && field x 23 20 != t)).length

/-- Operand slot `k` of an operator of tower `t` lies at another site; what REDUCE_TO, MULTICAST and ALLREDUCE send goes to others. -/
def State.slotRemote (s : State) (t k : Nat) (w : BitVec 1024) : Bool :=
  (k == 0 && decide (0x60 ≤ dOpcode w ∧ dOpcode w ≤ 0x62)) ||
    (!(dSlot w k).act && decide (s.eidSite (addrEid (dSlot w k).addr) ≠ some t))

/-- Ticks of one bulk path (Table PH-5, R197; DEDUCED, log 55): the path on the operator's own die, and to another site the inter-site path
and the path on the die there; the hub has no die. The bound of each hop contains its crossing (R72, R196). -/
def pathTicks (remote hub : Bool) : Nat := 84 + (if remote then 272 + (if hub then 0 else 84) else 0)

/-- Ticks of all bulk paths of an operator: one for each operand slot, one to the hub for a DELIVER, and for partials one to the scratch area
and one back. -/
def State.opPaths (s : State) (t : Nat) (w : BitVec 1024) : Nat :=
  sumNat (((List.range 4).filter (fun k => (dSlot w k).used)).map (fun k => pathTicks (s.slotRemote t k w) false))
    + (if dOpcode w = 0x78 then pathTicks true true else 0) + (if 1 < dParts w then 2 * pathTicks false false else 0)

/-- Terms of Table PH-5 of one operator. -/
def State.chainTerm (s : State) (isCache unbooked : Bool) (tab : PkgTables) (w : BitVec 1024) : Nat :=
  cdiv (phaseCost isCache tab w * 1024) 1489 + (if unbooked then 1409 else 0)
    + s.opPaths tab.tower w + 40 * remoteWaits tab.tower w + (if dOpcode w = 0x58 then 4608 else 0)

/-- An operator of a window as the chains see it: its place in descriptor order, word, ranges and term. -/
structure ChainNode where
  pos    : Nat
  word   : BitVec 1024
  ranges : List (Bool × Nat × Nat × Nat)
  term   : Nat
  deriving DecidableEq, Repr

/-- `b` depends on `a` (R338): it follows `a` and their ranges conflict, or it waits on an object that `a` signals, wherever the two stand. -/
def ChainNode.before (a b : ChainNode) : Bool :=
  (decide (a.pos < b.pos) && loadConflict a.ranges b.ranges) || (a.pos != b.pos && syncDep a.word b.word)

/-- The longest chain of at most `n` + 1 operators that ends with each; with as many rounds as operators every chain is covered, and one
that comes back to an operator grows past any bound. -/
def chainLengths (nodes : List ChainNode) (n : Nat) : List Nat :=
  match n with
  | 0 => nodes.map (·.term)
  | n + 1 =>
    let l := nodes.zip (chainLengths nodes n)
    nodes.map (fun b => b.term + maxNat ((l.filter (fun a => a.1.before b)).map (·.2)))

/-- The longest chain that ends with each operator of a window. -/
def State.chains (s : State) (isCache unbooked : Bool) (tab : PkgTables) (ws : List (BitVec 1024)) : List Nat :=
  chainLengths (ws.zipIdx.map (fun w =>
    { pos := w.2, word := w.1, ranges := loadRanges (loadEnv tab w.1), term := s.chainTerm isCache unbooked tab w.1 })) ws.length

/-- Octets of a record's result: the grants of its pair entries to the hub (R378). -/
def CostRec.resultLength (c : CostRec) : Nat := 256 * sumNat ((c.pairs.filter (fun p => p.dst == 20)).map (·.gran))

/-- A window entry of a cost record. -/
def State.winCheck (s : State) (tabs : List PkgTables) (unbooked : Bool) (c : CostRec) (w : WinEntry) : Bool :=
  match tabs.find? (fun x => x.tower == w.tower) with
  | none => false
  | some tab =>
    let isCache := (s.tower w.tower).isCache
    let ds := c.descsOf tab w.win
    decide (w.graph < tab.graphs.length) && decide (1 ≤ w.cu) && decide (1 ≤ w.len) && decide (w.cu ≤ (s.tower w.tower).hwCapacity)
      && (w.rctx == 0 || decide (w.tower < 16))
      && decide (sumNat (ds.map (fun d => dField d 95 64)) ≤ w.cu * w.len * 1489)
      && ds.all (fun d => decide (cdiv (phaseCost isCache tab d + 2048) 1489 ≤ w.len))
      && decide (maxNat (s.chains isCache unbooked tab ds) + (if unbooked then 0 else 1409) ≤ w.len * 1024)
      && decide (w.start + w.len ≤ c.span)

def State.pairCheck (s : State) (c : CostRec) (p : PairEntry) : Bool :=
  decide (p.src ≠ p.dst) && s.populated p.src && s.populated p.dst && decide (1 ≤ p.wl) && decide (1 ≤ p.len)
    && decide (p.gran * 256 ≤ p.wl * 25600 * p.len) && decide (p.start + p.len ≤ c.span)

def winsDistinct (l : List WinEntry) : Bool :=
  match l with
  | [] => true
  | w :: rest => !(rest.any (fun x => x.tower == w.tower && x.win == w.win)) && winsDistinct rest

/-- The unbooked-work flag of the group that role `r` is bound to. -/
def State.roleUnbooked (s : State) (map : List Nat) (r : Nat) : Bool :=
  match s.groups[map.getD r 0xFF]? with
  | some g => g.unbooked
  | none => true

def State.costCheck (s : State) (tabs : List PkgTables) (map : List Nat) (earlier : List CostRec) (c : CostRec) (reservedOk : Bool) : Nat :=
  firstAbort
    [(!reservedOk || c.wins == [] || earlier.any (fun x => x.shape == c.shape) || !winsDistinct c.wins
        || decide (c.span = 0 ∨ 65536 < c.span) || (!c.clg && !c.clb)
        || !c.wins.all (fun w => s.winCheck tabs (s.roleUnbooked map w.role) c w) || !c.pairs.all (s.pairCheck c)
        || decide (c.tail < 2048 + cdiv c.resultLength 50), 0x0A),
     (c.clb && decide (c.recov < c.span + cdiv (c.tail + 1032000) 1024), 0x0E)]

def State.costsCheck (s : State) (tabs : List PkgTables) (map : List Nat) (earlier : List CostRec) (l : List (CostRec × Bool)) : Option Failure :=
  match l with
  | [] => none
  | (c, ok) :: rest =>
    let k := s.costCheck tabs map earlier c ok
    if k = 0 then s.costsCheck tabs map (earlier ++ [c]) rest
    else some ((c.wins.map (·.graph)).getD 0 0xFFFF, valCode k earlier.length)

/-! ## Role map (R335) -/

/-- A graph holds an operator with WINDOW 0xFF. -/
def PkgTables.unbookedGraph (tab : PkgTables) (g : Nat) : Bool := (windowDescs tab g 0xFF) != []

/-- The test of R335 on one window entry. -/
def State.roleOk (s : State) (p : Pkg) (map : List Nat) (w : WinEntry) : Bool :=
  match s.groups[map.getD w.role 0xFF]? with
  | none => false
  | some g =>
    g.members.getLsbD w.tower && (g.kind == p.kinds.getD w.role 0 || g.kind == 4) && g.kind != 0
      && (g.unbooked || !((p.tables.find? (fun x => x.tower == w.tower)).any (fun tab => tab.unbookedGraph w.graph)))

def State.rolesOk (s : State) (p : Pkg) (map : List Nat) : Bool := p.shapes.all (fun c => c.wins.all (s.roleOk p map))

def State.rolesCheck (s : State) (p : Pkg) (map : List Nat) : Option Failure :=
  firstFailure (p.shapes.zipIdx.map (fun c =>
    match c.1.wins.find? (fun w => !s.roleOk p map w) with
    | some w => some (w.graph, valCode 0x0D c.2)
    | none => none))

/-- A tower of a cost record without an activation window under an EID that the package places on it (R313). -/
def State.activationCheck (s : State) (p : Pkg) : Option Failure :=
  firstFailure (p.tables.map (fun tab =>
    if p.shapes.any (fun c => c.wins.any (fun w => w.tower == tab.tower))
        && (s.actWindows p tab.tower).isEmpty then
      some (0xFFFF, valCode 0x11 0xFFFF)
    else none))

/-- R167, R189, R337 and R335 in the order of R535. -/
def State.validate (s : State) (model : Nat) (body : List Byte) : Option Failure :=
  if !s.directoryOk model body then some (0xFFFF, valCode 0x10 0xFFFF)
  else
    let p := packageOf body s.now
    let map := s.roleMap model
    firstFailure (p.tables.map (s.tablesCheck p.shapes) ++ p.tables.map lanesCheck ++ [s.costsCheck p.tables map [] (costsOf body).1,
      s.activationCheck p, s.rolesCheck p map])

end Sys2Proof.Machine
end

