-- ==== Sys2Proof/Machine/Packages.lean ====
section
/-!
DEFINITION. Phase groups, placement, loads and removal of packages: commands of chapter 12 and the load commands of chapter 20.
-/
namespace Sys2Proof.Machine

open Sys2Proof

/-! ## Groups (R331 to R334) -/

/-- Group selected over PCIe, and the values staged for it (D:4000.01 to D:4000.04). -/
def State.groupSel (s : State) : Nat := kvGet s.dict.pcie.sels 0x400001 0
def groupMaskKey (g : Nat) : Nat := 0x400003 * 256 + g
def groupFlagKey (g : Nat) : Nat := 0x400004 * 256 + g

def maskTowers (m : Nat) : List Nat := (List.range 20).filter (fun t => bit m t)

/-- A package that is placed or being removed binds a role to group `g`. -/
def State.groupBound (s : State) (g : Nat) : Bool := s.pkgs.any (fun p => (s.roleMap p.model).contains g)

/-- A cost record of a package bound to group `g` names tower `t` under a role of that group. -/
def State.groupNames (s : State) (g t : Nat) : Bool :=
  s.pkgs.any (fun p => p.shapes.any (fun c => c.wins.any (fun w => w.tower == t && (s.roleMap p.model).getD w.role 0xFF == g)))

/-- A tower joins group `g`: it becomes ACTIVE (Table TW-3) once no reload is due. -/
def Tower.join (t : Tower) (g : Nat) : Tower :=
  { t with group := some g, mode := if t.mode = .ready then Tower.restMode { t with group := some g } else t.mode }

/-- A tower leaves its group: it becomes READY and keeps the records it holds. -/
def Tower.leaveGroup (t : Tower) : Tower := { t with group := none, mode := if t.mode = .active ∨ t.waiting then .ready else t.mode }

/-- Members of a kind (Table PH-1). -/
def kindAllows (kind t : Nat) : Bool :=
  if kind = 0 then false else if kind = 1 ∨ kind = 2 then decide (t < 16) else if kind = 3 then decide (16 ≤ t) else true

/-- The groups and role maps as they stand are what admissions decided in this tick go by (R333), for `moved` towers their group as well. -/
def State.groupsWere (s : State) (moved : List (Nat × Option Nat)) : State :=
  match s.groupWas.filter (fun g => g.tick == s.now) with
  | some g => { s with groupWas := some { g with towers := g.towers ++ moved.filter (fun m => !g.towers.any (fun q => q.1 == m.1)) } }
  | none => { s with groupWas := some { tick := s.now, groups := s.groups, roles := s.roles, towers := moved } }

/-- A write of D:4000.05 (R332). -/
def groupApplyProc (value : Nat) (s : State) : Nat × State :=
  let g := s.groupSel
  let cur := s.groups.getD g Group.fresh
  let kind := s.held (groupKindKey g) 0
  let mask := s.held (groupMaskKey g) 0
  let unbooked := s.held (groupFlagKey g) 1 != 0
  let on := decide (value = 1)
  let joining := (maskTowers mask).filter (fun t => !cur.members.getLsbD t)
  let leaving := (maskTowers cur.members.toNat).filter (fun t => !bit mask t)
  let notReady := joining.find? (fun t => (s.tower t).mode != .ready)
  checked
    [(decide (1 < value), 0x04000003),
     (on && (maskTowers mask).any (fun t => (s.tower t).group.isSome && (s.tower t).group != some g), stateAbort 0x4000 5),
     (on && notReady.isSome, stateAbort (towerIndex (notReady.getD 0) 0) 4),
     (on && (maskTowers mask).any (fun t => !kindAllows kind t), stateAbort 0x4000 5),
     (on && kind != cur.kind && s.groupBound g, stateAbort 0x4001 5),
     (on && unbooked != cur.unbooked && s.groupBound g, stateAbort 0x4001 5),
     (on && leaving.any (s.groupNames g), stateAbort 0x4001 5)]
    (fun s =>
      if on then
        let s := s.groupsWere ((leaving ++ joining).map (fun t => (t, (s.tower t).group)))
        let s := leaving.foldl (fun s t => s.mapTower t Tower.leaveGroup) s
        let s := joining.foldl (fun s t => s.mapTower t (fun x => x.join g)) s
        s.mapGroups (fun l => modAt l g (fun _ => { kind, members := BitVec.ofNat 20 mask, unbooked }))
      else s) s

/-- GROUP_APPLY (R332, R333). -/
def execGroupApply (at_ value : Nat) (s : State) : Host.Outcome State Fault Refusal :=
  .next ((s.advance at_).telling (fun s => s.pcieWrite 0x4000 5 (groupApplyProc value)))

/-! ## Removal (R343) -/

def State.modelSel (s : State) : Nat := kvGet s.dict.pcie.sels 0x400101 0

/-- Activation records of a model in all towers (D:4001.07). -/
def State.recordsOf (s : State) (model : Nat) : Nat :=
  sumNat (s.towers.map (fun t => (t.records.filter (fun r => r.model == model)).length))

def removeProc (value : Nat) (s : State) : Nat × State :=
  let m := s.modelSel
  let placed := (s.pkg? m).any (fun p => p.st == 2)
  checked
    [(decide (1 < value), 0x04000003), (decide (value = 1) && !placed, stateAbort 0x4001 4)]
    (fun s => if value = 1 then
        s.mapPkgs (fun l => modWhere l (fun p => p.model == m) (fun p => { p with st := 4, tick := s.now }))
      else s) s

/-- REMOVE (R343). -/
def execRemove (at_ value : Nat) (s : State) : Host.Outcome State Fault Refusal :=
  .next ((s.advance at_).pcieWrite 0x4001 6 (removeProc value))

/-- A tower whose reloads have all come enters ACTIVE if it waits for them in a group (R531). -/
def Tower.reloaded (t : Tower) (model : Nat) : Tower :=
  let r := t.reload.filter (· != model)
  { t with reload := r
           mode := if r = [] ∧ t.waiting then .active else t.mode }

/-- Removal completes when no tower holds a record of the model (D:4001.07). -/
def State.removalComplete (s : State) (model : Nat) : State :=
  if (s.pkg? model).any (fun p => p.st == 4) && decide (s.recordsOf model = 0) then
    let s := s.mapVault (fun v => { v with measures := v.measures.filter (fun m => !(m.kind == 2 && m.index == model)) })
    let tables := match s.pkg? model with
      | some p => p.tables
      | none => []
    let s := tables.foldl (fun s tab => s.mapTower tab.tower (fun t => tab.persist.foldl (fun t i => t.zeroObj s.now i) t)) s
    let s := s.mapPkgs (fun l => l.filter (fun p => p.model != model))
    let s := s.mapTowers (fun l => l.map (fun t => t.reloaded model))
    { s with loadStatus := kvErase s.loadStatus model }
  else s

/-- PACKAGE_REMOVAL_COMPLETE (R343). -/
def execPackageRemovalComplete (at_ model : Nat) (s : State) : Host.Outcome State Fault Refusal :=
  .next ((s.advance at_).telling (fun s => s.removalComplete model))

/-! ## Loads (R533 to R536) -/

/-- Clear the valid bits of every page and store byte that a load wrote (R535). -/
def State.clearWritten (s : State) (written : List (Nat × Nat)) : State :=
  written.foldl (fun s w =>
    match s.locateAddr w.1 with
    | .key k =>
      if k / 2 ^ 40 < 64 then s.mapMem (fun m => m.clear (k / 65536 * 65536) (cdiv (k + w.2) 65536 * 65536))
      else (s.mapMem (fun m => m.clear k (k + w.2))).storeTouched w.1 w.2
    | .poison _ => s
    | .unrouted => s) s

/-- The load is over. -/
def State.freeLoad (s : State) (st : Nat) : State :=
  s.mapLoad (fun l => { l with st, open_ := false, body := [], written := [] })

/-- A load fails (R535, R562): status and abort record written, what it wrote cleared, the load freed. -/
def State.failLoad (s : State) (f : Failure) : State :=
  let l := s.load
  let s := if l.target = 2 then s.dropParked l.parkEid else s.clearWritten l.written
  let s := { s with loadStatus := kvSet s.loadStatus l.model (f.2, f.1) }
  let s := s.mapDict (fun d => d.abortRecord { tick := s.now, index := 0x4002, sub := 4, i3c := false, code := f.2, arg := f.1 })
  (s.freeLoad 5).raiseVector 0

/-- Failure of the trailer, of the measurement or of the run of segments (kind 0x0F). -/
def trailerFailure : Failure := (0xFFFF, valCode 0x0F 0xFFFF)

/-- A load writes to tower `t` for package `target`: all towers, or those under restore (R536). -/
def LoadSt.covers (l : LoadSt) (t : Nat) : Bool := l.target != 3 || l.restore.getLsbD t

/-- Write the bytes of the data sections that lie in [lo, hi) of the body. -/
def State.writeSections (s : State) (lo hi : Nat) : State :=
  let body := s.load.body
  ((sectionsOf body).filter (fun q => q.kind == 5 && s.load.covers q.tower)).foldl (fun s q =>
    let a := max lo q.offset
    let b := min hi (q.offset + q.length)
    if a < b ∧ s.destOk q then
      let dst := q.dest + (a - q.offset)
      let s := (s.putBytes dst ((body.drop a).take (b - a))).storeTouched dst (b - a)
      let s := s.mapTower q.tower (fun t => { t with coldClean := false })
      s.mapLoad (fun l => { l with written := l.written ++ [(dst, b - a)] })
    else s) s

/-- The directory has arrived whole. -/
def dirComplete (body : List Byte) : Bool := decide (256 ≤ body.length) && decide (256 + 32 * manNsect body ≤ body.length)

/-- A segment before the trailer: hashed and its data written to their destinations (R535). -/
def State.takeSegment (s : State) (payload : List Byte) : State :=
  let old := s.load.body
  let s := s.mapLoad (fun l => { l with body := l.body ++ payload, bytes := l.bytes + payload.length, segs := l.segs + 1, st := 2 })
  if dirComplete s.load.body then s.writeSections (if dirComplete old then old.length else 0) s.load.body.length else s

/-- The statement of a trailer agrees with the load, and the vault's verdicts hold (R533, R535). -/
def State.trailerOk (s : State) (t : List Byte) (v : TrailerIn) : Bool :=
  let body := s.load.body
  t.length == 3437 && leAt t 0 1 == 1 && leAt t 2 2 == s.load.model && leAt t 4 4 == manVersion body && leAt t 8 8 == body.length
    && v.sigOk && v.hashOk

/-- Package data reaches a tower: its share is loaded, persistent objects at zero (R214). -/
def State.placeShare (s : State) (p : Pkg) : State :=
  p.tables.foldl (fun s tab =>
    if s.load.covers tab.tower then
      s.mapTower tab.tower (fun t =>
        { tab.persist.foldl (fun t i => t.zeroObj s.now i) (t.reloaded p.model) with coldClean := false })
    else s) s

/-- The trailer has come: the load ends (R535). -/
def State.finishLoad (s : State) (trailer : List Byte) (v : TrailerIn) : State :=
  let l := s.load
  if !s.trailerOk trailer v then s.failLoad trailerFailure
  else
    match s.validate l.model l.body with
    | some f => s.failLoad f
    | none =>
      let p := packageOf l.body s.now
      if l.target = 3 ∧ !((s.pkg? l.model).any (fun q => q.hash == p.hash)) then s.failLoad trailerFailure
      else
        let s := s.placeShare p
        let s := if l.target = 3 then s
          else
            let s := s.mapPkgs (fun ps => insertBy (fun a b => decide (a.model < b.model)) p (ps.filter (fun q => q.model != p.model)))
            s.mapVault (fun x =>
              { x with measures := x.measures.filter (fun m => !(m.kind == 2 && m.index == p.model)) ++
                         [{ kind := 2, pend := false, index := p.model, version := p.version, tick := s.now, hash := p.hash }] })
        let s := { s with loadStatus := kvErase s.loadStatus l.model }
        (s.freeLoad 4).raiseVector 0

/-- Octets that a parked frame takes in its window: header, payload and tag. -/
def parkedBytes (l : List (Nat × BitVec 512 × List Byte)) (eid : Nat) : Nat :=
  sumNat ((l.filter (fun p => p.1 == eid)).map (fun p => 80 + p.2.2.length))

/-- An M frame of a park load is stored as it arrived (R314, R536). -/
def State.parkSegment (s : State) (hdr : BitVec 512) (payload : List Byte) (last : Bool) : State :=
  let eid := s.load.parkEid
  let room := match s.window? eid 2 with
    | some w => w.len * 65536
    | none => 0
  if room < parkedBytes s.mem.parked eid + 80 + payload.length then s.failLoad (0xFFFF, valCode 0x11 0xFFFF)
  else
    let s := if (s.mem.parkedKeys eid).contains (hdrModel hdr, hdrEpoch hdr) then s else s.keyRef kindModel (hdrModel hdr) (hdrEpoch hdr)
    let s := s.mapMem (fun m => { m with parked := m.parked ++ [(eid, hdr, payload)] })
    let s := s.mapLoad (fun l => { l with bytes := l.bytes + payload.length, segs := l.segs + 1, st := 2 })
    if last then (s.freeLoad 6).raiseVector 0 else s

/-- A segment that the arrival checks and its tag have passed: the segment check, then the load (R534 to R536). -/
def State.loadSegment (s : State) (hdr : BitVec 512) (payload : List Byte) (trailer : TrailerIn) : State :=
  let h := hdr.toNat
  let last := bit h 8
  if field h 191 128 ≠ s.load.segs + 1 ∨ field h 319 256 ≠ s.load.bytes then s.failLoad trailerFailure
  else if s.load.target = 2 then s.parkSegment hdr payload last
  else if last then
    (s.mapLoad (fun l => { l with bytes := l.bytes + payload.length, segs := l.segs + 1, st := 3 })).finishLoad payload trailer
  else s.takeSegment payload

/-- A load opens: its parameters come into force. -/
def State.openLoad (s : State) (target : Nat) : State :=
  let eid := s.held 0x400203 0
  let s := if target = 2 then s.dropParked eid else s
  let model := s.held 0x400201 0
  let s := if target = 1 then { s with loadStatus := kvErase s.loadStatus model } else s
  s.mapLoad (fun _ => { target, parkEid := eid, restore := BitVec.ofNat 20 (s.held 0x40020A 0), st := 1, open_ := true, model,
                        bytes := 0, segs := 0, body := [], written := [] })

/-- Tower `t` has been cold-reset since the placement of `p` (R534). -/
def State.resetSince (s : State) (t : Nat) (p : Pkg) : Bool :=
  match (s.tower t).coldTick with
  | some x => decide (p.tick ≤ x)
  | none => false

/-- The aborts of R534 for a target, but for a load that is open. -/
def State.openChecks (s : State) (target : Nat) : List (Bool × Nat) :=
  let model := s.held 0x400201 0
  [(target == 1 && (s.pkg? model).isSome, stateAbort 0x4001 4),
   (target == 2 && !((s.window? (s.held 0x400203 0) 2).any (·.park)), stateAbort 0x6001 5),
   (target == 3 && !((s.pkg? model).any (fun p => p.st == 2)), stateAbort 0x4001 4),
   (target == 3 && (s.pkg? model).any (fun p => (maskTowers (s.held 0x40020A 0)).any (fun t => !s.resetSince t p)), stateAbort 0x4002 4)]

def openLoadProc (value : Nat) (s : State) : Nat × State :=
  let target := s.held 0x400202 1
  checked
    ((decide (1 < value), 0x04000003) ::
      (if value = 1 then (s.load.open_, stateAbort 0x4002 3) :: s.openChecks target else []))
    (fun s => if value = 1 then s.openLoad target else s) s

/-- OPEN_LOAD (R534). -/
def execOpenLoad (at_ value : Nat) (s : State) : Host.Outcome State Fault Refusal :=
  .next ((s.advance at_).pcieWrite 0x4002 4 (openLoadProc value))

/-- Place the package parked under an EID: its frames in order, each decrypted under its own KEPOCH (R415, R536). -/
def State.placeParked (s : State) (eid : Nat) (tagsOk : Bool) (trailer : TrailerIn) : State :=
  let frames := s.mem.parked.filter (fun p => p.1 == eid)
  let opens := frames.all (fun f => (s.vault.slot? kindModel (hdrModel f.2.1) (hdrEpoch f.2.1)).isSome)
  if !tagsOk then ((s.mapLedger (fun l => { l with tagFails := l.tagFails + 1 }))).failLoad trailerFailure
  else if !opens then s.failLoad trailerFailure
  else frames.foldl (fun s f => if s.load.open_ then s.loadSegment f.2.1 f.2.2 trailer else s) s

def placeFromParkProc (value : Nat) (trailer : TrailerIn) (tagsOk : Bool) (s : State) : Nat × State :=
  let target := if s.held 0x400202 1 = 3 then 3 else 1
  let eid := if s.load.open_ then s.load.parkEid else s.held 0x400203 0
  checked
    ((decide (1 < value), 0x04000003) ::
      (if value = 1 then
        [(s.load.open_ && (s.load.target != 3 || s.load.segs != 0), stateAbort 0x4002 3)] ++
        (if s.load.open_ then [] else s.openChecks target) ++
        [(!((s.window? eid 2).any (·.park)), stateAbort 0x6001 5),
         (!(s.mem.parked.any (fun p => p.1 == eid)), stateAbort 0x4002 4)]
       else []))
    (fun s => if value = 1 then (if s.load.open_ then s else s.openLoad target).placeParked eid tagsOk trailer else s) s

/-- PLACE_FROM_PARK (R536). -/
def execPlaceFromPark (at_ value : Nat) (trailer : TrailerIn) (tagsOk : Bool) (s : State) : Host.Outcome State Fault Refusal :=
  .next ((s.advance at_).telling (fun s => s.pcieWrite 0x4002 5 (placeFromParkProc value trailer tagsOk)))

def cancelLoadProc (value : Nat) (s : State) : Nat × State :=
  checked
    [(decide (1 < value), 0x04000003), (decide (value = 1) && !s.load.open_, stateAbort 0x4002 4)]
    (fun s => if value = 1 then s.failLoad trailerFailure else s) s

/-- CANCEL_LOAD (Table BR-8: ends an open load as a failure under R535). -/
def execCancelLoad (at_ value : Nat) (s : State) : Host.Outcome State Fault Refusal :=
  .next ((s.advance at_).pcieWrite 0x4002 9 (cancelLoadProc value))

end Sys2Proof.Machine
end

