-- ==== Sys2Proof/Machine/PairOps.lean ====
section
/-! DEFINITION. The pair (chapter 17), what other chapters share of it: claims, isolation, and ingress credit under R367. -/
namespace Sys2Proof.Machine

open Sys2Proof

/-! ## States and claims -/

/-- Codes of Table PR-6. -/
def PairMode.code : PairMode → Nat
  | .unbound => 0 | .seeking => 1 | .syncing => 2 | .standby => 3 | .active => 4 | .solo => 5 | .isolated => 6

def PairMode.ofCode (n : Nat) : PairMode :=
  if n = 1 then .seeking else if n = 2 then .syncing else if n = 3 then .standby else if n = 4 then .active
  else if n = 5 then .solo else if n = 6 then .isolated else .unbound

/-- The pair position p as a number (R417). -/
def State.pos (s : State) : Nat := if s.vault.pairPos then 1 else 0

/-- A request that Table PR-5 says is not run: D:2202.09 counts it, and the pair event is raised. -/
def State.notRun (s : State) : State := (s.mapPair (fun p => { p with notRun := p.notRun + 1 })).raiseEvent 10

/-- A request that the unit holds. -/
def Req.live (r : Req) : Bool := r.phase == .held || r.phase == .pending || r.phase == .accepted

/-- The unit enters ISOLATED (R477): every request it holds is withdrawn, and nothing more leaves its X ports. -/
def State.isolate (s : State) : State :=
  let s := s.mapPair (fun p => { p with mode := .isolated, joinArmed := false })
  let s := (s.ledger.reqs.filter Req.live).foldl (fun s r => s.finishEnd r) s
  let s := s.unrefLeft (s.ports.flatMap (·.queue))
  let s := s.mapPorts (fun l => l.map (fun p => { p with queue := [], buffered := 0 }))
  s.raiseEvent 10

/-- The claim that a raise takes (R454). -/
def State.raisedClaim (s : State) : Nat :=
  let m := max s.pair.claim s.pair.twinClaim + 1
  if m % 2 = s.pos then m else m + 1

end Sys2Proof.Machine
end

