-- ==== Sys2Proof/Machine/Time.lean ====
section
/-! DEFINITION. Board time, the tally and region clocks: the commands of chapter 02 (R42 to R74, R530, R590). -/
namespace Sys2Proof.Machine

open Sys2Proof

/-- Codes of Table TM-2. -/
def TimeMode.code : TimeMode → Nat
  | .unset => 0 | .locked => 1 | .holdover => 2 | .relock => 3 | .fault => 4

/-- Change the time state; each change is logged with the new state as ARG0 (R60, code 0x0140). Lockstep admission stops as the
unit leaves LOCKED (R65). -/
def State.setTimeMode (s : State) (m : TimeMode) : State :=
  if s.time.mode = m then s
  else ((s.mapTime (fun t => { t with mode := m })).mapPair (fun p => { p with lockRuns := p.lockRuns && m == .locked })).logEv
    0x0140 sevLogged unitHub 0 m.code

/-- LOCKED: the duration returns to zero (R56). DESIGN CHOICE (log 51): so does the cause D:1202.02, of which R56 says nothing. -/
def State.enterLocked (s : State) : State :=
  (s.mapTime (fun t => { t with cause := 0, holdStart := none })).setTimeMode .locked

/-- Reference loss (R44, R55, R56, R59): cause bit `b`, duration counted from tick `start` when LOCKED. A return from RELOCK shows
the new cause; a second loss within HOLDOVER or FAULT adds its bit. -/
def State.referenceLoss (s : State) (b start : Nat) : State :=
  let s := s.logEv 0x0101 sevLogged unitHub 0 0
  match s.time.mode with
  | .unset => s
  | .locked =>
    (s.mapTime (fun t => { t with cause := 1#8 <<< b, holdStart := some start })).setTimeMode .holdover
  | .relock => (s.mapTime (fun t => { t with cause := 1#8 <<< b })).setTimeMode .holdover
  | .holdover => s.mapTime (fun t => { t with cause := t.cause ||| (1#8 <<< b) })
  | .fault => s.mapTime (fun t => { t with cause := t.cause ||| (1#8 <<< b) })

/-- REFCLK loss, declared at the present tick. -/
def State.refclkLoss (s : State) : State :=
  if s.time.refLost then s.mapTime (fun t => { t with goodGates := 0 })
  else (s.mapTime (fun t => { t with refLost := true, goodGates := 0 })).referenceLoss 0 s.now

/-- REFCLK_EDGE_TIMEOUT (Table TM-1): no edge in ticks E + 1 to E + 32. -/
def execRefclkEdgeTimeout (at_ lastEdge : Nat) (s : State) : Host.Outcome State Fault Refusal :=
  let s := s.advance at_
  .next (if lastEdge + 32 ≤ at_ then s.refclkLoss else s)

/-- A gate ends (R43, R590): within ±100 ppm it counts towards return; ten in a row return REFCLK. DESIGN CHOICE (log 51), since
Table TM-1 does not say: a gate with an edge failure in it leaves D:1203.01 as it stands and its mean is not judged; after
power-on, where no tally runs yet, the same ten gates make REFCLK valid and start the tally (R50); and a change of the tally's
frequency source brings a phase error of exactly 0 tk (R55 allows up to 1). -/
def State.gateEnd (s : State) (ppb : Int) (edgeFail : Bool) : State :=
  if edgeFail then s.mapTime (fun t => { t with goodGates := 0 })
  else
    let s := s.mapTime (fun t => { t with refOffset := ppb })
    if ppb < -100000 ∨ 100000 < ppb then s.refclkLoss
    else if s.time.refLost then
      if s.time.goodGates + 1 < 10 then s.mapTime (fun t => { t with goodGates := t.goodGates + 1 })
      else s.mapTime (fun t => { t with goodGates := 0, refLost := false, started := true })
    else s

/-- The tally before the step that left it at its present tick, where there was one (R49). -/
def TimeSt.skippedFrom (t : TimeSt) : Option Nat :=
  match t.skip with
  | some (b, a) => if a = t.tally then some b else none
  | none => none

/-- A compare unit fires at the present tick (R49): its target is the tick, or lies in the range that a step to this tick skipped. -/
def TimeSt.fires (t : TimeSt) (target : Nat) : Bool :=
  match t.skippedFrom with
  | some b => decide (b < target) && decide (target ≤ t.tally)
  | none => decide (target = t.tally)

/-- Number of the gate that ends at the present tick: of several ends that one step skipped, all of which fire in its tick (R49), the
first that has not been judged. -/
def TimeSt.gateAt (t : TimeSt) : Nat :=
  match t.skippedFrom with
  | some b => max (t.gateNo + 1) (b / 100000 + 1)
  | none => t.tally / 100000

/-- A gate ends at the present tick (R590) and is judged once. Before the tally has started no multiple passes, and every gate is taken
(log 51). -/
def TimeSt.gateDue (t : TimeSt) : Bool := !t.started || (decide (t.gateNo < t.gateAt) && t.fires (100000 * t.gateAt))

/-- Gates run back to back: one that does not follow the last one judged begins the run of good gates anew. -/
def TimeSt.nextGate (t : TimeSt) : TimeSt :=
  if t.started then
    { t with gateNo := t.gateAt, goodGates := if t.gateNo + 1 = t.gateAt then t.goodGates else 0 }
  else t

/-- REFCLK_GATE_END (R590). -/
def execRefclkGateEnd (at_ : Nat) (ppb : Int) (edgeFail : Bool) (s : State) : Host.Outcome State Fault Refusal :=
  .next (if (s.advance at_).time.gateDue then ((s.advance at_).mapTime TimeSt.nextGate).gateEnd ppb edgeFail else s.advance at_)

/-- The whole multiple of 1,000,000 nearest to tick `x`, as a count. -/
def nearestEpoch (x : Int) : Nat := ((x + 500000) / 1000000).toNat

/-- The phase error e of tick `x` (R59). -/
def phaseErrorAt (x : Nat) : Int := (x : Int) - 1000000 * (nearestEpoch x : Int)

/-- By how much the expected ticks are shifted: the reference in UNSET (R51), the residual in RELOCK (R59), else nothing. -/
def TimeSt.shift (t : TimeSt) : Int :=
  match t.mode with
  | .unset => match t.reference with
    | some r => phaseErrorAt r
    | none => 0
  | .relock => t.residual
  | .locked | .holdover | .fault => 0

/-- Number of the window nearest to the tally. -/
def TimeSt.windowNo (t : TimeSt) : Nat := nearestEpoch ((t.tally : Int) - t.shift)

/-- Expected tick of window `n`. -/
def TimeSt.expectedOf (t : TimeSt) (n : Nat) : Int := 1000000 * (n : Int) + t.shift

/-- The expected tick nearest to the tally. -/
def TimeSt.expected (t : TimeSt) : Int := t.expectedOf t.windowNo

/-- A pulse lies in the window of an expected tick in which none has been accepted (Table TM-1). -/
def TimeSt.inWindow (t : TimeSt) : Bool :=
  decide (-2 ≤ (t.tally : Int) - t.expected) && decide ((t.tally : Int) - t.expected ≤ 2) &&
    decide (t.lastWindow ≠ some t.windowNo)

/-- A discarded pulse: D:1203.05 and record 0x0141 (Table TM-1, R60). -/
def State.discardPulse (s : State) : State :=
  (s.mapTime (fun t => { t with discarded := t.discarded + 1 })).logEv 0x0141 sevLogged unitHub 0 s.time.expected.toNat

/-- What every accepted pulse does: the missing run ends (R44), its window has its pulse, D:1203.02 shows e. -/
def State.acceptPulse (s : State) (window : Nat) (e : Int) : State :=
  s.mapTime (fun t => { t with missRun := 0, lastWindow := some window, phaseErr := e })

/-- Whether the unit's TH path has a fault, so that counts go over PX (R63). Path codes: 0x01 heard. -/
def State.thFault (s : State) : Bool := decide (s.pair.thPath = 2)

/-- The unit of a bound pair sends the count it assigned (R63) and its digest (Table PR-2), and misses its twin's for the epoch before (R64). -/
def State.sendCount (s : State) (count : Nat) : State :=
  if s.pair.bound then (s.sendTwin (.epochCount count s.thFault)).sendConfig else s

/-- A mismatch (R64): after two in a row the counts disagree, D:1204.03 counts and the time event is raised. -/
def State.epochMismatch (s : State) : State :=
  if s.time.mismatchRun + 1 = 2 then
    ((s.mapTime (fun t => { t with mismatchRun := 2, pairTime := 2, mismatches := t.mismatches + 1 })).mapPair
      (fun p => { p with lockRuns := false })).raiseEvent 1
  else s.mapTime (fun t => { t with mismatchRun := t.mismatchRun + 1 })

/-- At the unit's own next expected pulse, an epoch for which no count of the twin arrived is a mismatch (R64), once. A count sampled in
the tick of that pulse has arrived (R62). -/
def State.twinCountDue (s : State) : State :=
  if s.pair.bound && decide (s.time.epochCount ≠ 0) && decide (s.time.twinSeen ≠ some s.time.epochCount) &&
      !s.sampled (fun c => match c with
        | .twinEpochCount a _ _ => decide (a ≤ s.now)
        | _ => false) then
    s.epochMismatch.mapTime (fun t => { t with twinSeen := some t.epochCount })
  else s

/-- The unit has assigned a count to the present epoch: one was assigned, and its window was not missed since (R44, R64). -/
def TimeSt.hasOwnCount (t : TimeSt) : Bool :=
  decide (t.epochCount ≠ 0) && decide (t.lastClosed.getD 0 ≤ t.lastWindow.getD 0)

/-- The unit assigns count `n` to a pulse. -/
def State.assignCount (s : State) (n : Nat) : State :=
  let s := s.twinCountDue
  (s.mapTime (fun t => { t with epochCount := n })).sendCount n

/-- The sequencer measures in tally periods: a jump of the tally shortens none of its intervals (R520). -/
def State.spacingKept (s : State) (jump : Nat) : State := s.mapPower (fun p => { p with lastOn := p.lastOn.map (· + jump) })

/-- The load of R52 and R530 at an accepted pulse: the tally becomes N × 1,000,000 or holds for its excess. -/
def State.applyLoad (s : State) (n : Nat) : State :=
  let s := (s.acceptPulse n 0).spacingKept (n * 1000000 - s.now)
  let s := s.mapTime (fun t =>
    { t with tally := max t.tally (n * 1000000), skip := some (t.tally, max t.tally (n * 1000000)), hold := t.tally - n * 1000000, reference := some (n * 1000000),
             stepped := true, loadN := none, loadDone := true })
  s.assignCount n

/-- The step of R50: the tally goes forward to the next multiple of 1,000,000. -/
def State.stepToMultiple (s : State) : State :=
  let target := cdiv s.now 1000000 * 1000000
  ((s.acceptPulse (target / 1000000) 0).spacingKept (target - s.now)).mapTime (fun t =>
    { t with tally := target, skip := some (t.tally, target), reference := some target, stepped := true })

/-- An accepted pulse in UNSET without a load to apply: the step after power-up, LOCKED after a load, or only accepted. DESIGN
CHOICE (log 51): the pulse that R52 says sets LOCKED does so while REFCLK is lost too, and the unit is then LOCKED on its local
oscillator until a reference loss is declared anew. -/
def State.unsetPulse (s : State) : State :=
  if s.time.loadDone then
    let e := phaseErrorAt s.now
    let s := s.acceptPulse s.time.windowNo e
    let s := s.mapTime (fun t => { t with residual := e })
    (s.assignCount (nearestEpoch s.now)).enterLocked
  else if s.time.stepped then
    let r := s.time.reference.getD s.now
    (s.acceptPulse s.time.windowNo (phaseErrorAt s.now)).mapTime (fun t => { t with reference := some r })
  else s.stepToMultiple

/-- An EPOCH pulse in UNSET (R50 to R52, R530). -/
def State.pulseUnset (s : State) : State :=
  if s.time.reference.isSome && !s.time.inWindow then s.discardPulse
  else
    let s := if s.time.reference.isSome then s else s.mapTime (fun t => { t with reference := some t.tally })
    match s.time.loadN with
    | none => s.unsetPulse
    | some n =>
      if s.now < n * 1000000 + 1000000 then s.applyLoad n
      else
        let s := s.mapTime (fun t => { t with loadN := none, loadUsed := false })
        (s.logEv 0x0140 sevLogged unitHub 0 0).unsetPulse

/-- Two pulses 1,000,000 tk apart end HOLDOVER (R59, R60). -/
def State.endHoldover (s : State) : State :=
  let e := phaseErrorAt s.now
  let n := nearestEpoch s.now
  let s := (s.acceptPulse n e).assignCount n
  if -2 ≤ e ∧ e ≤ 2 then (s.mapTime (fun t => { t with residual := e })).enterLocked
  else if e < -200000 ∨ 200000 < e then
    let s := (s.mapTime (fun t => { t with cause := t.cause ||| 4#8, residual := 0 })).setTimeMode .fault
    s.logEv 0x0102 sevCapacity unitHub 0 0
  else (s.mapTime (fun t => { t with residual := e })).setTimeMode .relock

/-- Whether this pulse and the one before it lie 1,000,000 tk apart within ±2 tk (R59). -/
def TimeSt.pairedPulse (t : TimeSt) : Bool :=
  match t.lastPulse with
  | some p => decide (p + 999998 ≤ t.tally) && decide (t.tally ≤ p + 1000002)
  | none => false

/-- A pulse that met the width check, in a state other than UNSET. DESIGN CHOICE (log 51): a pair of pulses that was complete before
REFCLK returned does not end HOLDOVER at the return; the next paired pulse does (R59 names no tick). -/
def State.pulseSet (s : State) : State :=
  let e := phaseErrorAt s.now
  let n := nearestEpoch ((s.now : Int) - s.time.shift)
  match s.time.mode with
  | .unset => s
  | .locked =>
    if s.time.inWindow then
      ((s.acceptPulse s.time.windowNo e).mapTime (fun t => { t with residual := e })).assignCount n
    else s.discardPulse
  | .holdover =>
    if !s.time.refLost && s.time.pairedPulse then s.endHoldover
    else if s.time.inWindow then (s.acceptPulse s.time.windowNo e).assignCount n
    else s.discardPulse
  | .relock =>
    if s.time.inWindow then
      let s := ((s.acceptPulse s.time.windowNo ((s.now : Int) - 1000000 * n)).mapTime
        (fun t => { t with residual := (t.tally : Int) - 1000000 * n })).assignCount n
      if -2 ≤ (s.now : Int) - 1000000 * n ∧ (s.now : Int) - 1000000 * n ≤ 2 then s.enterLocked else s
    else s.discardPulse
  | .fault => if s.time.inWindow then (s.acceptPulse s.time.windowNo e).assignCount n else s.discardPulse

/-- An EPOCH pulse of `width` ps at the present tick (Table TM-1). The tick held as the first of a pair (R59) is the tally
value the pulse has after a step or a load. DESIGN CHOICE (log 51): a pulse before the tally has started is ignored and counted
nowhere, be it too short or not. -/
def State.epochPulse (s : State) (width : Nat) : State :=
  if !s.time.started then s
  else if width < 4000 then s.discardPulse
  else
    let s' := if s.time.mode = .unset then s.pulseUnset else s.pulseSet
    s'.mapTime (fun t =>
      { t with lastPulse := some (if t.loadDone && !s.time.loadDone then t.epochCount * 1000000 else t.tally) })

/-- EPOCH_PULSE (R43). -/
def execEpochPulse (at_ width : Nat) (s : State) : Host.Outcome State Fault Refusal :=
  .next ((s.advance at_).epochPulse width)

/-- Number of the last window that has closed: the largest whose ±2 tk lie before the tally. -/
def TimeSt.closedWindow (t : TimeSt) : Int := ((t.tally : Int) - 3 - t.shift) / 1000000

/-- Window `n` closed without an accepted pulse (R43, R44, R56, R59, R590). -/
def State.missWindow (s : State) (n : Nat) : State :=
  let expected := (s.time.expectedOf n).toNat
  let s := s.twinCountDue
  let s := (s.mapTime (fun t => { t with missRun := t.missRun + 1, missTotal := t.missTotal + 1, lastClosed := some n }))
  let s := s.logEv 0x0141 sevLogged unitHub 0 expected
  if s.time.mode ≠ .unset ∧ s.time.missRun = 3 then s.referenceLoss 1 (expected - 2000000) else s

/-- EPOCH_WINDOW_CLOSE (R43): at the tick after the window closes. A window counts once, and only without its pulse. -/
def State.windowClose (s : State) : State :=
  let w := s.time.closedWindow
  if !s.time.started || (decide (s.time.mode = .unset) && s.time.reference.isNone) || decide (w ≤ 0)
      || decide (s.time.lastWindow = some w.toNat) || decide (w.toNat ≤ s.time.lastClosed.getD 0)
      || decide (w.toNat < s.time.lastWindow.getD 0) then s
  else s.missWindow w.toNat

/-- EPOCH_WINDOW_CLOSE. -/
def execEpochWindowClose (at_ : Nat) (s : State) : Host.Outcome State Fault Refusal :=
  .next ((s.advance at_).windowClose)

/-- A write of D:1201.01 (R53). -/
def epochCountLoadProc (n : Nat) (s : State) : Nat × State :=
  checked
    [(s.time.loadUsed, 0x03000004), (decide (n = 0) || decide (18446744000000 < n), 0x04000001),
     (decide (n * 1000000 ≤ s.now), stateAbort 0x1200 7)]
    (fun s => s.mapTime (fun t => { t with loadN := some n, loadUsed := true })) s

/-- EPOCH_COUNT_LOAD (R52). -/
def execEpochCountLoad (at_ n : Nat) (s : State) : Host.Outcome State Fault Refusal :=
  .next ((s.advance at_).pcieWrite 0x1201 0x01 (epochCountLoadProc n))

/-- Slewing under R47: a tally ahead holds one value for two periods, a tally behind advances by two. -/
def State.slew (s : State) : State :=
  if decide (s.time.mode = .fault) || decide (s.time.residual = 0) || !s.time.started
      || decide (s.now < s.time.lastSlew.getD 0 + 10000 ∧ s.time.lastSlew ≠ none) then s
  else if 0 < s.time.residual then
    s.mapTime (fun t => { t with hold := t.hold + 1, residual := t.residual - 1, lastSlew := some t.tally })
  else s.mapTime (fun t => { t with tally := t.tally + 1, skip := some (t.tally - 1, t.tally + 1), residual := t.residual + 1, lastSlew := some t.tally })

/-- TALLY_SLEW (R47). -/
def execTallySlew (at_ : Nat) (s : State) : Host.Outcome State Fault Refusal := .next ((s.advance at_).slew)

/-- TWIN_EPOCH_COUNT (R64, R65): the twin's count for the present epoch. In an epoch whose own pulse is missing there is nothing to
compare it with (R44). Counts that agree while both units are LOCKED let lockstep admission resume (R65): the tick at which the
unit holds both counts of the epoch is its first sight of such a boundary. -/
def State.twinCount (s : State) (count : Nat) (twinLocked : Bool) : State :=
  if !s.pair.bound then s
  else
    let s := s.mapTime (fun t => { t with twinCount := count })
    let s := s.mapPair (fun p => { p with twinLocked := twinLocked, lockRuns := p.lockRuns && twinLocked })
    if !s.time.hasOwnCount then s
    else
      let s := s.mapTime (fun t => { t with twinSeen := some t.epochCount })
      if count = s.time.epochCount then
        (s.mapTime (fun t => { t with mismatchRun := 0, pairTime := 1 })).mapPair
          (fun p => { p with lockRuns := p.lockRuns || (twinLocked && s.time.mode == .locked) })
      else s.epochMismatch

/-- D:1204.02 (R64, R74): 0x00 unbound, 0x02 while a mismatch stands, 0x03 while the twin is not LOCKED, 0x01 once counts have agreed.
A bound unit that has compared no count yet reads 0x03 (DEDUCED, log 51: the table has no code for it). -/
def State.pairStatus (s : State) : Nat :=
  if !s.pair.bound then 0 else if s.time.pairTime = 2 then 2 else if s.pair.twinLocked && s.time.pairTime == 1 then 1 else 3

/-- TWIN_EPOCH_COUNT (R64). -/
def execTwinEpochCount (at_ count : Nat) (twinLocked : Bool) (s : State) : Host.Outcome State Fault Refusal :=
  .next ((s.advance at_).twinCount count twinLocked)

/-- A booking or an activation record exists (Table BR-4). -/
def State.holdsWork (s : State) : Bool :=
  s.towers.any (fun t => !t.records.isEmpty) || s.ledger.bookings.any (fun b => decide (s.now / 1024 < b.start + b.len))
    || !s.ledger.inflight.isEmpty

/-- A time reset (R530); heartbeats stop (R461). DESIGN CHOICE (log 51): D:1201.02, D:1202.02, D:1202.03, D:1203.03 and D:1203.06 return
to their defaults with the references they belong to, and D:1203.02 keeps the e of the last accepted pulse; the rules let the duration
end at LOCKED and are silent on the rest. -/
def State.timeReset (s : State) : State :=
  ((s.mapPair (fun p => { p with beating := false })).mapTime (fun t =>
    { t with reference := none, loadUsed := false, loadN := none, loadDone := false, cause := 0, holdStart := none,
             residual := 0, missRun := 0, epochCount := 0, lastWindow := none, lastClosed := none, lastPulse := none
             })).setTimeMode .unset

/-- A write of D:1206.01 (R529, R530). -/
def timeResetProc (value : Nat) (s : State) : Nat × State :=
  checked [(decide (1 < value), 0x04000003), (decide (value = 1) && s.holdsWork, stateAbort 0x1206 1)]
    (fun s => if value = 1 then s.timeReset else s) s

/-- TIME_RESET (R530). -/
def execTimeReset (at_ value : Nat) (s : State) : Host.Outcome State Fault Refusal :=
  .next ((s.advance at_).pcieWrite 0x1206 0x01 (timeResetProc value))

/-- The period of a region's target frequency in ps (R67), rounded to the nearest. -/
def Region.nominal (r : Region) : Nat := (1000000000 + r.target / 2) / r.target

/-- A monitor of the region reports lost margin (R68). -/
def Region.lostMargin (r : Region) : Bool := r.supplyLow || r.pathLow

/-- A monitor of the region asks for a period (R68): it reports lost margin where that is longer than the target's. The periods that follow
are stretched, each to at most 833 ps, while either monitor reports; once both have their margin back they are those of the target. -/
def Region.stretch (r : Region) (ask : StretchIn) : Region :=
  let low := decide (r.nominal < ask.period)
  let g := if ask.path then { r with pathLow := low } else { r with supplyLow := low }
  { g with period := if low then min 833 ask.period else if g.lostMargin then r.period else r.nominal }

/-- Firmware sets the target of a region (R67); a region that stretches goes on at the longer period (R68). -/
def Region.retarget (r : Region) (target : Nat) : Region :=
  let g := { r with target := target }
  { g with period := if r.lostMargin then max r.period g.nominal else g.nominal }

/-- CLOCK_STRETCH (R68). -/
def execClockStretch (at_ tower region : Nat) (ask : StretchIn) (s : State) : Host.Outcome State Fault Refusal :=
  .next ((s.advance at_).mapTower tower (fun t =>
    { t with regions := modAt t.regions region (fun r => r.stretch ask) }))

end Sys2Proof.Machine
end

