-- ==== Sys2Proof/Machine/Frames.lean ====
section
/-!
DEFINITION. Data ports and frames: commands of chapter 13. A header command carries the 512 bits of Table FR-2; its checks run
in the order of Table FR-5.
-/
namespace Sys2Proof

open Sys2Proof.Machine

/-! ## Header fields (Table FR-2) -/

def FrameIn.f (f : FrameIn) (hi lo : Nat) : Nat := field f.hdr.toNat hi lo
def FrameIn.cls (f : FrameIn) : Nat := f.f 3 0
def FrameIn.version (f : FrameIn) : Nat := f.f 7 4
def FrameIn.last (f : FrameIn) : Bool := bit (f.f 8 8) 0
def FrameIn.tenant (f : FrameIn) : Nat := f.f 31 16
def FrameIn.model (f : FrameIn) : Nat := f.f 47 32
def FrameIn.reqid (f : FrameIn) : Nat := f.f 127 64
def FrameIn.seq (f : FrameIn) : Nat := f.f 191 128
def FrameIn.claim (f : FrameIn) : Nat := f.f 223 192
def FrameIn.kepoch (f : FrameIn) : Nat := f.f 231 224
def FrameIn.tick (f : FrameIn) : Nat := f.f 319 256
def FrameIn.length (f : FrameIn) : Nat := f.f 351 320
def FrameIn.word (f : FrameIn) : Nat := f.f 383 352
def FrameIn.nonceDir (f : FrameIn) : Bool := bit (f.f 479 479) 0
def FrameIn.crc (f : FrameIn) : Nat := f.f 511 480

/-- The CRC matches bits [479:0]. -/
def FrameIn.crcOk (f : FrameIn) : Bool := f.crc == crc32c (leBytes 60 (f.f 479 0))

/-- A reserved bit of the header is set (check 6): of Table FR-2, or of the WORD of a link-control frame (Table FR-4). -/
def FrameIn.reservedSet (f : FrameIn) : Bool :=
  decide (f.f 15 10 ≠ 0 ∨ f.f 63 48 ≠ 0 ∨ f.f 255 232 ≠ 0) || (f.cls == 15 && decide (f.f 363 352 ≠ 0))

/-- Units of the frame (R349). -/
def FrameIn.units (f : FrameIn) : Nat := cdiv (64 + f.length + (if f.cls = 6 ∨ f.cls = 15 then 0 else 16)) 64

/-- Classes a port accepts (Table FR-1). -/
def portAccepts (port cls : Nat) : Bool :=
  if port = 4 then cls == 7 || cls == 15
  else cls == 1 || cls == 2 || cls == 3 || cls == 6 || cls == 15

/-- Reason of the first of checks 1 to 3 that fails, or 0. -/
def FrameIn.fault (f : FrameIn) : Nat :=
  firstAbort [(!f.crcOk, 1), (f.version != 1, 2), (!portAccepts f.port f.cls, 3)]

/-- Subtype of a link-control frame. -/
def FrameIn.subtype (f : FrameIn) : Nat := f.word / 2 ^ 24

end Sys2Proof

namespace Sys2Proof.Machine

open Sys2Proof

def maxPayload : Nat := 33554432

/-! ## Lockstep (R65, R467, R468, R470) -/

/-- Lockstep admission runs: none of the conditions of R468 and R65 holds, and since those of R65 last held the counts have agreed
with both units LOCKED (D:2202.0D). -/
def State.lockstep (s : State) : Bool :=
  s.pair.mode == .active && decide (s.time.mode = .locked) && s.pair.lockRuns && s.pairStatus == 1
    && s.pair.pxPath != 2 && decide (s.configDigest = s.pair.twinDigest)

/-- UNPROT of an A frame (R10, R467). -/
def State.unprot (s : State) : Bool := !s.lockstep

/-! ## Links (R346, R348, R452) -/

/-- A frame of class link control with its payload (Table FR-3). -/
def linkFrame (claim sub : Nat) (payload : List Byte) : OutFrame :=
  { OutFrame.blank with cls := 15, claim, word := sub * 2 ^ 24, length := payload.length, payload }

/-- The hello of a data port: the port number and the module's identity objects (subtype 0x01; the order of the payload's octets is
log 29's). -/
def State.helloFrame (s : State) (x : Nat) : OutFrame := linkFrame s.pair.claim 1 (leBytes 1 x ++ s.ident.octets)

/-- The frames that wait on port `x`, which has failed, leave on the port in service (R348); they stay while there is none. -/
def State.moveFrames (s : State) (x : Nat) : State :=
  let moved := (s.port x).queue
  if s.outPort x = x then s else moved.foldl (fun s f => s.sendFrame x f) (s.mapPort x (fun p => { p with queue := [] }))

/-- A port has trained: lane order and polarity found, credit totals at zero, hello and credit sent. Frames of failed ports that found no
port in service leave on it (R348). -/
def State.linkUp (s : State) (x : Nat) (reversed : Bool) (polarity : BitVec 8) : State :=
  if s.dead ∨ 5 ≤ x ∨ (s.port x).st = 4 then s
  else
    let s := s.mapPort x (fun p =>
      let lanes := if p.lanes = 0 then 0xFF else p.lanes
      { p with st := if lanes = 0xFF then 2 else 3, lanes, reversed, polarity, egressGrant := 0, egressSent := 0, buffered := 0
               ingressUsed := 0, ingressGrant := 65536, kSent := 0, resync := false, incoming := none, line := Line.fresh, rx := LineRx.fresh })
    let s := s.raiseEvent 7
    let s := (List.range 4).foldl (fun s i => s.moveFrames i) s
    if x = 4 then
      if s.pair.bound then s.sendTwin (.hello (leBytes 1 x ++ s.ident.octets) s.ident.didh s.pair.preferred) else s
    else if s.drives then (s.sendFrame x (s.helloFrame x)).sendCredit x
    else s

/-- PORT_LINK_UP (R346). -/
def execPortLinkUp (at_ port : Nat) (reversed : Bool) (polarity : BitVec 8) (s : State) : Host.Outcome State Fault Refusal :=
  .next ((s.advance at_).telling (fun s => s.linkUp port reversed polarity))

/-- LOC of a class 0x07 record. -/
def portLoc (x lane : Nat) : Nat := x * 65536 + lane * 256

/-- A lane has a permanent fault (R348): the port goes on with the rest; below two lanes it fails, and its frames move. A lane that is
already out of service is logged only (R513). -/
def State.laneLost (s : State) (x lane : Nat) : State :=
  let p := s.port x
  if 5 ≤ x ∨ 8 ≤ lane ∨ p.st = 0 then s
  else if !p.lanes.getLsbD lane ∨ p.st = 4 then s.logEv 0x0701 sevLogged unitHub (portLoc x lane)
  else
    let lanes := p.lanes &&& ~~~(1#8 <<< lane)
    let s := ((s.mapPort x (fun p =>
      { p with lanes := lanes, st := (if p.st = 2 then 3 else p.st), rot := !p.rot
               line := p.line.moveOff lane none ((List.range 8).filter (fun i => lanes.getLsbD i)) s.now })).logEv 0x0701 sevCapacity unitHub (portLoc x lane)).raiseEvent 7
    if laneCount lanes < 2 then
      ((s.mapPort x (fun p => { p with st := 4 })).logEv 0x0702 sevCapacity unitHub (portLoc x 0)).moveFrames x
    else s

/-- X_LANE_LOST (R348). -/
def execXLaneLost (at_ port lane : Nat) (s : State) : Host.Outcome State Fault Refusal :=
  .next ((s.advance at_).telling (fun s => s.laneLost port lane))

/-! ## Headers: checks 1 to 3, credit, resynchronisation (R356, R358, R367) -/

/-- A unit is discarded (D:2100.0A). -/
def State.discardUnit (s : State) (x : Nat) : State := s.mapPort x (fun p => { p with discarded := p.discarded + 1 })

/-- Reject a frame by an error notice; REQID and SEQ are echoed where its CRC checked (R363). -/
def State.noticeFor (s : State) (f : FrameIn) (reason : Nat) : State :=
  if f.crcOk then s.sendNotice f.port f.reqid f.seq reason f.cls else s.sendNotice f.port 0 0 reason f.cls

/-- A header that fails check 1, 2 or 3: a notice, and the port discards until a good header (R358). -/
def State.faultyHeader (s : State) (f : FrameIn) : State :=
  if (s.port f.port).resync then s.discardUnit f.port
  else ((s.discardUnit f.port).mapPort f.port (fun p => { p with resync := true, incoming := none })).noticeFor f f.fault

/-- A unit beyond the credit granted: discarded, answered under CREDIT, and the port resynchronises (R367). -/
def State.beyondCredit (s : State) (f : FrameIn) : State :=
  ((s.discardUnit f.port).mapPort f.port (fun p => { p with resync := true, incoming := none })).noticeFor f 0x0D

/-- A header stands at a port that carries frames: what every class has in common. Checks 1 to 3 and the credit come first; then
the frame counts as received and the rest of `go` runs. -/
def State.header (s : State) (f : FrameIn) (cls : Nat) (go : State → State) : State :=
  let p := s.port f.port
  if s.dead ∨ 5 ≤ f.port ∨ !p.up then s
  else if f.fault ≠ 0 then s.faultyHeader f
  else if f.cls ≠ cls then s
  else if f.cls ≠ 6 ∧ f.cls ≠ 15 ∧ f.port < 4 ∧ p.ingressGrant ≤ p.ingressUsed then s.beyondCredit f
  else
    go (s.mapPort f.port (fun p =>
      { p.heard s.now f.cw with
               resync := false, received := p.received + 1
               ingressUsed := if f.cls = 6 ∨ f.cls = 15 then p.ingressUsed else p.ingressUsed + f.units }))

/-- FAULTY_FRAME_HEADER (R358): a header that fails check 1, 2 or 3. -/
def execFaultyFrameHeader (at_ : Nat) (f : FrameIn) (s : State) : Host.Outcome State Fault Refusal :=
  let s := s.advance at_
  .next (if s.dead ∨ 5 ≤ f.port ∨ !(s.port f.port).up ∨ f.fault = 0 then s else s.faultyHeader f)

/-- UNIT_BEYOND_CREDIT (R367): `f` is the frame the unit belongs to. -/
def execUnitBeyondCredit (at_ : Nat) (f : FrameIn) (s : State) : Host.Outcome State Fault Refusal :=
  let s := s.advance at_
  let p := s.port f.port
  .next (if s.dead ∨ 4 ≤ f.port ∨ !p.up ∨ p.ingressUsed + f.units ≤ p.ingressGrant then s else s.beyondCredit f)

/-! ## Key checks 4 and 5 -/

/-- The slots of an ID that a header sampled at `now` sees: a key installed in this tick is not seen, and the one it displaced
still is (R413). -/
def KeyId.seen (k : KeyId) (now : Nat) : List KeySlot :=
  (match k.cur with
    | some c => if c.since = now then [] else [c]
    | none => []) ++
  (match k.prev with
    | some c => [c]
    | none => [])

/-- Check 4 fails: no tenant, no slot, or every slot closing. -/
def check4 (f : FrameIn) (slots : List KeySlot) : Bool :=
  f.tenant == 0 || slots.all (·.closing)

/-- Check 5 fails: KEPOCH names no slot, or a closing one beside one that is not. -/
def check5 (kepoch : Nat) (slots : List KeySlot) : Bool :=
  match slots.find? (fun k => k.epoch == kepoch) with
  | none => true
  | some k => k.closing && slots.any (fun q => !q.closing)

def State.seenSlots (s : State) (kind id : Nat) : List KeySlot :=
  match s.vault.key? kind id with
  | some k => k.seen s.now
  | none => []

/-! ## Requests: checks 6 to 13 (Table FR-5, R357) -/

def SeqState.fresh : SeqState := { high := 0, taken := [] }

def State.seqState (s : State) (tenant : Nat) : SeqState := kvGet s.ledger.seqs tenant SeqState.fresh

/-- Check 11 fails: SEQ is 0, too old, or taken. -/
def SeqState.stale (q : SeqState) (n : Nat) : Bool := n == 0 || decide (n + 1024 ≤ q.high) || q.taken.contains n

/-- SEQ is taken: H rises to it, and the map keeps the 1,024 sequences up to H. -/
def SeqState.take (q : SeqState) (n : Nat) : SeqState :=
  let high := max q.high n
  { high, taken := (insertNat q.taken n).filter (fun m => decide (high < m + 1024)) }

/-- The cost record of a shape, and the granules it takes in from the hub. -/
def Pkg.shape? (p : Pkg) (shape : Nat) : Option CostRec := p.shapes.find? (fun c => c.shape == shape)
def CostRec.granIn (c : CostRec) : Nat := sumNat ((c.pairs.filter (fun p => p.src == 20)).map (·.gran))

/-- The package that admits requests of a model: placed, or being removed since this very tick (R343). -/
def State.admits (s : State) (model : Nat) : Option Pkg :=
  (s.pkg? model).filter (fun p => p.st == 2 || (p.st == 4 && p.tick == s.now))

/-- Reason of the first of checks 6 to 11 that fails, or 0. -/
def State.checks6to11 (s : State) (f : FrameIn) : Nat :=
  let pkg := s.admits f.model
  let rec_ := (s.pkg? f.model).bind (fun p => p.shape? f.word)
  let cap := match rec_ with
    | some c => min maxPayload (256 * c.granIn)
    | none => maxPayload
  firstAbort
    [(f.reservedSet || f.last, 6), (f.nonceDir, 7), (decide (cap < f.length), 8), (pkg.isNone, 9),
     (match rec_ with
        | some c => if f.cls = 1 then !c.clg else !c.clb
        | none => true, 0x0A),
     ((s.seqState f.tenant).stale f.seq, 0x0B)]

/-- A header sampled in this tick on a lower port takes the same SEQ of the tenant (R357): headers of one tick are checked in port order. -/
def State.takenBelow (s : State) (f : FrameIn) : Bool :=
  let takes := fun (a cls : Nat) (g : FrameIn) => decide (a ≤ s.now ∧ g.port < f.port ∧ g.tenant = f.tenant ∧ g.seq = f.seq ∧ g.cls = cls ∧ g.fault = 0)
    && (s.port g.port).up && !check4 g (s.seenSlots kindTenant g.tenant) && !check5 g.kepoch (s.seenSlots kindTenant g.tenant)
    && decide (s.checks6to11 g = 0)
  s.sampled (fun c => match c with
    | .gFrame a g => takes a 1 g
    | .bFrame a g => takes a 2 g
    | _ => false)

/-- A request as its header brings it. -/
def newReq (f : FrameIn) (now : Nat) (phase : ReqPhase) (c : CostRec) : Req :=
  { tenant := f.tenant, seq := f.seq, reqid := f.reqid, model := f.model, cls := f.cls, port := f.port, kepoch := f.kepoch
    deadline := f.tick, shape := f.word, length := f.length, arrival := now, phase, bestEffort := f.cls == 2 && f.tick == 2 ^ 64 - 1
    prot := false, promised := 0, commit := 0, base := 0, slotMap := [], bank := false, rec_ := c, sentRecords := false, here := false, buffered := true
    payload := if f.length = 0 then some [] else none, payloadTick := now, payloadGood := f.length == 0, words := [], retired := [], reason := 0
    detail := 0, reasonSite := 0, endTick := 0, parts := [], framesLeft := 0, lastLeft := false, twinDelivered := false
    byCompare := false, delta := [] }

/-- Headers are decided in the order in which they were sampled, those of one tick in port order (R386). -/
def Req.before (a b : Req) : Bool := decide (a.arrival < b.arrival) || (decide (a.arrival = b.arrival) && decide (a.port < b.port))

/-- Refuse a request by an A frame (R356, R361). -/
def State.refuseFrame (s : State) (f : FrameIn) (reason : Nat) : State :=
  let s := s.sendAnswer f.port f.tenant f.model f.reqid f.seq f.kepoch 2 reason 0 0 f.cls s.unprot
  s.mapPort f.port (fun p => { p with incoming := if f.length = 0 then none else some (0, 0), lastUnit := s.now })

/-- A frame's claim (R371, R477): above both claims it is an anomaly; above the unit's own and of the twin's pair position it
isolates a unit that decides in a pair. -/
def State.claimCheck (s : State) (f : FrameIn) : State :=
  let s := if s.pair.claim < f.claim ∧ s.pair.twinClaim < f.claim then
      (s.mapLedger (fun l => { l with claimAnomalies := l.claimAnomalies + 1 })).logEv 0x0741 sevLogged unitPair 0 f.seq (arg1Of f.tenant 0 0)
        |>.raiseEvent 10
    else s
  if s.pair.bound ∧ s.pair.claim < f.claim ∧ bit f.claim 0 ≠ s.vault.pairPos ∧ (s.pair.mode = .active ∨ s.pair.mode = .solo) then
    s.isolate
  else s

/-- A G or B header after checks 1 to 3 (Table FR-5): notices for checks 4 and 5, refusals for 6 to 13. A unit that holds frames
for its twin's decisions stops after check 12 (R464). -/
def State.requestHeader (s : State) (f : FrameIn) : State :=
  let slots := s.seenSlots kindTenant f.tenant
  let k45 := firstAbort [(check4 f slots, 4), (check5 f.kepoch slots, 5)]
  if k45 ≠ 0 then
    (s.mapPort f.port (fun p => { p with incoming := if f.length = 0 then none else some (0, 0), lastUnit := s.now })).noticeFor f k45
  else
    let s := s.claimCheck f
    let reason := if s.checks6to11 f = 0 ∧ s.takenBelow f then 0x0B else s.checks6to11 f
    if reason = 8 ∧ maxPayload < f.length then
      (s.refuseFrame f reason).mapPort f.port (fun p => { p with resync := true, incoming := none })
    else if reason ≠ 0 then s.refuseFrame f reason
    else
      let s := s.mapLedger (fun l => { l with seqs := kvMod l.seqs f.tenant SeqState.fresh (fun q => q.take f.seq) })
      let late := decide (f.tick ≤ s.now)
      let held := s.pair.mode == .standby || s.pair.mode == .syncing
      let reason := firstAbort [(late, 0x0C), (!held && s.fencedNow f.tenant, 0x0E), (held && decide (s.time.mode = .unset), 0x40)]
      if reason ≠ 0 then s.refuseFrame f reason
      else if !held && !s.decides then s.refuseFrame f 0
      else
        match (s.pkg? f.model).bind (fun p => p.shape? f.word) with
        | none => s
        | some c =>
          let r := newReq f s.now (if held then .held else .pending) c
          let s := s.keyRef kindTenant f.tenant f.kepoch
          let s := s.mapLedger (fun l => { l with reqs := insertBy Req.before r l.reqs })
          s.mapPort f.port (fun p =>
            { p with incoming := if f.length = 0 then none else some (f.tenant, f.seq), lastUnit := s.now
                     buffered := p.buffered + f.units })

/-- G_FRAME (R356). -/
def execGFrame (at_ : Nat) (f : FrameIn) (s : State) : Host.Outcome State Fault Refusal :=
  .next ((s.advance at_).header f 1 (fun s => s.requestHeader f))

/-- B_FRAME (R356). -/
def execBFrame (at_ : Nat) (f : FrameIn) (s : State) : Host.Outcome State Fault Refusal :=
  .next ((s.advance at_).header f 2 (fun s => s.requestHeader f))

/-! ## Package segments (R534) -/

/-- Reason of the first of checks 4 to 9 that an M header fails, or 0; a module whose time is UNSET refuses it (R50). -/
def State.segmentChecks (s : State) (f : FrameIn) : Nat :=
  let slots := s.seenSlots kindModel f.model
  firstAbort
    [(check4 f slots, 4), (check5 f.kepoch slots, 5), (f.reservedSet, 6), (f.nonceDir, 7), (decide (maxPayload < f.length), 8),
     (!(s.load.open_ && s.load.model == f.model), 9), (decide (s.time.mode = .unset), 0x40)]

/-- An M frame after checks 1 to 3. -/
def State.segmentFrame (s : State) (f : FrameIn) (payload : List Byte) (tagOk : Bool) (trailer : TrailerIn) : State :=
  let s := s.claimCheck f
  let reason := s.segmentChecks f
  if reason ≠ 0 then
    (if reason = 8 then s.mapPort f.port (fun p => { p with resync := true }) else s).noticeFor f reason
  else if payload.length ≠ f.length then s
  else
    let s := s.regrant f.port
    if !tagOk && s.load.target != 2 then
      (s.mapLedger (fun l => { l with tagFails := l.tagFails + 1 })).failLoad trailerFailure
    else s.loadSegment f.hdr payload trailer

/-- M_FRAME (R534, R535): header, payload and tag of one segment; the verdicts count in the segment that carries LAST. -/
def execMFrame (at_ : Nat) (f : FrameIn) (payload : List Byte) (tagOk : Bool) (trailer : TrailerIn) (s : State) :
    Host.Outcome State Fault Refusal :=
  .next ((s.advance at_).header f 3 (fun s => s.segmentFrame f payload tagOk trailer))

/-! ## Credit and link control -/

/-- A frame without a key after checks 1 to 3: check 6 (R25, R356), and while time is UNSET the hub refuses every frame (R50). It is
answered by a notice, as it has no A frame; a notice is never answered. DESIGN CHOICE (log 52): reason 0x40 for the second. -/
def State.unkeyed (s : State) (f : FrameIn) (go : State → State) : State :=
  let reason := firstAbort [(f.reservedSet, 6), (decide (s.time.mode = .unset), 0x40)]
  if reason = 0 then go s
  else if f.cls = 15 ∧ f.subtype = 2 then s
  else s.noticeFor f reason

/-- K_FRAME (R366): the larger of the held total and the new one. -/
def execKFrame (at_ : Nat) (f : FrameIn) (s : State) : Host.Outcome State Fault Refusal :=
  .next ((s.advance at_).header f 6 (fun s => s.unkeyed f (fun s => s.queuePort f.port (fun p =>
      let p := { p with egressGrant := max p.egressGrant f.tick }
      p.drain s.now p.queue))))

/-- The hello of the twin disagrees with the binding (R452). -/
def State.helloBad (s : State) (didh : Nat) (preferred : Bool) : Bool := didh != s.pair.twinId || preferred == s.pair.preferred

/-- HELLO (R352, R452): on PX a bound unit compares DIDH and D:2200.03; a disagreement is counted and the unit stays SEEKING. -/
def execHello (at_ : Nat) (f : FrameIn) (didh : Nat) (preferred : Bool) (s : State) : Host.Outcome State Fault Refusal :=
  .next ((s.advance at_).header f 15 (fun s => s.unkeyed f (fun s =>
    if f.port = 4 ∧ f.subtype = 1 ∧ s.pair.bound ∧ s.helloBad didh preferred then
      ((s.mapPair (fun p => { p with bindFaults := p.bindFaults + 1 })).logEv 0x0A40 sevLogged unitPair 0 (didh % 2 ^ 64)).raiseEvent 10
    else s)))

/-- ERROR_NOTICE (R363): a received notice counts as a frame received; the module does nothing else on it. -/
def execErrorNotice (at_ : Nat) (f : FrameIn) (s : State) : Host.Outcome State Fault Refusal :=
  .next ((s.advance at_).header f 15 (fun s => s.unkeyed f (fun s => s)))

/-- PORT_STATE (R352): the partner's D:2100.02 and D:2100.03. -/
def execPortState (at_ : Nat) (f : FrameIn) (state lanes : Nat) (s : State) : Host.Outcome State Fault Refusal :=
  .next ((s.advance at_).header f 15 (fun s => s.unkeyed f (fun s =>
    if f.subtype = 3 then s.mapPort f.port (fun p => { p with partnerState := state, partnerLanes := lanes }) else s)))

/-! ## Payloads (R359, R360) -/

/-- The activation bases of slot `slot` on tower `t` for a model (R135, R313): inside the slot's area of the first activation window
that its package uses there, at offsets of the hub's choice (`Config.baseOffset`), in granules of 256 bytes. -/
def State.actBases (s : State) (t slot model : Nat) : List Nat :=
  match ((s.pkg? model).map (fun p => s.actWindows p t)).getD [] with
  | [] => List.replicate 16 0
  | w :: _ => (List.range 16).map (fun k =>
      mkAddr 1 w.eid (w.frames * 65536 * slot + 256 * (Config.baseOffset model k % (w.frames * 256))))

/-- Towers of the window entries with the lowest START (R360). -/
def CostRec.firstTowers (c : CostRec) : List Nat :=
  let m := c.wins.foldl (fun m w => min m w.start) 65536
  ((c.wins.filter (fun w => w.start == m)).map (·.tower)).foldl insertNat []

/-- Towers a cost record names. -/
def CostRec.towers (c : CostRec) : List Nat := (c.wins.map (·.tower)).foldl insertNat []

/-- Place the payload of a request that runs in this unit: at base 0 of its first towers, then object 0 signalled on every compute
tower it uses (R360). -/
def State.placePayload (s : State) (r : Req) (bytes : List Byte) : State :=
  let s := s.underBank r.bank (fun s => (r.rec_.firstTowers.filter (fun t => !s.siteFenced t)).foldl (fun s t =>
    s.putBytes ((s.actBases t (kvGet r.slotMap t 0) r.model).getD 0 0) bytes) s)
  (r.rec_.towers.filter (fun t => decide (t < 16) && !s.siteFenced t)).foldl (fun s t => (s.signalObj t (kvGet r.slotMap t 0 * 24) 1).schedule t) s

/-- An accepted request has its payload complete. Where this unit runs it, it is placed, or ended with TAG (R360); a standby unit does not
run one whose tag failed (Table PR-5). Where it does not, the frame of a B request stays as part of the tail (R473), and a G frame is dropped. -/
def State.payloadReady (s : State) (tenant seq : Nat) : State :=
  match s.req? tenant seq with
  | none => s
  | some r =>
    match r.payload with
    | none => s
    | some bytes =>
      let s := if !r.here then s
        else if r.payloadGood then s.placePayload r bytes
        else if s.pair.mode = .standby then (s.withdrawReq tenant seq).notRun
        else s.endRequest tenant seq 0x81 0 20
      (s.mapReq tenant seq (fun q => { q with payload := if !r.here ∧ r.cls = 2 then q.payload else none })).leaveBuffer tenant seq

/-- The payload of the frame arriving at a port has come whole, with the verdict on its tag. -/
def State.payloadComplete (s : State) (x : Nat) (bytes : List Byte) (tagOk : Bool) : State :=
  match (s.port x).incoming with
  | none => s
  | some (tenant, seq) =>
    let s := s.mapPort x (fun p => { p with incoming := none, lastUnit := s.now })
    if tenant = 0 then s.regrant x
    else
      match s.req? tenant seq with
      | none => s
      | some r =>
        let s := if tagOk then s else s.mapLedger (fun l => { l with tagFails := l.tagFails + 1 })
        let s := s.mapReq tenant seq (fun q => { q with payload := some bytes, payloadTick := s.now, payloadGood := tagOk })
        if r.phase = .accepted ∧ r.reason = 0 then s.payloadReady tenant seq
        else if r.phase = .pending ∨ r.phase = .held then s
        else (s.mapReq tenant seq (fun q => { q with payload := none })).leaveBuffer tenant seq

/-- PAYLOAD_COMPLETE (R360). -/
def execPayloadComplete (at_ port : Nat) (payload : List Byte) (tagOk : Bool) (s : State) : Host.Outcome State Fault Refusal :=
  .next (let s := s.advance at_
    if s.dead then s else s.payloadComplete port payload tagOk)

/-- A unit of the frame arriving at port `x` is sampled in this tick: its last one, with the payload complete. -/
def State.unitArrives (s : State) (x : Nat) : Bool :=
  s.sampled (fun c => match c with
    | .payloadComplete a p _ _ => decide (a ≤ s.now ∧ p = x)
    | _ => false)

/-- A unit is later than D:2101.02 (R359): the frame ends, an accepted request with 0x80. One sampled at the expiry tick cancels it
(R62). -/
def State.unitGap (s : State) (x : Nat) : State :=
  let p := s.port x
  match p.incoming with
  | none => s
  | some (tenant, seq) =>
    if s.now < p.lastUnit + s.ledger.unitGap ∨ s.unitArrives x then s
    else
      let s := (s.mapPort x (fun p => { p with incoming := none, resync := true })).mapLedger (fun l => { l with gapTimeouts := l.gapTimeouts + 1 })
      match s.req? tenant seq with
      | none => s.logEv 0x0740 sevLogged unitHub (portLoc x 0)
      | some r =>
        let s := s.logEv 0x0740 (if r.phase = .accepted then sevWork else sevLogged) unitHub (portLoc x 0) seq
          (arg1Of tenant (if r.phase = .accepted then 0x80 else 0) 0)
        let s := if r.phase = .accepted then s.endRequest tenant seq 0x80 0 20
          else if r.phase = .pending then s.mapReq tenant seq (fun q => { q with reason := 0x80 })
          else if r.phase = .held then (s.mapReq tenant seq (fun q => { q with phase := .refused })).keyUnref kindTenant tenant r.kepoch
          else s
        s.leaveBuffer tenant seq

/-- UNIT_GAP_TIMEOUT (R359). -/
def execUnitGapTimeout (at_ port : Nat) (s : State) : Host.Outcome State Fault Refusal :=
  .next ((s.advance at_).unitGap port)

/-- EGRESS_CREDIT_STALL (R368): a ready D frame has waited `ticks` for credit. -/
def execEgressCreditStall (at_ port ticks : Nat) (s : State) : Host.Outcome State Fault Refusal :=
  let s := s.advance at_
  .next (match (s.port port).queue with
    | [] => s
    | f :: _ =>
      if f.cls = 5 ∧ !(s.port port).covers f then
        (s.mapPort port (fun p => { p with stall := p.stall + ticks })).logEv 0x0742 sevLogged unitHub (portLoc port 0) f.seq (arg1Of f.tenant 0 0)
      else s)

end Sys2Proof.Machine
end

