-- ==== Sys2Proof/Machine/Base.lean ====
section
/-! DEFINITION. The Frasol base: commands of chapter 08. -/
namespace Sys2Proof.Machine

open Sys2Proof

/-! ## Replay, credits and the sync plane (R230, R232, R236, R237) -/

/-- A NACK names codeword `seq` of a wavelength (R232): those before it are acknowledged; it and every later one are resent. -/
def State.replay (s : State) (i j w seq : Nat) : State :=
  let p := s.linkPair i j
  if !s.pairExists i j ∨ 5 ≤ w ∨ p.dead.contains w ∨ ((s.line i j).position w seq).isNone then s
  else (s.setPair i j { p with replays := p.replays + 1 }).mapLines (fun l => kvMod l (pairKey i j) Line.fresh (fun l => l.nack w seq s.now))

/-- A NACK on lane `lane` of port `x` (R347): as on a wavelength; D:2100.07 counts. -/
def State.portReplay (s : State) (x lane seq : Nat) : State :=
  let p := s.port x
  if 5 ≤ x ∨ !p.up ∨ !p.lanes.getLsbD lane ∨ (p.line.position lane seq).isNone then s
  else s.mapPort x (fun p => { p with replays := p.replays + 1, line := p.line.nack lane seq s.now })

/-- REPLAY (R232, R347): of a wavelength between two sites, or of a lane of a port. -/
def execReplay (at_ : Nat) (src : StreamSrc) (dst plane seq : Nat) (s : State) : Host.Outcome State Fault Refusal :=
  .next (match src with
    | .site i => (s.advance at_).replay i dst plane seq
    | .port x => (s.advance at_).portReplay x plane seq)

/-- A codeword of a wavelength is at a limit of R232 (R240): with the ring in lock the wavelength has a permanent fault; otherwise it
leaves service as on a lock loss. -/
def State.replayLimit (s : State) (i j w : Nat) (locked : Bool) : State :=
  if !(s.line i j).limited w s.now then s else if locked then s.permanentFault i j w else s.lockLoss i j w

/-- The same on a lane of a port: the lane leaves service (R348). -/
def State.portLimit (s : State) (x lane : Nat) : State :=
  if (s.port x).line.limited lane s.now then s.laneLost x lane else s

/-- REPLAY_LIMIT (R232, R240, R347, R348). -/
def execReplayLimit (at_ : Nat) (src : StreamSrc) (dst plane : Nat) (locked : Bool) (s : State) : Host.Outcome State Fault Refusal :=
  .next (match src with
    | .site i => (s.advance at_).telling (fun s => s.replayLimit i dst plane locked)
    | .port x => (s.advance at_).telling (fun s => s.portLimit x plane))

/-- The credits that credit returns bring the sender (R230). -/
def Line.credited (l : Line) (cs : List Carried) : Line :=
  cs.foldl (fun l c => match c with
    | .credit b k => { l with bulk := min 1024 (l.bulk + b), control := min 64 (l.control + k) }
    | .bulk _ _ => l
    | .control _ => l) l

/-- Site i receives a codeword of the stream from site j (R224 to R230, R232): it is good and in order, or not; what it carries comes out
in rotation order; the credit returns in it, and its ACK and NACK, are for the stream that site i sends to site j, whose waiting units
then go. -/
def State.codewordIn (s : State) (i j : Nat) (w : CodewordIn) (units : List (BitVec 512)) : State :=
  if !s.pairExists i j ∨ 5 ≤ w.plane then s
  else
    let r := s.linkPair j i
    let s := s.setPair j i { r with symbols := r.symbols + w.corrected }
    let x := ((s.rx j i).codeword (s.linkPair j i).planes w units).parsed
    let s := { s with rxs := kvSet s.rxs (pairKey j i) x.1 }
    let now := s.now
    let s := s.mapLines (fun l => kvMod l (pairKey i j) Line.fresh (fun m => (m.credited x.2).ack w.plane (if w.decodes then w.ack else 256)))
    let s := if w.decodes && w.nack then s.replay i j w.plane ((w.ack + 1) % 256) else s
    s.mapLines (fun l => kvMod l (pairKey i j) Line.fresh (Line.release (s.linkPair i j).planes now))

/-- CREDIT_RETURN (R226, R227, R229, R230, R232): the codeword that brings it. -/
def execCreditReturn (at_ src dst : Nat) (word : CodewordIn) (units : List (BitVec 512)) (s : State) : Host.Outcome State Fault Refusal :=
  .next ((s.advance at_).codewordIn src dst word units)

/-- SP_RESEND_REQUEST (R236): the named site resends its block; 0x1F names none. -/
def execSpResendRequest (at_ requester nsite nseq : Nat) (s : State) : Host.Outcome State Fault Refusal :=
  let s := s.advance at_
  .next (if s.populated requester && s.populated nsite && requester != nsite then s.spResend requester nsite nseq else s)

/-- SP_BUS_LOSS (R237): bus 0 is SPA, bus 1 SPB; with both lost the site is sync-degraded. -/
def execSpBusLoss (at_ site bus : Nat) (s : State) : Host.Outcome State Fault Refusal :=
  .next ((s.advance at_).telling (fun s =>
    if s.populated site && decide (bus < 2) then
      let out := kvGet s.base.busOut site 0 ||| (1#2 <<< bus)
      let s := s.mapBase (fun b => { b with busOut := kvSet b.busOut site out })
      if out = 3 then s.syncDegrade site else s
    else s))

/-! ## Stand-ins and faults (R238 to R243) -/

/-- A wavelength leaves service for scheduled calibration (R238, R239, Table PB-6): at most one of a pair and one ring of a site at a
time, none while a plane window is open, in a tick with a fault of the pair (R241) or before a commit armed at the site (R278), and never
the last one. -/
def State.standIn (s : State) (i j w : Nat) : State :=
  let p := s.linkPair i j
  let q := sparePlane i j
  if !s.pairExists i j ∨ 5 ≤ w ∨ s.base.calSuspended ∨ p.calibrating.isSome ∨ p.anyOut q ∨ !p.planes.contains w ∨ p.planes.length < 2
      ∨ s.ringOut i ∨ s.pairFaultNow i j ∨ s.commitNear 1 (txRing i j w) then s
  else (s.putPair i j { p.leave q w 1 with calibrating := some w }).mapBase (fun b => { b with calBegan := some s.now })

/-- STAND_IN (R239). -/
def execStandIn (at_ src dst plane : Nat) (s : State) : Host.Outcome State Fault Refusal :=
  .next ((s.advance at_).standIn src dst plane)

/-- LOCK_LOSS (R239, R241). -/
def execLockLoss (at_ src dst plane : Nat) (s : State) : Host.Outcome State Fault Refusal :=
  .next ((s.advance at_).telling (fun s => s.lockLoss src dst plane))

/-- WAVELENGTH_RETURN (R239). -/
def execWavelengthReturn (at_ src dst plane : Nat) (s : State) : Host.Outcome State Fault Refusal :=
  .next ((s.advance at_).telling (fun s => s.returnWavelength src dst plane))

/-- WAVELENGTH_PERMANENT_FAULT (R240, R241). -/
def execWavelengthPermanentFault (at_ src dst plane : Nat) (s : State) : Host.Outcome State Fault Refusal :=
  .next ((s.advance at_).telling (fun s => s.permanentFault src dst plane))

/-! ## Comb lasers (R252 to R257) -/

/-- Output below P₀ − 0.5 dB for 1 s (Table PB-12): the drive is raised, up to the module's limit. A module back at its set point is at
level A no more. -/
def State.fadeA (s : State) (m : Nat) (output : Int) (drive : Nat) : State :=
  s.mapLaser m (fun l =>
    if output < -50 ∧ (l.st = 1 ∨ l.st = 2) then { l with output, st := 2, drive := max l.drive (min 1000 drive) }
    else { l with output, st := if -50 ≤ output ∧ l.st = 2 then 1 else l.st })

/-- FADE_LEVEL_A (R253). -/
def execFadeLevelA (at_ module : Nat) (output : Int) (drive : Nat) (s : State) : Host.Outcome State Fault Refusal :=
  .next ((s.advance at_).fadeA module output drive)

/-- Wear budget in hours of the laser option (R257). -/
def State.wearBudget (s : State) : Nat := if s.ident.laserE then 80000 else 40000

/-- D:5203: drive-weighted hours (R257). -/
def Laser.hours (l : Laser) : Nat := l.wear / (3600 * 10 ^ 9)

/-- The condition of level B (Table PB-12). -/
def State.levelB (s : State) (m : Nat) (output : Int) : Bool :=
  let l := s.laser m
  (decide (950 ≤ l.drive) && decide (output < -50)) || decide (output < -150) || decide (s.wearBudget * 9 ≤ l.hours * 10)

/-- Plane windows wait for a module's planes, lower-numbered planes first (R253, R254). -/
def State.queueWindows (s : State) (m : Nat) : State :=
  s.mapBase (fun b => { b with windowQueue := (b.planesOf m).foldl (fun q w => if b.planeSt.getD w 0 = 0 then insertNat q w else q) b.windowQueue })

/-- A module is at level B (R253, R275). -/
def State.fadeB (s : State) (m : Nat) (output : Int) : State :=
  let s' := s.mapLaser m (fun l => { l with output })
  if s.levelB m output ∧ ((s.laser m).st = 1 ∨ (s.laser m).st = 2) then
    let s := s'.mapLaser m (fun l => { l with st := 3, since := s.now })
    if m < 8 then
      let w := ((s.base.planesOf m).headD 0xFF)
      let s := s.logEv 0x0404 sevLogged unitBase (planeLoc 0xFF 0xFF w)
      if (s.spareModule m).isSome then s.queueWindows m else s
    else s.logEv 0x0503 sevLogged unitBase
  else s'

/-- FADE_LEVEL_B (R253). -/
def execFadeLevelB (at_ module : Nat) (output : Int) (s : State) : Host.Outcome State Fault Refusal :=
  .next ((s.advance at_).fadeB module output)

/-- Level C (Table PB-12, R256, R275, R490): level B, or output below P₀ − 3.0 dB, and no spare on the module's switch. -/
def State.fadeC (s : State) (m : Nat) : State :=
  if (s.spareModule m).isSome ∨ !((s.laser m).st = 3 ∨ (s.laser m).output < -300) then s
  else if m < 8 then (s.base.planesOf m).foldl (fun s w => s.degradePlane w) s
  else
    match (List.range 8).find? (fun k => s.feedModule k == m) with
    | some feed => s.feedDown feed
    | none => s

/-- FADE_LEVEL_C (R253, R256). -/
def execFadeLevelC (at_ module : Nat) (s : State) : Host.Outcome State Fault Refusal := .next ((s.advance at_).telling (fun s => s.fadeC module))

/-- A comb module loses its light (R255, R275): a link plane's pairs treat it as a lock loss, and a spare is switched in at once,
and the plane stands as in a window until its pairs have it back; without a spare the plane is degraded. -/
def State.lossOfLight (s : State) (m : Nat) : State :=
  if (s.laser m).st = 0 ∨ 4 ≤ (s.laser m).st then s
  else if m < 8 then
    let planes := s.base.planesOf m
    let s := s.mapLaser m (fun l => { l with st := 5 })
    match s.spareModule m with
    | some new =>
      let s := s.switchLink m new 5
      let s := s.mapBase (fun b => { b with windowQueue := b.windowQueue.filter (fun w => !planes.contains w) })
      (planes.filter (· < 5)).foldl (fun s w =>
        (s.mapBase (fun b => { b with planeSt := setAt b.planeSt w 1, calSuspended := true })).planeLeaves w true) s
    | none => planes.foldl (fun s w => s.degradePlane w) s
  else
    match (List.range 8).find? (fun k => s.feedModule k == m) with
    | some feed => s.feedLoss feed
    | none => s.mapLaser m (fun l => { l with st := 5 })

/-- LOSS_OF_LIGHT (R255, R275). -/
def execLossOfLight (at_ module : Nat) (s : State) : Host.Outcome State Fault Refusal := .next ((s.advance at_).telling (fun s => s.lossOfLight module))

/-- Background calibration has been suspended for 50,000 tk (R254): it has taken nothing out since. -/
def State.calQuiet (s : State) : Bool :=
  match s.base.calBegan with
  | some t => decide (t + 50000 ≤ s.now)
  | none => true

/-- A plane calibration window opens (R254): one at a time, the lowest plane that waits first, and only with a spare to switch in. -/
def State.openWindow (s : State) (w : Nat) : State :=
  let m := s.base.linkMap.getD w 99
  if s.base.window.isSome ∨ s.base.windowQueue.head? ≠ some w ∨ (s.spareModule m).isNone ∨ !s.calQuiet then s
  else
    let s := s.mapBase (fun b =>
      { b with window := some (w, s.now), windowQueue := b.windowQueue.filter (· != w), calSuspended := true, planeSt := setAt b.planeSt w 1 })
    if w < 5 then s.planeLeaves w false else s

/-- PLANE_CALIBRATION_WINDOW (R254). -/
def execPlaneCalibrationWindow (at_ plane : Nat) (s : State) : Host.Outcome State Fault Refusal :=
  .next ((s.advance at_).telling (fun s => s.openWindow plane))

/-- The switch moves a plane to its new module (R254): a data plane once its replay buffers are empty; SP first on SPB, then on
SPA, after which its window closes. -/
def State.planeSwitch (s : State) (w : Nat) : State :=
  match s.base.window with
  | none => s
  | some x =>
    let m := s.base.linkMap.getD w 99
    if x.1 ≠ w then s
    else
      if w = 5 ∧ s.base.linkMap.getD 6 99 ≠ m then
        (s.mapBase (fun b =>
          let planeSt := setAt b.planeSt 5 0
          { b with window := none, planeSt, calSuspended := planeSt.any (· == 1) })).switchLink m (s.base.linkMap.getD 6 99) 4
      else
        match s.spareModule m with
        | none => s
        | some new =>
          if w = 5 then (s.mapLaser new (fun l => { l with st := 1 })).mapBase (fun b => { b with linkMap := setAt b.linkMap 6 new })
          else if s.allPairs.all (fun y => (s.line y.1 y.2).buffer w == []) then (s.switchLink m new 4).closeWindow w
          else s

/-- PLANE_SWITCH (R254). -/
def execPlaneSwitch (at_ plane : Nat) (s : State) : Host.Outcome State Fault Refusal := .next ((s.advance at_).planeSwitch plane)

/-! ## Routing banks (R244 to R249) -/

/-- The inactive bank gives a unicast EID that a placed package names a different site. -/
def State.routingConflict (s : State) : Bool :=
  (if s.base.activeB then s.base.bankA else s.base.bankB).any (fun e =>
    let old := s.eidSite e.1
    old.isSome && field e.2.toNat 1 0 == 1 && old != some (field e.2.toNat 6 2) && s.pkgs.any (fun p => p.uses e.1))

/-- A write of D:5100.05 (R248). -/
def routingArmProc (tick : Nat) (s : State) : Nat × State :=
  checked
    [(decide (tick < s.now + 100000), stateAbort 0x5100 7), (decide (s.base.switchSt = 1), stateAbort 0x5100 3),
     (decide (s.base.switchSt = 2), stateAbort 0x5100 8), (s.routingConflict, stateAbort 0x5100 5)]
    (fun s => s.mapBase (fun b => { b with switchTick := tick, switchSt := 1 })) s

/-- ROUTING_SWITCH_ARM (R248). -/
def execRoutingSwitchArm (at_ tick : Nat) (s : State) : Host.Outcome State Fault Refusal :=
  .next ((s.advance at_).pcieWrite 0x5100 0x05 (routingArmProc tick))

/-- The drain counter of site `k` (R249): records it holds under the old bank, and their packets, and
the copies of its reducer's results under it, not yet acknowledged; zero where
no switch is draining. -/
def State.drainCount (s : State) (k : Nat) : Nat :=
  if s.base.switchSt ≠ 2 then 0
  else
    let t := s.tower k
    let old := if k < 20 then t.records.filter (fun r => r.bank != s.base.activeB) else []
    let coming := s.ledger.inflight.filter (fun i => i.1 == k && i.2.bank != s.base.activeB)
    old.length + coming.length + (s.vault.guestPkts.filter (fun e => e.fromGuest && e.guest + 21 == k && e.bank != s.base.activeB)).length
      + sumNat ((t.ops.filter (fun o => decide (k < 20) && old.any (fun r => r.slot == o.slot))).map (·.unacked))
      + (if k < 20 then sumNat ((t.reductions.filter (fun r => r.bank != s.base.activeB)).map (·.copies)) else 0)

/-- At the first tick at or after the armed tick every site makes the other bank active (R248). -/
def State.routingSwitch (s : State) : State :=
  if s.base.switchSt = 1 ∧ s.base.switchTick ≤ s.now then s.mapBase (fun b => { b with activeB := !b.activeB, switchSt := 2 }) else s

/-- ROUTING_SWITCH (R248). -/
def execRoutingSwitch (at_ : Nat) (s : State) : Host.Outcome State Fault Refusal := .next ((s.advance at_).routingSwitch)

/-- The old bank unlocks once every drain counter reads zero (R249). -/
def State.bankDrained (s : State) : State :=
  if s.base.switchSt = 2 ∧ (List.range 23).all (fun k => s.drainCount k == 0) then s.mapBase (fun b => { b with switchSt := 0 }) else s

/-- OLD_BANK_DRAINED (R249). -/
def execOldBankDrained (at_ : Nat) (s : State) : Host.Outcome State Fault Refusal := .next ((s.advance at_).bankDrained)

/-- A write of D:5100.0A (R248, R249). -/
def routingCopyProc (value : Nat) (s : State) : Nat × State :=
  checked [(decide (1 < value), 0x04000003), (decide (s.base.switchSt = 2), stateAbort 0x5100 8)]
    (fun s =>
      if value = 1 then s.mapBase (fun b => if b.activeB then { b with bankA := b.bankB } else { b with bankB := b.bankA }) else s) s

/-- COPY_ACTIVE_TO_INACTIVE (R248). -/
def execCopyActiveToInactive (at_ value : Nat) (s : State) : Host.Outcome State Fault Refusal :=
  .next ((s.advance at_).pcieWrite 0x5100 0x0A (routingCopyProc value))

end Sys2Proof.Machine
end

