-- ==== Sys2Proof/Machine/AlarmOps.lean ====
section
/-!
DEFINITION. The security alarm (R445 to R449), tenant fences (R447), erasure of keys (R420, R421) and the vault's state (R406).
-/
namespace Sys2Proof.Machine

open Sys2Proof

/-! ## Vault state -/

/-- The vault's state D:7000.04: erased stays until power-off; transitional while an image is pending or a die reloads (R406). -/
def VaultSt.remode (v : VaultSt) : VaultSt :=
  { v with mode := if v.mode = .erased then .erased
      else if v.pendingLayers ≠ [] ∨ v.reloading ≠ [] then .transitional else .normal }

/-- The next value of the vault's random generator (R398, R432). -/
def VaultSt.draw (v : VaultSt) : Nat × VaultSt := ((Config.random v.nextRandom).toNat, { v with nextRandom := v.nextRandom + 1 })

/-- A new ticket nonce D:7100.02 (R432). -/
def VaultSt.newNonce (v : VaultSt) : VaultSt := { v.draw.2 with nonce := v.draw.1 }

/-! ## RW2 objects (R404, R427) -/

/-- The policy digest: SHA-384 over the RW2 objects in index order (R404). -/
def State.policyDigest (s : State) : Nat :=
  (Config.digest
    ([if s.pair.bound then 1 else 0, s.pair.twinId, if s.pair.preferred then 1 else 0] ++ s.vault.anchors ++ s.vault.policy
      ++ [if s.vault.fenceAll then 1 else 0] ++ s.vault.fenceExcept ++ [s.vault.admitted.toNat]
      ++ s.vault.rules0.map (·.toNat) ++ s.vault.rules1.map (·.toNat) ++ [s.vault.guestFence.toNat])).toNat

/-- An RW2 object has changed: the vault recomputes the digest in the same tick (R404, R427). -/
def State.policyChanged (s : State) : State := s.mapVault (fun v => { v with policyTick := s.now })

/-! ## Keys -/

/-- An ID that holds no slot holds nothing; the sequence state of a tenant lasts as long as its key slot (R357). -/
def State.dropEmpty (s : State) : State :=
  let s := s.mapVault (fun v => { v with keys := v.keys.filter (fun k => k.cur.isSome || k.prev.isSome) })
  s.mapLedger (fun l => { l with seqs := l.seqs.filter (fun q => (s.vault.key? kindTenant q.1).isSome) })

/-- Tenant erasure (R420): both slots of every tenant for which `p` holds. -/
def State.eraseTenants (s : State) (p : Nat → Bool) : State :=
  (s.mapVault (fun v => { v with keys := v.keys.filter (fun k => !(k.kind == kindTenant && p k.id)) })).dropEmpty

/-- Full erasure (R420): every slot, the pair key, the release key, the layer secrets and the report list. Heartbeats stop (R461). -/
def State.eraseVault (s : State) : State :=
  (s.mapVault (fun v =>
    { v with mode := .erased, keys := [], secrets := 0, releaseGen := 0, pairKey := false, reportHashes := [], reportSt := 0
             reportEntries := [] })).dropEmpty.mapPair (fun p => { p with beating := false })

/-! ## Tenant fences (R447) -/

/-- Set or clear one tenant's entry of D:7202. -/
def VaultSt.setFence (v : VaultSt) (tenant : Nat) (on : Bool) : VaultSt :=
  { v with fenceExcept := if on = v.fenceAll then v.fenceExcept.filter (· != tenant) else insertNat v.fenceExcept tenant }

/-- Set the entry of every tenant. -/
def VaultSt.fenceEvery (v : VaultSt) : VaultSt := { v with fenceAll := true, fenceExcept := [] }

/-- D:7202.03. -/
def VaultSt.fencedCount (v : VaultSt) : Nat := if v.fenceAll then 65535 - v.fenceExcept.length else v.fenceExcept.length

/-- Operators of the tenants for which `p` holds that are not complete end with 0x86 (R447). -/
def Tower.fenceRecords (t : Tower) (p : Nat → Bool) : Tower :=
  { t with ops := modWhere t.ops (fun o => t.records.any (fun r => r.slot == o.slot && p r.tenant)) (fun o => { o with failed := true })
           records := modWhere t.records (fun r => p r.tenant && !r.reported && decide (r.done < r.total)) (fun r =>
      { r with code := if 0x80 ≤ r.code then r.code else 0x86
               codeDesc := if 0x80 ≤ r.code then r.codeDesc else
                 match t.ops.find? (fun o => o.slot == r.slot) with
                 | some o => o.desc
                 | none => 0xFFFF }) }

/-- Accepted requests of the tenants for which `p` holds end with reason 0x83 (R447). -/
def State.endTenants (s : State) (p : Nat → Bool) : State :=
  (s.mapTowers (fun l => l.map (fun t => t.fenceRecords p))).endAll (fun r => p r.tenant) 0x83 20

/-- An accepted request of such a tenant exists: the action ends accepted work. -/
def State.endsWork (s : State) (p : Nat → Bool) : Bool := s.ledger.reqs.any (fun r => r.phase == .accepted && p r.tenant)

/-! ## The alarm -/

/-- Code of the alarm record. -/
def alarmCode : Nat := 0x0901

/-- The hub fences every tower on its own authority (R102). -/
def State.fenceTowers (s : State) (cause : Nat) : State :=
  (List.range 20).foldl (fun s t => if (s.tower t).fence then s else s.fenceTower t cause) s

/-- The effect of action `act` on the tenants for which `p` holds (Table AL-7). DESIGN CHOICE (log 53): the security fence
of a tower that R102 names is part of the full erasure, which leaves no tenant that a tower could serve. -/
def State.alarmAct (s : State) (act : Nat) (all : Bool) (tenants : List Nat) : State :=
  let p := fun t => all || tenants.contains t
  let fence := fun (s : State) =>
    (s.mapVault (fun v => if all then v.fenceEvery else tenants.foldl (fun v t => v.setFence t true) v)).policyChanged
  if act = 0 then s
  else if act = 1 then (fence s).endTenants p
  else if act = 2 then ((fence s).eraseTenants p).endTenants p
  else s.eraseVault.fenceTowers 4

/-- Records of the alarms of this tick take the action of the tick (R448). -/
def LogSt.alarmAction (l : LogSt) (tick act sev : Nat) : LogSt :=
  { l with recs := modWhere l.recs (fun r => r.code == alarmCode && r.tick == tick) (fun r =>
      { r with arg0 := r.arg0 / 256 * 256 + act, sev := max r.sev sev }) }

/-- An alarm source is raised (R445 to R448): of the sources of one tick the highest action is taken, on all that they affect. -/
def State.raiseAlarm (s : State) (source : Nat) (all : Bool) (tenants : List Nat) : State :=
  let same := decide (s.vault.lastAlarmTick = s.now) && decide (0 < s.vault.alarms)
  let act := max (s.rw2Now.policy.getD (source - 1) 0) (if same then s.vault.lastAction else 0)
  let uAll := all || (same && s.vault.tickAll)
  let uTen := (if same then s.vault.tickTenants else []) ++ tenants
  let ended := s.endsWork (fun t => uAll || uTen.contains t)
  let sev := if act = 3 then sevModule else if act ≠ 0 ∧ ended then sevWork else sevLogged
  let s := s.alarmAct act uAll uTen
  let s := s.mapVault (fun v =>
    { v with alarms := v.alarms + 1, lastSource := source, lastAlarmTick := s.now, lastAction := act, tickAll := uAll, tickTenants := uTen })
  let s := s.mapLog (fun l => l.alarmAction s.now act sev)
  s.logEv alarmCode sev unitHub source (act + (if all then 256 else 0))
    (match tenants with
      | [t] => t % 65536 * 65536
      | _ => 0)

/-- A key slot has a reference count above zero (R409, R418). -/
def VaultSt.referenced (v : VaultSt) : Bool := v.keys.any (fun k => k.cur.any (fun c => c.refs != 0) || k.prev.any (fun c => c.refs != 0))

/-- Failures that count within the 1,000,000,000 tk ending now (R412, R435). -/
def recentFails (l : List Nat) (now : Nat) : List Nat := l.filter (fun t => decide (now < t + 1000000000))

end Sys2Proof.Machine
end

