-- ==== Sys2Proof/Machine/GuestOps.lean ====
section
/-! DEFINITION. The guest firewall (R440 to R443): rules, the filter, and a breach. -/
namespace Sys2Proof.Machine

open Sys2Proof

/-- Site of guest 0 or 1. -/
def guestSite (g : Nat) : Nat := 21 + g

/-- Guest `g` is populated under the ordering code (R6). -/
def State.hasGuest (s : State) (g : Nat) : Bool := decide (g < s.ident.guests) && decide (g < 2)

/-- Rules of a guest that govern this tick (R434). -/
def State.rules (s : State) (g : Nat) : List (BitVec 128) := if g = 0 then s.rw2Now.rules0 else s.rw2Now.rules1

/-- What the filter looks at: OPS bit number, space, remote EID, first offset and bytes touched. -/
structure Access where
  op    : Nat
  space : Nat
  eid   : Nat
  off   : Nat
  len   : Nat
  deriving DecidableEq, Repr

/-- A rule of direction `dir` matches (R442, Table AL-5). -/
def ruleMatches (r : BitVec 128) (dir : Nat) (a : Access) : Bool :=
  let n := r.toNat
  field n 1 0 == dir && bit n a.op && field n 15 8 == a.space && decide (field n 31 16 ≤ a.eid) && decide (a.eid ≤ field n 47 32)
    && decide (field n 87 48 ≤ a.off) && decide (a.off + a.len ≤ field n 127 88)

/-- Directions of a rule. -/
def dirFrom : Nat := 1
def dirTo : Nat := 2

def State.filterPasses (s : State) (g dir : Nat) (a : Access) : Bool := (s.rules g).any (fun r => ruleMatches r dir a)

/-- OPS bit of a bulk packet's type; none for responses and acknowledgements, which answer a packet that passed. -/
def opsBit (type : Nat) : Option Nat :=
  if type = 1 then some 2 else if type = 3 then some 3 else if type = 5 then some 4 else if type = 6 then some 5 else none

/-- Types that answer a packet: read response, write acknowledgement, poisoned completion, fenced acknowledgement. -/
def answerType (type : Nat) : Bool := type == 2 || type == 4 || type == 7 || type == 8

/-- Packet `p` of guest `g` answers a packet that passed the other way (R442): it echoes its tag and goes back to its sender; a multicast
copy is answered by each of its members. -/
def GuestPkt.answeredBy (e : GuestPkt) (g : Nat) (fromGuest : Bool) (p : Packet) : Bool :=
  e.guest == g && e.fromGuest != fromGuest && e.tag == p.tag && e.src == p.dst && (e.dst == p.src || decide (0xF000 ≤ e.dst))

/-- Answers that a packet which passed will have: one from each member of a multicast group. -/
def State.answersTo (s : State) (p : Packet) : Nat := if p.type = 6 then (s.eidSites p.dst).length else 1

/-- A packet passes the filter of guest `g` (R442). -/
def State.packetPasses (s : State) (g : Nat) (fromGuest : Bool) (p : Packet) : Bool :=
  p.mgmt (guestSite g) ||
    match opsBit p.type with
    | none => answerType p.type && s.vault.guestPkts.any (fun e => e.answeredBy g fromGuest p)
    | some b => s.filterPasses g (if fromGuest then dirFrom else dirTo)
        { op := b, space := addrSpace p.addr, eid := if fromGuest then p.dst else p.src, off := addrOff p.addr, len := 64 * p.len }

/-- A fenced acknowledgement to the sender of a packet. -/
def State.fencedReply (s : State) (p : Packet) : State :=
  s.sendPacket (mkPacket p.tepoch { type := 8, src := p.dst, dst := p.src, addr := p.addr, tag := p.tag } [])

/-- Count a refusal in D:7303.01 or D:7303.02. -/
def State.countRefusal (s : State) (g : Nat) : State :=
  s.mapVault (fun v => if g = 0 then { v with refusals0 := v.refusals0 + 1 } else { v with refusals1 := v.refusals1 + 1 })

/-- The tenant whose request holds `slot` on the tower at site `k`. -/
def State.slotTenant (s : State) (k : Option Nat) (slot : Nat) : List Nat :=
  match k with
  | some t => match (s.tower t).record? slot with
    | some r => [r.tenant]
    | none => []
  | none => []

/-- A packet from a guest is refused (R443): counted, the guest fence set, source 0x04 or 0x05 raised. -/
def State.breach (s : State) (g : Nat) (tenants : List Nat) : State :=
  let s := (s.countRefusal g).mapVault (fun v => { v with guestFence := v.guestFence ||| (1#2 <<< g) })
  s.policyChanged.raiseAlarm (4 + g) false tenants

/-- What the filter notes of a packet that passes: one to be answered, or an answer. -/
def State.notePassed (s : State) (g : Nat) (fromGuest : Bool) (p : Packet) : State :=
  s.mapVault (fun v =>
    { v with guestPkts :=
        (if answerType p.type then modFirst v.guestPkts (fun e => e.answeredBy g fromGuest p) (fun e => { e with left := e.left - 1 })
         else if (opsBit p.type).isSome then
           v.guestPkts ++ [{ guest := g, fromGuest, src := p.src, dst := p.dst, tag := p.tag, bank := p.tepoch, left := s.answersTo p }]
         else v.guestPkts).filter (fun e => e.left != 0) })

/-- A packet to or from guest `g` at its site interface (R442, R443). -/
def State.guestPacket (s : State) (g : Nat) (fromGuest : Bool) (p : Packet) : State :=
  if !s.hasGuest g then s
  else if s.siteFenced (guestSite g) && !p.mgmt (guestSite g) then s.fencedReply p
  else if s.packetPasses g fromGuest p then
    let s := s.notePassed g fromGuest p
    if fromGuest then s.sendFrom (guestSite g) p else s.sendPacket p
  else if fromGuest then
    (s.fencedReply p).breach g (if p.slotv then s.slotTenant (s.eidSite p.dst) p.slot else [])
  else (s.fencedReply p).countRefusal g

/-- A SIGNAL (OPS bit 6) or WATCH (bit 7) from a guest at its site interface: whether it goes on, and the state with the breach it
made. -/
def State.guestSync (s : State) (m : BitVec 128) (ops : Nat) : Bool × State :=
  let g := msgSrc m - 21
  if msgSrc m < 21 then (true, s)
  else if !s.hasGuest g || s.siteFenced (guestSite g) then (false, s)
  else if s.filterPasses g dirFrom { op := ops, space := 3, eid := mgmtEid (msgDst m), off := 4 * msgIndex m, len := 4 } then (true, s)
  else (false, s.breach g [])

end Sys2Proof.Machine
end

