-- ==== Sys2Proof/Machine/BootOps.lean ====
section
/-! DEFINITION. The module state D:1022.01 and site-state fences of guests (R427, R440, R523). -/
namespace Sys2Proof.Machine

open Sys2Proof

/-- D:1022.01 changes; every change raises vector 13 (R564). -/
def State.setModState (s : State) (n : Nat) : State :=
  if s.boot.modState = n then s else (s.mapBoot (fun b => { b with modState := n })).raiseVector 13

/-- A tower has come up: it is no longer OFF or in TRAINING. -/
def Tower.cameUp (t : Tower) : Bool := t.mode != .off && t.mode != .training

/-- A guest has raised GREADY, or has been fenced in its place (R523); an unpopulated site needs neither. -/
def State.guestUp (s : State) (g : Nat) : Bool :=
  !s.hasGuest g || s.vault.gready.getLsbD g || s.base.guestSiteFence.getLsbD g

/-- D:1022.01 reads ready once every tower and every populated guest has come up (R523). -/
def State.checkReady (s : State) : State :=
  if s.boot.modState = 2 ∧ s.towers.all Tower.cameUp ∧ s.guestUp 0 ∧ s.guestUp 1 then s.setModState 3 else s

/-- UNIT of a guest in the log (Table FD-2). -/
def unitGuest (g : Nat) : Nat := 0x15 + g

/-- Fence a guest's site by its site state (R427, R440). -/
def State.fenceGuestSite (s : State) (g : Nat) : State := s.mapBase (fun b => { b with guestSiteFence := b.guestSiteFence ||| (1#2 <<< g) })

/-- Domains A and B of a guest (Table PT-2). -/
def guestDomains (g : Nat) : List Nat := [42 + 2 * g, 43 + 2 * g]

def Domain.fresh : Domain := { st := 0, setmV := 0, current := 0, power := 0, energy := 0, faults := 0 }

def State.domain (s : State) (d : Nat) : Domain := s.power.domains.getD d Domain.fresh

/-- A domain is switched. With the memory domain of a cache tower its stacks lose their rails and are to be trained again (Table PT-2,
R306). -/
def State.setDomain (s : State) (d st : Nat) : State :=
  let s := s.mapPower (fun p => { p with domains := modAt p.domains d (fun x => { x with st }) })
  if st = 0 ∧ 36 ≤ d ∧ d < 40 then
    s.mapMem (fun m => { m with dram := modAt (modAt m.dram (2 * (d - 36)) (fun k => { k with st := 0 })) (2 * (d - 36) + 1) (fun k => { k with st := 0 }) })
  else s

/-- A domain is on (D:8002.02). -/
def State.domainOn (s : State) (d : Nat) : Bool := (s.domain d).st == 2

/-- GRST_L of a guest falls or is held low. -/
def State.holdGuest (s : State) (g : Nat) : State :=
  s.mapVault (fun v =>
    { v with grstHigh := v.grstHigh &&& ~~~(1#2 <<< g), gready := v.gready &&& ~~~(1#2 <<< g), grstTick := modAt v.grstTick g (fun _ => s.now) })

end Sys2Proof.Machine
end

