-- ==== Sys2Proof/Machine/ResetOps.lean ====
section
/-! DEFINITION. What resets, trips and power-up share (R487, R488, R505, R529, R531): domains, emptying a tower, power-on state. -/
namespace Sys2Proof.Machine

open Sys2Proof

/-! ## Domains of towers (Table PT-2) -/

def logicDomain (t : Nat) : Nat := if t < 16 then t else 16 + t
def memDomain (t : Nat) : Nat := if t < 16 then 16 + t else 20 + t

/-- All layer gates of a tower on. -/
def Tower.allGates (t : Tower) : BitVec 4 := if t.isCache then 0xF else 0x7

/-! ## Emptying a tower -/

/-- Everything a tower's scheduler holds is gone: its records retire, its chunk queue, scoreboard and activation-local sync objects are
empty (Table BR-4). -/
def State.emptyTower (s : State) (t : Nat) : State :=
  let s := (s.tower t).records.foldl (fun s r => s.retireRecord t r.slot) s
  s.mapTower t (fun x =>
    { x with records := [], queue := [], running := [], ops := [], reductions := [], heldReductions := [], barrier := (0, [])
             mcast := { x.mcast with store := [], queues := [], wait := [] }, dieMcast := McastStore.fresh, sync := x.sync.filter (fun o => decide (persistentBase ≤ o.1)) })

/-- Bonded SRAM contents, valid bits and the weight-bank store of a tower are lost. -/
def State.loseMemory (s : State) (t : Nat) : State :=
  let s := s.mapMem (fun m => (m.clear (t * 2 ^ 40) ((t + 1) * 2 ^ 40)).clear ((64 + t) * 2 ^ 40) ((65 + t) * 2 ^ 40))
  s.mapTower t (fun x => { x with sync := [], coldClean := true })

/-- Models of the placed packages that have a share on tower `t`. -/
def State.sharesOn (s : State) (t : Nat) : List Nat := (s.pkgs.filter (fun p => p.tables.any (fun q => q.tower == t))).map (·.model)

/-- The memory of a tower is lost with its share of every placed package, which is to be reloaded (R531, R534). -/
def State.coldLoss (s : State) (t : Nat) : State :=
  let m := s.sharesOn t
  (s.loseMemory t).mapTower t (fun x => { x with reload := m, coldTick := some s.now })

/-- A unit whose image is being reloaded makes the vault transitional until it is measured (R406). Units: 0 to 19 towers, 21 and 22
guest sites, 32 + n field n, 64 the hub's own boot. -/
def State.reloads (s : State) (unit : Nat) : State := s.mapVault (fun v => { v with reloading := insertNat v.reloading unit }.remode)
def State.reloadDone (s : State) (unit : Nat) : State :=
  s.mapVault (fun v => { v with reloading := v.reloading.filter (· != unit) }.remode)

/-- A tower reset begins (Table BR-4, R531): a warm one switches the logic domain off, a cold one the memory domain too. -/
def State.beginTowerReset (s : State) (t : Nat) (cold : Bool) : State :=
  let s := (s.endAll (fun r => s.holdsRecord t r) 0x85 t).emptyTower t
  let s := s.setDomain (logicDomain t) 0
  let s := if cold then (s.coldLoss t).setDomain (memDomain t) 0 else s
  let s := s.mapTower t (fun x =>
    { x with resetFrom := if x.heldInReset then x.resetFrom else x.mode, mode := .training, resetState := .off, resetCold := cold
             heldInReset := false, gates := if cold then 0 else x.gates, barrier := (0, [])
             regions := x.regions.map (fun g => g.leave (s.replica t / 1024)) })
  s.reloads t

/-! ## Trips (R504 to R506) -/

/-- A tower trips: fenced with cause 0x03, what runs on it of a reset, a retirement or a substitution abandoned (vector 0 where B+0F.02
or D:6003.02 returns to idle, Table DI-13), its requests ended with 0x84; the end of a protected G request is deferred (R469, R506). A tower already tripped or FAILED only logs (R513). -/
def State.tripTower (s : State) (t : Nat) : State :=
  if (s.tower t).mode = .tripped ∨ (s.tower t).mode = .failed then s.logEv 0x0C01 sevLogged t
  else
    let held := s.endsAt t
    let idle := (s.tower t).resetState == .idle && (s.tower t).layerReset == .idle
    let s := s.fenceTower t 3
    let s := s.mapTower t (fun x =>
      { x with mode := .tripped, tripState := 1, trips := x.trips + 1, belowSince := none, layerReset := .idle, layerQueue := []
               retireState := if x.retireState = .copying then .idle else x.retireState, resetState := .idle, heldInReset := false
               regions := x.regions.map (fun g => { g.leave (s.replica t / 1024) with subst := none }) })
    let s := s.reloadDone t
    let s := if idle then s else s.raiseVector 0
    let s := (s.logEv 0x0C01 (if held then sevWork else sevCapacity) t).raiseEvent 12
    s.endAll (fun r => s.holdsRecord t r) 0x84 t

/-- A guest's domains are switched off and its site is fenced (R489, R504). -/
def State.guestOff (s : State) (g : Nat) : State :=
  (((guestDomains g).foldl (fun s d => s.setDomain d 0) s).holdGuest g).fenceGuestSite g

/-! ## Controls that outages set (R486, R493, R508) -/

/-- Every region target at the floor (R69). -/
def State.floorTargets (s : State) : State :=
  s.mapTowers (fun l => l.map (fun t => { t with regions := t.regions.map (fun g => g.retarget 1500000) }))

/-- Ballast level 15 on the towers for which `p` holds. -/
def State.fullBallast (s : State) (p : Tower → Bool) : State := s.mapTowers (fun l => l.map (fun t => if p t then { t with ballast := 15 } else t))

/-! ## Power-on and module reset -/

/-- The pair after the hub has started: SEEKING where a binding stands (R482), with the binding's values kept. -/
def PairSt.restart (p : PairSt) (now : Nat) : PairSt :=
  { PairSt.fresh with bound := p.bound, twinId := p.twinId, preferred := p.preferred, mode := if p.bound then .seeking else .unbound, seekSince := now }

/-- The vault after the hub has started: what it keeps in fuses and in the always-on store (Table SK-1, R427), a new ticket nonce
(R432). -/
def VaultSt.restart (v : VaultSt) : VaultSt :=
  { VaultSt.fresh with
    install := v.install, pairPos := v.pairPos, nextRandom := v.nextRandom, anchors := v.anchors, applied := v.applied, enrolled := v.enrolled
    policy := v.policy, policyTick := v.policyTick, fenceAll := v.fenceAll, fenceExcept := v.fenceExcept, admitted := v.admitted
    rules0 := v.rules0, rules1 := v.rules1, guestFence := v.guestFence }.newNonce

/-- The hub starts: an activated copy of layer 1 is the running one from here on (R528). -/
def BootSt.restart (b : BootSt) : BootSt :=
  { BootSt.fresh with copies := b.copies, running := if b.marked then modAt b.running 0 (!·) else b.running, minSvn := b.minSvn, bootFails := b.bootFails }

/-- A tower at power-on keeps its wear and its trip count (R503, Table PT-8). -/
def Tower.powerOn (t : Tower) : Tower := { Tower.fresh t.isCache with trips := t.trips, boostWear := t.boostWear }

/-- A tower at a module reset keeps what the always-on domain holds as well: width records, remap tables, retirement, reserve pages and
withdrawn lists, thermal state (R299, R323, R326, R529). -/
def Tower.moduleReset (t : Tower) : Tower :=
  { t.powerOn with
    channels := t.channels.map (fun c => (c.1, { c.2 with trained := false })), remaps := t.remaps, remapUsed := t.remapUsed
    remapExhausted := t.remapExhausted, retireState := t.retireState, retirePage := t.retirePage, replacedPages := t.replacedPages
    withdrawnPages := t.withdrawnPages, reserveUsed := t.reserveUsed, temp := t.temp, diode := t.diode, anchorCorr := t.anchorCorr
    useDiode := t.useDiode, band := t.band, tripState := t.tripState, belowSince := t.belowSince, overTemps := t.overTemps, over110 := t.over110
    resetCount := t.resetCount }

/-- Power has come to the module (R520, R572): everything volatile is as at power-on. -/
def State.powerOn (s : State) : State :=
  { State.reset with
    pending := s.pending, ident := s.ident, towers := s.towers.map Tower.powerOn
    base := { BaseSt.fresh with lasers := BaseSt.fresh.lasers.zipIdx.map (fun l => { l.1 with wear := (s.base.lasers.getD l.2 (Laser.fresh 0)).wear }) }
    vault := s.vault.restart, pair := s.pair.restart 0
    power := { PowerSt.fresh with inputmV := s.power.inputmV, inputUp := true, charged := true
                                  domains := modAt (PowerSt.fresh.domains.zipIdx.map (fun d => { d.1 with setmV := domainNominal s.ident.guestmV d.2 }))
                                    47 (fun d => { d with st := 2 }) }
    boot := { s.boot.restart with bootFails := 0 }, dict := { DictSt.fresh with perst := s.dict.perst }, freeCtr := s.freeCtr }

/-- A module reset (Table BR-4): every domain but 47 is off, the hub's with them, so its I3C target waits for a new address (R582); vault slots, time state, every placement and all memory contents are lost.
The tally runs on (R530), a vault stays erased and a faulty key slot unused until power-off (R420, R421), and the log stands (R515): a time state other than UNSET ends with its record (R60). -/
def State.moduleReset (s : State) : State :=
  let s := s.setTimeMode .unset
  { s.powerOn with
    time := { TimeSt.fresh with tally := s.time.tally, started := s.time.started, refLost := s.time.refLost, goodGates := s.time.goodGates
                                gateNo := s.time.gateNo, refOffset := s.time.refOffset, stepped := s.time.stepped, holdLimit := s.time.holdLimit }
    towers := s.towers.map Tower.moduleReset
    mem := { MemSt.fresh with log := s.mem.log, logCount := s.mem.logCount, logLost := s.mem.logLost, mergeWin := s.mem.mergeWin }
    power := { s.power with exSt := 0, domains := s.power.domains.zipIdx.map (fun d => if d.2 = 47 then d.1 else { d.1 with st := 0 }) }
    log := s.log, pair := s.pair.restart s.now, boot := s.boot.restart
    vault := { s.vault.restart with pairKey := s.vault.pairKey, reloading := [64], deadSlots := s.vault.deadSlots
                                    mode := if s.vault.mode = VaultMode.erased then VaultMode.erased else VaultMode.normal }.remode
    dict := { s.dict with pcieUp := false, i3cAddr := none } }

end Sys2Proof.Machine
end

