-- ==== Sys2Proof/Machine/Calibration.lean ====
section
/-! DEFINITION. Weight-bank combs, feed-forward, the calibration engine and coefficient sets: commands of chapter 09. -/
namespace Sys2Proof.Machine

open Sys2Proof

/-! ## Channels (Tables WB-4, WB-6, WB-7) -/

/-- Length of a coefficient set (Table WB-7, D:8400.03). -/
def setLength (kind : Nat) : Nat :=
  if kind = 1 ∨ kind = 2 then 40 else if kind = 3 then 8512 else if kind = 4 then 64 else if kind = 5 then 48 else 0

/-- Whether an index names a channel of a kind. A site has on a data plane the transmit and receive rings of its 22 peers (R222), on each bus
of SP the transmit ring of its own grid channel and a drop filter for every other site's (R234); the pilot's receiver has grid channel 0. -/
def channelExists (kind index : Nat) : Bool :=
  if kind = 1 ∨ kind = 2 then
    let k := index / 65536
    let c := index % 256
    let peer := if kind = 1 then (k + c) % 32 else (k + 32 - c) % 32
    decide (k < 23) && decide (index / 256 % 256 < 7) && (decide (kind = 2 ∧ c = 0) ||
      (if index / 256 % 256 < 5 then decide (0 < c ∧ c < 32 ∧ peer < 23)
       else if kind = 1 then c == spChannel k else decide (0 < c ∧ c < 24) && c != spChannel k))
  else if kind = 3 then decide (index / 256 < 16) && decide (index % 256 < 12)
  else if kind = 4 then decide (index < 40)
  else if kind = 5 then decide (index < 48)
  else false

/-- Source and destination of the wavelength that a ring channel carries (R222). -/
def ringPair (kind index : Nat) : Nat × Nat :=
  let k := ringSite index
  let c := index % 256
  if kind = 1 then (k, (k + c) % 32) else ((k + 32 - c) % 32, k)

/-- Plane of a ring channel: 0 to 4 DP0 to DP4, 5 SPA, 6 SPB. -/
def ringPlane (index : Nat) : Nat := index / 256 % 256

/-- The channel lies at an unpopulated site. -/
def State.channelAbsent (s : State) (kind index : Nat) : Bool :=
  if kind = 1 ∨ kind = 2 then !s.populated (ringSite index)
  else if kind = 5 then (decide (index = 42 ∨ index = 43) && !s.populated 21) || (decide (index = 44 ∨ index = 45) && !s.populated 22)
  else false

/-- Octet `i` of the content of a set, its reserved bits zero (Table WB-7). -/
def contentByte (kind i : Nat) (b : Byte) : Byte :=
  if kind = 1 then (if i = 1 then b &&& 0x0F else if i = 3 then b &&& 0x03 else if 6 ≤ i then 0 else b)
  else if kind = 2 then (if i = 1 then b &&& 0x0F else if 6 ≤ i then 0 else b)
  else if kind = 3 then (if 18 ≤ i ∧ i < 32 then 0 else if 8224 ≤ i ∧ i < 8352 ∧ i % 2 = 1 then b &&& 0x03 else b)
  else if kind = 5 then (if i = 1 then b &&& 0x03 else if 2 ≤ i then 0 else b)
  else b

/-- A set of a channel: a header (Table WB-6) over its content. -/
def makeSet (bind kind band index tick : Nat) (content : List Byte) : List Byte :=
  let content := content.zipIdx.map (fun p => contentByte kind p.2 p.1)
  let hdr := leBytes 4 bind ++ leBytes 4 (kind + band % 8 * 256) ++ leBytes 4 index ++ leBytes 8 tick ++ leBytes 8 0
  hdr ++ leBytes 4 (crc32c (hdr ++ leBytes 4 0 ++ content)) ++ content

/-- The factory set of a channel (R280): the fields that the tables fix, over what the factory measured. -/
def factorySet (bind kind index : Nat) : List Byte :=
  let free := (List.range (setLength kind)).map (fun i => Config.factorySet kind index i)
  makeSet bind kind (leAt free 5 1) index (leAt free 12 8) (free.drop 32)

def State.channel? (s : State) (kind index : Nat) : Option CalChannel :=
  s.base.cal.find? (fun c => c.kind == kind && c.index == index)

/-- A channel's record; its factory set where it has taken no other. -/
def State.calChannel (s : State) (kind index : Nat) : CalChannel :=
  let f := factorySet s.ident.bind kind index
  (s.channel? kind index).getD { kind, index, active := f, prev := f, shadow := none, busy := false, last := none }

def State.putChannel (s : State) (c : CalChannel) : State :=
  s.mapBase (fun b =>
    { b with cal := insertBy (fun a b => decide (channelKey a.kind a.index < channelKey b.kind b.index)) c
                      (b.cal.filter (fun x => !(x.kind == c.kind && x.index == c.index))) })

/-- The feed-forward correction now added to the heater codes of a channel's rings (R285): −(F × ΔT)/256. -/
def State.feedForward (s : State) (kind index : Nat) : Int :=
  let f : Int := leAt (s.calChannel kind index).active (if kind = 3 then 48 else 36) 2
  let dt := s.base.feedFwd.getD (channelField kind index) 0 - kvGet s.base.lockTemp (channelKey kind index) 0
  (0 - f * dt) / 256

/-- Change a bank. -/
def State.mapBank (s : State) (index : Nat) (f : Bank → Bank) : State :=
  s.mapBankSet (index / 256) (fun b => { b with banks := modAt b.banks (index % 256) f })

/-! ## Combs, feed-forward, bands -/

/-- A weight-bank comb at level B gives way to a spare between chunks: while no OPTICAL chunk runs or waits on its two towers, or
after 10,000,000 tk while none runs; a comb that loses its light gives way at once (R275). -/
def State.combSwitch (s : State) (feed : Nat) (loss : Bool) : State :=
  let m := s.feedModule feed
  let l := s.laser m
  let ts := [s.tower (2 * feed), s.tower (2 * feed + 1)]
  if 8 ≤ feed then s
  else if loss then (if l.st = 0 ∨ 4 ≤ l.st then s else s.feedLoss feed)
  else if l.st ≠ 3 then s
  else
    match s.spareModule m with
    | none => s.feedDown feed
    | some new =>
      if ts.all (fun t => !t.opticalQueued) || (decide (l.since + 10000000 ≤ s.now) && ts.all (fun t => !t.opticalRunning)) then
        s.switchFeed feed new 4 false
      else s

/-- WEIGHT_COMB_SWITCH (R275). -/
def execWeightCombSwitch (at_ feed : Nat) (loss : Bool) (s : State) : Host.Outcome State Fault Refusal :=
  .next ((s.advance at_).combSwitch feed loss)

/-- FEED_FORWARD_STEP (R285): the correction of every ring under a field follows the model's base temperature. -/
def execFeedForwardStep (at_ field : Nat) (temp : Int) (s : State) : Host.Outcome State Fault Refusal :=
  .next ((s.advance at_).mapBase (fun b => { b with feedFwd := setAt b.feedFwd field temp }))

/-- Ring heater offset of a band (Table PT-4). -/
def bandOffset (band : Nat) : Int := -16 * (band : Int)

/-- HEATER_RAMP (R286): the offset moves by one code towards that of the field's band. -/
def execHeaterRamp (at_ field : Nat) (s : State) : Host.Outcome State Fault Refusal :=
  let s := s.advance at_
  let goal := bandOffset (s.power.fieldBand.getD field 0)
  .next (s.mapBase (fun b => { b with heaterOff := modAt b.heaterOff field (fun h =>
    if h < goal then h + 1 else if goal < h then h - 1 else h) }))

/-! ## Background steps (R277, R278) -/

/-- No chunk on the tower uses the bank: none that runs, and no stream that waits for its turn in a round that has been loaded. -/
def State.bankIdle (s : State) (t bank : Nat) : Bool :=
  let uses := fun (c : Chunk) => match (s.tower t).ops.find? (fun o => o.id == c.op) with
    | some o => (chunkBanks (s.bankSet t) (opEnv s t o) c).contains bank
    | none => false
  (s.tower t).running.all (fun c => !(c.kind == .load || c.kind == .stream) || !uses c) &&
    (s.tower t).queue.all (fun c => c.kind != .stream ||
      (s.tower t).queue.any (fun l => l.kind == .load && l.op == c.op && l.part == c.part) || !uses c)

/-- Time between background steps of a channel (Table WB-4, D:8401): of a bank, a ring, and the taps of a lane; steps of a regulator's set
point. -/
def State.stepPeriod (s : State) (kind : Nat) : Nat :=
  if kind = 3 then s.base.bankPeriod else if kind = 4 then 1000000000 else if kind = 5 then 1000 else s.base.relockPeriod

/-- A step of a channel is due: its first, or a period after the last one began (R277). -/
def State.stepDue (s : State) (c : CalChannel) : Bool :=
  match c.last with
  | some t => decide (t + s.stepPeriod c.kind ≤ s.now)
  | none => true

/-- Channel `c` is out for a background step from this tick. -/
def State.stepBegins (s : State) (c : CalChannel) : State :=
  (s.putChannel { c with busy := true, last := some s.now }).mapBase (fun b => { b with calBegan := some s.now })

/-- A background step begins on a channel (R238, R277, R278): on a ring with its traffic on the stand-in, or on an idle bank. -/
def State.calStep (s : State) (kind index : Nat) : State :=
  let c := s.calChannel kind index
  if s.base.calSuspended ∨ c.busy ∨ !channelExists kind index ∨ s.channelAbsent kind index ∨ s.commitNear kind index ∨ !s.stepDue c then s
  else if kind = 1 ∨ kind = 2 then
    let x := ringPair kind index
    if s.ringOut (ringSite index) then s
    else if ringPlane index < 5 then
      let w := ringPlane index
      let p := s.linkPair x.1 x.2
      if !s.pairExists x.1 x.2 ∨ p.anyOut (sparePlane x.1 x.2) ∨ s.pairFaultNow x.1 x.2 then s
      else if w = sparePlane x.1 x.2 ∧ p.spare = 0 then
        (s.setPair x.1 x.2 { p with spare := 3, calibrating := some w }).stepBegins c
      else if p.calibrating.isSome ∨ !p.planes.contains w ∨ p.planes.length < 2 then s
      else
        (s.putPair x.1 x.2 { p.leave (sparePlane x.1 x.2) w 1 with calibrating := some w }).stepBegins c
    else s.stepBegins c
  else if kind = 3 then
    let t := index / 256
    let k := (s.bankSet t).banks.getD (index % 256) { Bank.fresh with inService := false }
    if !k.inService ∨ (s.bankSet t).banks.any (·.calibrating) ∨ !s.bankIdle t (index % 256) then s
    else (s.mapBank index (fun k => { k with calibrating := true })).stepBegins c
  else s

/-- CALIBRATION_STEP (R277). -/
def execCalibrationStep (at_ kind index : Nat) (s : State) : Host.Outcome State Fault Refusal :=
  .next ((s.advance at_).calStep kind index)

/-- A channel's step is over: its ring returns, its bank is free. -/
def State.releaseChannel (s : State) (kind index : Nat) : State :=
  let s := s.putChannel { s.calChannel kind index with busy := false }
  if (kind = 1 ∨ kind = 2) ∧ ringPlane index < 5 then
    let x := ringPair kind index
    let p := s.linkPair x.1 x.2
    if p.calibrating = some (ringPlane index) ∧ ringPlane index = sparePlane x.1 x.2 ∧ p.spare = 3 ∧ !p.dead.contains (ringPlane index) then
      s.setPair x.1 x.2 { p with spare := 0, calibrating := none }
    else s.returnWavelength x.1 x.2 (ringPlane index)
  else if kind = 3 then s.mapBank index (fun k => { k with calibrating := false })
  else s

/-- A whole set becomes active in one tick (R280, R282): a bank's next load is then a full one (R272). -/
def State.activateSet (s : State) (kind index : Nat) (set_ : List Byte) : State :=
  let c := s.calChannel kind index
  let s := s.putChannel { c with active := set_, prev := c.active }
  if kind = 3 then s.mapBank index (fun k => { k with image := none }) else s

/-- A commit of the same channel is due at this tick: it wins over the end of a step (R284). -/
def State.commitDue (s : State) (kind index : Nat) : Bool :=
  decide (s.base.commitSt = 1) && decide (s.base.commitKind = kind) && decide (s.base.commitIndex = index) && decide (s.base.commitTick ≤ s.now)

/-- Thermal band of a channel's tower or field (Table WB-6); lanes and regulators without a tower go by the hub's field. -/
def State.channelBand (s : State) (kind index : Nat) : Nat :=
  if kind = 3 then (s.tower (index / 256)).band
  else if kind = 5 ∧ index < 40 then (s.tower (domainTower index)).band
  else s.power.fieldBand.getD (if kind ≤ 2 then channelField kind index else siteField 20) 0

/-- The set the engine captures: `content` under a header of this tick (R280, Table WB-6). -/
def State.captureSet (s : State) (kind index : Nat) (content : List Byte) : List Byte :=
  makeSet s.ident.bind kind (s.channelBand kind index) index s.now content

/-- The engine commits a result of its own through the shadow (R284). -/
def State.engineCommit (s : State) (kind index : Nat) (result : List Byte) : State :=
  let b := s.captureSet kind index result
  ((s.putChannel { s.calChannel kind index with shadow := some b }).activateSet kind index b).mapBase (fun b => { b with engineTick := some s.now })

/-- Set-point trim of a regulator's content. -/
def trimOf (content : List Byte) : Nat := leAt content 0 2 % 1024

/-- A regulator's set point moves by one step at most (Table WB-4). -/
def oneStep (c : CalChannel) (result : List Byte) : Bool :=
  decide (trimOf result ≤ trimOf (c.active.drop 32) + 1) && decide (trimOf (c.active.drop 32) ≤ trimOf result + 1)

/-- A background step ends and commits its result, the content of the captured set (R277, R284); the taps of a SerDes lane and the steps of a
regulator come with no outage, each at its own time. The engine commits one whole channel per tick: a second step that ends in a tick
ends in a later one. -/
def State.calStepEnd (s : State) (kind index : Nat) (result : List Byte) : State :=
  let c := s.calChannel kind index
  if result.length + 32 ≠ setLength kind ∨ !channelExists kind index ∨ s.commitDue kind index ∨ s.base.engineTick = some s.now then s
  else if kind = 4 ∨ kind = 5 then
    if s.stepDue c && (kind == 4 || oneStep c result) then
      (s.putChannel { c with last := some s.now }).engineCommit kind index result
    else s
  else if !c.busy then s
  else
    (((s.engineCommit kind index result).releaseChannel kind index).markLock kind index).mapBase (fun b => { b with stepsDone := b.stepsDone + 1 })

/-- CALIBRATION_STEP_END (R277, R284). -/
def execCalibrationStepEnd (at_ kind index : Nat) (result : List Byte) (s : State) : Host.Outcome State Fault Refusal :=
  .next ((s.advance at_).calStepEnd kind index result)

/-! ## Restores (R281 to R284) -/

/-- Kind and index of the PCIe view of D:8400. -/
def State.calWindow (s : State) : Nat × Nat := (kvGet s.dict.pcie.sels 0x840001 1, kvGet s.dict.pcie.sels 0x840002 0)

/-- A write of D:8400.06 (R281): the commit is of the window's channel, to which its shadow set has been written. -/
def commitArmProc (tick : Nat) (s : State) : Nat × State :=
  let w := s.calWindow
  checked
    [(decide (tick < s.now + 10000), stateAbort 0x8400 7), (decide (s.base.commitSt = 1), stateAbort 0x8400 3),
     ((s.calChannel w.1 w.2).shadow.isNone, stateAbort 0x8400 4)]
    (fun s => s.mapBase (fun b => { b with commitTick := tick, commitSt := 1, commitKind := w.1, commitIndex := w.2 })) s

/-- COMMIT_ARM (R281). -/
def execCommitArm (at_ tick : Nat) (s : State) : Host.Outcome State Fault Refusal :=
  .next ((s.advance at_).pcieWrite 0x8400 0x06 (commitArmProc tick))

/-- A 16-bit word of a set has a bit above bit 9 set. -/
def wordOver (bytes : List Byte) (off top : Nat) : Bool := decide (2 ^ top ≤ leAt bytes off 2)

/-- A reserved bit of a set is set (Tables WB-6, WB-7). -/
def setReserved (kind : Nat) (b : List Byte) : Bool :=
  decide (leAt b 5 3 / 8 ≠ 0) || decide (leAt b 20 8 ≠ 0) ||
    (if kind = 1 then wordOver b 32 12 || wordOver b 34 10 || decide (leAt b 38 2 ≠ 0)
     else if kind = 2 then wordOver b 32 12 || decide (leAt b 38 2 ≠ 0)
     else if kind = 3 then decide (leAt b 50 14 ≠ 0) || (List.range 64).any (fun i => wordOver b (8256 + 2 * i) 10)
     else if kind = 5 then wordOver b 32 10 || decide (leAt b 34 14 ≠ 0)
     else false)

/-- The CRC of a set, computed with its field as zero. -/
def setCrc (b : List Byte) : Nat := crc32c (b.take 28 ++ [0, 0, 0, 0] ++ b.drop 32)

/-- A write of D:8400.05 (R281). -/
def shadowProc (b : List Byte) (s : State) : Nat × State :=
  let w := s.calWindow
  checked
    [(decide (b.length ≠ setLength w.1), 0x04000006), (decide (leAt b 28 4 ≠ setCrc b), 0x04000005),
     (decide (leAt b 0 4 ≠ s.ident.bind), 0x04000005), (setReserved w.1 b, 0x04000002), (s.channelAbsent w.1 w.2, 0x04000004),
     (decide (s.base.commitSt = 1), stateAbort 0x8400 3),
     (decide (leAt b 4 1 ≠ w.1) || decide (leAt b 8 4 ≠ w.2), stateAbort 0x8400 5)]
    (fun s => s.putChannel { s.calChannel w.1 w.2 with shadow := some b }) s

/-- SHADOW_SET_WRITE (R281). -/
def execShadowSetWrite (at_ : Nat) (bytes : List Byte) (s : State) : Host.Outcome State Fault Refusal :=
  .next ((s.advance at_).pcieWrite 0x8400 0x05 (shadowProc bytes))

/-- Another ring of the site is standing in for a lock loss (R282). -/
def State.lockLossAt (s : State) (site : Nat) : Bool :=
  s.base.pairs.any (fun p => (p.1 / 32 == site || p.1 % 32 == site) && p.2.spare == 1 && p.2.calibrating.isNone)

/-- Another wavelength of a ring's pair is out of service, for a step or a commit of its own (R238). -/
def State.otherOut (s : State) (kind index : Nat) : Bool :=
  let x := ringPair kind index
  decide (ringPlane index < 5) && s.pairExists x.1 x.2 && (s.linkPair x.1 x.2).calibrating.any (fun w => w != ringPlane index)

/-- The channel of an armed commit can take its set at this tick (R282); one wavelength of a pair is out at a time (R238). -/
def State.commitReady (s : State) : Bool :=
  let b := s.base
  decide (b.commitSt = 1) && decide (b.commitTick ≤ s.now) && (s.calChannel b.commitKind b.commitIndex).shadow.isSome &&
    (if b.commitKind = 1 ∨ b.commitKind = 2 then !s.lockLossAt (ringSite b.commitIndex) && !s.otherOut b.commitKind b.commitIndex
     else if b.commitKind = 3 then !(s.tower (b.commitIndex / 256)).opticalRunning
     else true)

/-- A commit applies (R282, R284): a step on the channel is abandoned, a ring leaves service with its traffic on the stand-in,
or with its messages on the other bus (`State.busesTaken`), and the whole set becomes active. -/
def State.applyCommit (s : State) : State :=
  let kind := s.base.commitKind
  let index := s.base.commitIndex
  let c := s.calChannel kind index
  let s := if c.busy then
      (s.releaseChannel kind index).mapBase (fun b => { b with stepsAbandoned := b.stepsAbandoned + 1 })
    else s
  let s := if (kind = 1 ∨ kind = 2) ∧ ringPlane index < 5 then
      let x := ringPair kind index
      if s.pairExists x.1 x.2 then
        s.putPair x.1 x.2 { (s.linkPair x.1 x.2).leave (sparePlane x.1 x.2) (ringPlane index) 1 with calibrating := some (ringPlane index) }
      else s
    else s
  let s := s.activateSet kind index ((s.calChannel kind index).shadow.getD [])
  (s.mapBase (fun b => { b with commitSt := 2, appliedTick := s.now, commitChecks := b.commitChecks.filter (· != (kind, index)) ++ [(kind, index)] })).raiseVector 0

/-- COEFFICIENT_COMMIT (R282). -/
def execCoefficientCommit (at_ : Nat) (s : State) : Host.Outcome State Fault Refusal :=
  let s := s.advance at_
  .next (if s.commitReady then s.applyCommit else s)

/-- The engine verifies the channel that took its set first of those not yet verified (R283): it passes, or returns to its previous active
set. D:8400.07 keeps reading armed where another commit is. -/
def State.verifyCommit (s : State) (pass : Bool) : State :=
  match s.base.commitChecks with
  | [] => s
  | (kind, index) :: rest =>
    let s := s.mapBase (fun b => { b with commitChecks := rest })
    let c := s.calChannel kind index
    if pass then
      ((s.releaseChannel kind index).markLock kind index).mapBase (fun b => { b with restoresOk := b.restoresOk + 1 })
    else
      let s := ((s.activateSet kind index c.prev).releaseChannel kind index).mapBase (fun b =>
        { b with commitSt := if b.commitSt = 1 then 1 else 3, restoresBad := b.restoresBad + 1 })
      (s.logEv 0x0440 sevLogged unitBase 0 index).raiseVector 0

/-- COMMIT_VERIFY (R283). -/
def execCommitVerify (at_ : Nat) (pass : Bool) (s : State) : Host.Outcome State Fault Refusal :=
  .next ((s.advance at_).verifyCommit pass)

end Sys2Proof.Machine
end

