-- ==== Sys2Proof/Machine/Power.lean ====
section
/-! DEFINITION. Power delivery and thermal management: the commands of chapter 18 (R484 to R508). -/
namespace Sys2Proof.Machine

open Sys2Proof

/-! ## Input, converters, domains (R484 to R490) -/

/-- The hub falls silent: no frame and no heartbeat leaves it (R484). -/
def State.silence (s : State) : State :=
  (s.mapPair (fun p => { p with beating := false })).mapPorts (fun l => l.map (fun p => { p with queue := [], st := 0 }))

/-- A shutdown, treated as loss of input power: every domain is off (R484, Table PT-1). -/
def State.shutDown (s : State) : State :=
  (s.mapPower (fun p => { p with shutdown := true, inputUp := false, charged := false
                                 domains := p.domains.map (fun d => { d with st := 0 }) })).silence

/-- The input stays below 38.0 V or above 63.0 V for 10 µs (Table PT-1). -/
def inputLost (mv duration : Nat) : Bool := (decide (mv < 38000) || decide (63000 < mv)) && decide (10000 ≤ duration)

/-- The input lies outside 40.0 to 60.0 V. -/
def inputOut (mv : Nat) : Bool := decide (mv < 40000) || decide (60000 < mv)

/-- The input voltage reaches `mv` for `duration` ticks (R484). -/
def State.inputEvent (s : State) (mv duration : Nat) : State :=
  let s := s.mapPower (fun p => { p with inputmV := mv })
  if s.power.shutdown || !s.power.charged then s
  else if inputLost mv duration then s.shutDown
  else if inputOut mv then
    (s.mapPower (fun p => { p with inputEvents := p.inputEvents + 1 })).logEv 0x0B40 sevLogged unitModule 0 mv
  else s

/-- INPUT_VOLTAGE_EVENT (R484). -/
def execInputVoltageEvent (at_ millivolts duration : Nat) (s : State) : Host.Outcome State Fault Refusal :=
  .next ((s.advance at_).inputEvent millivolts duration)

/-- A first-stage converter fails: the others carry the load (R485); at a second failure the module has failed (R486). -/
def State.converterFails (s : State) (c : Nat) : State :=
  match s.power.converters[c]? with
  | none => s
  | some st =>
    if st = 2 then s.logEv 0x0B01 sevLogged unitModule c
    else
      let s := s.mapPower (fun p => { p with converters := setAt p.converters c 2 })
      let n := (s.power.converters.filter (· == 2)).length
      if n = 1 then s.logEv 0x0B01 sevLogged unitModule c
      else
        ((s.mapPower (fun p => { p with moduleFailed := true })).floorTargets.fullBallast (fun _ => true)).logEv 0x0B02
          (if n = 2 then sevModule else sevLogged) unitModule c

/-- CONVERTER_FAILURE (R485, R486). -/
def execConverterFailure (at_ unit : Nat) (s : State) : Host.Outcome State Fault Refusal := .next ((s.advance at_).converterFails unit)

/-- The hub has failed, an exception of R8 (R489, R504): silence. -/
def State.hubFails (s : State) : State := (s.mapPower (fun p => { p with hubFailed := true })).silence

/-- Result of a fault of domain `d` (R489). -/
def State.domainResult (s : State) (d : Nat) : State :=
  if d < 40 then
    let t := domainTower d
    let held := s.endsAt t
    let sev := if (s.tower t).mode = .failed ∨ (s.tower t).mode = .tripped then sevLogged else if held then sevWork else sevCapacity
    (s.logEv 0x0B03 sev t d).failTower t
  else if d < 42 then s.hubFails
  else if d < 46 then (s.logEv 0x0B03 sevCapacity (unitGuest ((d - 42) / 2)) d).guestOff ((d - 42) / 2)
  else if d = 46 then
    let s := (s.mapPower (fun p => { p with moduleFailed := true })).logEv 0x0B03 sevModule unitModule d
    ((List.range 20).foldl State.failTower s).endAll (fun _ => true) 0x85 20
  else s.shutDown

/-- A domain that is switched on faults: D:8002.08 counts it, and its state reads faulted (R489). -/
def State.domainFault (s : State) (d : Nat) : State :=
  if (s.domain d).st = 0 then s
  else
    let s := (s.domainResult d).mapPower (fun p =>
      { p with domains := modAt p.domains d (fun x => { x with st := 3, faults := x.faults + 1 }) })
    if s.dead then s else s.raiseEvent 11

/-- A fault of one region's regulator phases: the domain stays on, and the region is lost (R86). -/
def State.phaseFault (s : State) (d r : Nat) : State :=
  match supplyTower d with
  | some t => if (s.domain d).st = 0 then s else s.loseRegion t r
  | none => s

/-- DOMAIN_FAULT (R489); `region`: the fault lies in the phases of that region of the domain's tower alone (R86). -/
def execDomainFault (at_ : Nat) (supply : SupplyIn) (s : State) : Host.Outcome State Fault Refusal :=
  .next (match supply.region with
    | none => (s.advance at_).telling (fun s => s.domainFault supply.domain)
    | some r => (s.advance at_).telling (fun s => s.phaseFault supply.domain r))

/-- LASER_DRIVER_FAULT (R490): the module fails, handled as loss of light. -/
def execLaserDriverFault (at_ module : Nat) (s : State) : Host.Outcome State Fault Refusal := .next ((s.advance at_).lossOfLight module)

/-- An optical switch loses its supply and holds its paths (R490). -/
def State.switchDown (s : State) (weightBank : Bool) : State :=
  if weightBank then (s.mapBase (fun b => { b with bankSwitchDown := true })).raiseEvent 11
  else (s.mapBase (fun b => { b with linkSwitchDown := true })).raiseEvent 4

/-- SWITCH_SUPPLY_FAULT (R490). -/
def execSwitchSupplyFault (at_ : Nat) (weightBank : Bool) (s : State) : Host.Outcome State Fault Refusal :=
  .next ((s.advance at_).switchDown weightBank)

/-! ## Wear and boost (R500, R503) -/

/-- Region-ticks at full boost in a budget of 35,000 h, times 300,000 kHz: the unit of `boostWear`, over the tower's regions. -/
def wearUnit (t : Tower) : Nat := t.regions.length * 3600 * 10 ^ 9 * 300000

/-- D:8003.02: hours of full boost for all regions (R503). -/
def Tower.wearHours (t : Tower) : Nat := t.boostWear / wearUnit t

/-- D:8003.04: the wear ceiling for targets (R503). -/
def Tower.wearCeiling (t : Tower) : Nat :=
  if t.boostWear * 10 < 9 * 35000 * wearUnit t then 1800000
  else if t.boostWear < 35000 * wearUnit t then 1650000
  else 1500000

/-- Boost ceiling of a band in kHz (Table PT-4). -/
def bandCeiling (band : Nat) : Nat := if band ≤ 1 then 1800000 else if band = 2 then 1650000 else 1500000

/-- Wear of one power step: every region's ticks above the floor, weighted (R503). -/
def Tower.wear (t : Tower) : Tower :=
  { t with boostWear := t.boostWear + sumNat (t.regions.map (fun g => if g.st = .lost then 0 else 1000 * (g.target - 1500000))) }

/-- Unbooked chunks are queued on a tower. -/
def Tower.unbookedQueued (t : Tower) : Bool := t.queue.any (fun c => !c.booked)

/-- A tower has unbooked work. -/
def Tower.unbookedWork (t : Tower) : Bool := t.unbookedQueued || t.running.any (fun c => !c.booked) || t.ops.any (fun o => !o.booked)

/-- A target of `khz` may stand on a tower (R500). -/
def PowerSt.boostAllowed (p : PowerSt) (t : Tower) (khz : Nat) : Bool :=
  t.unbookedQueued && p.boost && decide (khz ≤ bandCeiling t.band) && decide (khz ≤ t.wearCeiling) &&
    (p.exSt != 2 || decide (p.watts ≤ p.cap)) && !p.coolHold && !p.moduleFailed

/-- The target firmware gives region `r`: what it asks for, or the present one; 1.5 GHz where R500 allows no more. -/
def PowerSt.targetOf (p : PowerSt) (t : Tower) (asked : Option Nat) (present : Nat) : Nat :=
  let k := asked.getD present
  if 1500000 < k ∧ p.boostAllowed t k then k else 1500000

/-- Firmware sets the region targets (R500). -/
def PowerSt.setTargets (p : PowerSt) (targets : List (Nat × Nat × Nat)) (towers : List Tower) : List Tower :=
  towers.zipIdx.map (fun t => { t.1 with regions := t.1.regions.zipIdx.map (fun g =>
    g.1.retarget (p.targetOf t.1 ((targets.find? (fun x => x.1 == t.2 && x.2.1 == g.2)).map (·.2.2)) g.1.target)) })

/-! ## The power controller (R491 to R494, R502) -/

/-- D:8000.08: the excursion allowance at an inlet temperature (R494): what the thermal model predicts, at least what Table PT-3 lets the
board count on, and at most 20 ms. -/
def allowance (inlet : Int) : Nat :=
  if inlet ≤ 300 then 20000000
  else if inlet ≤ 350 then max 12000000 (min 20000000 (Config.excursionModel inlet))
  else if inlet ≤ 400 then max 5000000 (min 20000000 (Config.excursionModel inlet))
  else min 5000000 (Config.excursionModel inlet)

/-- Telemetry of a power step (R491): domain currents and powers, input power, its mean over 1 ms. -/
def PowerSt.telemetry (p : PowerSt) (now watts mv : Nat) (currents : List Nat) : PowerSt :=
  let hist := (watts :: p.wattHist).take 1000
  { p with
    inputmV := mv, watts, wattHist := hist, mean := sumNat hist / hist.length, powerTick := some now
    domains := p.domains.zipIdx.map (fun d =>
      let c := currents.getD d.2 0
      let w := c * d.1.setmV / 100000
      { d.1 with current := c, power := w, energy := d.1.energy + w }) }

/-- The excursion state at a power step (R493): no excursion begins in a hold-off, under a lower cap, without an allowance or
while R508 holds. -/
def PowerSt.excursion (p : PowerSt) (now : Nat) : PowerSt :=
  if p.exSt = 1 then
    if p.watts ≤ 16000 then { p with exSt := 2, holdUntil := now + 200000000 } else p
  else if p.exSt = 0 ∧ p.cap = 16000 ∧ 16000 < p.watts ∧ 0 < allowance p.inlet ∧ p.coolHold = false then
    { p with exSt := 1, exCount := p.exCount + 1, exLeft := now + allowance p.inlet }
  else p

/-- What the input may draw now: the cap, 19,000 W in an excursion whose allowance is not spent. -/
def PowerSt.limit (p : PowerSt) (now : Nat) : Nat :=
  if p.cap = 16000 ∧ p.exSt = 1 ∧ now < p.exLeft then 19000 else p.cap

/-- Index of the element with the greatest key among those for which `p` holds; the lowest of equals. -/
def argmax {α : Type} (l : List α) (p : α → Bool) (key : α → Nat) : Option Nat :=
  (l.zipIdx.foldl (fun best a =>
    if !p a.1 then best
    else match best with
      | none => some (a.2, key a.1)
      | some b => if b.2 < key a.1 then some (a.2, key a.1) else best) none).map (·.1)

def Tower.lowerBoost (t : Tower) : Tower :=
  { t with regions := t.regions.map (fun g => g.retarget (max 1500000 (g.target - 50000))) }

def Tower.boosted (t : Tower) : Bool := t.regions.any (fun g => decide (1500000 < g.target))

/-- Steps 2 to 4 of R502 on the towers; `unbooked`: watts that each tower's unbooked work draws. -/
def powerControl (above calm : Bool) (unbooked : List Nat) (towers : List Tower) : List Tower :=
  let down :=
    if !above then towers
    else if towers.any Tower.boosted then towers.map Tower.lowerBoost
    else
      match argmax towers.zipIdx (fun t => decide (t.1.ballast < 15) && decide (0 < unbooked.getD t.2 0)) (fun t => unbooked.getD t.2 0) with
      | some i => modAt towers i (fun t => { t with ballast := t.ballast + 1 })
      | none => towers
  if !calm then down
  else
    match argmax down (fun t => decide (t.temp < 1050) && decide (0 < t.ballast)) (fun t => t.ballast) with
    | some i => modAt down i (fun t => { t with ballast := t.ballast - 1 })
    | none => down

/-- Wear of one power step of a module that is lit: its drive in 0.1 % of the limit (R257). A spare draws none (R490). -/
def Laser.age (l : Laser) : Laser := if 1 ≤ l.st ∧ l.st ≤ 3 then { l with wear := l.wear + l.drive } else l

/-- A power step (R257, R491, R493, R500, R502, R503). -/
def State.powerStep (s : State) (watts mv : Nat) (currents : List Nat) (targets : List (Nat × Nat × Nat)) (unbooked : List Nat) : State :=
  if s.power.powerTick.any (fun t => decide (s.now < t + 1000)) then s
  else
    let s := s.mapPower (fun p => (p.telemetry s.now watts mv currents).excursion s.now)
    let s := s.mapTowers (fun l => s.power.setTargets targets (l.map Tower.wear))
    let s := if s.domainOn 46 then s.mapBase (fun b => { b with lasers := b.lasers.map Laser.age }) else s
    let s := s.fullBallast (fun t => decide (1050 ≤ t.temp))
    let calm := decide (watts + 500 ≤ s.power.cap)
    let s := s.mapPower (fun p => { p with calmSteps := if calm then p.calmSteps + 1 else 0 })
    s.mapTowers (powerControl (decide (s.power.limit s.now < watts)) (decide (100 ≤ s.power.calmSteps) && !s.power.coolHold) unbooked)

/-- POWER_STEP (R491, R500, R502). -/
def execPowerStep (at_ inputWatts inputMillivolts : Nat) (currents : List Nat) (targets : List (Nat × Nat × Nat))
    (unbookedWatts : List Nat) (s : State) : Host.Outcome State Fault Refusal :=
  .next ((s.advance at_).powerStep inputWatts inputMillivolts currents targets unbookedWatts)

/-- The excursion allowance is spent (R493). -/
def State.allowanceSpent (s : State) : State :=
  if s.power.exSt = 1 ∧ s.power.exLeft ≤ s.now then s.floorTargets.fullBallast Tower.unbookedWork else s

/-- EXCURSION_ALLOWANCE (R493). -/
def execExcursionAllowance (at_ : Nat) (s : State) : Host.Outcome State Fault Refusal := .next ((s.advance at_).allowanceSpent)

/-- HOLD_OFF_END (R493). -/
def execHoldOffEnd (at_ : Nat) (s : State) : Host.Outcome State Fault Refusal :=
  let s := s.advance at_
  .next (if s.power.exSt = 2 ∧ s.power.holdUntil ≤ s.now then s.mapPower (fun p => { p with exSt := 0 }) else s)

/-- BALLAST_PAUSE_END (R501): an unbooked operator that waited becomes eligible. -/
def execBallastPauseEnd (at_ tower : Nat) (s : State) : Host.Outcome State Fault Refusal :=
  let s := s.advance at_
  .next (if (s.tower tower).ballastUntil ≤ s.replica tower then s.schedule tower else s)

/-! ## The thermal model (R495 to R499) -/

/-- The temperature that judges a tower's band and trip (R496). -/
def Tower.judged (t : Tower) : Int := if t.useDiode then t.diode + 20 else t.temp

/-- Lower bounds of the bands (Table PT-4), in 0.1 °C. -/
def bandBound (b : Nat) : Int := if b ≤ 1 then 600 else if b = 2 then 850 else 1000

/-- One evaluation of a band (R497): one step, up at the bound, down 3.0 °C below it. -/
def nextBand (b : Nat) (temp : Int) : Nat :=
  if b < 3 ∧ bandBound (b + 1) ≤ temp then b + 1
  else if 0 < b ∧ temp ≤ bandBound b - 30 then b - 1
  else b

/-- D:8101.07 of a unit. -/
def State.tripOf (s : State) (u : Nat) : Nat :=
  if u < 20 then (s.tower u).tripState else if u = 20 then s.power.hubTrip else s.power.guestTrip.getD (u - 21) 0

/-- A tower trips at the first tick that reads 120.0 °C or more (R504); `was`: the reading before. A tripped tower does not trip
again, and on a FAILED tower only the rise is logged (R513). -/
def State.tripReached (s : State) (t : Nat) (was read : Int) : State :=
  if read < 1200 ∨ s.tripOf t ≠ 0 then s
  else if (s.tower t).mode = .failed ∧ 1200 ≤ was then s
  else s.tripTower t

/-- A model step of tower `t` (R497, R499, R504). -/
def State.modelStep (s : State) (t : Nat) (temp : Int) : State :=
  if 20 ≤ t then s
  else
    let was := (s.tower t).judged
    let s := s.mapTower t (fun x => { x with temp })
    let s := s.mapTower t (fun x => { x with band := nextBand x.band x.judged, ballast := if 1050 ≤ temp then 15 else x.ballast })
    let s := if t < 16 then s.mapPower (fun p => { p with fieldBand := setAt p.fieldBand t (s.tower t).band }) else s
    let s :=
      if temp < 1100 then s.mapTower t (fun x => { x with over110 := false })
      else if (s.tower t).over110 then s
      else (s.mapTower t (fun x => { x with over110 := true, overTemps := x.overTemps + 1 })).raiseEvent 12
    s.tripReached t was (s.tower t).judged

/-- MODEL_STEP (R495, R497, R499). -/
def execModelStep (at_ tower : Nat) (temp : Int) (s : State) : Host.Outcome State Fault Refusal :=
  .next ((s.advance at_).telling (fun s => s.modelStep tower temp))

/-- The hottest of a die's diodes. -/
def hottest (l : List Int) : Option Int :=
  match l with
  | [] => none
  | a :: rest => some (rest.foldl max a)

/-- The diodes of unit `u` (D:8101.01) are read: towers, 20 the hub, 21 and 22 the guests. -/
def State.readDiode (s : State) (u : Nat) (h : Int) : State :=
  if u < 20 then s.mapTower u (fun x => { x with diode := h })
  else if u = 20 then s.mapPower (fun p => { p with hubDiode := h })
  else s.mapPower (fun p => { p with guestDiode := setAt p.guestDiode (u - 21) h })

/-- An anchor (R496): the difference is added to the tower's nodes; beyond 5.0 °C the diodes judge the tower. It trips where that brings it
to 120.0 °C (R504). -/
def State.anchor (s : State) (u : Nat) (diodes : List Int) : State :=
  match hottest diodes with
  | none => s
  | some h =>
    let s := s.readDiode u h
    if 20 ≤ u then s
    else
      let diff := h - (s.tower u).temp
      let was := (s.tower u).judged
      let s := s.mapTower u (fun x => { x with anchorCorr := diff, temp := x.temp + diff, useDiode := decide (50 < diff.natAbs) })
      let s := if 50 < diff.natAbs then s.raiseEvent 12 else s
      s.tripReached u was (s.tower u).judged

/-- ANCHOR (R496). -/
def execAnchor (at_ unit : Nat) (diodes : List Int) (s : State) : Host.Outcome State Fault Refusal :=
  .next ((s.advance at_).telling (fun s => s.anchor unit diodes))

/-! ## The hardware trip (R504 to R507) -/

/-- Tick from which a unit's diodes have read below 80.0 °C (D:8101.0A). -/
def State.belowOf (s : State) (u : Nat) : Option Nat :=
  if u < 20 then (s.tower u).belowSince else s.power.guestBelow.getD (u - 20) none

def State.setTrip (s : State) (u st : Nat) (since : Option Nat) : State :=
  if u < 20 then s.mapTower u (fun x => { x with tripState := st, belowSince := since })
  else if u = 20 then s.mapPower (fun p => { p with hubTrip := st, guestBelow := setAt p.guestBelow 0 since })
  else s.mapPower (fun p => { p with guestTrip := setAt p.guestTrip (u - 21) st, guestBelow := setAt p.guestBelow (u - 20) since })

/-- The hub or a guest trips on its diodes (R504). -/
def State.tripOther (s : State) (u : Nat) : State :=
  let s := (s.setTrip u 1 none).mapPower (fun p => { p with guestTrips := modAt p.guestTrips (u - 20) (· + 1) })
  if u = 20 then s.hubFails
  else ((s.logEv 0x0C01 sevCapacity (unitGuest (u - 21))).raiseEvent 12).guestOff (u - 21)

/-- The diodes of a tripped unit against 80.0 °C (R507). -/
def State.trackRestart (s : State) (u : Nat) (h : Int) : State :=
  if s.tripOf u = 0 then s
  else if 800 ≤ h then s.setTrip u 1 none
  else if s.tripOf u = 1 then s.setTrip u 2 (some s.now)
  else s

/-- A unit with diodes that stands in the module. -/
def State.hasDiodes (s : State) (u : Nat) : Bool := decide (u ≤ 20) || (u == 21 && s.hasGuest 0) || (u == 22 && s.hasGuest 1)

/-- The comparator samples the diodes of unit `u` (R504, R507). -/
def State.diodeSample (s : State) (u : Nat) (diodes : List Int) : State :=
  match hottest diodes with
  | none => s
  | some h =>
    if !s.hasDiodes u then s
    else
      let was := max (s.tower u).diode (s.tower u).judged
      let s := (s.readDiode u h).trackRestart u h
      if s.tripOf u ≠ 0 then s
      else if u < 20 then s.tripReached u was (max h (s.tower u).judged)
      else if 1200 ≤ h then s.tripOther u else s

/-- DIODE_SAMPLE (R504, R507). -/
def execDiodeSample (at_ unit : Nat) (diodes : List Int) (s : State) : Host.Outcome State Fault Refusal :=
  .next ((s.advance at_).telling (fun s => s.diodeSample unit diodes))

/-- A domain of a tripped tower is switched off (R505): the logic domain first, then the memory domain, whose contents are lost. -/
def State.tripOff (s : State) (t : Nat) : State :=
  if 20 ≤ t ∨ (s.tower t).mode ≠ .tripped then s
  else if s.domainOn (logicDomain t) then (s.emptyTower t).setDomain (logicDomain t) 0
  else if s.domainOn (memDomain t) then ((s.coldLoss t).mapTower t (fun x => { x with gates := 0 })).setDomain (memDomain t) 0
  else s

/-- TRIP_DOMAIN_OFF (R505). -/
def execTripDomainOff (at_ tower : Nat) (s : State) : Host.Outcome State Fault Refusal := .next ((s.advance at_).tripOff tower)

/-- The restart hold of a unit is over (R507). -/
def State.holdOver (s : State) (u : Nat) : State :=
  match s.belowOf u with
  | some b => if s.tripOf u = 2 ∧ b + 10000000000 ≤ s.now then s.setTrip u 3 (some b) else s
  | none => s

/-- RESTART_HOLD (R507). -/
def execRestartHold (at_ unit : Nat) (s : State) : Host.Outcome State Fault Refusal := .next ((s.advance at_).holdOver unit)

/-- The unit selected for D:8101. -/
def thermalKey : Nat := 0x810101

/-- A write of D:8101.09 (R507): a tower whose restart is allowed runs a cold reset. -/
def restartProc (value : Nat) (s : State) : Nat × State :=
  let u := kvGet s.dict.pcie.sels thermalKey 0
  checked [(decide (1 < value), 0x04000003), (decide (20 ≤ u) || s.tripOf u != 3, stateAbort 0x8101 4)]
    (fun s => if value = 1 then (s.setTrip u 0 none).beginTowerReset u true else s) s

/-- RESTART (R507). -/
def execRestart (at_ value : Nat) (s : State) : Host.Outcome State Fault Refusal :=
  .next ((s.advance at_).pcieWrite 0x8101 0x09 (restartProc value))

/-! ## Coolant (R508) -/

/-- Since when a limit has been broken. -/
def brokenSince (bad : Bool) (since : Option Nat) (now : Nat) : Option Nat := if bad then some (since.getD now) else none

def spent (since : Option Nat) (now : Nat) : Bool := since.any (fun t => decide (t + 1000000 ≤ now))

/-- The coolant readings (R508): a limit broken for 1,000,000 tk starts the hold, both kept for as long end it. -/
def State.coolant (s : State) (inlet outlet : Int) (flow : Nat) : State :=
  let i := decide (400 < inlet)
  let f := decide (flow < 140)
  let s := s.mapPower (fun p =>
    { p with inlet, outlet, flow, inletBad := brokenSince i p.inletBad s.now, flowBad := brokenSince f p.flowBad s.now
             coolGood := brokenSince (!i && !f) p.coolGood s.now })
  if !s.power.coolHold && (spent s.power.inletBad s.now || spent s.power.flowBad s.now) then
    ((s.mapPower (fun p => { p with coolHold := true })).floorTargets.fullBallast (fun _ => true)).logEv 0x0C02 sevLogged unitBase
  else if s.power.coolHold && spent s.power.coolGood s.now then s.mapPower (fun p => { p with coolHold := false })
  else s

/-- COOLANT_LIMIT (R508). -/
def execCoolantLimit (at_ : Nat) (inlet outlet : Int) (flow : Nat) (s : State) : Host.Outcome State Fault Refusal :=
  .next ((s.advance at_).coolant inlet outlet flow)

end Sys2Proof.Machine
end

