-- ==== Sys2Proof/Machine/Bringup.lean ====
section
/-! DEFINITION. Power-up, firmware and resets: the commands of chapter 20 up to the guest reset (R520 to R532, R572). -/
namespace Sys2Proof.Machine

open Sys2Proof

/-! ## Power-up (R520 to R523, R572) -/

/-- INPUT_CHARGED (R572): the input capacitance is charged; a module that was without power starts at power-on state. -/
def execInputCharged (at_ : Nat) (s : State) : Host.Outcome State Fault Refusal :=
  let s := s.advance at_
  .next (if s.power.shutdown || !s.power.charged then s.powerOn else s)

/-- Domains in the order of Table BR-1 and the list below it; domain 47 is never switched. -/
def domainOrder : List Nat :=
  [46, 40, 41] ++ (List.range 20).flatMap (fun t => [memDomain t, logicDomain t]) ++ [42, 43, 44, 45]

/-- The power-up sequence still has to switch domain `d` on: a tower's only while the tower is OFF, a guest's only where the site is
populated and not fenced by its site state. -/
def State.domainWaits (s : State) (d : Nat) : Bool :=
  decide ((s.domain d).st = 0) &&
    (if d < 40 then decide ((s.tower (domainTower d)).mode = .off)
     else if d < 42 then true
     else if d < 46 then s.hasGuest ((d - 42) / 2) && !s.base.guestSiteFence.getLsbD ((d - 42) / 2)
     else true)

/-- The next domain of the sequence. -/
def State.nextDomain (s : State) : Option Nat := domainOrder.find? s.domainWaits

/-- At most one domain per 100,000 tk, after charging and a valid REFCLK (R488, R520). -/
def State.sequencerFree (s : State) : Bool :=
  s.power.charged && s.time.started && !s.power.shutdown && s.power.lastOn.all (fun t => decide (t + 100000 ≤ s.now))

/-- What a domain brings with it: layer gates, a tower's training, the straps (R585), the hold of GRST_L (R523). -/
def State.domainComesOn (s : State) (d straps : Nat) : State :=
  if d = 41 then s.mapBoot (fun b => { b with straps := BitVec.ofNat 4 straps })
  else if d = 43 ∨ d = 45 then s.holdGuest ((d - 42) / 2)
  else if d < 40 then
    let t := domainTower d
    s.mapTower t (fun x => if d = memDomain t then { x with gates := x.allGates } else { x with mode := .training })
  else s

/-- The sequencer switches a domain on (R488, R520). -/
def State.switchOn (s : State) (d straps : Nat) : State :=
  if s.sequencerFree && decide (s.nextDomain = some d) then
    (((s.setDomain d 2).mapPower (fun p => { p with lastOn := some s.now })).domainComesOn d straps)
  else s

/-- DOMAIN_SWITCH_ON (R520). -/
def execDomainSwitchOn (at_ domain straps : Nat) (s : State) : Host.Outcome State Fault Refusal :=
  .next ((s.advance at_).switchOn domain straps)

/-- The copy of layer `l` in slot A or B: what has been staged there, or what was delivered. -/
def BootSt.copy (b : BootSt) (l : Nat) (slotB : Bool) : FwCopy :=
  let c := b.copies.getD (l - 1) (none, none)
  ((if slotB then c.2 else c.1)).getD { svn := (Config.deliveredSvn l).toNat, raise := false, hash := (Config.deliveredHash l).toNat }

/-- D:1021.07 to D:1021.09: copy B of layer `l` is the running one. -/
def BootSt.runsB (b : BootSt) (l : Nat) : Bool := b.running.getD (l - 1) false

def BootSt.setRunning (b : BootSt) (l : Nat) (slotB : Bool) : BootSt := { b with running := setAt b.running (l - 1) slotB }

/-- The vault measures the running copy of layer `l` (R403). -/
def State.measureLayer (s : State) (l : Nat) : State :=
  let c := s.boot.copy l (s.boot.runsB l)
  s.mapVault (fun v =>
    { v with measures := v.measures.filter (fun m => !(m.kind == 1 && m.index == l)) ++
        [{ kind := 1, pend := false, index := l, version := c.svn, tick := s.now, hash := c.hash }] })

/-- Guest records are measured as stored at manufacture (R404, R441). -/
def State.measureGuests (s : State) : State :=
  s.mapVault (fun v =>
    { v with measures := v.measures.filter (fun m => m.kind != 3) ++ ([0, 1].filter s.hasGuest).map (fun g =>
        let rec_ := if g = 0 then s.ident.guestRec0 else s.ident.guestRec1
        { kind := 3, pend := false, index := guestSite g, version := rec_, tick := s.now, hash := (Config.digest [rec_]).toNat }) })

/-- A verified layer is measured and runs (R401, R403, R521). With layer 2 the dictionary is served and the PCIe link trains; with
layer 3 a release key is derived and the base is ready. -/
def State.layerRuns (s : State) (l : Nat) : State :=
  let s := ((s.measureLayer l).mapVault (fun v => { v with secrets := v.secrets + 1 })).mapBoot (fun b => { b with layers := l })
  if l = 2 then (s.setModState 2).mapDict (fun d => { d with pcieUp := d.perst })
  else if l = 3 then
    ((s.mapVault (fun v => { v with releaseGen := v.releaseGen + 1, reportHashes := [] })).measureGuests.mapBoot (fun b =>
      { b with baseReady := true })).reloadDone 64
  else s

/-- Both copies of a layer fail (R521): the recovery state. -/
def State.recover (s : State) : State :=
  ((s.mapBoot (fun b => { b with recovery := true, bootFails := b.bootFails + 1 })).setModState 1).mapDict (fun d => { d with pcieUp := d.perst })

/-- An activated copy has not started (R528): the previous copy runs again. -/
def State.activationFails (s : State) (l : Nat) : State :=
  let s := s.mapBoot (fun b => { b.setRunning l (!b.runsB l) with activating := none, stageSt := 0, busyUntil := s.now })
  (s.mapVault (fun v => { v with pendingLayers := [], reloading := if l = 3 then [] else v.reloading }.remode)).logEv 0x0B03 sevLogged unitHub

/-- An activated copy of layer 2 or 3 has been verified and runs (R528). -/
def State.activationRuns (s : State) (l : Nat) : State :=
  let s := (s.measureLayer l).mapBoot (fun b => { b with activating := none, stageSt := 0, busyUntil := s.now })
  s.mapVault (fun v => { v with pendingLayers := [] }.remode)

/-- A layer is read; `okA` and `okB` are the verdicts on its copies (R521, R525). The running copy is read first. -/
def State.bootLayer (s : State) (l : Nat) (okA okB : Bool) : State :=
  let b := s.boot.runsB l
  let first := if b then okB else okA
  let second := if b then okA else okB
  if s.dead || decide (l < 1 ∨ 3 < l) || !s.domainOn 40 then s
  else
    match s.boot.activating with
    | some (a, _) => if a ≠ l then s else if first then s.activationRuns l else s.activationFails l
    | none =>
      if s.boot.recovery || decide (l ≠ s.boot.layers + 1) then s
      else if first then s.layerRuns l
      else if second then (s.mapBoot (fun x => x.setRunning l (!b))).layerRuns l
      else s.recover

/-- BOOT_LAYER (R521). -/
def execBootLayer (at_ layer : Nat) (okA okB : Bool) (s : State) : Host.Outcome State Fault Refusal :=
  .next ((s.advance at_).bootLayer layer okA okB)

/-- Self-test findings of a tower: faulted tiles, then a fault of the scheduler, scoreboard or write gate (R522). -/
def State.selfTest (s : State) (t : Nat) (faults : List (Nat × Nat)) (otherFault : Bool) : State :=
  let s := faults.foldl (fun s f => s.faultTile t f.1 f.2) s
  if otherFault then s.failTower t else s

/-- A tower has run the steps of R522: it is READY, or FAILED under R104. -/
def State.towerComesUp (s : State) (t : Nat) (faults : List (Nat × Nat)) (wires : List (Nat × Nat × Nat)) (otherFault : Bool) : State :=
  if 20 ≤ t ∨ (s.tower t).mode ≠ .training ∨ (s.tower t).resetState ≠ .idle ∨ (s.tower t).heldInReset ∨ (s.tower t).waiting ∨ s.boot.baseReady = false then s
  else
    let s := ((s.trainChannels t (if (s.tower t).isCache then 4 else 3) [] false).trainStacks t).failWires t wires
    let s := s.selfTest t faults otherFault
    let s := s.mapTower t (fun x => x.enterRegions (s.replica t / 1024))
    (if (s.tower t).mode = .training then s.mapTower t (fun x => { x with mode := .ready }) else s).checkReady

/-- TOWER_READY (R522, R523). -/
def execTowerReady (at_ tower : Nat) (faults : List (Nat × Nat)) (wiresFailed : List (Nat × Nat × Nat)) (otherFault : Bool) (s : State) :
    Host.Outcome State Fault Refusal :=
  .next ((s.advance at_).towerComesUp tower faults wiresFailed otherFault)

/-! ## Firmware images (R525 to R528) -/

namespace Image

def format (i : ImageIn) : Nat := leAt i.header 0 1
def layer (i : ImageIn) : Nat := leAt i.header 1 1
def raise (i : ImageIn) : Bool := bit (leAt i.header 2 1) 0
def svn (i : ImageIn) : Nat := leAt i.header 4 4
def bodyLen (i : ImageIn) : Nat := leAt i.header 8 4
def npart (i : ImageIn) : Nat := leAt i.header 12 4

/-- Check 2: FORMAT, LAYER, reserved bits or the length written. -/
def malformed (i : ImageIn) : Bool :=
  i.header.length != 256 || format i != 1 || decide (layer i < 1 ∨ 3 < layer i) || decide (1 < leAt i.header 2 2) || leAt i.header 64 192 != 0
    || decide (bodyLen i < 1 ∨ 67104768 < bodyLen i) || (layer i != 3 && npart i != 0) || i.length != 256 + bodyLen i + 3373

/-- Kind of part `n` of the part table. -/
def partKind (i : ImageIn) (n : Nat) : Nat := leAt i.parts (128 * n) 1

/-- Reserved octets of part `n` are zero (R526). -/
def partClean (i : ImageIn) (n : Nat) : Bool :=
  leAt i.parts (128 * n + 1) 7 == 0 && leAt i.parts (128 * n + 24) 40 == 0 && leAt i.parts (128 * n + 64) 16 == 0

/-- Check 7: the part table of a layer 3 image holds each of the five kinds once (R526). -/
def badParts (i : ImageIn) : Bool :=
  npart i != 5 || decide (i.parts.length < 640) || !(List.range 5).all (fun n => partClean i n)
    || !((List.range 5).map (· + 1)).all (fun k => (List.range 5).any (fun n => partKind i n == k))

end Image

/-- D:1020.01. -/
def stageLayerKey : Nat := 0x102001
def State.stageLayer (s : State) : Nat := kvGet s.dict.held stageLayerKey 1

/-- Number of the first check of Table BR-3 that fails, or 0. -/
def State.stageCheck (s : State) (i : ImageIn) : Nat :=
  firstAbort
    [(decide (s.vault.mode = .erased) || decide (s.vault.pendingLayers ≠ []), 1), (Image.malformed i, 2),
     (Image.layer i != s.stageLayer, 3), (!i.sigOk || s.vault.anchors.getD 0 0 == 0, 4), (!i.bodyOk, 5),
     (decide (Image.svn i < s.boot.minSvn.getD (Image.layer i - 1) 0), 6), (Image.layer i == 3 && Image.badParts i, 7)]

/-- The copy an image makes; its measurement stands for the SHA-384 of header and body. -/
def Image.copy (i : ImageIn) : FwCopy :=
  { svn := Image.svn i, raise := Image.raise i, hash := (Config.digest (i.header.map (·.toNat))).toNat }

/-- A passing image replaces the copy that does not run and is pending (R406, R527). -/
def State.stage (s : State) (i : ImageIn) : State :=
  let l := Image.layer i
  let c := Image.copy i
  let s := s.mapBoot (fun b =>
    { b with copies := modAt b.copies (l - 1) (fun p => if b.runsB l then (some c, p.2) else (p.1, some c)), pending := some (l, c), stageSt := 2
             stageCheck := 0, marked := b.marked && l != 1 })
  (s.mapVault (fun v =>
    { v with pendingLayers := [{ kind := 1, pend := true, index := l, version := c.svn, tick := s.now, hash := c.hash }] }.remode)).raiseVector 0

/-- A write of D:1020.02 as its last octet is written (R527); vector 0 as the image is pending or refused (Table DI-13). -/
def stageImageProc (i : ImageIn) (s : State) : Nat × State :=
  let check := s.stageCheck i
  if check = 0 then (0, s.stage i) else (0x06030000 + check, (s.mapBoot (fun b => { b with stageSt := 3, stageCheck := check })).raiseVector 0)

/-- STAGE_IMAGE (R527). -/
def execStageImage (at_ : Nat) (i : ImageIn) (s : State) : Host.Outcome State Fault Refusal :=
  .next ((s.advance at_).pcieWrite 0x1020 0x02 (stageImageProc i))

/-- A guest is admitted and unfenced. -/
def State.guestLive (s : State) (g : Nat) : Bool := s.hasGuest g && s.vault.admitted.getLsbD g && !s.siteFenced (guestSite g)

/-- Every unit whose image layer 3 holds: fields, towers and populated guest sites (R528). -/
def State.imageUnits (s : State) : List Nat :=
  List.range 20 ++ ([0, 1].filter s.hasGuest).map guestSite ++ (List.range 16).map (· + 32)

/-- The pending image of layer `l` is activated (R409, R528): a copy of layer 1 is only marked, and runs from the next power-up or module
reset. -/
def State.activate (s : State) (l : Nat) (c : FwCopy) : State :=
  let s := s.mapBoot (fun b =>
    { (if l = 1 then { b with marked := true } else b.setRunning l (!b.runsB l)) with
      pending := none, stageSt := 4, minSvn := if c.raise then modAt b.minSvn (l - 1) (fun m => max m c.svn) else b.minSvn
      activating := if l = 1 then none else some (l, s.now), busyUntil := if l = 2 then s.now + 50000 else b.busyUntil })
  if l = 1 then s
  else
    let units := if l = 3 then s.imageUnits else []
    (s.mapVault (fun v =>
      { v with secrets := v.secrets + 1, releaseGen := v.releaseGen + 1, reportHashes := [], keys := []
               reloading := units.foldl insertNat v.reloading }.remode)).dropEmpty

/-- A write of D:1020.05 (R528). -/
def activateProc (value : Nat) (s : State) : Nat × State :=
  if 1 < value then (0x04000003, s)
  else if value = 0 then (0, s)
  else
    match s.boot.pending with
    | none => (stateAbort 0x1020 4, s)
    | some (l, c) =>
      checked
        [(decide (s.vault.mode = .erased), 0x06040000),
         (decide (l ≠ 1) && s.vault.referenced, stateAbort 0x1020 1),
         (decide (l = 3) && s.towers.any (fun t => !t.records.isEmpty), stateAbort 0x1020 1),
         (decide (l = 3) && (s.towers.any (fun t => t.mode == .active) || s.guestLive 0 || s.guestLive 1), stateAbort 0x1020 4)]
        (fun s => s.activate l c) s

/-- ACTIVATE (R528). -/
def execActivate (at_ value : Nat) (s : State) : Host.Outcome State Fault Refusal :=
  .next ((s.advance at_).pcieWrite 0x1020 0x05 (activateProc value))

/-- A write of D:1020.06 (R528). -/
def abandonProc (value : Nat) (s : State) : Nat × State :=
  checked [(decide (1 < value), 0x04000003), (decide (value = 1) && s.boot.pending.isNone, stateAbort 0x1020 4)]
    (fun s =>
      if value = 1 then
        (s.mapBoot (fun b => { b with pending := none, stageSt := 0 })).mapVault (fun v => { v with pendingLayers := [] }.remode)
      else s) s

/-- ABANDON (R528). -/
def execAbandon (at_ value : Nat) (s : State) : Host.Outcome State Fault Refusal :=
  .next ((s.advance at_).pcieWrite 0x1020 0x06 (abandonProc value))

/-- The start limit of an activated copy passes (R528). -/
def State.startLimit (s : State) : State :=
  match s.boot.activating with
  | some (l, t) => if t + 1000000 ≤ s.now then s.activationFails l else s
  | none => s

/-- ACTIVATION_START_LIMIT (R528). -/
def execActivationStartLimit (at_ : Nat) (s : State) : Host.Outcome State Fault Refusal := .next ((s.advance at_).startLimit)

/-- A reloaded image is measured (R406, R407): one that differs raises alarm source 0x06, and its die stays in reset, reloading. -/
def State.reloadMeasured (s : State) (unit : Nat) (agrees : Bool) : State :=
  if !s.vault.reloading.contains unit ∨ unit = 64 then s
  else if agrees then
    (s.reloadDone unit).mapTower unit (fun x => if x.resetState = .idle then x else { x with resetState := .selfTest })
  else
    (s.mapTower unit (fun x =>
      { x with resetFrom := if x.resetState = .idle then x.mode else x.resetFrom, heldInReset := true, resetState := .image, mode := .training
               })).raiseAlarm 6 true []

/-- IMAGE_RELOAD_MEASURE (R407). -/
def execImageReloadMeasure (at_ unit : Nat) (agrees : Bool) (s : State) : Host.Outcome State Fault Refusal :=
  .next ((s.advance at_).reloadMeasured unit agrees)

/-! ## Resets (R529 to R532) -/

/-- A write of D:1022.02 (Table BR-4). -/
def moduleResetProc (value : Nat) (s : State) : Nat × State :=
  checked [(decide (1 < value), 0x04000003), (decide (value = 1) && s.holdsWork, stateAbort 0x1022 1)]
    (fun s => if value = 1 then s.moduleReset else s) s

/-- MODULE_RESET (R529). -/
def execModuleReset (at_ value : Nat) (s : State) : Host.Outcome State Fault Refusal :=
  .next ((s.advance at_).pcieWrite 0x1022 0x02 (moduleResetProc value))

/-- Something runs on tower `t` that a tower reset may not meet (R532): another tower reset, a layer reset, a retirement, a field reset. -/
def State.resetBlocked (s : State) (t : Nat) : Bool :=
  let x := s.tower t
  (x.resetState != .idle && !x.heldInReset) || x.layerReset != .idle || x.retireState == .copying
    || s.base.fieldReset.any (fun n => n == siteField t)

/-- The tower's state allows the reset of kind `cold` (Table BR-4, R532). -/
def State.resetAllowed (s : State) (t : Nat) (cold : Bool) : Bool :=
  let x := s.tower t
  x.heldInReset ||
    (if cold then x.mode == .fenced || x.mode == .failed || (x.mode == .tripped && x.tripState == 3)
     else x.mode == .fenced && x.fenceCause == 1)

/-- A write of B+0F.01 (R531, R532). -/
def towerResetProc (t value : Nat) (s : State) : Nat × State :=
  let x := s.tower t
  checked
    [(decide (value < 1 ∨ 2 < value), 0x04000001), (s.holdsBooked t, stateAbort (towerIndex t 0x0F) 1),
     (!s.resetAllowed t (decide (value = 2)) || s.resetBlocked t, stateAbort (towerIndex t 0x0F) 4)]
    (fun s => (if x.mode = .tripped then s.setTrip t 0 none else s).beginTowerReset t (decide (value = 2))) s

/-- TOWER_RESET_WARM (R531). -/
def execTowerResetWarm (at_ tower : Nat) (s : State) : Host.Outcome State Fault Refusal :=
  .next (if tower < 20 then (s.advance at_).telling (fun s => s.pcieWrite (towerIndex tower 0x0F) 0x01 (towerResetProc tower 1))
    else s.advance at_)

/-- TOWER_RESET_COLD (R531). -/
def execTowerResetCold (at_ tower : Nat) (s : State) : Host.Outcome State Fault Refusal :=
  .next (if tower < 20 then (s.advance at_).telling (fun s => s.pcieWrite (towerIndex tower 0x0F) 0x01 (towerResetProc tower 2))
    else s.advance at_)

/-- Regions as self-test takes them up again (R87): every tile counts as healthy until the test finds otherwise. The slots of the
reset are not judged and so neither extend nor break a run of shortfalls (R70); a lost region's run is over. The region stands out of
service until it enters it. -/
def Tower.restoreRegions (t : Tower) : Tower :=
  { t with regions := t.regions.zipIdx.map (fun g =>
      { Region.fresh g.2 with selfTest := g.1.selfTest, short := if g.1.st = .lost then 0 else g.1.short, shortSlot := g.1.shortSlot,
                              left := g.1.left }) }

/-- A tower leaves its reset (R531): FENCED again, or, from FAILED or TRIPPED, unfenced. -/
def Tower.leaveReset (t : Tower) : Tower :=
  let t := { t with resetState := .idle, resetCount := t.resetCount + 1 }
  if t.mode = .failed then t
  else if t.resetFrom = .failed ∨ t.resetFrom = .tripped then
    { t with fence := false, fenceCause := 0, mode := t.restMode }
  else { t with mode := if t.fence then .fenced else if t.resetFrom = .training then .ready else t.resetFrom }

/-- A tower reset completes (R522, R531): its image is measured, its domains on, its self-test and training done. A change of floor
capacity raises the tower event (R83). -/
def State.resetCompletes (s : State) (t : Nat) (faults : List (Nat × Nat)) (widths wires : List (Nat × Nat × Nat)) (otherFault : Bool) : State :=
  let x := s.tower t
  if 20 ≤ t ∨ x.resetState = .idle ∨ x.heldInReset ∨ s.vault.reloading.contains t then s
  else
    let s := (s.setDomain (memDomain t) 2).setDomain (logicDomain t) 2
    let s := s.mapTower t (fun x => { (x.restoreRegions.enterRegions (s.replica t / 1024)) with gates := x.allGates })
    let s := (((s.trainChannels t (if x.isCache then 4 else 3) widths true).trainStacks t).failWires t wires).selfTest t faults otherFault
    let s := if (s.tower t).floorCapacity = x.floorCapacity then s else s.raiseEvent 2
    (((s.mapTower t Tower.leaveReset).raiseVector 0).checkReady).schedule t

/-- TOWER_RESET_COMPLETE (R531). -/
def execTowerResetComplete (at_ tower : Nat) (faults : List (Nat × Nat)) (trained : TrainedIn) (otherFault : Bool) (s : State) :
    Host.Outcome State Fault Refusal :=
  .next ((s.advance at_).telling (fun s => s.resetCompletes tower faults trained.widths trained.wires otherFault))

/-- Site `k` is FENCED, FAILED or OFF, or unpopulated. -/
def State.siteOut (s : State) (k : Nat) : Bool :=
  if k < 20 then
    let m := (s.tower k).mode
    m == .fenced || m == .failed || m == .off
  else if k = 20 then false
  else !s.hasGuest (k - 21) || s.siteFenced k

/-- Sites that stand on field `n`; the hub stands on F31 and F32 (Table OV-4). -/
def fieldSites (n : Nat) : List Nat := (List.range 23).filter (fun k => siteField k == n || (k == 20 && n == 14))

/-- Every wavelength of a pair out of or into a site of `sites` loses its lock (Table BR-4). -/
def State.locksLost (s : State) (sites : List Nat) : State :=
  sites.foldl (fun s k => (List.range 23).foldl (fun s j => (List.range 5).foldl (fun s w => (s.lockLoss k j w).lockLoss j k w) s) s) s

/-- A field reset begins (Table BR-4): reducers and calibration state of the field's sites are off, ring locks lost. -/
def State.beginFieldReset (s : State) (n : Nat) : State :=
  let s := (fieldSites n).foldl (fun s k => s.mapTower k (fun x => { x with reductions := [], heldReductions := [] })) s
  let s := s.mapBankSet n (fun b => { b with banks := b.banks.map (fun k => { k with image := none, calibrating := false }) })
  ((s.locksLost (fieldSites n)).mapBase (fun b =>
    { b with fieldReset := some n, cal := b.cal.filter (fun c => channelField c.kind c.index != n)
             heaterOff := setAt b.heaterOff n 0, feedFwd := setAt b.feedFwd n 0 })).reloads (32 + n)

/-- A write of D:5006.01 (Table BR-4). A field still held in its reset by a failed measurement may be reset again (R407). -/
def fieldResetProc (n : Nat) (s : State) : Nat × State :=
  checked
    [(decide (15 < n), 0x04000001),
     (decide (n = 13 ∨ n = 14) || !(fieldSites n).all s.siteOut, stateAbort 0x5006 4),
     (s.base.fieldReset.any (fun m => m != n), stateAbort 0x5006 9)]
    (fun s => s.beginFieldReset n) s

/-- FIELD_RESET (R529). -/
def execFieldReset (at_ field : Nat) (s : State) : Host.Outcome State Fault Refusal :=
  .next ((s.advance at_).pcieWrite 0x5006 0x01 (fieldResetProc field))

/-- A field reset completes once the field part is measured (Table BR-4). -/
def State.fieldCompletes (s : State) : State :=
  match s.base.fieldReset with
  | some n =>
    if s.vault.reloading.contains (32 + n) then s
    else (s.mapBase (fun b => { b with fieldReset := none, fieldBankClean := setAt b.fieldBankClean n true })).raiseVector 0
  | none => s

/-- FIELD_RESET_COMPLETE (R529). -/
def execFieldResetComplete (at_ : Nat) (s : State) : Host.Outcome State Fault Refusal := .next ((s.advance at_).fieldCompletes)

/-- A write of D:7304.01 (Table BR-4): GRST_L of a fenced guest is held low. -/
def guestResetProc (site : Nat) (s : State) : Nat × State :=
  checked
    [(decide (site ≠ 21 ∧ site ≠ 22), 0x04000001), (!s.hasGuest (site - 21), 0x04000004), (!s.siteFenced site, stateAbort 0x7304 4)]
    (fun s => ((s.holdGuest (site - 21)).mapVault (fun v =>
      { v with guestReset := v.guestReset ||| (1#2 <<< (site - 21)), guestPkts := v.guestPkts.filter (fun e => e.guest + 21 != site) })).reloads site) s

/-- GUEST_RESET (R529). -/
def execGuestReset (at_ site : Nat) (s : State) : Host.Outcome State Fault Refusal :=
  .next ((s.advance at_).pcieWrite 0x7304 0x01 (guestResetProc site))

end Sys2Proof.Machine
end

