-- ==== Sys2Proof/Machine/OnDie.lean ====
section
/-!
DEFINITION. The networks of a die (R193, R195, R196, R198, R206): stops, rings, links, the path of a packet, and the free entries it
needs. The numbers of stops, ring segments and links are those of assumption log 27.
-/
namespace Sys2Proof.Machine

open Sys2Proof

/-! ## Rings -/

/-- A ring: its number of stops and its first segment; segment `i` of it joins stop `i` to the next. -/
structure Ring where
  stops : Nat
  first : Nat
  deriving DecidableEq, Repr

/-- The link from a stop to its neighbour: in the direction of increasing stop number, or against it. -/
def Ring.link (g : Ring) (up : Bool) (stop : Nat) : Nat :=
  if up then 2 * (g.first + stop % g.stops) else 2 * (g.first + (stop + g.stops - 1) % g.stops) + 1

/-- Hops from stop `a` to stop `b` in a direction. -/
def Ring.hops (g : Ring) (up : Bool) (a b : Nat) : Nat :=
  if up then (b + g.stops - a) % g.stops else (a + g.stops - b) % g.stops

/-- The links of the way from `a` to `b` in a direction. -/
def Ring.way (g : Ring) (up : Bool) (a b : Nat) : List Nat :=
  (List.range (g.hops up a b)).map (fun i => g.link up (if up then a + i else a + g.stops - i))

/-- The direction a packet takes (R195): the shorter, on a tie that of increasing stop number. -/
def Ring.shorter (g : Ring) (a b : Nat) : Bool := decide (g.hops true a b ≤ g.hops false a b)

/-- The links a packet uses (R195, R206): the shorter direction, or the opposite ring of the pair where that one holds a link that is out
of service. -/
def Ring.path (g : Ring) (out : List Nat) (a b : Nat) : List Nat :=
  let p := g.way (g.shorter a b) a b
  if p.any out.contains then g.way (!g.shorter a b) a b else p

/-! ## Bulk channel (Table NS-1) -/

/-- Stops of the bulk channel: region routers, the tower stops of a Usilo die that lead to the site interface, and the other stops of a
Decane die. -/
inductive BulkStop where
  | region (r : Nat)
  | tower (c : Nat)
  | lpddr (k : Nat)
  | kvCache
  | site
  deriving DecidableEq, Repr

/-- Row rings of four region routers; column rings of four region routers and one tower stop. -/
def rowRing (row : Nat) : Ring := { stops := 4, first := 4 * row }
def columnRing (col : Nat) : Ring := { stops := 5, first := 16 + 5 * col }

/-- The bulk ring of a Decane die: regions 0 to 3, LPDDR5X controllers 0 and 1, the KV-cache manager, the site interface. -/
def decaneRing : Ring := { stops := 8, first := 0 }

def BulkStop.onDecane : BulkStop → Nat
  | .region r => r % 4
  | .tower _ => 7
  | .lpddr k => 4 + k % 2
  | .kvCache => 6
  | .site => 7

/-- Row of a stop of a Usilo die; none for a tower stop, which stands on a column ring alone. -/
def BulkStop.row? : BulkStop → Option Nat
  | .region r => some (r % 16 / 4)
  | .tower _ => none
  | .lpddr _ => none
  | .kvCache => none
  | .site => none

def BulkStop.column : BulkStop → Nat
  | .region r => r % 4
  | .tower c => c % 4
  | .lpddr _ => 0
  | .kvCache => 0
  | .site => 0

/-- The stop's position on its column ring. -/
def BulkStop.inColumn (b : BulkStop) : Nat := b.row?.getD 4

/-- The path of a bulk packet between two stops of a Usilo die (R195): along the row first, then along the column, never back. A tower
stop reaches the regions of its own column. -/
def usiloPath (out : List Nat) (src dst : BulkStop) : List Nat :=
  let row := match src.row? with
    | some r => (rowRing r).path out src.column dst.column
    | none => []
  row ++ (columnRing dst.column).path out src.inColumn dst.inColumn

/-- The path of a bulk packet on a die. -/
def bulkPath (isCache : Bool) (out : List Nat) (src dst : BulkStop) : List Nat :=
  if isCache then decaneRing.path out src.onDecane dst.onDecane else usiloPath out src dst

/-- The stop by which a packet from the site interface enters a die for a region: the tower stop of the region's column. -/
def entryStop (isCache : Bool) (r : Nat) : BulkStop := if isCache then .site else .tower (r % 4)

/-- Where a packet stands when it looks for room: injected at a stop, turning from a row ring onto a column ring, or already on the
ring. -/
inductive RingMove where
  | inject
  | turn
  | advance
  deriving DecidableEq, Repr

/-- Entries of a ring input (R71, R196), one packet each. -/
def ringEntries : Nat := 16

/-- A packet may move into the next input queue of a ring that holds `n` packets (R196). -/
def mayMove (m : RingMove) (n : Nat) : Bool :=
  match m with
  | .inject => decide (n + 2 ≤ ringEntries)
  | .turn => decide (n + 2 ≤ ringEntries)
  | .advance => decide (n + 1 ≤ ringEntries)

/-! ## Control channel -/

/-- The control ring: 21 stops of a Usilo die after its bulk segments, or 8 of a Decane die. -/
def controlRing (isCache : Bool) : Ring := if isCache then { stops := 8, first := 8 } else { stops := 21, first := 36 }

/-- A control header is well formed for a die (Table NS-3): the type asked, both stops on the ring, bit 15 zero, and an argument word
only in a packet of two flits. -/
def ctlFormed (isCache : Bool) (type : Nat) (p : CtlPacket) : Bool :=
  let h := p.hdr.toNat
  decide (field h 3 0 = type) && decide (field h 9 5 < (controlRing isCache).stops) && decide (field h 14 10 < (controlRing isCache).stops)
    && decide (field h 15 15 = 0) && (bit h 4 || p.arg == 0)

/-! ## Sync tree -/

/-- Link of a region to its node, and of a node to the root. -/
def leafLink (r : Nat) : Nat := 256 + r
def nodeLink (n : Nat) : Nat := 272 + n

/-- The node that takes the messages of region `r` to the root (Table NS-1, R206): that of its column; while the region's link to it, or its
own link to the root, is out, the adjacent node. -/
def treeNode (out : List Nat) (r : Nat) : Nat :=
  let n := if out.contains (leafLink r) then (r % 4 + 1) % 4 else r % 4
  if out.contains (nodeLink n) then (n + 1) % 4 else n

/-- The links a die has: both directions of its bulk and control segments, and on a Usilo die those of the tree. -/
def linkExists (isCache : Bool) (link : Nat) : Bool :=
  decide (link < (if isCache then 32 else 114)) || (!isCache && decide (256 ≤ link ∧ link < 276))

/-- The opposite direction of the same segment. -/
def otherLink (link : Nat) : Nat := if link % 2 = 0 then link + 1 else link - 1

end Sys2Proof.Machine
end

