-- ==== Sys2Proof/Machine/Integrity.lean ====
section
/-! DEFINITION. Patrol, remap tables, page retirement and the checker test: commands of chapter 11. -/
namespace Sys2Proof.Machine

open Sys2Proof

/-! ## Patrol (R321, R322) -/

/-- Pages of one vertical channel of one layer. -/
def channelPages (isCache : Bool) (l c : Nat) : Nat :=
  let stride := if isCache then 128 else 96
  let first := (if isCache then 4 else 3) * c + (l - 1)
  (towerPages isCache + stride - 1 - first) / stride

/-- Tower page at a position of a channel (Table MM-2). -/
def channelPage (isCache : Bool) (l c pos : Nat) : Nat :=
  if isCache then 128 * pos + 4 * c + (l - 1) else 96 * pos + 3 * c + (l - 1)

/-- The patrol engine of a vertical channel visits its next granule, wrapping at the end; it skips a page that is being copied, and
rests during a layer reset (R321, R322). -/
def State.patrolSram (s : State) (t l c : Nat) (finds : List WordFind) : State :=
  let x := s.tower t
  let k := x.channel l c
  if 20 ≤ t ∨ !x.hasChannel l c ∨ x.layerReset ≠ .idle ∨ k.width = 0 then s
  else
    let page := channelPage x.isCache l c (k.patrol / 256)
    let skip := decide (x.retireState = .copying) && decide (x.retirePage = page)
    let next := if skip then (k.patrol / 256 + 1) * 256 else k.patrol + 1
    let wrap := decide (256 * channelPages x.isCache l c ≤ next)
    let s := s.mapTower t (fun x =>
      { x.mapChannel l c (fun k => { k with patrol := if wrap then 0 else next }) with patrolPass := if wrap then s.now else x.patrolPass })
    if skip then s else s.readFinds (sramKey t page (k.patrol % 256 * 256)) 256 1 finds

/-- The patrol engine of an LPDDR5X channel visits its next group; `linkFixed` events were corrected by link ECC on the channel since its
last visit (D:6100.22). -/
def State.patrolStack (s : State) (m c : Nat) (finds : List WordFind) (linkFixed : Nat) : State :=
  let k := s.mem.dram.getD m Stack.fresh
  if 8 ≤ m ∨ 16 ≤ c ∨ !k.serves ∨ k.failed.contains c then s
  else
    let pos := kvGet k.patrol c 0
    let g := 32 * pos + 2 * c + m % 2
    let wrap := decide (64 * backingPages ≤ g + 32)
    let s := s.mapStack m (fun k =>
      { k with patrol := kvSet k.patrol c (if wrap then 0 else pos + 1), patrolPass := if wrap then s.now else k.patrolPass
               linkFixed := k.linkFixed + linkFixed })
    s.readFinds (backingKey (m / 2) (1024 * g)) 1024 1 finds

/-- PATROL_VISIT (R321): layer 0 names an LPDDR5X channel of stack `unit`, a layer from 1 a vertical channel of tower `unit`. -/
def execPatrolVisit (at_ unit layer channel : Nat) (finds : List WordFind) (linkFixed : Nat) (s : State) : Host.Outcome State Fault Refusal :=
  .next (if layer = 0 then (s.advance at_).patrolStack unit channel finds linkFixed
    else (s.advance at_).patrolSram unit layer channel finds)

/-! ## Remap tables (R318, R323) -/

/-- Arrays of the remap tables, as `unit` names them: 0 to 15 tile or staging SRAM of a region, its bank being tile × 16 + bank;
16 to 31 queue arrays of a region; 32 an array of on-die link `bank`; 33 the site interface or reducer. -/
def remapKey (unit bank : Nat) : Nat := unit * 65536 + bank

/-- What an uncorrectable error of an array costs (R318). -/
def State.arrayFault (s : State) (t unit bank : Nat) : State :=
  if unit < 16 then s.faultTile t unit (bank / 16)
  else if unit < 32 then s.loseRegion t (unit - 16)
  else if unit = 32 then
    let s := (s.mapTower t (fun x => { x with linksOut := insertNat x.linksOut bank })).logEv 0x0301 sevLogged t
    if bank < 256 ∧ (s.tower t).linksOut.contains (otherLink bank) then s.failTower t else s
  else s.failTower t

def remapRecord (s : State) (t unit bank word event : Nat) : EccRec :=
  { tick := s.now, array := if unit < 16 then 1 else 4, event, symbols := 0, found := 0, tower := t, unit := if unit < 32 then unit % 16 else 0
    channel := bank % 256, page := 0, word, merged := 0, addr := 0 }

/-- A word of a small array is remapped (R323): eight entries a bank; a ninth is handled as an uncorrectable error. -/
def State.remapWord (s : State) (t unit bank word : Nat) : State :=
  let entries := kvGet (s.tower t).remaps (remapKey unit bank) []
  let s := s.mapTower t (fun x => { x with smallSeen := x.smallSeen.filter (fun q => q.1 != (remapKey unit bank, word)) })
  if entries.length < 8 then
    (s.mapTower t (fun x => { x with remaps := kvSet x.remaps (remapKey unit bank) (entries ++ [word]), remapUsed := x.remapUsed + 1 })).eccRecord
      (remapRecord s t unit bank word 3)
  else
    ((s.mapTower t (fun x => { x with remapExhausted := x.remapExhausted + 1 })).eccRecord (remapRecord s t unit bank word 4)).arrayFault t unit bank

/-- The word was corrected less than 1,000,000,000 tk ago (R323). -/
def Tower.fixedLately (x : Tower) (key word now : Nat) : Bool :=
  x.smallSeen.any (fun q => q.1 == (key, word) && decide (now ≤ q.2 + 1000000000))

/-- What happens to a word of a small array (R316, R318, R323): a correction is counted, and a second one within 1,000,000,000 tk remaps the
word, as one that reads back wrong does; an uncorrectable word faults what its array belongs to. -/
def State.smallWord (s : State) (t unit bank : Nat) (w : SmallWord) : State :=
  if 20 ≤ t ∨ 33 < unit then s
  else
    match w.fault with
    | .uncorrectable => s.arrayFault t unit bank
    | .wrongAfterRewrite => s.remapWord t unit bank w.word
    | .corrected =>
      let lately := (s.tower t).fixedLately (remapKey unit bank) w.word s.now
      let s := s.mapTower t (fun x =>
        { x with smallFixed := x.smallFixed + 1
                 smallSeen := ((remapKey unit bank, w.word), s.now) :: x.smallSeen.filter (fun q => q.1 != (remapKey unit bank, w.word)) })
      if lately then s.remapWord t unit bank w.word else s

/-- REMAP (R318, R323): a word of a small array is found faulty. -/
def execRemap (at_ tower unit bank : Nat) (w : SmallWord) (s : State) : Host.Outcome State Fault Refusal :=
  .next ((s.advance at_).telling (fun s => s.smallWord tower unit bank w))

/-! ## Page retirement (R324 to R326) -/

/-- The operator that stands for the copy of a page: its write range is the whole page. -/
def copyOp (s : State) (t page : Nat) : OpInst :=
  { id := (s.tower t).nextIssue, slot := copySlot, desc := 0, word := 0, issue := (s.tower t).nextIssue, booked := false, win := 0
    eligible := s.now, closeTick := 0, entered := false, started := none, ranges := [(true, sramKey t page 0, sramKey t (page + 1) 0)], waits := [],
    cut := false, chunks := 0, arrived := 0, flags := 0, code := 0, unacked := 0, remote := false, tree := 0, stalled := false,
    fencedCopies := [], failed := false, keyCount := 0, pieces := [], offers := [], deliv := [] }

/-- Reserve pages in use of the channel and layer of a tower page. -/
def Tower.reserveOf (t : Tower) (page : Nat) : Nat := kvGet t.reserveUsed (chanKey (pageLayer t.isCache page) (pageChannel t.isCache page)) 0

/-- A page is withdrawn (R319, R325): its valid bits are cleared, and it answers nothing more. -/
def State.withdrawPage (s : State) (t space page : Nat) : State :=
  let key := if space = 2 then backingKey (t - 16) (page * 65536) else sramKey t page 0
  let s := s.mapMem (fun m => m.clear key (key + 65536))
  let s := s.mapTower t (fun x => { x with retireState := .withdrawn, retirePage := page, withdrawnPages := x.withdrawnPages ++ [(space, page)] })
  (s.eccRecord ((s.keyPlace key).record s.now 7 0 0)).raiseVector 0

/-- A page is retired (R324, R325): a copy into a free reserve page of its channel and layer, or withdrawal. -/
def State.retirePageOf (s : State) (t space page : Nat) : State :=
  let x := s.tower t
  if space = 1 ∧ x.reserveOf page < 8 then
    (s.mapTower t (fun x =>
      { x with retireState := .copying, retirePage := page, ops := x.ops ++ [copyOp s t page], nextIssue := x.nextIssue + 1
               reserveUsed := kvMod x.reserveUsed (chanKey (pageLayer x.isCache page) (pageChannel x.isCache page)) 0 (· + 1) })).schedule t
  else s.withdrawPage t space page

/-- A write of D:6200.04 (R326). -/
def retireProc (value : Nat) (s : State) : Nat × State :=
  let t := s.held 0x620001 0
  let space := s.held 0x620002 1
  let page := s.held 0x620003 0
  let x := s.tower t
  let on := decide (value = 1)
  checked
    [(decide (1 < value), 0x04000003),
     (on && decide ((if space = 2 then backingPages else towerPages x.isCache) ≤ page), 0x04000001),
     (on && decide (space = 2) && !x.isCache, stateAbort 0x6200 5),
     (on && ((decide (space = 1) && x.replacedPages.contains page) || x.withdrawnPages.contains (space, page)), stateAbort 0x6200 4),
     (on && decide (x.retireState = .copying), stateAbort 0x6200 9),
     (on && decide ((if space = 2 then 4096 else 1024) ≤ (x.withdrawnPages.filter (fun w => w.1 == space)).length), stateAbort 0x6200 6),
     (on && decide (x.layerReset ≠ .idle), stateAbort 0x6003 4),
     (on && decide (x.resetState ≠ .idle), stateAbort (towerIndex t 0x0F) 4)]
    (fun s => if on then s.retirePageOf t space page else s) s

/-- RETIRE (R326). -/
def execRetire (at_ value : Nat) (s : State) : Host.Outcome State Fault Refusal :=
  .next ((s.advance at_).pcieWrite 0x6200 0x04 (retireProc value))

/-! ## Checker test (R327) -/

def State.heldBytes (s : State) (key : Nat) (d : List Byte) : List Byte := kvGet s.dict.heldOct key d

/-- The selectors of D:6101: target, unit, layer, channel, row. -/
def State.testSel (s : State) : Nat × Nat × Nat × Nat × Nat :=
  (s.held 0x610101 1, s.held 0x610102 0, s.held 0x610103 1, s.held 0x610104 0, s.held 0x610105 0)

/-- A selector is outside the range of its target. -/
def State.testRange (s : State) : Bool :=
  let q := s.testSel
  if q.1 = 1 then decide (20 ≤ q.2.1) || !(s.tower q.2.1).hasChannel q.2.2.1 q.2.2.2.1 || decide (16 ≤ q.2.2.2.2)
  else decide (8 ≤ q.2.1) || decide (16 ≤ q.2.2.2.1) || decide (16 ≤ q.2.2.2.2)

def testKey (q : Nat × Nat × Nat × Nat × Nat) : Nat :=
  (((q.1 * 32 + q.2.1) * 8 + (if q.1 = 1 then q.2.2.1 else 0)) * 32 + q.2.2.2.1) * 16 + q.2.2.2.2

/-- The data that D:6101.06 holds for the target. -/
def State.testData (s : State) : List Byte :=
  (s.heldBytes 0x610106 (List.replicate 128 0)).take (if s.testSel.1 = 1 then 32 else 128)

/-- The row as it stands: zeros with zero check bytes before any write. -/
def State.testRow (s : State) : List Byte × List Byte :=
  kvGet s.mem.testRows (testKey s.testSel) (List.replicate (if s.testSel.1 = 1 then 32 else 128) 0, [0, 0, 0, 0])

/-- Command 0x01: data and check bytes go to the row as they are. -/
def State.testWrite (s : State) : State :=
  s.mapMem (fun m => { m with testRows := kvSet m.testRows (testKey s.testSel) (s.testData, s.heldBytes 0x610107 [0, 0, 0, 0]) })

/-- Command 0x02: the row is read through the checker. -/
def State.testReadRow (s : State) : State :=
  let r := s.testRow
  let v := Config.checkerStatus r.1 r.2
  let data := if v % 4 = 1 then (List.range r.1.length).map (fun i => Config.checkerData r.1 r.2 i) else r.1
  s.mapMem (fun m =>
    { m with testStatus := v % 4, testSymbols := if v % 4 = 1 then v / 4 else 0
             testRead := data ++ List.replicate (128 - data.length) 0 })

/-- A write of D:6101.08 (R327). -/
def testProc (value : Nat) (s : State) : Nat × State :=
  let q := s.testSel
  checked
    [(decide (value = 0) || decide (2 < value), 0x04000001), (s.testRange, 0x04000001),
     (decide (q.1 = 1) && ((s.heldBytes 0x610106 []).drop 32).any (· != 0), 0x04000001),
     (decide (q.1 = 1) && decide ((s.tower q.2.1).layerReset ≠ .idle), stateAbort 0x6003 4),
     (decide (q.1 = 2) && decide ((s.mem.dram.getD q.2.1 Stack.fresh).st ≠ 1), stateAbort 0x6004 4)]
    (fun s => if value = 1 then s.testWrite else s.testReadRow) s

/-- TEST_WRITE_RAW (R327). -/
def execTestWriteRaw (at_ : Nat) (s : State) : Host.Outcome State Fault Refusal :=
  .next ((s.advance at_).pcieWrite 0x6101 0x08 (testProc 1))

/-- TEST_READ_CHECKER (R327). -/
def execTestReadChecker (at_ : Nat) (s : State) : Host.Outcome State Fault Refusal :=
  .next ((s.advance at_).pcieWrite 0x6101 0x08 (testProc 2))

end Sys2Proof.Machine
end

