-- ==== Sys2Proof/Machine/Network.lean ====
section
/-! DEFINITION. Bulk and control packets, the sync tree, reducers, multicast and sync objects: commands of chapter 07. -/
namespace Sys2Proof.Machine

open Sys2Proof

/-! ## Replies -/

/-- A reply to packet `p` from EID `src`, sent by the site the packet reached. -/
def State.reply (s : State) (p : Packet) (type src : Nat) (data : List Byte) : State :=
  s.sendBulk (((s.eidSite src).or (s.eidSite p.dst)).getD 20) (s.eidSite p.src) (mkPacket s.base.activeB { type, src, dst := p.src, addr := p.addr, tag := p.tag } data)

/-- A fenced acknowledgement names the EID (R213, R251). -/
def State.replyFenced (s : State) (p : Packet) (eid : Nat) : State := s.reply p 8 eid []

/-- A poisoned completion. -/
def State.replyPoison (s : State) (p : Packet) : State := s.reply p 7 p.dst []

/-- A packet may not reach its frame of KV page space (R311). -/
def State.kvRefused (s : State) (p : Packet) : Bool := (s.window? (addrEid p.addr) (addrSpace p.addr)).any (fun w => w.kvRefuses p)

/-- A park window is the hub's alone (R314). -/
def State.parked (s : State) (p : Packet) : Bool := (s.window? (addrEid p.addr) (addrSpace p.addr)).any (·.park)

/-- A bulk packet reaches a site, `site` or else that of its DST, under the routing bank it carries (R247): it comes out of the buffers of the
site's interface (R227 to R230), and none crosses a pair that has no wavelength in service (Table PB-6). -/
def State.arriving (s : State) (site : Option Nat) (p : Packet) (f : State → State) : State :=
  s.underBank p.tepoch (fun s =>
    match site.or (s.eidSite p.dst), s.eidSite p.src with
    | some k, some i => if s.pairFailed i k then s else f (s.handOff i k (Carried.isPacket p))
    | _, _ => f s)

/-- What a bulk packet meets at the memory of site `k`: the space (R262, R289), a park window (R314), the owner of a KV frame (R311), the
window and the page (R290, R302, R325). -/
def State.reachMemory (s : State) (k : Nat) (p : Packet) (go : Nat → State) : State :=
  if !packetSpace p.addr || s.parked p then s.replyPoison p
  else if s.kvRefused p then (s.windowFault (some k)).replyPoison p
  else
    match s.locateAddr p.addr with
    | .key key => go key
    | .poison f => (s.windowFault f).replyPoison p
    | .unrouted => s.replyFenced p p.dst

/-- What a bulk packet bound for memory meets before it: nothing routes it, a fence, or a refusal. -/
def State.bulkArrives (s : State) (p : Packet) (go : Nat → Nat → State) : State :=
  match s.eidSite p.dst with
  | none => (s.mapBase (fun b => { b with unroutable := b.unroutable + 1 })).replyFenced p p.dst
  | some k => if s.siteFenced k && !p.mgmt k then s.replyFenced p p.dst else s.reachMemory k p (go k)

/-! ## Bulk packets -/

/-- A read request (R194): LEN names the flits asked for. What the checker finds in its words is handled first (R316, R320); a word that was
poisoned before is counted. -/
def State.readRequest (s : State) (p : Packet) (finds : List WordFind) : State :=
  s.bulkArrives p (fun _ key =>
    let n := 64 * p.len
    let v := s.readFinds key n 0 finds
    if v.mem.poisoned key n then (if s.mem.poisoned key n then v.poisonRead key else v).replyPoison p
    else v.reply p 2 p.dst (v.readMem key n))

/-- READ_REQUEST (R194, R251, R311, R320). -/
def execReadRequest (at_ : Nat) (p : Packet) (finds : List WordFind) (s : State) : Host.Outcome State Fault Refusal :=
  .next ((s.advance at_).arriving none p (fun s => s.readRequest p finds))

/-- The operator of tower `t` that a tag names. -/
def Tower.tagged (t : Tower) (tag : Nat) : Option OpInst := t.ops.find? (fun o => o.id % 32768 == tag)

/-- A read response reaches its requester (R194), whose site interface drops it while fenced (R251). A chunk reads memory as it
stands when it computes (assumption log 26), so nothing waits for it. -/
def State.responseArrives (s : State) (p : Packet) : State :=
  match s.eidSite p.dst with
  | none => s
  | some k => if s.siteFenced k && !p.mgmt k then s else { s with inbox := s.inbox ++ [p] }

/-- READ_RESPONSE (R194). -/
def execReadResponse (at_ : Nat) (p : Packet) (s : State) : Host.Outcome State Fault Refusal :=
  .next ((s.advance at_).arriving none p (fun s => s.responseArrives p))

/-- A write packet is written and acknowledged (R194, R205). One shorter than a group of LPDDR5X is a read-modify-write of that group,
whose read is checked; an uncorrectable codeword keeps its poison, with the new bytes in it (R317). -/
def State.writePacket (s : State) (p : Packet) (finds : List WordFind) : State :=
  s.bulkArrives p (fun _ key =>
    let s := if 32 ≤ key / 2 ^ 40 ∧ key / 2 ^ 40 < 64 ∧ p.data.length < 1024 then s.readFinds (key / 1024 * 1024) 1024 2 finds else s
    (s.writeMem key p.data).reply p 4 p.dst [])

/-- WRITE (R194, R205, R251). -/
def execWrite (at_ : Nat) (w : WriteIn) (s : State) : Host.Outcome State Fault Refusal :=
  .next ((s.advance at_).arriving none w.pkt (fun s => s.writePacket w.pkt w.finds))

def State.mapOp (s : State) (t id : Nat) (f : OpInst → OpInst) : State :=
  s.mapTower t (fun x => { x with ops := modWhere x.ops (fun o => o.id == id) f })

/-- One write or copy of an operator has ended (R205); the operator completes when all have and its last chunk has committed. -/
def State.writeEnded (s : State) (t : Nat) (o : OpInst) (fenced : Option Nat) : State :=
  let s := s.mapOp t o.id (fun o => { o with
    unacked := o.unacked - 1
    fencedCopies := match fenced with
      | some e => if dOpcode o.word = 0x61 then o.fencedCopies ++ [e] else o.fencedCopies
      | none => o.fencedCopies })
  ((s.tryComplete t o.id).settleRecord t o.slot).schedule t

/-! ## Reducers (R208 to R211) -/

def mapReduction (l : List Reduction) (redid slot : Nat) (f : Reduction → Reduction) : List Reduction :=
  modWhere l (fun r => r.redid == redid && r.slot == slot && !r.ended) f

/-- The open reduction of a REDID and slot; one that has ended is open no more. -/
def Tower.reduction? (t : Tower) (redid slot : Nat) : Option Reduction :=
  t.reductions.find? (fun r => r.redid == redid && r.slot == slot && !r.ended)

/-- Open reductions of a site's reducer (B+0D.05). -/
def Tower.openReductions (t : Tower) : List Reduction := t.reductions.filter (fun r => !r.ended)

/-- A reduction has ended: its entries are free; its number is, too, once no copy of it is out (R211). -/
def Reduction.end_ (r : Reduction) : Option Reduction := if r.copies = 0 then none else some { r with ended := true, entries := [] }

/-- A reduction closes: its entries are free, and reduction-closed goes to every site (R210). -/
def State.closeReduction (s : State) (k redid slot : Nat) : State :=
  (s.mapTower k (fun x => { x with reductions := x.reductions.filterMap (fun r =>
      if r.redid == redid && r.slot == slot && !r.ended then r.end_ else some r) })).sendSync
    (syncMsg 6 k 0x1F 0 0 (redid % 65536 + slot % 256 * 65536) s.siteMask)

/-- Operators of tower `t` that contribute to a reduction at site `k` for slot `slot` there. -/
def State.contributors (s : State) (t k redid slot : Nat) : List OpInst :=
  (s.tower t).ops.filter (fun o => o.remote && !o.failed && descNat o 911 896 == redid && s.reducerSite t o == k && (s.tower t).slotAt o k == slot)

/-- Every granule is written and every copy acknowledged: reduction-done to the contributing sites, then closed. A packet that routers
combined (R208) names one of its sources; the others are known by their operators. -/
def State.finishReduction (s : State) (k : Nat) (r : Reduction) : State :=
  let sites := (List.range 16).filter (fun t => r.sources.contains t || !(s.contributors t k r.redid r.slot).isEmpty)
  if r.written = r.granules ∧ r.copies = 0 then
    (s.sendSync (syncMsg 5 k 0x1F 0 0 (r.redid % 65536 + r.slot % 256 * 65536) (towerMask sites))).closeReduction k r.redid r.slot
  else s

/-- Contributing operators of a reduction at site `k` end with 0x85 (R160, R211). -/
def State.failReduction (s : State) (k redid slot : Nat) : State :=
  let s := s.closeReduction k redid slot
  (List.range 16).foldl (fun s t =>
    (s.contributors t k redid slot).foldl (fun s o => ((s.failOp t o.id 0x85).settleRecord t o.slot).schedule t) s) s

/-- One element of two contributions combined, with its flags (R122): FP32, BF16 widened and rounded back, INT32 saturating as in R119; or
R111. -/
def combineElem (rfmt rop : Nat) (a b : Nat) : Nat × BitVec 8 :=
  let fmt := if rfmt = 0 then 1 else if rfmt = 1 then 3 else 0x0D
  let va := decodeElem fmt a
  let vb := decodeElem fmt b
  let r := if rop = 0 then va.add false vb else (va.pick (rop = 1) vb, flagIf (va.isNan || vb.isNan) flNanin)
  let w := encodeElem fmt rndNearest (rfmt = 2) 0 r.1
  (w.1, r.2 ||| (w.2 &&& flOver) ||| flagIf (rfmt = 2 && w.2 &&& flSat != 0) flIntsat)

/-- Two granules of data combined element by element, with the flags of all; `fuel` bounds the elements. -/
def combineData (rfmt rop fuel : Nat) (a b : List Byte) : List Byte × BitVec 8 :=
  match fuel with
  | 0 => (a, 0)
  | fuel + 1 =>
    let w := if rfmt = 1 then 2 else 4
    if a = [] ∨ b = [] then (a, 0)
    else
      let e := combineElem rfmt rop (leAt a 0 w) (leAt b 0 w)
      let r := combineData rfmt rop fuel (a.drop w) (b.drop w)
      (leBytes w e.1 ++ r.1, e.2 ||| r.2)

/-- Flags raised in a reducer join the status bytes of the operators that contribute (R119, R122; DEDUCED, log 56). -/
def State.reducerFlags (s : State) (k redid slot : Nat) (f : BitVec 8) : State :=
  if f = 0 then s
  else (List.range 16).foldl (fun s t => (s.contributors t k redid slot).foldl (fun s o =>
    s.mapTower t (fun x => { x with ops := modWhere x.ops (fun p => p.id == o.id) (fun p => { p with flags := p.flags ||| f }) })) s) s

/-- What the operator behind a reduce packet says of its reduction: expected contributions and the group of an ALLREDUCE. -/
def State.reductionOf (s : State) (p : Packet) : Nat × Nat :=
  let o := match s.eidSite p.src with
    | some t => (s.tower t).tagged p.tag
    | none => none
  match o with
  | some o => (descNat o 927 912, if descNat o 7 0 = 0x62 then descNat o 943 928 else 0)
  | none => (0, 0)

/-- Reductions a site's reducer may hold of a request: 16, less the contexts booked in this slot where the record is unbooked
(R209, R339). -/
def State.reducerRoom (s : State) (k slot : Nat) : Nat :=
  let booked := match (s.tower k).record? slot with
    | some r => r.booked
    | none => true
  if booked then 16
  else 16 - sumNat ((s.ledger.bookings.filter (fun b => b.res == .contexts k && !b.recovery && decide (b.start ≤ s.now / 1024)
    && decide (s.now / 1024 < b.start + b.len))).map (·.amt))

/-- A completed granule leaves the reducer: to the destination stop, or as multicast copies to the group (R210, R211). -/
def State.emitGranule (s : State) (k : Nat) (p : Packet) (r : Reduction) (data : List Byte) : State :=
  if r.group = 0 then s.reachMemory k p (fun key => s.writeMem key data)
  else
    let n := (s.eidSites r.group).length
    (s.mapTower k (fun x => { x with reductions := mapReduction x.reductions r.redid r.slot (fun q => { q with copies := q.copies + n }) })).sendFrom k
      (mkPacket s.base.activeB { type := 6, src := s.siteEid k, dst := r.group, slot := some r.slot, addr := p.addr,
                                 tag := 32768 + r.no } data)

/-- A packet is combined into its granule's entry; a full granule is written; a count beyond the expected contributions is
discarded and the reduction ends with 0x85. -/
def State.reduceInto (s : State) (k : Nat) (p : Packet) (r : Reduction) : State :=
  let site := (s.eidSite p.src).getD 0
  let e := kvGet r.entries p.addr (0, [])
  let count := e.1 + p.ccount
  if r.expected ≠ 0 ∧ r.expected < count then s.failReduction k r.redid r.slot
  else
    let sum := if e.1 = 0 then (p.data, 0) else combineData r.rfmt r.rop e.2.length e.2 p.data
    let data := sum.1
    let s := s.reducerFlags k r.redid r.slot sum.2
    if r.expected = 0 ∨ count < r.expected then
      s.mapTower k (fun x => { x with reductions := mapReduction x.reductions r.redid r.slot (fun q =>
        { q with entries := kvSet q.entries p.addr (count, data), sources := insertNat q.sources site }) })
    else
      let s := s.mapTower k (fun x => { x with reductions := mapReduction x.reductions r.redid r.slot (fun q =>
        { q with entries := kvErase q.entries p.addr, written := q.written + 1, sources := insertNat q.sources site }) })
      let s := s.emitGranule k p r data
      match (s.tower k).reduction? r.redid r.slot with
      | some q => s.finishReduction k q
      | none => s

/-- What a packet's operator says of a reduction that was opened by a packet of a guest, which names none (R159). -/
def Reduction.learn (r : Reduction) (q : Nat × Nat) : Reduction := if r.expected = 0 then { r with expected := q.1, group := q.2 } else r

/-- The lowest number that no reduction of the site holds: one of 16 while fewer are open, beyond them while numbers of ended ones are
still out (R211; DESIGN CHOICE, log 56). -/
def Tower.freeNumber (t : Tower) : Nat :=
  ((List.range (t.reductions.length + 1)).find? (fun n => !t.reductions.any (fun r => r.no == n))).getD 0

/-- A contribution to an ALLREDUCE whose group includes a fenced site ends the reduction with 0x85 (R160); any other is combined. -/
def State.reduceGroup (s : State) (k : Nat) (p : Packet) (r : Reduction) : State :=
  if (s.eidSites r.group).any (fun g => s.siteFenced g) then s.failReduction k r.redid r.slot else s.reduceInto k p r

/-- A reduce packet reaches the reducer of its destination site (R210). -/
def State.reduceArrives (s : State) (p : Packet) : State :=
  match s.eidSite p.dst with
  | none => (s.mapBase (fun b => { b with unroutable := b.unroutable + 1 })).replyFenced p p.dst
  | some k =>
    if s.siteFenced k && !p.mgmt k then s.replyFenced p p.dst
    else if 16 ≤ k then s
    else if !packetSpace p.addr then s.replyPoison p
    else
      let q := s.reductionOf p
      match (s.tower k).reduction? p.redid p.slot with
      | some r =>
        let r := r.learn q
        (s.mapTower k (fun x => { x with reductions := mapReduction x.reductions r.redid r.slot (fun _ => r) })).reduceGroup k p r
      | none =>
        if s.reducerRoom k p.slot ≤ (s.tower k).openReductions.length then
          s.sendSync (syncMsg 7 k ((s.eidSite p.src).getD 0) 0 0 (p.redid + p.slot * 65536) 0)
        else
          let r : Reduction :=
            { no := (s.tower k).freeNumber, redid := p.redid, slot := p.slot, granules := p.rgran, rfmt := p.rfmt, rop := p.rop, expected := q.1,
              entries := [], written := 0, sources := [], group := q.2, copies := 0, bank := s.base.activeB, ended := false }
          (s.mapTower k (fun x => { x with reductions := x.reductions ++ [r] })).reduceGroup k p r

/-- REDUCE_PACKET (R208, R210, R211, R251). -/
def execReducePacket (at_ : Nat) (p : Packet) (s : State) : Host.Outcome State Fault Refusal :=
  .next ((s.advance at_).arriving none p (fun s => s.reduceArrives p))

/-- The acknowledgement of a copy of a reducer's result. -/
def State.copyAcked (s : State) (k tag : Nat) : State :=
  match (s.tower k).reductions.find? (fun r => 32768 + r.no == tag && decide (0 < r.copies)) with
  | none => s
  | some r =>
    let s := s.mapTower k (fun x => { x with reductions := x.reductions.filterMap (fun q =>
      if q.no = r.no then (if q.ended ∧ q.copies ≤ 1 then none else some { q with copies := q.copies - 1 }) else some q) })
    if r.ended then s else s.finishReduction k { r with copies := r.copies - 1 }

/-- A write acknowledgement is sampled at the source (R205). -/
def State.writeAcked (s : State) (p : Packet) : State :=
  match s.eidSite p.dst with
  | none => s
  | some t =>
    if 32768 ≤ p.tag then s.copyAcked t p.tag
    else
      match (s.tower t).tagged p.tag with
      | some o => if 0 < o.unacked then s.writeEnded t o none else s
      | none => s

/-- WRITE_ACKNOWLEDGEMENT (R205). -/
def execWriteAcknowledgement (at_ : Nat) (p : Packet) (s : State) : Host.Outcome State Fault Refusal :=
  .next ((s.advance at_).arriving none p (fun s => s.writeAcked p))

/-- Slot `k` of an operator lies in the window that address `a` belongs to. -/
def State.slotNames (s : State) (t : Nat) (o : OpInst) (k a : Nat) : Bool :=
  let e := opEnv s t o
  (dSlot o.word k).used && addrEid (e.addr k) == addrEid a && addrSpace (e.addr k) == addrSpace a

/-- The address of a fenced acknowledgement is one that the operator reads, and not one that it writes: a read request was refused. -/
def State.readRefused (s : State) (t : Nat) (o : OpInst) (a : Nat) : Bool :=
  decide (dOpcode o.word ≠ 0x61) && [1, 2, 3].any (fun k => s.slotNames t o k a) && !s.slotNames t o 0 a

/-- A fenced acknowledgement ends the copy or write it answers (R205, R213); a reduction, and a read, end their operator with
0x85 (R160, R251). Those of multicast copies, an operator's or a reducer's, are counted (B+0D.06). -/
def State.fencedAcked (s : State) (p : Packet) : State :=
  match s.eidSite p.dst with
  | none => s
  | some t =>
    let count := fun (s : State) => if t < 16 then s.mapTower t (fun x => { x with fencedCopies := x.fencedCopies + 1 }) else s
    if 32768 ≤ p.tag then
      match (s.tower t).reductions.find? (fun r => 32768 + r.no == p.tag && decide (0 < r.copies)) with
      | some r =>
        let s := (count s).mapTower t (fun x => { x with reductions := x.reductions.filterMap (fun q =>
          if q.no = r.no then (if q.ended ∧ q.copies ≤ 1 then none else some { q with copies := q.copies - 1 }) else some q) })
        if r.ended then s else s.failReduction t r.redid r.slot
      | none => s
    else
      match (s.tower t).tagged p.tag with
      | some o =>
        if 0 < o.unacked ∧ !s.readRefused t o p.addr then
          (if dOpcode o.word = 0x61 then count s else s).writeEnded t o (some p.src)
        else ((s.failOp t o.id 0x85).settleRecord t o.slot).schedule t
      | none => s

/-- FENCED_ACKNOWLEDGEMENT (R160, R213, R251). -/
def execFencedAcknowledgement (at_ : Nat) (p : Packet) (s : State) : Host.Outcome State Fault Refusal :=
  .next ((s.advance at_).arriving none p (fun s => s.fencedAcked p))

/-! ## Multicast (R212) -/

/-- One entry of the store gives each of its branches a copy while that branch's queue has room. -/
def feedEntry (queues : KV (List Packet)) (e : McastEntry) : KV (List Packet) × McastEntry :=
  e.branches.foldl (fun acc b =>
    let q := kvGet acc.1 b []
    if q.length < 16 then (kvSet acc.1 b (q ++ [e.pkt]), { acc.2 with branches := acc.2.branches.filter (· != b) }) else acc)
    (queues, e)

/-- Branch queues take copies in store order; an entry every branch has taken leaves the store. -/
def McastStore.feed (m : McastStore) : McastStore :=
  let r := m.store.foldl (fun (acc : KV (List Packet) × List McastEntry) e =>
    let f := feedEntry acc.1 e
    (f.1, if f.2.branches = [] then acc.2 else acc.2 ++ [f.2])) (m.queues, [])
  { m with queues := r.1, store := r.2 }

/-- Packets that wait enter the store while it has room; `fuel` bounds them. -/
def McastStore.enqueue (fuel : Nat) (m : McastStore) : McastStore :=
  match fuel with
  | 0 => m
  | fuel + 1 =>
    match m.wait with
    | [] => m
    | e :: rest =>
      if m.store.length < 64 then
        McastStore.enqueue fuel { m with store := m.store ++ [e], wait := rest, high := max m.high (m.store.length + 1) }.feed
      else m

/-- A packet reaches a branch point: it waits until the store has room (R212). -/
def McastStore.offer (m : McastStore) (p : Packet) (branches : List Nat) : McastStore :=
  let m := { m with wait := m.wait ++ [{ pkt := p, branches }] }
  McastStore.enqueue m.wait.length m

/-- A branch's queue gives up its head, and takes the next from the store. -/
def McastStore.taken (m : McastStore) (branch : Nat) : McastStore :=
  let m := { m with queues := kvSet m.queues branch ((kvGet m.queues branch []).drop 1) }.feed
  McastStore.enqueue m.wait.length m

/-- The branch of a die stop that leads on to the site interface; the other, numbered as the site, stays on the die. -/
def branchOn : Nat := 0x1F

/-- A multicast copy is written at a member site, which is another tower's to a fenced one (R213, R251). It meets the tests of every bulk
packet for memory: the space, the park flag and the owner of a KV frame (R262, R289, R311, R314). -/
def State.mcastWrite (s : State) (site : Nat) (p : Packet) : State :=
  let w := s.memberWindow? site p.addr
  if !packetSpace p.addr || w.any (·.park) then s.replyPoison p
  else if w.any (fun w => w.kvRefuses p) then (s.windowFault (some site)).replyPoison p
  else
    match s.memberLoc site p.addr with
    | .key key => (s.writeMem key p.data).reply p 4 (s.siteEid site) []
    | .poison f => (s.windowFault f).replyPoison p
    | .unrouted => s.replyFenced p (s.siteEid site)

/-- A multicast copy arrives at the branch point of its source, or at a destination (R212, R213, R251). With the source's own tower among
the members the copies branch at a stop of its die, one to stay and one for the site interface, where those to other sites branch. -/
def State.mcastArrives (s : State) (site : Nat) (p : Packet) : State :=
  if s.eidSite p.src = some site then
    let members := s.eidSites p.dst
    s.mapTower site (fun x =>
      if members.contains site then { x with dieMcast := x.dieMcast.offer p [site, branchOn] }
      else { x with mcast := x.mcast.offer p members })
  else if s.siteFenced site && !p.mgmt site then s.replyFenced p (s.siteEid site)
  else s.mcastWrite site p

/-- MULTICAST_COPY (R212, R213). -/
def execMulticastCopy (at_ site : Nat) (p : Packet) (s : State) : Host.Outcome State Fault Refusal :=
  .next ((s.advance at_).arriving (some site) p (fun s => s.mcastArrives site p))

/-- A branch sends the copy at the head of its queue, and its queue takes the next from the store (R212): a branch of the site interface to its
site, one of the die stop to the die's memory or on to the interface. -/
def State.branchSend (s : State) (site branch : Nat) : State :=
  if branch = site ∨ branch = branchOn then
    match (kvGet (s.tower site).dieMcast.queues branch []).head? with
    | none => s
    | some p =>
      let s := s.mapTower site (fun x => { x with dieMcast := x.dieMcast.taken branch })
      s.underBank p.tepoch (fun s =>
        if branch = site then s.mcastWrite site p
        else
          let others := (s.eidSites p.dst).filter (· != site)
          s.mapTower site (fun x => { x with mcast := x.mcast.offer p others }))
  else
    match (kvGet (s.tower site).mcast.queues branch []).head? with
    | none => s
    | some p =>
      let s := s.mapTower site (fun x => { x with mcast := x.mcast.taken branch })
      if s.siteFenced site && !p.mgmt site then s else s.sendBulk site (some branch) (s.copyFor site branch p)

/-- MULTICAST_BRANCH_SEND (R212). -/
def execMulticastBranchSend (at_ site branch : Nat) (s : State) : Host.Outcome State Fault Refusal :=
  .next ((s.advance at_).branchSend site branch)

/-- A poisoned completion reaches a chunk (R96, R320): words that its own read has found uncorrectable are poisoned and logged. -/
def State.chunkPoisoned (s : State) (t : Nat) (c : PoisonIn) : State :=
  let s := if (s.tower t).running.any (fun k => k.id == c.chunk) then
      s.underBank (s.chunkBank t c.chunk) (fun s => c.words.foldl (fun s a =>
        match s.keyAt? a with
        | some k => s.finds k 1 0 { off := 0, what := .symbols 3 }
        | none => s) s)
    else s
  (s.poisonChunk t c.chunk).schedule t

/-- POISONED_COMPLETION (R96). -/
def execPoisonedCompletion (at_ tower : Nat) (c : PoisonIn) (s : State) : Host.Outcome State Fault Refusal :=
  .next ((s.advance at_).chunkPoisoned tower c)

/-! ## Control packets (R198, R199) -/

/-- A control packet reaches its stop, behind those before it. -/
def State.ctlArrives (s : State) (t : Nat) (p : CtlPacket) : State := { s with ctl := s.ctl ++ [(t, p)] }

def CtlPacket.type (p : CtlPacket) : Nat := field p.hdr.toNat 3 0

/-- A control packet of a type reaches its stop on tower `t` if it is one of Table NS-3. -/
def State.ctlOf (s : State) (t type : Nat) (p : CtlPacket) : Bool := decide (t < 20) && ctlFormed (s.tower t).isCache type p

/-- CHUNK_ISSUE_PACKET (R198): type 0x2 reaches a region; CHUNK_ISSUE has placed the chunk. -/
def execChunkIssuePacket (at_ tower : Nat) (p : CtlPacket) (s : State) : Host.Outcome State Fault Refusal :=
  .next (if s.ctlOf tower 2 p then (s.advance at_).ctlArrives tower p else s.advance at_)

/-- POISON_NOTICE (R198): type 0x5. -/
def execPoisonNotice (at_ tower : Nat) (p : CtlPacket) (s : State) : Host.Outcome State Fault Refusal :=
  .next (if s.ctlOf tower 5 p then (s.advance at_).ctlArrives tower p else s.advance at_)

/-- FENCE (R198): type 0x4; the fence itself is set by the command that orders it. -/
def execFence (at_ tower : Nat) (p : CtlPacket) (s : State) : Host.Outcome State Fault Refusal :=
  .next (if s.ctlOf tower 4 p then (s.advance at_).ctlArrives tower p else s.advance at_)

/-- TOWER_EVENT (R198): type 0x9 reaches the management stop, and the tower event is raised. -/
def execTowerEvent (at_ tower : Nat) (p : CtlPacket) (s : State) : Host.Outcome State Fault Refusal :=
  .next (if s.ctlOf tower 9 p then ((s.advance at_).ctlArrives tower p).raiseEvent 2 else s.advance at_)

/-! ## The sync tree (R201 to R203) -/

/-- The first `n` messages that satisfy `p`, and the rest. -/
def takeMatching {α : Type} (p : α → Bool) (n : Nat) (l : List α) : List α × List α :=
  match l with
  | [] => ([], [])
  | m :: rest =>
    if 0 < n ∧ p m then (m :: (takeMatching p (n - 1) rest).1, (takeMatching p (n - 1) rest).2)
    else ((takeMatching p n rest).1, m :: (takeMatching p n rest).2)

/-- A message of the same KIND, SLOT and DESC (R202). -/
def sameArrival (m q : BitVec 64) : Bool := m.toNat % 2 ^ 32 == q.toNat % 2 ^ 32

/-- Chunk arrivals reach the store (R202): one message in place of as many arrivals as its COUNT says, with the OR of their status bytes;
at the operator's chunk count it completes. -/
def State.arrivals (s : State) (t : Nat) (m : BitVec 64) : State :=
  let w := m.toNat
  let n := field w 47 32
  let got := takeMatching (sameArrival m) n (s.tower t).tree
  if field w 1 0 ≠ 1 ∨ n = 0 ∨ got.1.length ≠ n then s
  else
    let s := s.mapTower t (fun x => { x with tree := got.2 })
    match (s.tower t).ops.find? (fun o => o.slot == field w 15 8 && o.desc == field w 31 16) with
    | none => s
    | some o =>
      let s := s.mapOp t o.id (fun o =>
        { o with tree := o.tree + n, flags := got.1.foldl (fun f q => f ||| BitVec.ofNat 8 (field q.toNat 55 48)) o.flags })
      ((s.tryComplete t o.id).settleRecord t o.slot).schedule t

/-- A chunk arrival by the network its die has (R193, R202): the sync tree of a Usilo die, whose nodes combine; the control channel of a
Decane die, where each is a packet of type 0xA. DESIGN CHOICE (log 27): its argument word is laid out as Table NS-4. -/
def State.chunkArrival (s : State) (t : Nat) (m : ArrivalIn) : State :=
  match m with
  | .tree m => if t < 16 then s.arrivals t m else s
  | .control p => if 16 ≤ t ∧ s.ctlOf t 0xA p = true ∧ field p.arg.toNat 47 32 = 1 then (s.ctlArrives t p).arrivals t p.arg else s

/-- CHUNK_ARRIVAL (R202). -/
def execChunkArrival (at_ tower : Nat) (m : ArrivalIn) (s : State) : Host.Outcome State Fault Refusal :=
  .next ((s.advance at_).chunkArrival tower m)

/-- A region's barrier arrival reaches the root (R203), on a compute tower, whose die has the sync tree (R193): when every region in service has arrived, the step is complete and the
next one begins with none arrived. -/
def Tower.barrierArrival (t : Tower) (r step : Nat) : Tower :=
  let have_ := insertNat (if t.barrier.1 = step then t.barrier.2 else []) r
  let all := t.regions.zipIdx.all (fun g => g.1.st == .lost || have_.contains g.2)
  { t with barrier := if all then (step + 1, []) else (step, have_) }

/-- REGION_BARRIER_ARRIVAL (R203). -/
def execRegionBarrierArrival (at_ tower region step : Nat) (s : State) : Host.Outcome State Fault Refusal :=
  .next (if tower < 16 then (s.advance at_).mapTower tower (fun x => x.barrierArrival region step) else s.advance at_)

/-- A go-back replay on an on-die link (R206): the fourth that fails in a row takes the link out, and its traffic takes the opposite ring
(`Ring.path`) or the adjacent node (`treeNode`); with both directions of a ring segment out the tower fails. `fixed` packets were
corrected on the link since the last replay (R207, R220). -/
def State.linkRetry (s : State) (t link fixed : Nat) (good : Bool) : State :=
  if s.towers.length ≤ t ∨ (s.tower t).linksOut.contains link ∨ linkExists (s.tower t).isCache link = false then s
  else
    let fails := if good then 0 else kvGet (s.tower t).linkFails link 0 + 1
    let s := s.mapTower t (fun x =>
      { x with linkRetries := x.linkRetries + 1, flitsFixed := x.flitsFixed + fixed, linkFails := kvSet x.linkFails link fails })
    if fails < 4 then s
    else
      let s := (s.mapTower t (fun x => { x with linksOut := insertNat x.linksOut link })).logEv 0x0301 sevLogged t
      if link < 256 ∧ (s.tower t).linksOut.contains (otherLink link) then s.failTower t else s

/-- ONDIE_LINK_RETRY (R206, R207). -/
def execOndieLinkRetry (at_ tower : Nat) (link : DieLink) (good : Bool) (s : State) : Host.Outcome State Fault Refusal :=
  .next ((s.advance at_).linkRetry tower link.link link.fixed good)

/-! ## Sync messages (R205, R214 to R218) -/

/-- SIGNAL at the holding tower: acknowledged; a fenced site discards it (R251). -/
def State.signalMsg (s : State) (m : BitVec 128) : State :=
  let t := msgDst m
  let s := if 16 ≤ t ∨ s.siteFenced t then s else (s.signalObj t (msgIndex m) (msgValue m)).schedule t
  s.sendSync (syncMsg 2 t (msgSrc m) (msgIndex m) (msgGen m) 0 0)

/-- A SIGNAL that its source's interface drops is acknowledged all the same, as by a fenced site. -/
def State.signalDropped (s : State) (m : BitVec 128) : State :=
  s.sendSync (syncMsg 2 (msgDst m) (msgSrc m) (msgIndex m) (msgGen m) 0 0)

/-- SIGNAL (R215); one from a guest meets the firewall first (R442). -/
def execSignal (at_ : Nat) (m : BitVec 128) (s : State) : Host.Outcome State Fault Refusal :=
  let r := ((s.advance at_).syncTaken m).guestSync m 6
  .next (if r.1 then r.2.signalMsg m else r.2.signalDropped m)

/-- The slot of the record whose signal to object `i` of tower `h` an acknowledgement answers: the oldest still out, since messages from
one source to one destination keep their order (R204). -/
def Tower.awaits (t : Tower) (h i : Nat) : Option Nat := (t.signalsOut.find? (fun g => g.1 == h && g.2.1 == i)).map (·.2.2)

/-- SIGNAL acknowledgement at the source (R205): the signal counts as sent. -/
def State.signalAcked (s : State) (m : BitVec 128) : State :=
  let t := msgDst m
  match (s.tower t).awaits (msgSrc m) (msgIndex m) with
  | none => s
  | some slot => s.mapTower t (fun x =>
      { x.mapRecord slot (fun q => { q with unacked := q.unacked - 1 }) with
        signalsSent := x.signalsSent + 1
        signalsOut := x.signalsOut.eraseP (fun g => g.1 == msgSrc m && g.2.1 == msgIndex m) })

/-- SIGNAL_ACKNOWLEDGEMENT (R205). -/
def execSignalAcknowledgement (at_ : Nat) (m : BitVec 128) (s : State) : Host.Outcome State Fault Refusal :=
  .next (((s.advance at_).syncTaken m).signalAcked m)

/-- WATCH at the holding tower (R216): the sender's bit is set and the value returned at once; a fenced site does not answer. -/
def State.watchMsg (s : State) (m : BitVec 128) : State :=
  let t := msgDst m
  if 16 ≤ t ∨ s.siteFenced t then s
  else
    let i := msgIndex m
    let o := (s.tower t).syncObj i
    let s := s.mapTower t (fun x =>
      { x with sync := kvSet x.sync i { o with subs := o.subs ||| (1#23 <<< msgSrc m) }, noticesSent := x.noticesSent + 1 })
    s.sendSync (syncMsg 4 t (msgSrc m) i ((s.tower t).objGen i) o.value (2 ^ msgSrc m))

/-- WATCH (R216); one from a guest meets the firewall first (R442). -/
def execWatch (at_ : Nat) (m : BitVec 128) (s : State) : Host.Outcome State Fault Refusal :=
  let r := ((s.advance at_).syncTaken m).guestSync m 7
  .next (if r.1 then r.2.watchMsg m else r.2)

/-- The waits of an operator after a notice: the reply to its WATCH fixes the generation; a value at or above the threshold under that
generation meets the wait (R216). -/
def OpInst.notice (o : OpInst) (h i gen value : Nat) (reply : Bool) : OpInst :=
  { o with waits := o.waits.filterMap (fun w =>
      if w.1 = h ∧ w.2.1 = i ∧ o.entered then
        let g := if reply then some (w.2.2.2.getD gen) else w.2.2.2
        if g = some gen ∧ w.2.2.1 ≤ value then none else some (w.1, w.2.1, w.2.2.1, g)
      else some w) }

/-- A notice is sampled at tower `t`: one sent to it alone is the reply to a WATCH. -/
def State.noticeAt (s : State) (t : Nat) (m : BitVec 128) : State :=
  (s.mapTower t (fun x => { x with ops := x.ops.map (fun o =>
    o.notice (msgSrc m) (msgIndex m) (msgGen m) (msgValue m) (msgDst m != 0x1F)) })).schedule t

/-- NOTICE (R216). -/
def execNotice (at_ : Nat) (m : BitVec 128) (s : State) : Host.Outcome State Fault Refusal :=
  .next (((msgSites m).filter (fun t => t < 20 && t != msgSrc m)).foldl (fun s t => s.noticeAt t m) ((s.advance at_).syncTaken m))

/-- Reduction-done at tower `t` (R210): the contributing operators complete. -/
def State.doneAt (s : State) (t : Nat) (m : BitVec 128) : State :=
  (s.contributors t (msgSrc m) (msgRedid m) (msgSlot m)).foldl (fun s o =>
    (((s.mapOp t o.id (fun o => { o with remote := false, offers := [] })).tryComplete t o.id).settleRecord t o.slot).schedule t) s

/-- REDUCTION_DONE (R210). -/
def execReductionDone (at_ : Nat) (m : BitVec 128) (s : State) : Host.Outcome State Fault Refusal :=
  .next (((msgSites m).filter (· < 16)).foldl (fun s t => s.doneAt t m) ((s.advance at_).syncTaken m))

/-- Reduction-closed at tower `t` (R210): the reductions it holds for that site are offered again from their first granule. -/
def State.closedAt (s : State) (t k : Nat) : State :=
  let held := (s.tower t).heldReductions.filter (fun h => h.2.2 == k)
  let s := s.mapTower t (fun x => { x with heldReductions := x.heldReductions.filter (fun h => h.2.2 != k) })
  held.foldl (fun s h => (s.contributors t k h.1 h.2.1).foldl (fun s o => o.offers.foldl (fun s p => s.sendFrom t p) s) s) s

/-- REDUCTION_CLOSED (R210). -/
def execReductionClosed (at_ : Nat) (m : BitVec 128) (s : State) : Host.Outcome State Fault Refusal :=
  .next (((msgSites m).filter (· < 16)).foldl (fun s t => s.closedAt t (msgSrc m)) ((s.advance at_).syncTaken m))

/-- REDUCER_BUSY (R210): the source holds the reduction, once whatever the number of its packets refused; B+0D.04 counts. -/
def execReducerBusy (at_ : Nat) (m : BitVec 128) (s : State) : Host.Outcome State Fault Refusal :=
  .next (((s.advance at_).syncTaken m).mapTower (msgDst m) (fun x =>
    { x with busyRefusals := x.busyRefusals + 1
             heldReductions := if x.heldReductions.contains (msgRedid m, msgSlot m, msgSrc m) then x.heldReductions
               else x.heldReductions ++ [(msgRedid m, msgSlot m, msgSrc m)] }))

/-! ## The sync-object window (R219) -/

/-- Tower and index of the PCIe view of D:4100. -/
def State.syncWindow (s : State) : Nat × Nat := (kvGet s.dict.pcie.sels 0x410001 0, kvGet s.dict.pcie.sels 0x410002 0)

/-- A write of D:4100.03 (R215, R219). -/
def syncWriteProc (value : Nat) (s : State) : Nat × State :=
  let w := s.syncWindow
  checked [(decide (0xFFFFFFFF < value), 0x04000001), (decide (w.2 < persistentBase), stateAbort 0x4100 4)]
    (fun s => (s.writeObj w.1 w.2 value).schedule w.1) s

/-- SYNC_HOST_WRITE (R215). -/
def execSyncHostWrite (at_ value : Nat) (s : State) : Host.Outcome State Fault Refusal :=
  .next ((s.advance at_).pcieWrite 0x4100 0x03 (syncWriteProc value))

/-- A write of D:4100.04 (R215, R219). -/
def syncAddProc (value : Nat) (s : State) : Nat × State :=
  let w := s.syncWindow
  checked [(decide (value = 0) || decide (0xFFFFFFFF < value), 0x04000001), (decide (w.2 < persistentBase), stateAbort 0x4100 4)]
    (fun s => (s.signalObj w.1 w.2 value).schedule w.1) s

/-- SYNC_ADD (R215). -/
def execSyncAdd (at_ value : Nat) (s : State) : Host.Outcome State Fault Refusal :=
  .next ((s.advance at_).pcieWrite 0x4100 0x04 (syncAddProc value))

end Sys2Proof.Machine
end

