-- ==== Sys2Proof/Machine/Ledger.lean ====
section
/-!
DEFINITION. The ledger (chapter 14): what it books, the limits of Table LG-1, the search of R382, acceptance and refusal, the slot
boundary, and how results leave (R364 to R366, R374).
-/
namespace Sys2Proof.Machine

open Sys2Proof

/-! ## What a record books (R377, R378) -/

/-- One entry to be booked. -/
structure Need where
  res   : Resource
  start : Nat
  len   : Nat
  amt   : Nat
  deriving DecidableEq, Repr

/-- Units of the result (R378). -/
def CostRec.resultUnits (c : CostRec) : Nat := 66 * cdiv c.resultLength 4096

/-- Entries of a cost record with its base slot at `b`, its result on port `x`. -/
def CostRec.needs (c : CostRec) (x b : Nat) : List Need :=
  let k := c.tail / 1024
  c.wins.map (fun w => { res := .tower w.tower, start := b + w.start, len := w.len, amt := w.cu })
    ++ (c.wins.filter (fun w => w.rctx != 0)).map (fun w => { res := .contexts w.tower, start := b + w.start, len := w.len, amt := w.rctx })
    ++ c.pairs.map (fun p => { res := .pair p.src p.dst, start := b + p.start, len := p.len, amt := p.wl })
    ++ (if c.resultUnits = 0 ∨ k = 0 then [] else [{ res := .egress x, start := b + c.span, len := k, amt := cdiv c.resultUnits k }])

/-- Index of a resource in a STATUS report: the towers, the ordered pairs, the X ports (Table PR-2). -/
def Resource.index : Resource → Option Nat
  | .tower t => some t
  | .contexts _ => none
  | .pair i j => some (20 + 23 * i + j)
  | .egress x => some (549 + x)

/-- The twin's limit as last received in STATUS (R465); contexts follow the guard policy that both units share. -/
def State.twinLimit (s : State) (r : Resource) : Nat :=
  match r.index with
  | some i => s.pair.twinLimits.getD i 0
  | none => s.ledger.ctxLimit

/-! ## Fit (R377, R465) -/

def Need.covers (n : Need) (x : Nat) : Bool := decide (n.start ≤ x) && decide (x < n.start + n.len)
def Booking.covers (b : Booking) (x : Nat) : Bool := decide (b.start ≤ x) && decide (x < b.start + b.len)

/-- Amount booked on a resource in slot `x` of a ledger plane. -/
def LedgerSt.bookedAt (l : LedgerSt) (recovery : Bool) (r : Resource) (x : Nat) : Nat :=
  sumNat ((l.bookings.filter (fun b => b.recovery == recovery && b.res == r && b.covers x)).map (·.amt))

/-- New amount on a resource in slot `x`. -/
def neededAt (ns : List Need) (r : Resource) (x : Nat) : Nat :=
  sumNat ((ns.filter (fun n => n.res == r && n.covers x)).map (·.amt))

/-- The slots at which a sum can rise: the first slots of the entries and of the bookings on the same resource. -/
def LedgerSt.marks (l : LedgerSt) (recovery : Bool) (ns : List Need) (r : Resource) : List Nat :=
  (ns.filter (fun n => n.res == r)).map (·.start)
    ++ (l.bookings.filter (fun b => b.recovery == recovery && b.res == r)).map (·.start)

/-- In every slot that the entries touch, booked and new amounts together stay at or below the limit (R377). -/
def LedgerSt.fits (l : LedgerSt) (recovery : Bool) (limit : Resource → Nat) (ns : List Need) : Bool :=
  ns.all (fun n => (l.marks recovery ns n.res).all (fun x =>
    !n.covers x || decide (l.bookedAt recovery n.res x + neededAt ns n.res x ≤ limit n.res)))

/-- Book entries for a request on a plane. -/
def LedgerSt.book (l : LedgerSt) (tenant seq : Nat) (recovery : Bool) (ns : List Need) : LedgerSt :=
  { l with bookings := l.bookings ++ ns.map (fun n =>
      { tenant, seq, recovery, res := n.res, start := n.start, len := n.len, amt := n.amt }) }

/-! ## Activation slots (R341, R379) -/

/-- Slots below this number have an area in every window that the package uses on tower `t` (R341). -/
def State.slotBound (s : State) (p : Pkg) (t : Nat) : Nat :=
  let kv := s.mem.windows.filter (fun w => w.tower == t && w.space == 5 && p.uses w.eid)
  (s.actWindows p t ++ kv).foldl (fun m w => min m (w.len / w.frames)) 256

/-- The lowest free slot that tower `t` allows for a package. -/
def State.freeSlot (s : State) (p : Pkg) (t : Nat) : Option Nat :=
  (List.range (s.slotBound p t)).find? (fun n => !s.ledger.slots.contains (t, n))

/-- The slot map of a request, if every tower it names has a slot. -/
def State.assignSlots (s : State) (p : Pkg) (towers : List Nat) : Option (List (Nat × Nat)) :=
  match towers with
  | [] => some []
  | t :: rest =>
    match s.freeSlot p t, s.assignSlots p rest with
    | some n, some m => some ((t, n) :: m)
    | _, _ => none

/-! ## The search (R382 to R385) -/

/-- A decision is protected: ACTIVE with lockstep admission running (R467). -/
def State.protects (s : State) : Bool := s.lockstep

/-- Ticks since the declaration of the reference loss (D:1202.03). -/
def State.holdoverTicks (s : State) : Nat :=
  match s.time.holdStart with
  | some h => s.now - h
  | none => 0

/-- margin() of R383 for a promised tick without it. -/
def State.driftMargin (s : State) (p0 a : Nat) : Nat :=
  if s.time.mode = .locked then 0 else s.time.residual.natAbs + cdiv (s.holdoverTicks + p0 - a) 500000

/-- Ticks added for the recovery windows of a protected class B request (R385). -/
def State.recoveryTicks (s : State) (r : Req) : Nat := if r.cls = 2 ∧ s.protects then 1024 * r.rec_.recov else 0

/-- The promised tick of a base slot. -/
def State.promise (s : State) (r : Req) (a b : Nat) : Nat :=
  let p0 := 1024 * (b + r.rec_.span) + r.rec_.tail
  p0 + s.driftMargin p0 a + s.recoveryTicks r

/-- The first candidate base slot. -/
def bmin (r : Req) (a : Nat) : Nat :=
  let startmin := r.rec_.wins.foldl (fun m w => min m w.start) 65536
  max ((a + 200) / 1024 + 2) (cdiv (a + cdiv r.length 50 + 512) 1024 - startmin)

/-- Candidates in rising order (R384), within the horizon. -/
def candidates (r : Req) (a : Nat) : List Nat :=
  let b0 := bmin r a
  ((List.range 1024).map (b0 + ·) ++ (List.range 1024).map (fun k => b0 + 1024 + 64 * k)).filter
    (fun b => decide (b + r.rec_.span ≤ a / 1024 + 65536))

/-- The entries fit this unit, on its run plane. -/
def State.fitsOwn (s : State) (r : Req) (b : Nat) : Bool := s.ledger.fits false s.limit (r.rec_.needs r.port b)

/-- The entries fit the recovery plane with the twin's limits; asked only of a protected decision (R465). -/
def State.fitsTwin (s : State) (r : Req) (b : Nat) : Bool :=
  !s.protects || s.ledger.fits true s.twinLimit (r.rec_.needs r.port (if r.cls = 2 then b + r.rec_.recov else b))

/-- What the search answers: a base slot, or a refusal with its offered tick. -/
inductive Found where
  | at_ (b p : Nat)
  | refuse (reason offer : Nat)
  deriving DecidableEq, Repr

/-- The search of R382. For class G an entry that does not fit the recovery plane does not fit; for class B, 0x44 (R385). -/
def State.search (s : State) (r : Req) (a : Nat) : Found :=
  let cs := candidates r a
  let own := cs.find? (fun b => s.fitsOwn r b && (r.cls == 2 || s.fitsTwin r b))
  match own with
  | none => .refuse 0x48 0
  | some b =>
    if !s.fitsTwin r b then
      .refuse 0x44 (match cs.find? (fun b => s.fitsOwn r b && s.fitsTwin r b) with
        | some b' => s.promise r a b'
        | none => 0)
    else
      let p := s.promise r a b
      if p ≤ r.deadline then .at_ b p
      else if r.deadline < s.promise r a (bmin r a) then .refuse 0x49 p
      else .refuse 0x48 p

/-! ## Preconditions (Table LG-3) -/

/-- A window entry's tower is not ACTIVE or not in the group bound to its role. -/
def State.groupBad (s : State) (r : Req) : Bool :=
  r.rec_.wins.any (fun w => decide ((s.tower w.tower).mode ≠ .active) ||
    (s.tower w.tower).group != some ((s.roleMap r.model).getD w.role 0xFF))

/-- Tower `t` is in a group whose unbooked-work flag is 0: the hub sends it no record of an unbooked request (R334). -/
def State.bookedOnly (s : State) (t : Nat) : Bool :=
  match (s.tower t).group with
  | some g => !(s.groups.getD g Group.fresh).unbooked
  | none => false

/-- A tower in a group whose unbooked-work flag is 0 (R387). -/
def State.barred (s : State) (r : Req) : Bool :=
  r.rec_.wins.any (fun w => s.bookedOnly w.tower)

/-- The first precondition that fails, or 0 (R382, R387, R389). `slots`: whether activation slots are free. -/
def State.precondition (s : State) (r : Req) (slots : Bool) : Nat :=
  let g := r.cls == 1
  let booked := !r.bestEffort
  let paired := s.pair.mode == .active
  firstAbort
    [(decide (s.time.mode = .unset), 0x40),
     (g && decide (s.time.mode = .holdover ∨ s.time.mode = .relock)
        && (s.time.holdLimit == 0 || decide (s.time.holdLimit < s.holdoverTicks)), 0x41),
     (g && decide (s.time.mode = .fault), 0x42),
     (g && paired && !s.lockstep, 0x43),
     (s.groupBad r, 0x45),
     (r.bestEffort && s.barred r, 0x46),
     (r.rec_.wins.any (fun w => s.base.spDegraded.getLsbD w.tower), 0x47),
     (booked && (r.rec_.needs r.port 0).any (fun n => decide (s.limit n.res < n.amt)), 0x4A),
     (!slots, 0x4B),
     (!g && booked && paired && (!s.lockstep || s.pair.twinSpoolFull), 0x44)]

/-! ## Acceptance and refusal -/

/-- A refusal: counted, mirrored, answered (R361, R389, R463). -/
def State.refuseReq (s : State) (r : Req) (reason offer : Nat) : State :=
  let s := s.mapLedger (fun l =>
    { l with refusals := l.refusals + 1, lastReason := reason, busy := if reason = 0x4F then l.busy + 1 else l.busy })
  let s := s.mirror { DecisionRec.blank with port := r.port, kind := 4, reason, tenant := r.tenant, seq := r.seq, tick := offer,
                                             shape := r.shape, model := r.model, commit := s.now }
  let s := s.sendAnswer r.port r.tenant r.model r.reqid r.seq r.kepoch 2 reason 0 offer r.cls s.unprot
  let s := s.mapReq r.tenant r.seq (fun q => { q with phase := .refused, reason := reason, payload := none })
  (s.leaveBuffer r.tenant r.seq).keyUnref kindTenant r.tenant r.kepoch

/-- Book a request and take its slots: run plane at `b`, and where the decision is protected the recovery plane (R465, R471). -/
def State.commitBooking (s : State) (r : Req) (b : Nat) (slots : List (Nat × Nat)) (prot : Bool) : State :=
  let ns := r.rec_.needs r.port b
  let s := s.mapLedger (fun l =>
    let l := if r.bestEffort then l else l.book r.tenant r.seq false ns
    let l := if r.bestEffort then l
      else if r.cls = 1 ∧ s.pair.bound then l.book r.tenant r.seq true ns
      else if r.cls = 2 ∧ prot then l.book r.tenant r.seq true (r.rec_.needs r.port (b + r.rec_.recov))
      else l
    { l with slots := l.slots ++ slots })
  if r.bestEffort then s
  else
    r.rec_.wins.foldl (fun s w => s.mapTower w.tower (fun t => { t with lastBooked := max t.lastBooked (1024 * (b + w.start + w.len)) })) s

/-- The request is accepted, with its commit tick (R373). -/
def State.acceptReq (s : State) (r : Req) (b p margin commit : Nat) (slots : List (Nat × Nat)) : State :=
  let prot := s.protects && !r.bestEffort
  let s := s.commitBooking r b slots prot
  let s := s.mapReq r.tenant r.seq (fun q =>
    { q with phase := .accepted, promised := p, commit, base := b, slotMap := slots, bank := s.bankNow, prot, here := true, reason := 0 })
  let s := s.mapLedger (fun l =>
    { l with gAccepted := if r.cls = 1 then l.gAccepted + 1 else l.gAccepted
             bAccepted := if r.cls = 2 then l.bAccepted + 1 else l.bAccepted
             beAccepted := if r.bestEffort then l.beAccepted + 1 else l.beAccepted
             margin := if r.bestEffort then l.margin else margin })
  let s := s.mirror { DecisionRec.blank with port := r.port, kind := (if r.bestEffort then 3 else r.cls), tenant := r.tenant, seq := r.seq
                                             tick := p, base := b, shape := r.shape, model := r.model, commit
                                             slotmap := slotList slots, tmask := towerMask (slots.map (·.1)), prot }
  let s := s.sendAnswer r.port r.tenant r.model r.reqid r.seq r.kepoch 1 0 0 p r.cls s.unprot
  if r.reason ≠ 0 then s.endRequest r.tenant r.seq r.reason 0 20
  else if s.vault.tenantFenced r.tenant then s.endRequest r.tenant r.seq 0x83 0 20
  else s.payloadReady r.tenant r.seq

/-- The request that is next for the fit engine. -/
def State.nextPending (s : State) : Option Req := s.ledger.reqs.find? (fun r => r.phase == .pending)

/-- The module as an admission whose search begins in this tick sees its guard policy (R392): writes of the tick come after it. -/
def State.guardDecided (s : State) : State :=
  match s.ledger.guardWas.filter (fun g => g.tick == s.now) with
  | some g => s.mapLedger (fun l => { l with fraction := g.fraction, pairLimit := g.pairLimit, ctxLimit := g.ctxLimit })
  | none => s

/-- The module as an admission whose search begins in this tick sees its groups (R333) and guard policy. -/
def State.asDecided (s : State) : State :=
  let s := s.guardDecided
  match s.groupWas with
  | some g =>
    if g.tick = s.now then
      g.towers.foldl (fun s q => s.mapTower q.1 (fun x =>
        { x with group := q.2, mode := if q.2.isNone ∧ x.mode = .active then .ready else if q.2.isSome ∧ x.mode = .ready then .active else x.mode }))
        { s with groups := g.groups, roles := g.roles }
    else s
  | none => s

/-- The decision of a request whose record was fetched at `fetched` is turned away BUSY (R382). -/
def State.engineBusy (s : State) (fetched : Nat) : Bool := decide (fetched + 24 < s.ledger.engineFree)

/-- The tick at which a decision that begins its search now, or when the engine is free, commits: at most 24 later (R386). -/
def State.commitTick (s : State) (took : Nat) : Nat := max s.now s.ledger.engineFree + min took 24

/-- ADMISSION_DECISION at the tick at which the search begins, on the tables as they stand (R386, R390): the record was fetched at
`fetched`; search and commit take `took` ticks of the engine (R382). -/
def State.decide_ (s : State) (fetched took : Nat) : State :=
  match s.nextPending with
  | none => s
  | some r =>
    if !s.decides then s
    else if s.engineBusy fetched then s.refuseReq r 0x4F 0
    else
      let commit := s.commitTick took
      let s := s.mapLedger (fun l => { l with engineFree := commit })
      match s.pkg? r.model with
      | none => s.refuseReq r 0x45 0
      | some p =>
        let v := s.asDecided
        let slots := v.assignSlots p r.rec_.towers
        let k := v.precondition r slots.isSome
        if k ≠ 0 then s.refuseReq r k 0
        else if r.bestEffort then s.acceptReq r 0 (2 ^ 64 - 1) 0 commit (slots.getD [])
        else
          match v.search r r.arrival with
          | .refuse reason offer => s.refuseReq r reason offer
          | .at_ b pr =>
            s.acceptReq r b pr (s.driftMargin (1024 * (b + r.rec_.span) + r.rec_.tail) r.arrival) commit
              (slots.getD [])

/-- An A frame that leaves later than R388's bound is counted (D:2001.08): assembly takes 20 tk and the crossing 60 (Table LG-4), and
on a port with two or three lanes the bound is 240. -/
def State.lateCheck (s : State) (r : Option Req) (done : Nat) : State :=
  match r with
  | none => s
  | some r =>
    let bound := if laneCount (s.port r.port).lanes < 4 then 240 else 200
    if r.arrival + bound < done + 80 then s.mapLedger (fun l => { l with late := l.late + 1 }) else s

/-- ADMISSION_DECISION (R382). -/
def execAdmissionDecision (at_ fetched took : Nat) (s : State) : Host.Outcome State Fault Refusal :=
  let s := s.advance at_
  .next (if s.dead then s
    else (s.decide_ fetched took).lateCheck (if s.decides then s.nextPending else none) (if s.engineBusy fetched then s.now else s.commitTick took))

/-! ## The slot boundary (R89, R376) -/

/-- The activation record of a request on tower `t` (R89, R135). -/
def Req.record (s : State) (r : Req) (t : Nat) : ActRec :=
  let slot := kvGet r.slotMap t 0
  { slot, tenant := r.tenant, seq := r.seq, reqid := r.reqid, model := r.model, bases := s.actBases t slot r.model
    windows := (r.rec_.wins.filter (fun w => w.tower == t)).map (fun w =>
      { win := w.win, open_ := 1024 * (r.base + w.start), close := 1024 * (r.base + w.start + w.len), graph := w.graph, opened := false })
    slotMap := r.slotMap, bank := r.bank, booked := !r.bestEffort, status := 0, code := 0, codeDesc := 0xFFFF, done := 0, total := 0
    unacked := 0, reported := false, withdrawn := false, stamps := [], spooled := [] }

/-- Send the records of the requests committed before the slot that begins. -/
def State.sendRecords (s : State) : State :=
  let due := s.ledger.reqs.filter (fun r =>
    r.phase == .accepted && !r.sentRecords && r.reason == 0 && decide (r.commit < 1024 * (s.now / 1024)) && r.here)
  due.foldl (fun s r =>
    let s := s.mapReq r.tenant r.seq (fun q => { q with sentRecords := true })
    s.mapLedger (fun l => { l with inflight := l.inflight ++ (r.rec_.towers.filter (fun t => !(r.bestEffort && s.bookedOnly t))).map (fun t =>
      (t, r.record s t)) })) s

/-- The G requests of the twin that this unit has booked and does not run are over for it when their promised tick has passed: no message
says when the twin has done with them (log 38). -/
def State.dropUnrun (s : State) : State :=
  if s.decides then s
  else (s.ledger.reqs.filter (fun r => r.phase == .accepted && !r.here && r.cls == 1 && decide (r.promised < s.now))).foldl (fun s r => s.finishEnd r) s

/-- A slot begins: bookings of slots that have passed leave the ring, and records are sent. -/
def State.slotBegins (s : State) : State :=
  let n := s.now / 1024
  if n ≤ s.ledger.slot then s
  else (s.dropUnrun.mapLedger (fun l => { l with slot := n, bookings := l.bookings.filter (fun b => decide (n < b.start + b.len)) })).sendRecords

/-- SLOT_BOUNDARY (R376). -/
def execSlotBoundary (at_ : Nat) (s : State) : Host.Outcome State Fault Refusal := .next ((s.advance at_).slotBegins)

/-! ## Delivery (R364 to R366, R374, R396) -/

/-- A request is over for the hub when its result has left: its key reference falls (R355), and a standby unit reports it (R466). -/
def State.resultLeft (s : State) (r : Req) : State :=
  let s := s.mapReq r.tenant r.seq (fun q => { q with lastLeft := true, phase := .delivered, endTick := s.now })
  let s := s.keyUnref kindTenant r.tenant r.kepoch
  if s.pair.mode = .standby then s.sendTwin (.delivered r.tenant r.seq) else s

/-- Descriptors of a tower's task graph. -/
def PkgTables.graphWords (p : PkgTables) (g : Nat) : List (BitVec 1024) :=
  match p.graphs[g]? with
  | some q => (List.range q.2).map (fun k => p.descs.getD (q.1 + k) 0)
  | none => []

/-- Result offsets of the DELIVER operators of a request, over all its towers (R161). -/
def State.deliverOffsets (s : State) (r : Req) : List Nat :=
  r.rec_.wins.flatMap (fun w => match (s.pkg? r.model).bind (fun p => p.tablesOf w.tower) with
    | some tab => ((tab.graphWords w.graph).filter (fun d => dOpcode d == 0x78)).map (fun d => dField d 927 896)
    | none => [])

/-- Every frame of the result has left: of the part with LAST, and of every part before it in byte offset (R161). -/
def State.resultComplete (s : State) (r : Req) : Bool :=
  r.framesLeft == 0 && r.parts.any (fun p => p.2.2 && (s.deliverOffsets r).all (fun o => decide (p.1 ≤ o) || r.parts.any (fun q => q.1 == o)))

/-- The condition of R375 on the payload failed. -/
def Req.payloadLate (r : Req) : Bool :=
  !r.payloadGood || decide (r.arrival + cdiv r.length 50 + 256 < r.payloadTick)

/-- The promised tick plus 1 is reached and the result has not left (R396). A protected G request's end is deferred (R469). -/
def State.promiseMissed (s : State) (tenant seq : Nat) : State :=
  match s.req? tenant seq with
  | none => s
  | some r =>
    if r.phase ≠ .accepted ∨ r.reason ≠ 0 ∨ r.lastLeft ∨ s.now ≤ r.promised ∨ !s.drives then s
    else
      let tripped := (List.range 20).any (fun t => s.holdsRecord t r && decide ((s.tower t).mode = .tripped))
      let reason := if r.payloadLate then 0x80 else if tripped then 0x84 else 0x85
      if s.defers r then
        s.mapReq tenant seq (fun q => { q with reason, endTick := s.now, reasonSite := 20, byCompare := true })
      else
        let s := s.mapLedger (fun l => { l with missed := l.missed + 1 })
        let s := s.logEv 0x0840 sevWork unitHub 0 seq (arg1Of tenant reason 0)
        s.endRequest tenant seq reason 0 20

/-- The last unit of the D frame at the head of port `x` leaves, where credit allows it and its tenant is not fenced. Past the promised
tick the compare of R396 has fired first, and a request that it ends sends no further D frame (R362, R374). -/
def State.dFrameLeaves (s : State) (x : Nat) : State :=
  let p := s.port x
  match p.queue with
  | [] => s
  | f :: rest =>
    if f.cls ≠ 5 ∨ !p.up ∨ !p.covers f ∨ s.vault.tenantFenced f.tenant then s
    else
      let s := s.promiseMissed f.tenant f.seq
      if (s.port x).queue.head? ≠ some f then s
      else
        let s := s.mapPort x (fun p => { p.depart s.now f with queue := rest })
        let s := s.mapReq f.tenant f.seq (fun q => { q with framesLeft := q.framesLeft - 1 })
        match s.req? f.tenant f.seq with
        | none => s
        | some r => if r.phase = .accepted ∧ s.resultComplete r then s.resultLeft r else s

/-- D_FRAME_DEPARTURE (R374). -/
def execDFrameDeparture (at_ port : Nat) (s : State) : Host.Outcome State Fault Refusal :=
  .next (let s := s.advance at_
    if s.dead then s else s.dFrameLeaves port)

/-- PROMISE_COMPARE (R396). -/
def execPromiseCompare (at_ tenant seq : Nat) (s : State) : Host.Outcome State Fault Refusal :=
  .next ((s.advance at_).promiseMissed tenant seq)

end Sys2Proof.Machine
end

