-- ==== Sys2Proof/Machine/Vault.lean ====
section
/-! DEFINITION. Attestation reports, key envelopes and key slots: commands of chapter 15. -/
namespace Sys2Proof.Machine

open Sys2Proof

/-! ## Reports (R403 to R406, R408) -/

def Measure.bytes (m : Measure) : List Byte :=
  leBytes 1 m.kind ++ leBytes 1 (if m.pend then 1 else 0) ++ leBytes 2 m.index ++ leBytes 4 m.version ++ leBytes 8 m.tick ++ leBytes 48 m.hash

/-- The entry of layer 3 that a reset of a die reloads, where the layer has no pending image (R406). -/
def State.reloadEntry (s : State) : List Measure :=
  if s.vault.reloading = [] ∨ s.vault.pendingLayers.any (fun m => m.index == 3) then []
  else (s.vault.measures.filter (fun m => m.kind == 1 && m.index == 3)).map (fun m => { m with pend := true })

/-- The measurement entries in the order of R403. -/
def State.entries (s : State) : List Measure :=
  let of := fun k => sortBy (fun (a b : Measure) => decide (a.index < b.index)) (s.vault.measures.filter (fun m => m.kind == k))
  of 1 ++ s.vault.pendingLayers ++ s.reloadEntry
    ++ [{ kind := 4, pend := false, index := 0, version := 0, tick := s.vault.policyTick, hash := s.policyDigest }] ++ of 3 ++ of 2

/-- Octets of the report before its signatures (Table SK-3). -/
def State.reportBody (s : State) : List Byte :=
  let v := s.vault
  leBytes 1 1 ++ leBytes 1 ((if v.reportTrans then 1 else 0) + (if v.reportPaired then 2 else 0)) ++ leBytes 2 v.reportEntries.length
    ++ leBytes 4 0 ++ leBytes 8 v.reportTick ++ leBytes 8 0 ++ leBytes 48 v.nonceIn ++ leBytes 48 s.ident.didh ++ leBytes 8 0
    ++ (List.range 1216).map (fun i => Config.releaseKeyByte v.reportGen i) ++ v.reportEntries.flatMap Measure.bytes

/-- The report D:7002.04. -/
def State.reportBytes (s : State) : List Byte := s.reportBody ++ (List.range 3373).map (fun i => Config.signByte s.reportBody i)

/-- D:7002.03. -/
def State.reportLength (s : State) : Nat := if s.vault.reportSt ≠ 2 then 0 else 4717 + 64 * s.vault.reportEntries.length

/-- A write of D:7002.01 (R405). -/
def reportNonceProc (nonce : Nat) (s : State) : Nat × State :=
  checked
    [(decide (2 ^ 384 ≤ nonce), 0x04000006), (decide (s.vault.mode = .erased), 0x06040000), (decide (s.vault.reportSt = 1), stateAbort 0x7002 9)]
    (fun s => s.mapVault (fun v =>
      { v with nonceIn := nonce, reportSt := 1, reportTick := s.now, reportTrans := decide (v.mode = .transitional), reportEntries := s.entries
               reportGen := v.releaseGen, reportPaired := s.pair.bound })) s

/-- REPORT_NONCE (R405). -/
def execReportNonce (at_ nonce : Nat) (s : State) : Host.Outcome State Fault Refusal :=
  .next ((s.advance at_).pcieWrite 0x7002 1 (reportNonceProc nonce))

/-- The vault finishes signing (R405, R408): the hash of a report without TRANS joins the list of 64, unless the release key has been
derived anew since. -/
def State.reportDone (s : State) : State :=
  if s.vault.reportSt ≠ 1 ∨ s.dead then s
  else
    let hash := (Config.digest (s.reportBytes.map (·.toNat))).toNat
    (s.mapVault (fun v =>
      { v with reportSt := 2, reportHashes := if v.reportTrans ∨ v.reportGen ≠ v.releaseGen then v.reportHashes else (hash :: v.reportHashes).take 64 })).raiseVector 0

/-- REPORT_READY (R405). -/
def execReportReady (at_ : Nat) (s : State) : Host.Outcome State Fault Refusal := .next ((s.advance at_).reportDone)

/-! ## Key envelopes (R410 to R413) -/

namespace Envelope

def kind (b : List Byte) : Nat := leAt b 1 1
def id (b : List Byte) : Nat := leAt b 2 2
def epoch (b : List Byte) : Nat := leAt b 4 1
def notBefore (b : List Byte) : Nat := leAt b 8 8
def notAfter (b : List Byte) : Nat := leAt b 16 8
def rhash (b : List Byte) : Nat := leAt b 24 48

/-- Check 2: length, FORMAT, KIND and reserved bits. -/
def malformed (b : List Byte) : Bool :=
  b.length != 4669 || leAt b 0 1 != 1 || !(kind b == kindTenant || kind b == kindModel) || leAt b 5 3 != 0 || leAt b 72 56 != 0

end Envelope

/-- IDs of a kind that hold a slot, and the slots of that kind that are never used again (R421): what its capacity has lost (log 52). -/
def VaultSt.heldIds (v : VaultSt) (kind : Nat) : Nat :=
  (v.keys.filter (fun k => k.kind == kind)).length + (v.deadSlots.filter (· == kind)).length

/-- Number of the first check of Table SK-5 that fails, or 0. -/
def State.envelopeCheck (s : State) (e : EnvelopeIn) : Nat :=
  let b := e.bytes
  let kind := Envelope.kind b
  let id := Envelope.id b
  let k := s.vault.key? kind id
  let prev := match k with
    | some k => k.prev
    | none => none
  firstAbort
    [(decide (s.vault.mode ≠ .normal), 1), (Envelope.malformed b, 2), (!e.sigOk || s.vault.anchors.getD 2 0 == 0, 3),
     (decide (s.now < Envelope.notBefore b ∨ Envelope.notAfter b ≤ s.now), 4), (!s.vault.reportHashes.contains (Envelope.rhash b), 5),
     (!e.openOk, 6),
     ((kind == kindTenant && id == 0) || (k.isNone && decide ((if kind = kindTenant then 1024 else 240) ≤ s.vault.heldIds kind))
        || decide (2 ^ 30 - 1 ≤ s.vault.install), 7),
     (match k with
        | some k => (k.slot? (Envelope.epoch b)).isSome
        | none => false, 8),
     (prev.isSome, 9)]

/-- The key becomes the current slot, the former current slot the previous one (R413, R417). -/
def VaultSt.installKey (v : VaultSt) (kind id epoch now : Nat) : VaultSt :=
  let slot : KeySlot := { epoch, refs := 0, closing := false, since := now, install := v.install + 1, counter := 0 }
  let old := match v.key? kind id with
    | some k => k.cur.map (fun c => { c with since := now })
    | none => none
  { v with install := v.install + 1, imports := v.imports + 1
           keys := insertBy (fun a b => decide (a.kind < b.kind ∨ (a.kind = b.kind ∧ a.id < b.id))) { kind, id, cur := some slot, prev := old }
             (v.keys.filter (fun k => !k.named kind id)) }

/-- A refused envelope counts; the third failure of check 3, 5 or 6 within the window raises source 0x08 (R412). -/
def State.envelopeFails (s : State) (tenant check : Nat) : State :=
  let counts := check == 3 || check == 5 || check == 6
  let fails := if counts then recentFails (s.now :: s.vault.failTicks) s.now else s.vault.failTicks
  let s := s.mapVault (fun v => { v with importFails := v.importFails + 1, failTicks := fails })
  if counts && decide (3 ≤ fails.length) then s.raiseAlarm 8 false (if tenant = 0 then [] else [tenant]) else s

/-- A write of D:7010.01: every envelope is logged (R412); an install clears the test segments (R539). -/
def keyEnvelopeProc (e : EnvelopeIn) (s : State) : Nat × State :=
  let kind := Envelope.kind e.bytes
  let id := Envelope.id e.bytes
  let check := s.envelopeCheck e
  let tenant := if kind = kindTenant then id else 0
  let s := s.logEv 0x0941 sevLogged unitHub 0 (kind * 65536 + id) (tenant * 65536 + check * 256)
  if check ≠ 0 then (0x06010000 + check, s.envelopeFails tenant check)
  else (0, (s.mapVault (fun v => v.installKey kind id (Envelope.epoch e.bytes) s.now)).mapTap (fun t => { t with segments := 0 }))

/-- KEY_ENVELOPE (R412). -/
def execKeyEnvelope (at_ : Nat) (e : EnvelopeIn) (s : State) : Host.Outcome State Fault Refusal :=
  .next ((s.advance at_).telling (fun s => s.pcieWrite 0x7010 1 (keyEnvelopeProc e)))

/-! ## Retirement and closing (R416, R420, R421) -/

/-- The previous slot of an ID may be retired: nothing refers to it and its grace has passed. -/
def KeyId.retirable (k : KeyId) (now grace : Nat) : Bool :=
  match k.prev with
  | some p => p.refs == 0 && decide (p.since + grace ≤ now)
  | none => false

/-- The read-back of an erased slot of a kind: storage that does not read zero is a vault fault, and is never used again (R421). -/
def State.readBack (s : State) (kind : Nat) (readsZero : Bool) : State :=
  if readsZero then s else (s.mapVault (fun v => { v with deadSlots := v.deadSlots ++ [kind] })).raiseAlarm 9 true []

/-- A header sampled in this tick takes its reference on the slot of an epoch before a retirement of the tick (R61, R416). -/
def State.headerTakes (s : State) (kind id epoch : Nat) : Bool :=
  let takes := fun (a k i : Nat) (f : FrameIn) => decide (a ≤ s.now ∧ k = kind ∧ i = id ∧ f.kepoch = epoch ∧ f.fault = 0) && (s.port f.port).up
  s.sampled (fun c => match c with
    | .gFrame a f => takes a kindTenant f.tenant f
    | .bFrame a f => takes a kindTenant f.tenant f
    | .mFrame a f _ _ _ => takes a kindModel f.model f
    | _ => false)

/-- A previous slot is retired and erased, unless a header of the tick refers to it. -/
def State.retireSlot (s : State) (kind : Nat) (e : EraseIn) : State :=
  match (s.vault.key? kind e.id).filter (fun k => k.retirable s.now s.vault.grace && !k.prev.any (fun p => s.headerTakes kind e.id p.epoch)) with
  | none => s
  | some _ =>
    ((s.mapVault (fun v =>
      { v with keys := modWhere v.keys (fun k => k.named kind e.id) (fun k => { k with prev := none }) })).dropEmpty).readBack kind e.readsZero

/-- PREVIOUS_SLOT_RETIRE (R416). -/
def execPreviousSlotRetire (at_ kind : Nat) (e : EraseIn) (s : State) : Host.Outcome State Fault Refusal :=
  .next ((s.advance at_).telling (fun s => s.retireSlot kind e))

def KeySlot.close (k : KeySlot) : KeySlot := { k with closing := true }

/-- The ID selected over PCIe by D:7020.01 and D:7020.02. -/
def State.slotSel (s : State) : Nat × Nat := (kvGet s.dict.pcie.sels 0x702001 1, kvGet s.dict.pcie.sels 0x702002 1)

/-- A write of D:7020.08 (R420). -/
def closeProc (value : Nat) (s : State) : Nat × State :=
  let q := s.slotSel
  checked
    [(decide (1 < value), 0x04000003), (decide (value = 0), 0x04000001), ((s.vault.key? q.1 q.2).isNone, stateAbort 0x7020 4)]
    (fun s => s.mapVault (fun v =>
      { v with keys := modWhere v.keys (fun k => k.named q.1 q.2) (fun k =>
        { k with cur := k.cur.map KeySlot.close, prev := k.prev.map KeySlot.close }) })) s

/-- CLOSE (R420). -/
def execClose (at_ value : Nat) (s : State) : Host.Outcome State Fault Refusal :=
  .next ((s.advance at_).pcieWrite 0x7020 8 (closeProc value))

/-- A closing slot that nothing refers to. -/
def KeySlot.done (k : KeySlot) : Bool := k.closing && k.refs == 0

/-- The closing slots of an ID whose references are gone are erased and read back; storage that does not read zero is a vault fault
(R420, R421). -/
def State.eraseClosing (s : State) (kind id : Nat) (readsZero : Bool) : State :=
  match s.vault.key? kind id with
  | none => s
  | some k =>
    if !(k.cur.any KeySlot.done || k.prev.any KeySlot.done) then s
    else
      ((s.mapVault (fun v =>
        { v with keys := modWhere v.keys (fun k => k.named kind id) (fun k =>
          { k with cur := k.cur.filter (fun c => !c.done), prev := k.prev.filter (fun c => !c.done) }) })).dropEmpty).readBack kind readsZero

/-- CLOSING_SLOT_ERASE (R420). -/
def execClosingSlotErase (at_ kind id : Nat) (readsZero : Bool) (s : State) : Host.Outcome State Fault Refusal :=
  .next ((s.advance at_).telling (fun s => s.eraseClosing kind id readsZero))

/-- DRBG_RESEED (Table SK-1): the random generator is reseeded, once for each 1,000,000,000 tk that has passed. -/
def execDrbgReseed (at_ : Nat) (s : State) : Host.Outcome State Fault Refusal :=
  let s := s.advance at_
  .next (if s.dead ∨ s.now < 1000000000 * (s.vault.reseeds + 1) then s
    else s.mapVault (fun v => { v with reseeds := v.reseeds + 1, nextRandom := v.nextRandom + 1 }))

end Sys2Proof.Machine
end

