-- ==== Sys2Proof/Machine/Pair.lean ====
section
/-! DEFINITION. The redundant pair: commands of chapter 17. -/
namespace Sys2Proof.Machine

open Sys2Proof

/-! ## Shared -/

/-- The pair event. -/
def State.pairEvent (s : State) : State := s.raiseEvent 10

def silenceLimit : Nat := 32000
def heartbeatPeriod : Nat := 8000

/-- A path fault (R460): shown, counted, logged, and the pair event raised. -/
def State.pathFault (s : State) (onPx : Bool) : State :=
  let s := s.mapPair (fun p =>
    { p with pathFaults := p.pathFaults + 1, pxPath := if onPx then 2 else p.pxPath, thPath := if onPx then p.thPath else 2 })
  (s.logEv 0x0A01 sevLogged unitPair).pairEvent

/-- The unit begins to send heartbeats. -/
def State.startBeats (s : State) : State := s.mapPair (fun p => { p with beating := true, nextBeat := s.now })

/-- K frames of a unit that begins to drive its ports carry its totals (R366, R475). -/
def State.announce (s : State) : State :=
  (List.range 4).foldl (fun s x => if (s.port x).up then s.sendCredit x else s) s

/-- The unit enters SOLO with a claim. -/
def State.enterSolo (s : State) (claim : Nat) : State :=
  ((s.mapPair (fun p => { p with mode := .solo, claim, joinArmed := false })).startBeats.announce).pairEvent

/-- Leave SEEKING without a twin (R453, Table PR-7). -/
def State.soloFromSeeking (s : State) : State := s.enterSolo (4 + s.pos)

/-- Rejoin under R479: out of SEEKING or ISOLATED the claim is the twin's less 1 (R453), and the unit is SYNCING. -/
def State.rejoin (s : State) : State :=
  let s := s.mapPair (fun p =>
    { p with mode := .syncing, claim := if p.mode = .standby then p.claim else p.twinClaim - 1, readySent := false, snapshotTick := 0, joinArmed := false, twinDigest := 0
             pxHeard := max p.pxHeard s.now, thHeard := max p.thHeard s.now })
  (if s.pair.resumeTick.isSome then s else s.startBeats).pairEvent

/-! ## The handshake (R452) -/

/-- PX links up, hellos are exchanged, and the two vaults derive a pair key. A unit that runs with its twin keeps its decision count for
the compare of R480. Where both units are SEEKING the preferred one enters SOLO (Table PR-7). While time is UNSET the hub refuses the twin's frames as every frame (R50), and the next link-up brings them again
(DESIGN CHOICE, log 52). -/
def State.handshake (s : State) (didh : Nat) (preferred : Bool) (twin : TwinIn) : State :=
  if !s.pair.bound || s.dead || decide (s.vault.mode = .erased) || decide (s.time.mode = .unset) then s
  else if didh != s.pair.twinId || preferred == s.pair.preferred then
    ((s.mapPair (fun p => { p with bindFaults := p.bindFaults + 1 })).logEv 0x0A40 sevLogged unitPair 0 (didh % 2 ^ 64)).pairEvent
  else if !twin.reportsOk then s
  else
    let s := s.mapVault (fun v => { v with pairKey := true })
    let s := s.mapPair (fun p =>
      { p with keyGen := p.keyGen + 1, sSeqIn := 0, sSeqOut := 0, sFault := false
               decnum := if p.mode = .active ∨ p.mode = .standby then p.decnum else 0 })
    if s.pair.mode = .seeking ∧ twin.seeking ∧ s.pair.preferred then s.soloFromSeeking else s

/-- PX_LINK_UP (R452). -/
def execPxLinkUp (at_ : Nat) (didh : Nat) (preferred : Bool) (twin : TwinIn) (s : State) : Host.Outcome State Fault Refusal :=
  .next ((s.advance at_).handshake didh preferred twin)

/-! ## S frames (R456) -/

/-- An S frame is discarded: counted, and PX is a path fault until the next handshake. -/
def State.discardS (s : State) : State :=
  let s := s.mapPair (fun p => { p with sDiscarded := p.sDiscarded + 1, sFault := true })
  if s.pair.pxPath = 2 then s else s.pathFault true

/-- An S frame is taken: its checks, and then its content. While time is UNSET the hub refuses it as every frame (R50): it is discarded
with the same effect (DESIGN CHOICE, log 52). -/
def State.sFrame (s : State) (f : SFrameIn) (go : State → State) : State :=
  if !s.hearsTwin then s
  else if decide (s.time.mode = .unset) || s.pair.sFault || !f.ok || f.kepoch != s.pair.keyGen % 256 || f.seq != s.pair.sSeqIn + 1 then s.discardS
  else go (s.mapPair (fun p => { p with sSeqIn := f.seq, twinClaim := f.claim }))

/-! ## Heartbeats (R458, R460, R477, R478, R482) -/

/-- The heartbeat that the unit sends (Table PR-3). -/
def State.heartbeat (s : State) : HeartbeatIn :=
  { claim := s.pair.claim, state := s.pair.mode.code, locked := decide (s.time.mode = .locked)
    stopped := decide (s.pair.mode = .active) && !s.lockstep, hbseq := s.pair.hbseq % 65536, epochcnt := s.time.epochCount
    decnum := s.pair.decnum, tick := s.now }

/-- HEARTBEAT_SEND (R460): on both paths, every 8,000 tk, and with it the STATUS that is due at least as often (Table PR-2). -/
def State.sendHeartbeat (s : State) : State :=
  if !s.hearsTwin || !s.pair.beating || decide (s.pair.mode = .unbound ∨ s.pair.mode = .seeking) || decide (s.now < s.pair.nextBeat) then s
  else
    let h := s.heartbeat
    (((s.sendTwin (.heartbeat true h)).sendTwin (.heartbeat false h)).mapPair (fun p =>
      { p with hbseq := p.hbseq + 1, nextBeat := s.now + heartbeatPeriod })).sendStatus

def execHeartbeatSend (at_ : Nat) (s : State) : Host.Outcome State Fault Refusal := .next ((s.advance at_).sendHeartbeat)

/-- A path has carried a heartbeat. -/
def State.pathHeard (s : State) (onPx : Bool) : State :=
  s.mapPair (fun p =>
    if onPx then { p with pxHeard := s.now, pxPath := 1, sSeqIn := p.sSeqIn + 1 }
    else { p with thHeard := s.now, thPath := 1 })

/-- What the deciding unit sends a twin that has begun to rejoin (R479): packages, the spool image, a snapshot. -/
def State.feedTwin (s : State) : State :=
  let s := (s.pkgs.filter (fun p => p.st == 2)).foldl (fun s p => s.sendTwin (.package p.model)) s
  ((s.sendTwin .image).sendTwin (.snapshot s.now)).mapPair (fun p => { p with snapshotTick := s.now })

/-- State changes of Table PR-7 on a heartbeat; `was` is the twin's state as known before it, `cleared` whether it ended a PX path
fault. -/
def State.onHeartbeat (s : State) (was : PairMode) (cleared : Bool) : State :=
  let p := s.pair
  if (p.mode = .active ∨ p.mode = .solo) ∧ p.claim < p.twinClaim then s.isolate
  else
    match p.mode with
    | .unbound => s
    | .seeking =>
      if p.twinMode = .active ∨ p.twinMode = .solo then s.rejoin else s
    | .syncing => s
    | .standby => if cleared ∧ p.twinDecnum ≠ p.decnum then s.rejoin else s
    | .active =>
      if p.twinMode = .standby then s
      else
        let s := (s.mapPair (fun p => { p with mode := .solo })).pairEvent
        if p.twinMode = .syncing then s.feedTwin else s
    | .solo => if p.twinMode = .syncing ∧ was ≠ .syncing then s.feedTwin else s
    | .isolated => if s.towers.all (fun t => t.records.isEmpty) then s.rejoin else s

/-- A heartbeat is sampled; on PX it is an S frame, and one whose tag fails, or that comes after a frame was discarded, is discarded as
such (R456). -/
def State.heartbeatIn (s : State) (onPx tagOk : Bool) (h : HeartbeatIn) : State :=
  if !s.hearsTwin then s
  else if !tagOk || (onPx && (s.time.mode == .unset || s.pair.sFault)) then (if onPx then s.discardS else s)
  else
    let was := s.pair.twinMode
    let cleared := onPx && s.pair.pxPath == 2
    let s := (s.pathHeard onPx).mapPair (fun p =>
      { p with twinClaim := h.claim, twinMode := PairMode.ofCode h.state, twinLocked := h.locked, twinDecnum := h.decnum, lockRuns := p.lockRuns && h.locked })
    s.onHeartbeat was cleared

/-- HEARTBEAT (R460). -/
def execHeartbeat (at_ : Nat) (onPx tagOk : Bool) (h : HeartbeatIn) (s : State) : Host.Outcome State Fault Refusal :=
  .next ((s.advance at_).heartbeatIn onPx tagOk h)

/-! ## Failure of the twin (R460, R475, R482) -/

/-- A booking of a B request. -/
def State.isB (s : State) (b : Booking) : Bool := (s.req? b.tenant b.seq).any (fun r => r.cls == 2)

/-- Held frames that no record named are decided in arrival order, with a equal to this tick. -/
def State.admitHeld (s : State) : State :=
  s.mapLedger (fun l => { l with reqs := modWhere l.reqs (fun r => r.phase == .held) (fun r => { r with phase := .pending, arrival := s.now }) })

/-- Raise the claim and enter SOLO; a raise that would pass 0xFFFFFFF0 isolates the unit (R454). -/
def State.takeClaim (s : State) (go : State → State) : State :=
  if 0xFFFFFFF0 < s.raisedClaim then s.isolate else go (s.enterSolo s.raisedClaim)

/-- A STANDBY unit takes over (R475): its recovery bookings become its own, held frames are decided, the restore begins, and accepted
best-effort requests of the failed unit end with 0x85 (R476). -/
def State.takeOver (s : State) : State :=
  let s := s.mapLedger (fun l =>
    { l with bookings := l.bookings.filter (fun b => if b.recovery then true else !s.isB b) })
  let s := s.mapLedger (fun l =>
    { l with bookings := (l.bookings.filter (fun b => !b.recovery || s.isB b)).map (fun b => { b with recovery := false }) })
  let s := s.mapPair (fun p => { p with takeovers := p.takeovers + 1, spoolSt := 3 })
  s.admitHeld.endAll (fun r => r.bestEffort) 0x85 20

/-- A SYNCING unit that is left alone discards its bookings (R479): the requests that it holds by decision records alone are over; those
whose records its towers hold run on. -/
def State.dropSnapshot (s : State) : State :=
  let s := s.mapLedger (fun l => { l with bookings := [] })
  let s := (s.ledger.reqs.filter (fun r => r.phase == .accepted && !(List.range 20).any (fun t => s.holdsRecord t r))).foldl
    (fun s r => s.finishEnd r) s
  s.mapLedger (fun l => { l with slots := l.slots.filter (fun p => ((s.tower p.1).record? p.2).isSome || l.inflight.any (fun i => i.1 == p.1 && i.2.slot == p.2)) })

/-- The twin is declared failed. -/
def State.twinFailed (s : State) : State :=
  let s := (s.logEv 0x0A02 sevCapacity unitPair).pairEvent
  let s := s.mapPair (fun p => { p with pxPath := if p.sFault then 2 else 0, thPath := 0 })
  match s.pair.mode with
  | .standby => s.takeClaim State.takeOver
  | .active => s.takeClaim (fun s => s.mapLedger (fun l => { l with bookings := l.bookings.filter (fun b => !(b.recovery && s.isB b)) }))
  | .syncing => s.takeClaim State.dropSnapshot
  | .unbound | .seeking | .solo | .isolated => s

/-- A path is silent: it has carried no heartbeat for the silence limit, and none is sampled in this tick (R62). -/
def State.silent (s : State) (onPx : Bool) : Bool :=
  decide ((if onPx then s.pair.pxHeard else s.pair.thHeard) + silenceLimit ≤ s.now) &&
    !s.sampled (fun c => match c with
      | .heartbeat a px ok _ => decide (a ≤ s.now) && px == onPx && ok
      | _ => false)

/-- PATH_SILENCE (R460): one silent path is a path fault, two declare the twin failed. -/
def State.pathSilence (s : State) (onPx : Bool) : State :=
  if !s.hearsTwin || decide (s.pair.mode = .unbound ∨ s.pair.mode = .seeking) || !s.silent onPx then s
  else if s.silent (!onPx) then
    if s.pair.mode = .standby ∨ s.pair.mode = .active ∨ s.pair.mode = .syncing then s.twinFailed
    else s.mapPair (fun p => { p with pxPath := if p.sFault then 2 else 0, thPath := 0 })
  else if (if onPx then s.pair.pxPath else s.pair.thPath) = 2 then s
  else s.pathFault onPx

def execPathSilence (at_ : Nat) (onPx : Bool) (s : State) : Host.Outcome State Fault Refusal := .next ((s.advance at_).pathSilence onPx)

/-! ## Decision records (R463, R464, Table PR-5) -/

/-- The slot map a record carries. -/
def decisionSlots (d : DecisionRec) : List (Nat × Nat) := (maskTowers d.tmask).map (fun t => (t, d.slotmap.getD t 0))

/-- The cost record that a decision names. -/
def State.decisionCost (s : State) (d : DecisionRec) : CostRec :=
  ((s.pkg? d.model).bind (fun p => p.shape? d.shape)).getD
    { shape := d.shape, clg := false, clb := false, span := 0, tail := 0, recov := 0, wins := [], pairs := [] }

/-- An epoch that no key slot has: the request holds no reference. -/
def noEpoch : Nat := 256

/-- A request as a record alone gives it, where no frame of it is held. -/
def State.reqOf (s : State) (d : DecisionRec) : Req :=
  { tenant := d.tenant, seq := d.seq, reqid := 0, model := d.model, cls := if d.kind = 1 then 1 else 2, port := d.port, kepoch := noEpoch
    deadline := d.tick, shape := d.shape, length := 0, arrival := s.now, phase := .held, bestEffort := d.kind == 3, prot := false
    promised := 0, commit := 0, base := 0, slotMap := [], bank := s.bankNow, rec_ := s.decisionCost d, sentRecords := true, here := false, buffered := false
    payload := none, payloadTick := s.now, payloadGood := false, words := [], retired := [], reason := 0, detail := 0, reasonSite := 0
    endTick := 0, parts := [], framesLeft := 0, lastLeft := false, twinDelivered := false, byCompare := false, delta := [] }

/-- Every record marks its SEQ taken (R357). -/
def State.markSeq (s : State) (d : DecisionRec) : State :=
  s.mapLedger (fun l => { l with seqs := kvMod l.seqs d.tenant SeqState.fresh (fun q => q.take d.seq) })

/-- Book what an accepted record says, exactly and without a fit check; `run`: the request will run here. -/
def State.bookDecision (s : State) (d : DecisionRec) (r : Req) (run : Bool) : State :=
  let s := if (s.req? d.tenant d.seq).isSome then s else s.mapLedger (fun l => { l with reqs := insertBy Req.before r l.reqs })
  let s := s.commitBooking { r with bestEffort := d.kind == 3 } d.base (decisionSlots d) d.prot
  s.mapReq d.tenant d.seq (fun q =>
    { q with phase := .accepted, promised := d.tick, commit := d.commit, base := d.base, slotMap := decisionSlots d, bank := s.bankNow, prot := d.prot
             sentRecords := !run, here := run })

/-- A held frame can run: it came before its base slot began, and its tag has not failed. -/
def Req.runnable (r : Req) (base : Nat) : Bool := decide (r.arrival < 1024 * base) && (r.payload.isNone || r.payloadGood)

/-! ### The spool store (R473, R474) -/

/-- Bytes that a delta takes in the spool store. -/
def deltaBytes (d : List (Nat × List Byte)) : Nat := 264 * d.length

/-- Bytes of the spool store in use: image, frames of the tail, deltas (D:2204.09). -/
def State.spoolBytes (s : State) : Nat :=
  deltaBytes s.pair.image
    + sumNat (s.pair.tail.map (fun t => (match s.req? t.tenant t.seq with
        | some r => 80 + r.length
        | none => 0) + deltaBytes (t.delta.getD [])))

/-- Bytes of the spool store's window (D:2204.06). -/
def State.spoolRoom (s : State) : Nat :=
  match s.window? s.pair.spoolStore 2 with
  | some w => 65536 * w.len
  | none => 0

/-- D:2204.09 and D:2204.0A follow what the store holds; `lost`: an item did not fit. -/
def State.respool (s : State) (lost : Bool) : State :=
  let used := s.spoolBytes
  s.mapPair (fun p =>
    { p with spoolUsed := used, spoolSt := if p.spoolSt = 3 then 3 else if lost ∨ s.spoolRoom < used then 2 else p.spoolSt })

/-- The frame of an accepted B request joins the tail (R473); a store with no room for it reads full and does not keep it. -/
def State.keepFrame (s : State) (d : DecisionRec) : State :=
  let item := { tenant := d.tenant, seq := d.seq, cls := 2, delta := none, promised := d.tick }
  let t := s.mapPair (fun p => { p with tail := p.tail ++ [item] })
  if t.spoolBytes ≤ t.spoolRoom then t.respool false else s.respool true

/-- Apply one decision record. -/
def State.applyDecision (s : State) (d : DecisionRec) : State :=
  let s := (s.markSeq d).mapPair (fun p => { p with decnum := d.decnum, mirrored := p.mirrored + 1 })
  let held := (s.req? d.tenant d.seq).filter (fun r => r.phase == .held)
  let r := held.getD (s.reqOf d)
  if d.kind = 1 then
    if d.prot ∧ s.pair.mode = .standby then
      if held.any (fun r => r.runnable d.base) then (s.bookDecision d r true).payloadReady d.tenant d.seq
      else ((s.bookDecision d r false).payloadReady d.tenant d.seq).notRun
    else (s.bookDecision d r false).payloadReady d.tenant d.seq
  else if d.kind = 2 then ((s.bookDecision d r false).keepFrame d).payloadReady d.tenant d.seq
  else if d.kind = 3 then (s.bookDecision d r false).payloadReady d.tenant d.seq
  else
    match s.req? d.tenant d.seq with
    | none => s
    | some q =>
      if d.kind = 4 then
        if q.phase = .held then
          ((s.mapReq d.tenant d.seq (fun q => { q with phase := .refused, payload := none })).leaveBuffer q.tenant q.seq).keyUnref
            kindTenant q.tenant q.kepoch
        else s
      else if d.kind = 5 ∧ q.live then
        (s.finishEnd q).mapPair (fun p => { p with tail := p.tail.filter (fun t => !(t.tenant == d.tenant && t.seq == d.seq)) })
      else s

/-- A record applies in DECNUM order: to a STANDBY unit, and to a SYNCING one from its snapshot on. -/
def State.takesDecision (s : State) (d : DecisionRec) : Bool :=
  (s.pair.mode == .standby && d.decnum == s.pair.decnum + 1)
    || (s.pair.mode == .syncing && s.pair.snapshotTick != 0 && decide (s.pair.snapshotTick ≤ d.commit) && decide (s.pair.decnum < d.decnum))

/-! ## Joining (R479, R480) -/

/-- The conditions under which a rejoining unit sends JOIN READY. -/
def State.mayJoin (s : State) : Bool :=
  s.pair.mode == .syncing && !s.pair.readySent && s.pair.snapshotTick != 0 && decide (s.configDigest = s.pair.twinDigest)
    && decide (s.time.mode = .locked) && s.pairStatus == 1

def State.tryJoin (s : State) : State :=
  if s.mayJoin then (s.sendTwin .joinReady).mapPair (fun p => { p with readySent := true }) else s

/-- DECISION (R464). -/
def execDecision (at_ : Nat) (f : SFrameIn) (d : DecisionRec) (s : State) : Host.Outcome State Fault Refusal :=
  .next ((s.advance at_).sFrame f (fun s => (if s.takesDecision d then s.applyDecision d else s).tryJoin))

/-- Free ingress units of a STATUS, as totals of units received. -/
def State.freeTotals (s : State) (free : List Nat) : List Nat := free.zipIdx.map (fun f => f.1 + (s.port f.2).ingressUsed)

/-- STATUS (R465, R367): the twin's free ingress units and limits; and whether its spool reads full (R468, log 38). -/
def execStatus (at_ : Nat) (f : SFrameIn) (free : List Nat) (limits : LimitsIn) (s : State) : Host.Outcome State Fault Refusal :=
  .next ((s.advance at_).sFrame f (fun s =>
    let s := s.mapPair (fun p => { p with twinFree := s.freeTotals free, twinLimits := limits.limits, twinSpoolFull := limits.spoolFull })
    (List.range 4).foldl (fun s x => if s.drives && (s.port x).up then s.regrant x else s) s))

/-- DELIVERED (R469). -/
def execDelivered (at_ : Nat) (f : SFrameIn) (tenant seq : Nat) (s : State) : Host.Outcome State Fault Refusal :=
  .next ((s.advance at_).sFrame f (fun s => s.mapReq tenant seq (fun r => { r with twinDelivered := true })))

/-- CONFIG (R470). -/
def execConfig (at_ : Nat) (f : SFrameIn) (digest : Nat) (s : State) : Host.Outcome State Fault Refusal :=
  .next ((s.advance at_).sFrame f (fun s => (s.mapPair (fun p => { p with twinDigest := digest })).tryJoin))

/-! ## The spool (R473, R474, R476) -/

/-- The activation slots of a request that ran in the twin are free. -/
def State.freeSlots (s : State) (tenant seq : Nat) : State :=
  match s.req? tenant seq with
  | some r => if r.here then s else s.mapLedger (fun l => { l with slots := l.slots.filter (fun q => !r.slotMap.contains q) })
  | none => s

/-- A delta reaches the unit that keeps the spool: its request is complete, and both its bookings are released (R471). A store with no
room for it reads full and does not keep it. -/
def State.takeDelta (s : State) (tenant seq : Nat) (granules : List (Nat × List Byte)) : State :=
  if s.decides then s
  else
    let fits := decide (s.spoolBytes + deltaBytes granules ≤ s.spoolRoom)
    let s := s.releaseBookings tenant seq
    let s := match s.req? tenant seq with
      | some r => if r.bestEffort ∧ r.live then s.finishEnd r else s
      | none => s
    let s := s.freeSlots tenant seq
    let s := if fits then s.mapPair (fun p =>
        { p with tail := modWhere p.tail (fun t => t.tenant == tenant && t.seq == seq) (fun t => { t with delta := some granules }) })
      else s
    s.respool (!fits)

/-- DELTA (R473). -/
def execDelta (at_ : Nat) (f : SFrameIn) (tenant seq : Nat) (granules : List (Nat × List Byte)) (s : State) :
    Host.Outcome State Fault Refusal :=
  .next ((s.advance at_).sFrame f (fun s => s.takeDelta tenant seq granules))

/-- Granules over an image: later ones stand. -/
def foldGranules (image granules : List (Nat × List Byte)) : List (Nat × List Byte) := granules.foldl (fun m g => kvSet m g.1 g.2) image

/-- The leading run of completed tail requests (R474). -/
def leadingDone (l : List TailReq) : List TailReq := l.takeWhile (fun t => t.delta.isSome)

/-- A checkpoint: the deltas of the leading run of completed requests fold into the image, and those requests leave the tail. -/
def State.checkpointFold (s : State) : State :=
  if s.decides ∨ s.now < s.pair.lastFold + s.pair.checkpoint then s
  else
    let done := leadingDone s.pair.tail
    let s := done.foldl (fun s t =>
      match s.req? t.tenant t.seq with
      | some r => if r.live then s.finishEnd r else s
      | none => s) s
    let s := s.mapPair (fun p =>
      { p with image := done.foldl (fun m t => foldGranules m (t.delta.getD [])) p.image, tail := p.tail.drop done.length, lastFold := s.now
               spoolSt := if p.spoolSt = 2 ∧ done ≠ [] then 1 else p.spoolSt })
    s.respool false

/-- CHECKPOINT (R474). -/
def execCheckpoint (at_ : Nat) (s : State) : Host.Outcome State Fault Refusal := .next ((s.advance at_).checkpointFold)

/-- A tail request without a delta runs again (R476): in its recovery windows while they lie ahead, otherwise unbooked and without
result. One that would run unbooked on a tower that takes no unbooked record (R334) is over (DEDUCED, log 38). -/
def State.rerun (s : State) (t : TailReq) : State :=
  let due := decide (s.now < t.promised)
  match (s.req? t.tenant t.seq).filter (fun r => !due && s.barred r) with
  | some r => s.finishEnd r
  | none =>
  let s := s.mapReq t.tenant t.seq (fun r =>
    { r with sentRecords := false, here := true, base := r.base + r.rec_.recov, bestEffort := !due, lastLeft := !due, commit := min r.commit s.now })
  s.payloadReady t.tenant t.seq

/-- The survivor has restored the spool: the image and the remaining deltas in its windows, the rest of the tail to run again. -/
def State.restoreSpool (s : State) : State :=
  if s.pair.spoolSt ≠ 3 then s
  else
    let tail := s.pair.tail
    let image := tail.foldl (fun m t => foldGranules m (t.delta.getD [])) s.pair.image
    let s := image.foldl (fun s g => s.putBytes g.1 g.2) s
    let s := (tail.filter (fun t => t.delta.isNone)).foldl State.rerun s
    let s := (tail.filter (fun t => t.delta.isSome)).foldl (fun s t =>
      match s.req? t.tenant t.seq with
      | some r => if r.live then s.finishEnd r else s
      | none => s) s
    s.mapPair (fun p => { p with tail := [], image := [], spoolUsed := 0, spoolSt := 0 })

/-- RESTORE (R476). -/
def execRestore (at_ : Nat) (s : State) : Host.Outcome State Fault Refusal := .next ((s.advance at_).restoreSpool)

/-! ## What a rejoining unit receives (R479) -/

/-- A record of a snapshot: booked as the decision it was. -/
def State.snapshotRecord (s : State) (d : DecisionRec) : State := (s.markSeq d).bookDecision d (s.reqOf d) false

/-- SNAPSHOT: the first segment of a snapshot replaces both ledger planes; records follow from its tick. -/
def State.takeSnapshot (s : State) (tick : Nat) (bookings : List DecisionRec) : State :=
  if s.pair.mode ≠ .syncing then s
  else
    let s := if s.pair.snapshotTick = tick then s
      else (s.mapLedger (fun l => { l with bookings := [], slots := [] })).mapPair (fun p => { p with snapshotTick := tick, decnum := 0 })
    (bookings.foldl State.snapshotRecord s).tryJoin

def execSnapshot (at_ : Nat) (f : SFrameIn) (tick : Nat) (bookings : List DecisionRec) (s : State) : Host.Outcome State Fault Refusal :=
  .next ((s.advance at_).sFrame f (fun s => s.takeSnapshot tick bookings))

/-- PACKAGE: segments in M form, plaintext; the one marked last is the trailer (R404, R479). A package that the unit already holds, or
one that comes while another load is open, is not taken. -/
def State.takePackage (s : State) (model : Nat) (body : List Byte) (last : Bool) (trailer : TrailerIn) : State :=
  if s.pair.mode ≠ .syncing ∨ (s.load.open_ ∧ s.load.model ≠ model) ∨ (!s.load.open_ ∧ (s.pkg? model).isSome) then s
  else
    let s := if s.load.open_ then s
      else s.mapLoad (fun _ => { LoadSt.fresh with target := 1, st := 1, open_ := true, model })
    (if last then s.finishLoad body trailer else s.takeSegment body).tryJoin

def execPackage (at_ : Nat) (f : SFrameIn) (model : Nat) (body : List Byte) (trailer : TrailerIn) (s : State) :
    Host.Outcome State Fault Refusal :=
  .next ((s.advance at_).sFrame f (fun s => s.takePackage model body f.last trailer))

/-- IMAGE: segments of the spool image. -/
def State.takeImage (s : State) (granules : List (Nat × List Byte)) : State :=
  if s.pair.mode ≠ .syncing then s
  else ((s.mapPair (fun p => { p with image := foldGranules p.image granules, spoolSt := 1 })).respool false).tryJoin

def execImage (at_ : Nat) (f : SFrameIn) (granules : List (Nat × List Byte)) (s : State) : Host.Outcome State Fault Refusal :=
  .next ((s.advance at_).sFrame f (fun s => s.takeImage granules))

/-- The join tick: the first EPOCH tick at least 100,000 tk ahead (R480). -/
def State.joinAt (s : State) : Nat := 1000000 * cdiv (s.now + 100000) 1000000

/-- JOIN_READY (R480): the deciding unit answers with a JOIN. -/
def execJoinReady (at_ : Nat) (f : SFrameIn) (s : State) : Host.Outcome State Fault Refusal :=
  .next ((s.advance at_).sFrame f (fun s =>
    if s.pair.mode = .solo then
      (s.sendTwin (.join s.joinAt)).mapPair (fun p => { p with joinTick := s.joinAt, joinArmed := true })
    else s))

/-- JOIN (R480). -/
def execJoin (at_ : Nat) (f : SFrameIn) (tick : Nat) (s : State) : Host.Outcome State Fault Refusal :=
  .next ((s.advance at_).sFrame f (fun s =>
    if s.pair.mode = .syncing then s.mapPair (fun p => { p with joinTick := tick, joinArmed := true }) else s))

/-- The join tick is reached: SOLO becomes ACTIVE, SYNCING becomes STANDBY, and a STANDBY unit keeps the spool. -/
def State.joins (s : State) : State :=
  if !s.pair.joinArmed ∨ s.now < s.pair.joinTick then s
  else
    let s := s.mapPair (fun p => { p with joinArmed := false })
    match s.pair.mode with
    | .solo => (s.mapPair (fun p => { p with mode := .active, twinMode := .standby })).pairEvent
    | .syncing =>
      (s.mapPair (fun p => { p with mode := .standby, spoolSt := if p.spoolSt = 2 then 2 else 1, lastFold := s.now })).pairEvent
    | .unbound | .seeking | .standby | .active | .isolated => s

/-- JOIN_TICK (R480). -/
def execJoinTick (at_ : Nat) (s : State) : Host.Outcome State Fault Refusal := .next ((s.advance at_).joins)

/-! ## Limits and ends -/

/-- A decision record that names a held frame is sampled in this tick (R62). -/
def State.recordArrives (s : State) (r : Req) : Bool :=
  s.sampled (fun c => match c with
    | .decision a _ d => decide (a ≤ s.now ∧ d.tenant = r.tenant ∧ d.seq = r.seq)
    | _ => false)

/-- Held frames of a port that no record has named within 100,000 tk are discarded (R464). -/
def State.holdExpired (s : State) (x : Nat) : State :=
  (s.ledger.reqs.filter (fun r => r.phase == .held && r.port == x && decide (r.arrival + 100000 ≤ s.now) && !s.recordArrives r)).foldl (fun s r =>
    ((s.mapReq r.tenant r.seq (fun q => { q with phase := .refused, payload := none })).leaveBuffer r.tenant r.seq).keyUnref kindTenant r.tenant r.kepoch) s

/-- HOLD_LIMIT (R464). -/
def execHoldLimit (at_ port : Nat) (s : State) : Host.Outcome State Fault Refusal := .next ((s.advance at_).holdExpired port)

/-- A DELIVERED report on the request is sampled in this tick, or its last D frame leaves in it (R62, R469). -/
def State.deliveryArrives (s : State) (r : Req) : Bool :=
  s.sampled (fun c => match c with
    | .delivered a _ tenant seq => decide (a ≤ s.now ∧ tenant = r.tenant ∧ seq = r.seq)
    | .dFrameDeparture a x => decide (a ≤ s.now ∧ r.framesLeft = 1) &&
        ((s.port x).queue.head?).any (fun f => f.cls == 5 && f.tenant == r.tenant && f.seq == r.seq)
    | _ => false)

/-- The deferred end of a protected G request falls due at the promised tick plus 1,024 (R469): sent by the deciding unit, or withheld
where a delivery was sampled. A result that has left, late, has ended the request already. -/
def State.deferredEnd (s : State) (tenant seq : Nat) : State :=
  match s.req? tenant seq with
  | none => s
  | some r =>
    if (r.phase ≠ .accepted ∧ r.phase ≠ .delivered) ∨ !r.prot ∨ r.cls ≠ 1 ∨ r.reason = 0 ∨ s.now < r.promised + 1024 then s
    else if r.phase = .delivered then
      (if s.decides then s.mapPair (fun p => { p with withheld := p.withheld + 1 }) else s).mapReq tenant seq (fun q => { q with reason := 0 })
    else if !s.decides then s.finishEnd r
    else if r.twinDelivered ∨ s.deliveryArrives r then (s.mapPair (fun p => { p with withheld := p.withheld + 1 })).finishEnd r
    else
      let s := if r.byCompare then
          (s.mapLedger (fun l => { l with missed := l.missed + 1 })).logEv 0x0840 sevWork unitHub 0 seq (arg1Of tenant r.reason 0)
        else s
      s.sendEnd r r.reason r.detail

/-- END_DEFERRAL (R469). -/
def execEndDeferral (at_ tenant seq : Nat) (s : State) : Host.Outcome State Fault Refusal := .next ((s.advance at_).deferredEnd tenant seq)

/-- A heartbeat of the twin is sampled in this tick (R61). -/
def State.beatNow (s : State) : Bool :=
  s.sampled (fun c => match c with
    | .heartbeat a _ ok _ => decide (a ≤ s.now) && ok
    | _ => false)

/-- A SEEKING unit has heard no twin, since it began to seek or its last heartbeat: for 32,000 tk the preferred one, for D:2201.03 the other (Table PR-7). A heartbeat of this tick has
been heard (R62). -/
def State.seekExpired (s : State) : State :=
  if s.pair.mode = .seeking ∧ max s.pair.seekSince (max s.pair.pxHeard s.pair.thHeard) + (if s.pair.preferred then silenceLimit else s.pair.seekLimit) ≤ s.now ∧ !s.beatNow then s.soloFromSeeking else s

/-- SEEK_LIMIT (R482). -/
def execSeekLimit (at_ : Nat) (s : State) : Host.Outcome State Fault Refusal := .next ((s.advance at_).seekExpired)

/-- A write of D:2203.03 (R461). -/
def stepDownProc (value : Nat) (s : State) : Nat × State :=
  checked
    [(decide (1 < value), 0x04000003), (decide (s.pair.mode ≠ .active), stateAbort 0x2203 4)]
    (fun s => if value = 1 then s.isolate.mapPair (fun p => { p with beating := false, resumeTick := some (s.now + 40000) }) else s) s

/-- STEP_DOWN (R461). -/
def execStepDown (at_ value : Nat) (s : State) : Host.Outcome State Fault Refusal :=
  .next ((s.advance at_).pcieWrite 0x2203 3 (stepDownProc value))

/-- Heartbeats resume 40,000 tk after a step down. -/
def State.resumeBeats (s : State) : State :=
  match s.pair.resumeTick with
  | none => s
  | some t => if s.now < t then s else (s.mapPair (fun p => { p with resumeTick := none })).startBeats

/-- ISOLATION_RESUME (R461). -/
def execIsolationResume (at_ : Nat) (s : State) : Host.Outcome State Fault Refusal := .next ((s.advance at_).resumeBeats)

end Sys2Proof.Machine
end

