-- ==== Sys2Proof/Machine/Security.lean ====
section
/-! DEFINITION. Tickets, guests and the alarm: commands of chapter 16. -/
namespace Sys2Proof.Machine

open Sys2Proof

/-! ## Guests -/

/-- GUEST_PACKET (R442, R443). -/
def execGuestPacket (at_ guest : Nat) (fromGuest : Bool) (p : Packet) (s : State) : Host.Outcome State Fault Refusal :=
  .next ((s.advance at_).underBank p.tepoch (fun s => s.guestPacket guest fromGuest p))

/-- GRST_L rises 10,000 tk after the guest's second domain is in range, or after it was pulled low by a guest reset (R523, Table
BR-4). -/
def State.grstRelease (s : State) (g : Nat) : State :=
  if s.hasGuest g && !s.vault.grstHigh.getLsbD g && (guestDomains g).all s.domainOn && decide (s.vault.grstTick.getD g 0 + 10000 ≤ s.now) then
    s.mapVault (fun v => { v with grstHigh := v.grstHigh ||| (1#2 <<< g), grstTick := modAt v.grstTick g (fun _ => s.now) })
  else s

/-- GRST_L_RELEASE (R523). -/
def execGrstLRelease (at_ guest : Nat) (s : State) : Host.Outcome State Fault Refusal := .next ((s.advance at_).grstRelease guest)

/-- A guest raises GREADY; after a guest reset this lifts its site-state fence (R427, R440, R523). -/
def State.guestReady (s : State) (g : Nat) : State :=
  if s.hasGuest g && s.vault.grstHigh.getLsbD g && !s.vault.gready.getLsbD g then
    let wasReset := s.vault.guestReset.getLsbD g
    let s := s.mapVault (fun v => { v with gready := v.gready ||| (1#2 <<< g), guestReset := v.guestReset &&& ~~~(1#2 <<< g) })
    let s := if wasReset then s.mapBase (fun b => { b with guestSiteFence := b.guestSiteFence &&& ~~~(1#2 <<< g) }) else s
    s.checkReady
  else s

/-- GREADY (R523). -/
def execGready (at_ guest : Nat) (s : State) : Host.Outcome State Fault Refusal := .next ((s.advance at_).guestReady guest)

/-- GREADY of guest `g` is sampled in this tick (R62). -/
def State.greadyArrives (s : State) (g : Nat) : Bool :=
  s.sampled (fun c => match c with
    | .gready a g' => decide (a ≤ s.now ∧ g' = g)
    | _ => false)

/-- A guest has not raised GREADY within 1,000,000 tk: fenced and logged (R523). -/
def State.guestLate (s : State) (g : Nat) : State :=
  if s.hasGuest g && s.vault.grstHigh.getLsbD g && !s.vault.gready.getLsbD g && !s.base.guestSiteFence.getLsbD g
      && decide (s.vault.grstTick.getD g 0 + 1000000 ≤ s.now) && !s.greadyArrives g then
    ((s.fenceGuestSite g).logEv 0x0B03 sevCapacity (unitGuest g) (42 + 2 * g)).checkReady
  else s

/-- GREADY_TIMEOUT (R523). -/
def execGreadyTimeout (at_ guest : Nat) (s : State) : Host.Outcome State Fault Refusal := .next ((s.advance at_).guestLate guest)

/-! ## Alarm sources of the monitors (Table AL-6) -/

/-- TAMPER_MESH (R445): source 0x01. -/
def execTamperMesh (at_ : Nat) (s : State) : Host.Outcome State Fault Refusal :=
  .next (let s := s.advance at_
    if s.dead then s else s.raiseAlarm 1 true [])

/-- SUPPLY_GLITCH (R445): source 0x02. -/
def execSupplyGlitch (at_ : Nat) (s : State) : Host.Outcome State Fault Refusal :=
  .next (let s := s.advance at_
    if s.dead then s else s.raiseAlarm 2 true [])

/-- CLOCK_GLITCH (R445): source 0x03. -/
def execClockGlitch (at_ : Nat) (s : State) : Host.Outcome State Fault Refusal :=
  .next (let s := s.advance at_
    if s.dead then s else s.raiseAlarm 3 true [])

/-! ## Tickets (R429 to R435) -/

/-- A ticket entry: object index and subindex, value bytes; whether a reserved bit of its head or a byte of its padding is set. -/
structure TicketEntry where
  index : Nat
  sub   : Nat
  value : List Byte
  bad   : Bool
  deriving DecidableEq, Repr

/-- The first `n` entries of `bytes`, and what follows them. -/
def parseEntries (n : Nat) (bytes : List Byte) : Option (List TicketEntry × List Byte) :=
  match n with
  | 0 => some ([], bytes)
  | n + 1 =>
    let len := leAt bytes 4 2
    let room := 8 * cdiv len 8
    if bytes.length < 8 + room then none
    else
      let body := bytes.drop 8
      let e : TicketEntry :=
        { index := leAt bytes 0 2, sub := leAt bytes 2 1, value := body.take len
          bad := leAt bytes 3 1 != 0 || leAt bytes 6 2 != 0 || ((body.take room).drop len).any (· != 0) }
      match parseEntries n (body.drop room) with
      | some r => some (e :: r.1, r.2)
      | none => none

namespace Ticket

def nent (b : List Byte) : Nat := leAt b 1 1
def enrol (b : List Byte) : Bool := bit (leAt b 2 1) 0
def notBefore (b : List Byte) : Nat := leAt b 8 8
def notAfter (b : List Byte) : Nat := leAt b 16 8
def nonce (b : List Byte) : Nat := leAt b 24 48
def didh (b : List Byte) : Nat := leAt b 72 48
def reservedSet (b : List Byte) : Bool := leAt b 2 1 / 2 != 0 || leAt b 3 5 != 0 || leAt b 120 72 != 0

/-- Octets of the four signatures (R431). -/
def sigLength : Nat := 2 * (64 + 3309)

/-- The entries, where they and the signatures end exactly at the written length. -/
def entries (b : List Byte) : Option (List TicketEntry) :=
  match parseEntries (nent b) (b.drop 192) with
  | some r => if r.2.length = sigLength then some r.1 else none
  | none => none

end Ticket

/-- Size of an RW2 object's value in a ticket, by index and subindex (R427, R591); none for any other object. -/
def rw2Size (index sub : Nat) : Option Nat :=
  if index = 0x2200 then (if sub = 1 ∨ sub = 3 then some 1 else if sub = 2 then some 48 else none)
  else if index = 0x7004 then (if 1 ≤ sub ∧ sub ≤ 5 then some 1984 else none)
  else if index = 0x7200 then (if 1 ≤ sub ∧ sub ≤ 9 then some 1 else none)
  else if index = 0x7202 then (if sub = 2 then some 3 else none)
  else if index = 0x7300 then (if sub = 1 ∨ sub = 2 then some 1 else none)
  else if index = 0x7301 ∨ index = 0x7302 then (if 1 ≤ sub ∧ sub ≤ 64 then some 16 else none)
  else if index = 0x7303 then (if sub = 3 ∨ sub = 4 then some 1 else none)
  else none

def TicketEntry.num (e : TicketEntry) : Nat := leNat e.value

/-- The tenant that an entry for D:7202.02 names, and the value it sets (R591). -/
def TicketEntry.tenant (e : TicketEntry) : Nat := leAt e.value 0 2
def TicketEntry.flag (e : TicketEntry) : Nat := leAt e.value 2 1

def TicketEntry.is (e : TicketEntry) (index sub : Nat) : Bool := e.index == index && e.sub == sub

/-- Two entries name one object; those for D:7202.02 count once per tenant (R591). -/
def TicketEntry.same (a b : TicketEntry) : Bool := a.index == b.index && a.sub == b.sub && (!a.is 0x7202 2 || a.tenant == b.tenant)

/-- Some object is named twice. -/
def namedTwice (l : List TicketEntry) : Bool :=
  match l with
  | [] => false
  | e :: rest => rest.any e.same || namedTwice rest

/-- A value is outside its object's range. -/
def TicketEntry.outside (e : TicketEntry) : Bool :=
  if e.index = 0x7202 then e.tenant == 0 || decide (1 < e.flag)
  else if e.index = 0x7200 then decide (3 < e.num)
  else if e.index = 0x7300 ∨ e.index = 0x7303 ∨ (e.index = 0x2200 ∧ e.sub ≠ 2) then decide (1 < e.num)
  else if e.index = 0x7301 ∨ e.index = 0x7302 then field e.num 1 0 == 3 || !([0, 1, 2, 3, 5].contains (field e.num 15 8))
  else false

/-- Check 8 (Table AL-3). -/
def TicketEntry.check8 (e : TicketEntry) : Bool := rw2Size e.index e.sub != some e.value.length || e.outside

/-- Policy floors of Table AL-6. -/
def policyFloor : List Nat := [2, 1, 1, 0, 0, 1, 0, 0, 3]

/-- Guest that an entry concerns. -/
def TicketEntry.guest (e : TicketEntry) : Option Nat :=
  if e.index = 0x7300 then some (e.sub - 1) else if e.index = 0x7301 then some 0 else if e.index = 0x7302 then some 1
  else if e.index = 0x7303 then some (e.sub - 3) else none

/-- An entry that changes the pair binding (R418). -/
def TicketEntry.binds (e : TicketEntry) : Bool := e.is 0x2200 1 || e.is 0x2200 2

/-- A firewall rule names an EID that host software cannot name (R6, R32): either end of its range. -/
def State.ruleUnnamed (s : State) (e : TicketEntry) : Bool :=
  (e.index == 0x7301 || e.index == 0x7302) && (s.eidUnnamed (field e.num 31 16) || s.eidUnnamed (field e.num 47 32))

/-- Check 9 (Table AL-3); a rule that names an EID against R6 or R32 fails it (assumption log 52). -/
def State.check9 (s : State) (e : TicketEntry) : Bool :=
  (e.index == 0x7004 && decide (4 ≤ e.sub) && e.num == 0)
    || (match e.guest with
        | some g => !s.hasGuest g
        | none => false)
    || (e.index == 0x7200 && decide (e.num < policyFloor.getD (e.sub - 1) 0))
    || s.ruleUnnamed e || (e.binds && s.vault.referenced)

/-- The anchor that an object will hold once the entries apply. -/
def anchorAfter (s : State) (l : List TicketEntry) (sub : Nat) : Nat :=
  match l.find? (fun e => e.is 0x7004 sub) with
  | some e => e.num
  | none => s.vault.anchors.getD (sub - 1) 0

/-- An enrolment ticket holds exactly the two anchors (R428). -/
def enrolEntries (l : List TicketEntry) : Bool := l.length == 2 && l.any (fun e => e.is 0x7004 4) && l.any (fun e => e.is 0x7004 5)

/-- A monitor's alarm of this tick acts before a ticket (R436): its action leaves the vault erased. -/
def State.alarmErases (s : State) : Bool :=
  let erases := fun (a source : Nat) => decide (a ≤ s.now) && !s.dead && s.rw2Now.policy.getD (source - 1) 0 == 3
  s.sampled (fun c => match c with
    | .tamperMesh a => erases a 1
    | .supplyGlitch a => erases a 2
    | .clockGlitch a => erases a 3
    | _ => false)

/-- Number of the first check of Table AL-3 that fails, or 0. -/
def State.ticketCheck (s : State) (t : TicketIn) : Nat :=
  let b := t.bytes
  let parsed := Ticket.entries b
  let l := parsed.getD []
  let enrol := Ticket.enrol b
  let anchor := fun k => if enrol then anchorAfter s l k else s.vault.anchors.getD (k - 1) 0
  firstAbort
    [(decide (s.vault.mode = .erased) || s.alarmErases, 1),
     (leAt b 0 1 != 1 || decide (Ticket.nent b < 1 ∨ 32 < Ticket.nent b) || Ticket.reservedSet b || parsed.isNone || l.any (·.bad)
        || decide (16384 < b.length) || (enrol && !enrolEntries l), 2),
     (Ticket.didh b != s.ident.didh, 3),
     (enrol == s.vault.enrolled, 4),
     (Ticket.nonce b != s.vault.nonce, 5),
     (decide (s.now < Ticket.notBefore b ∨ Ticket.notAfter b ≤ s.now), 6),
     (!t.sigOk || anchor 4 == 0 || anchor 5 == 0, 7),
     (l.any TicketEntry.check8 || namedTwice l, 8),
     (l.any s.check9 || anchorAfter s l 4 == anchorAfter s l 5, 9)]

/-- One entry takes its value (R434). -/
def State.applyEntry (s : State) (e : TicketEntry) : State :=
  let n := e.num
  if e.index = 0x7004 then s.mapVault (fun v => { v with anchors := modAt v.anchors (e.sub - 1) (fun _ => n) })
  else if e.index = 0x7200 then s.mapVault (fun v => { v with policy := modAt v.policy (e.sub - 1) (fun _ => n) })
  else if e.index = 0x7202 then
    let s := s.mapVault (fun v => v.setFence e.tenant (e.flag == 1))
    if e.flag = 1 then s.endTenants (fun t => t == e.tenant) else s
  else if e.index = 0x7300 then
    s.mapVault (fun v => { v with admitted := (v.admitted &&& ~~~(1#2 <<< (e.sub - 1))) ||| (BitVec.ofNat 2 n <<< (e.sub - 1)) })
  else if e.index = 0x7301 then s.mapVault (fun v => { v with rules0 := modAt v.rules0 (e.sub - 1) (fun _ => BitVec.ofNat 128 n) })
  else if e.index = 0x7302 then s.mapVault (fun v => { v with rules1 := modAt v.rules1 (e.sub - 1) (fun _ => BitVec.ofNat 128 n) })
  else if e.index = 0x7303 then
    s.mapVault (fun v => { v with guestFence := (v.guestFence &&& ~~~(1#2 <<< (e.sub - 3))) ||| (BitVec.ofNat 2 n <<< (e.sub - 3)) })
  else if e.sub = 1 then s.mapPair (fun p => { p with bound := n == 1 })
  else if e.sub = 2 then s.mapPair (fun p => { p with twinId := n })
  else s.mapPair (fun p => { p with preferred := n == 1 })

/-- A binding applies or is removed (R418, R451, Table PR-7): every tenant and model slot is erased, the pair position is fixed, and
the unit is SEEKING or UNBOUND with what it knew of a twin gone. -/
def State.bindingChanged (s : State) : State :=
  let s := s.mapVault (fun v =>
    { v with keys := [], pairKey := false, pairPos := s.pair.bound && decide (s.pair.twinId < s.ident.didh) })
  let s := s.mapLedger (fun l => { l with seqs := [] })
  let s := s.mapPair (fun p =>
    { p with mode := if p.bound then .seeking else .unbound, claim := 0, twinClaim := 0, twinMode := .unbound, twinLocked := false, lockRuns := false
             twinDecnum := 0, twinSpoolFull := false, pxPath := 0, thPath := 0, seekSince := s.now, decnum := 0, beating := false, resumeTick := none
             joinArmed := false, twinFree := [], twinLimits := [], tail := [], image := [], spoolUsed := 0, spoolSt := 0, twinDigest := 0 })
  (s.mapTime (fun t => { t with pairTime := 0, mismatchRun := 0, twinSeen := none })).raiseEvent 10

/-- A ticket that has passed every check applies in whole (R434), and the nonce is drawn anew (R432). The new policy, rules and fences
govern from the next tick. -/
def State.applyTicket (s : State) (l : List TicketEntry) (enrol : Bool) : State :=
  let was := s.rw2Now
  let s := l.foldl State.applyEntry (s.mapVault (fun v => { v with rw2Was := some was }))
  let s := if l.any TicketEntry.binds then s.bindingChanged else s
  (s.mapVault (fun v =>
    { v with enrolled := v.enrolled || enrol, applied := v.applied + 1, ticketSt := 1, failCheck := 0 }.newNonce)).policyChanged

/-- A refused ticket (R432, R433, R435): recorded and logged; the nonce is drawn anew from check 5 on; source 0x07 is raised at the
third failure of check 5 or 7 within the window. -/
def State.refuseTicket (s : State) (check : Nat) : State :=
  let counts := check == 5 || check == 7
  let fails := if counts then recentFails (s.now :: s.vault.ticketFailTicks) s.now else s.vault.ticketFailTicks
  let s := s.mapVault (fun v =>
    let v := { v with ticketSt := 2, failCheck := check, ticketFails := v.ticketFails + 1, ticketFailTicks := fails }
    if 5 ≤ check then v.newNonce else v)
  let s := s.logEv 0x0940 sevLogged unitHub 0 check
  if counts && decide (3 ≤ fails.length) then s.raiseAlarm 7 false [] else s

/-- A write of D:7100.01 (R433). -/
def ticketProc (t : TicketIn) (s : State) : Nat × State :=
  let check := s.ticketCheck t
  if check = 0 then (0, s.applyTicket ((Ticket.entries t.bytes).getD []) (Ticket.enrol t.bytes))
  else (0x06020000 + check, s.refuseTicket check)

/-- TICKET (R433). -/
def execTicket (at_ : Nat) (t : TicketIn) (s : State) : Host.Outcome State Fault Refusal :=
  .next ((s.advance at_).pcieWrite 0x7100 1 (ticketProc t))

end Sys2Proof.Machine
end

