-- ==== Sys2Proof/Machine/Tap.lean ====
section
/-! DEFINITION. The test access port (R537 to R539): instructions of Table BR-7, segment insertion and its conditions. -/
namespace Sys2Proof.Machine

open Sys2Proof

/-! ## Instructions -/

/-- The controller leaves test-logic-reset: D:F000.03 counts it (Table BR-8). -/
def TapSt.wake (t : TapSt) : TapSt := if t.reset then { t with reset := false, sessions := t.sessions + 1 } else t

/-- Instruction `code` is loaded; `dr` is what its data register captures. -/
def TapSt.load (t : TapSt) (code : BitVec 8) (dr : Nat) : TapSt := { t.wake with ir := code, dr }

/-- An instruction that is not available loads as BYPASS, and D:F000.04 records its code (R537). -/
def TapSt.refuse (t : TapSt) (code : BitVec 8) : TapSt := { t.load 0xFF 0 with refused := code }

/-- Load an instruction whose register captures what the spec leaves open: pin levels, the test status (assumption log 1). -/
def State.tapOpen (s : State) (code : BitVec 8) : State :=
  let r := s.drawFree
  r.2.mapTap (fun t => t.load code r.1.toNat)

/-- EXTEST, CLAMP and HIGHZ: no port of Table FR-1 is up and no tower holds an activation record (Table BR-7). -/
def State.pinsFree (s : State) : Bool := !s.ports.any Port.up && s.towers.all (fun t => t.records.isEmpty)

/-- BYPASS (R537). -/
def execBypass (at_ : Nat) (s : State) : Host.Outcome State Fault Refusal := .next ((s.advance at_).mapTap (fun t => t.load 0xFF 0))

/-- IDCODE (R537): the register captures D:F000.05. -/
def execIdcode (at_ : Nat) (s : State) : Host.Outcome State Fault Refusal :=
  .next ((s.advance at_).mapTap (fun t => t.load 0x01 s.ident.idcode))

/-- SAMPLE/PRELOAD (R537): the boundary register captures the low-speed pins. -/
def execSamplePreload (at_ : Nat) (s : State) : Host.Outcome State Fault Refusal := .next ((s.advance at_).tapOpen 0x02)

/-- EXTEST (R537). -/
def execExtest (at_ : Nat) (s : State) : Host.Outcome State Fault Refusal :=
  let s := s.advance at_
  .next (if s.pinsFree then s.tapOpen 0x03 else s.mapTap (fun t => t.refuse 0x03))

/-- CLAMP (R537): the bypass register is selected. -/
def execClamp (at_ : Nat) (s : State) : Host.Outcome State Fault Refusal :=
  let s := s.advance at_
  .next (s.mapTap (fun t => if s.pinsFree then t.load 0x04 0 else t.refuse 0x04))

/-- HIGHZ (R537): the bypass register is selected. -/
def execHighz (at_ : Nat) (s : State) : Host.Outcome State Fault Refusal :=
  let s := s.advance at_
  .next (s.mapTap (fun t => if s.pinsFree then t.load 0x05 0 else t.refuse 0x05))

/-- STATUS (R537): the 32-bit test status. -/
def execTestStatus (at_ : Nat) (s : State) : Host.Outcome State Fault Refusal := .next ((s.advance at_).tapOpen 0x11)

/-- TEST_LOGIC_RESET: the identification instruction is in force and no segment is inserted, as the two standards of R537 have it. -/
def execTestLogicReset (at_ : Nat) (s : State) : Host.Outcome State Fault Refusal :=
  .next ((s.advance at_).mapTap (fun t => { t with ir := 0x01, dr := 0, segments := 0, reset := true }))

/-! ## Segments (R538) -/

/-- An inserted tower is FENCED, FAILED or OFF, and a cold reset has cleared it since it last held weights or tenant data. -/
def State.towerTestable (s : State) (t : Nat) : Bool := s.siteOut t && (s.tower t).coldClean

/-- An insertion may take effect (R538). -/
def State.insertionHolds (s : State) (bits : BitVec 40) : Bool :=
  s.tap.access && s.vault.keys.isEmpty && (List.range 20).all (fun t => !bits.getLsbD t || s.towerTestable t)
    && (List.range 16).all (fun n => !bits.getLsbD (23 + n) || s.base.fieldBankClean.getD n true)

/-- D:F000.02: the segments in force. -/
def State.inserted (s : State) : BitVec 40 := if s.insertionHolds s.tap.segments then s.tap.segments else 0

/-- SEGSEL (R538): the segment register is updated; an insertion against its conditions is refused. -/
def execSegsel (at_ : Nat) (bits : BitVec 40) (s : State) : Host.Outcome State Fault Refusal :=
  let s := s.advance at_
  let bits := bits &&& 0x7FFFFFFFFF#40
  .next (s.mapTap (fun t => { t.load 0x10 t.segments.toNat with segments := if bits = 0 ∨ s.insertionHolds bits then bits else t.segments }))

end Sys2Proof.Machine
end

