-- ==== Sys2Proof/Machine/Objects.lean ====
section
/-!
DEFINITION. The objects of the dictionary (R541 to R543, R567): Table DI-15 as rows, which object a name finds and which abort it
meets, and what each readable object reads (the owning chapters' tables).
-/
namespace Sys2Proof.Machine

open Sys2Proof

/-! ## Types, rights and rows -/

/-- Types of Table DI-1; `oct n` is OCT[n]. -/
inductive ObjType where
  | bool | u8 | u16 | u32 | u64 | i16 | i32 | ticks | eid
  | oct (n : Nat)
  deriving DecidableEq, Repr

/-- Rights of Table DI-2. -/
inductive Right where
  | ro | rw | wo | const | rw2
  deriving DecidableEq, Repr

/-- A run of subindices of one type and right at one index. -/
structure ObjRow where
  index : Nat
  first : Nat
  last  : Nat
  type  : ObjType
  right : Right
  deriving DecidableEq, Repr

/-- Octets of a type (Table DI-1); the largest size of an OCT. -/
def ObjType.size : ObjType → Nat
  | .bool => 1 | .u8 => 1 | .u16 => 2 | .u32 => 4 | .u64 => 8 | .i16 => 2 | .i32 => 4 | .ticks => 8 | .eid => 2
  | .oct n => n

def ObjType.isOct : ObjType → Bool
  | .oct _ => true
  | _ => false

/-- D:1000 to D:1206. -/
def objectsTransport : List ObjRow :=
  [⟨0x1000, 0x01, 0x01, .oct 16, .const⟩, ⟨0x1000, 0x02, 0x03, .u8, .const⟩, ⟨0x1000, 0x04, 0x04, .oct 16, .const⟩,
   ⟨0x1000, 0x05, 0x05, .u64, .const⟩, ⟨0x1000, 0x06, 0x08, .u16, .const⟩, ⟨0x1020, 0x01, 0x01, .u8, .rw⟩,
   ⟨0x1020, 0x02, 0x02, .oct 67108864, .wo⟩, ⟨0x1020, 0x03, 0x04, .u8, .ro⟩, ⟨0x1020, 0x05, 0x06, .bool, .wo⟩,
   ⟨0x1021, 0x01, 0x06, .u32, .ro⟩, ⟨0x1021, 0x07, 0x09, .u8, .ro⟩, ⟨0x1022, 0x01, 0x01, .u8, .ro⟩, ⟨0x1022, 0x02, 0x02, .bool, .wo⟩,
   ⟨0x1022, 0x03, 0x03, .u32, .ro⟩, ⟨0x1100, 0x01, 0x01, .u64, .ro⟩, ⟨0x1100, 0x02, 0x04, .u32, .ro⟩, ⟨0x1100, 0x05, 0x05, .ticks, .const⟩,
   ⟨0x1101, 0x01, 0x01, .u8, .rw⟩, ⟨0x1101, 0x02, 0x02, .oct 24, .ro⟩, ⟨0x1101, 0x03, 0x03, .u8, .ro⟩, ⟨0x1110, 0x01, 0x01, .u32, .ro⟩,
   ⟨0x1110, 0x02, 0x02, .u32, .wo⟩, ⟨0x1110, 0x03, 0x03, .u32, .rw⟩, ⟨0x1200, 0x01, 0x01, .ticks, .ro⟩, ⟨0x1201, 0x01, 0x01, .u64, .wo⟩,
   ⟨0x1201, 0x02, 0x02, .u64, .ro⟩, ⟨0x1202, 0x01, 0x02, .u8, .ro⟩, ⟨0x1202, 0x03, 0x03, .ticks, .ro⟩, ⟨0x1202, 0x04, 0x04, .ticks, .rw⟩,
   ⟨0x1202, 0x05, 0x05, .ticks, .const⟩, ⟨0x1203, 0x01, 0x02, .i32, .ro⟩, ⟨0x1203, 0x03, 0x03, .u8, .ro⟩, ⟨0x1203, 0x04, 0x05, .u32, .ro⟩,
   ⟨0x1203, 0x06, 0x06, .i32, .ro⟩, ⟨0x1204, 0x01, 0x01, .u64, .ro⟩, ⟨0x1204, 0x02, 0x02, .u8, .ro⟩, ⟨0x1204, 0x03, 0x03, .u32, .ro⟩,
   ⟨0x1205, 0x01, 0x03, .u32, .const⟩, ⟨0x1205, 0x04, 0x05, .u16, .const⟩, ⟨0x1205, 0x06, 0x06, .u8, .const⟩,
   ⟨0x1206, 0x01, 0x01, .bool, .wo⟩]

/-- D:2000 to D:2204. -/
def objectsLedger : List ObjRow :=
  [⟨0x2000, 0x01, 0x03, .u8, .rw⟩, ⟨0x2000, 0x04, 0x05, .u16, .const⟩, ⟨0x2000, 0x06, 0x06, .u8, .const⟩,
   ⟨0x2000, 0x07, 0x08, .ticks, .const⟩, ⟨0x2000, 0x09, 0x09, .u32, .const⟩, ⟨0x2000, 0x0A, 0x0A, .ticks, .ro⟩,
   ⟨0x2001, 0x01, 0x04, .u64, .ro⟩, ⟨0x2001, 0x05, 0x05, .u8, .ro⟩, ⟨0x2001, 0x06, 0x09, .u32, .ro⟩, ⟨0x2002, 0x01, 0x01, .u8, .rw⟩,
   ⟨0x2002, 0x02, 0x03, .u16, .ro⟩, ⟨0x2002, 0x04, 0x04, .u8, .ro⟩, ⟨0x2002, 0x05, 0x05, .u16, .ro⟩, ⟨0x2002, 0x06, 0x06, .u64, .ro⟩,
   ⟨0x2002, 0x07, 0x07, .u64, .rw⟩, ⟨0x2003, 0x01, 0x02, .u8, .rw⟩, ⟨0x2003, 0x03, 0x04, .u8, .ro⟩, ⟨0x2003, 0x05, 0x05, .u64, .rw⟩,
   ⟨0x2004, 0x01, 0x01, .u8, .rw⟩, ⟨0x2004, 0x02, 0x03, .u16, .ro⟩, ⟨0x2004, 0x04, 0x04, .u64, .rw⟩, ⟨0x2100, 0x01, 0x01, .u8, .rw⟩,
   ⟨0x2100, 0x02, 0x03, .u8, .ro⟩, ⟨0x2100, 0x04, 0x04, .bool, .ro⟩, ⟨0x2100, 0x05, 0x05, .u8, .ro⟩, ⟨0x2100, 0x06, 0x06, .u64, .ro⟩,
   ⟨0x2100, 0x07, 0x07, .u32, .ro⟩, ⟨0x2100, 0x08, 0x0A, .u64, .ro⟩, ⟨0x2100, 0x0B, 0x0C, .u32, .ro⟩, ⟨0x2100, 0x0D, 0x0D, .u64, .ro⟩,
   ⟨0x2100, 0x0E, 0x0E, .ticks, .ro⟩, ⟨0x2101, 0x01, 0x01, .u32, .const⟩, ⟨0x2101, 0x02, 0x02, .ticks, .rw⟩,
   ⟨0x2101, 0x03, 0x03, .u16, .const⟩, ⟨0x2101, 0x04, 0x05, .u32, .const⟩, ⟨0x2101, 0x06, 0x06, .ticks, .const⟩,
   ⟨0x2101, 0x07, 0x08, .u32, .ro⟩, ⟨0x2101, 0x09, 0x09, .ticks, .const⟩, ⟨0x2101, 0x0A, 0x0A, .u32, .const⟩,
   ⟨0x2101, 0x0B, 0x0C, .u32, .ro⟩, ⟨0x2200, 0x01, 0x01, .bool, .rw2⟩, ⟨0x2200, 0x02, 0x02, .oct 48, .rw2⟩,
   ⟨0x2200, 0x03, 0x03, .bool, .rw2⟩, ⟨0x2201, 0x01, 0x02, .ticks, .const⟩, ⟨0x2201, 0x03, 0x03, .ticks, .rw⟩,
   ⟨0x2201, 0x04, 0x06, .ticks, .const⟩, ⟨0x2202, 0x01, 0x01, .u8, .ro⟩, ⟨0x2202, 0x02, 0x03, .u32, .ro⟩, ⟨0x2202, 0x04, 0x05, .u8, .ro⟩,
   ⟨0x2202, 0x06, 0x07, .u32, .ro⟩, ⟨0x2202, 0x08, 0x08, .u64, .ro⟩, ⟨0x2202, 0x09, 0x0A, .u32, .ro⟩, ⟨0x2202, 0x0B, 0x0B, .oct 48, .ro⟩,
   ⟨0x2202, 0x0C, 0x0C, .u32, .ro⟩, ⟨0x2202, 0x0D, 0x0D, .bool, .ro⟩, ⟨0x2202, 0x0E, 0x0E, .u8, .ro⟩, ⟨0x2202, 0x0F, 0x0F, .u32, .ro⟩,
   ⟨0x2203, 0x01, 0x02, .ticks, .ro⟩, ⟨0x2203, 0x03, 0x03, .bool, .wo⟩, ⟨0x2204, 0x01, 0x01, .ticks, .rw⟩, ⟨0x2204, 0x02, 0x02, .u8, .rw⟩,
   ⟨0x2204, 0x03, 0x03, .eid, .rw⟩, ⟨0x2204, 0x04, 0x04, .u8, .rw⟩, ⟨0x2204, 0x05, 0x05, .ticks, .const⟩, ⟨0x2204, 0x06, 0x06, .eid, .rw⟩,
   ⟨0x2204, 0x07, 0x07, .ticks, .ro⟩, ⟨0x2204, 0x08, 0x08, .u32, .ro⟩, ⟨0x2204, 0x09, 0x09, .u64, .ro⟩, ⟨0x2204, 0x0A, 0x0A, .u8, .ro⟩]

/-- The block of a tower, at B = D:3000 (R105). -/
def objectsTower : List ObjRow :=
  [⟨0x3000, 0x01, 0x01, .u8, .const⟩, ⟨0x3000, 0x02, 0x02, .u8, .ro⟩, ⟨0x3000, 0x03, 0x03, .u8, .const⟩, ⟨0x3000, 0x04, 0x04, .u16, .ro⟩,
   ⟨0x3001, 0x01, 0x02, .u16, .ro⟩, ⟨0x3001, 0x03, 0x04, .u8, .ro⟩, ⟨0x3002, 0x01, 0x10, .u8, .ro⟩, ⟨0x3003, 0x01, 0x10, .u8, .ro⟩,
   ⟨0x3003, 0x11, 0x11, .u32, .ro⟩, ⟨0x3004, 0x01, 0x10, .u32, .ro⟩, ⟨0x3005, 0x01, 0x11, .u32, .ro⟩, ⟨0x3006, 0x01, 0x01, .u16, .ro⟩,
   ⟨0x3006, 0x02, 0x03, .u32, .ro⟩, ⟨0x3006, 0x04, 0x04, .u64, .ro⟩, ⟨0x3006, 0x05, 0x06, .u32, .ro⟩, ⟨0x3006, 0x07, 0x07, .ticks, .ro⟩,
   ⟨0x3007, 0x01, 0x01, .u16, .ro⟩, ⟨0x3007, 0x02, 0x02, .u16, .rw⟩, ⟨0x3007, 0x03, 0x03, .u32, .ro⟩, ⟨0x3008, 0x01, 0x01, .bool, .rw⟩,
   ⟨0x3008, 0x02, 0x02, .u8, .ro⟩, ⟨0x3009, 0x01, 0x01, .ticks, .rw⟩, ⟨0x300A, 0x01, 0x03, .u16, .const⟩, ⟨0x300B, 0x01, 0x02, .u32, .ro⟩,
   ⟨0x300C, 0x01, 0x02, .u32, .ro⟩, ⟨0x300C, 0x03, 0x03, .u8, .ro⟩, ⟨0x300C, 0x04, 0x07, .u16, .const⟩, ⟨0x300D, 0x01, 0x02, .u64, .ro⟩,
   ⟨0x300D, 0x03, 0x04, .u32, .ro⟩, ⟨0x300D, 0x05, 0x05, .u8, .ro⟩, ⟨0x300D, 0x06, 0x06, .u32, .ro⟩, ⟨0x300D, 0x07, 0x07, .u8, .rw⟩,
   ⟨0x300E, 0x01, 0x01, .u64, .ro⟩, ⟨0x300E, 0x02, 0x03, .u16, .ro⟩, ⟨0x300F, 0x01, 0x01, .u8, .wo⟩, ⟨0x300F, 0x02, 0x02, .u8, .ro⟩,
   ⟨0x300F, 0x03, 0x03, .u32, .ro⟩]

/-- D:4000 to D:4100. -/
def objectsPlacement : List ObjRow :=
  [⟨0x4000, 0x01, 0x02, .u8, .rw⟩, ⟨0x4000, 0x03, 0x03, .u32, .rw⟩, ⟨0x4000, 0x04, 0x04, .bool, .rw⟩, ⟨0x4000, 0x05, 0x05, .bool, .wo⟩,
   ⟨0x4000, 0x06, 0x06, .u32, .ro⟩, ⟨0x4000, 0x07, 0x07, .ticks, .ro⟩, ⟨0x4001, 0x01, 0x01, .u16, .rw⟩, ⟨0x4001, 0x02, 0x02, .u8, .ro⟩,
   ⟨0x4001, 0x03, 0x03, .oct 8, .rw⟩, ⟨0x4001, 0x04, 0x04, .u16, .ro⟩, ⟨0x4001, 0x05, 0x05, .u32, .ro⟩, ⟨0x4001, 0x06, 0x06, .bool, .wo⟩,
   ⟨0x4001, 0x07, 0x07, .u32, .ro⟩, ⟨0x4002, 0x01, 0x01, .u16, .rw⟩, ⟨0x4002, 0x02, 0x02, .u8, .rw⟩, ⟨0x4002, 0x03, 0x03, .eid, .rw⟩,
   ⟨0x4002, 0x04, 0x05, .bool, .wo⟩, ⟨0x4002, 0x06, 0x06, .u8, .ro⟩, ⟨0x4002, 0x07, 0x07, .u64, .ro⟩, ⟨0x4002, 0x08, 0x08, .u32, .ro⟩,
   ⟨0x4002, 0x09, 0x09, .bool, .wo⟩, ⟨0x4002, 0x0A, 0x0A, .u32, .rw⟩, ⟨0x4100, 0x01, 0x01, .u8, .rw⟩, ⟨0x4100, 0x02, 0x02, .u16, .rw⟩,
   ⟨0x4100, 0x03, 0x03, .u32, .rw⟩, ⟨0x4100, 0x04, 0x04, .u32, .wo⟩, ⟨0x4100, 0x05, 0x05, .u32, .ro⟩, ⟨0x4100, 0x06, 0x06, .u8, .ro⟩,
   ⟨0x4100, 0x07, 0x07, .u16, .const⟩]

/-- D:5000 to D:5402. -/
def objectsBase : List ObjRow :=
  [⟨0x5000, 0x01, 0x01, .u32, .const⟩, ⟨0x5001, 0x01, 0x02, .u8, .rw⟩, ⟨0x5001, 0x03, 0x06, .u8, .ro⟩, ⟨0x5001, 0x07, 0x07, .u64, .ro⟩,
   ⟨0x5001, 0x08, 0x08, .u32, .ro⟩, ⟨0x5001, 0x09, 0x09, .u8, .ro⟩, ⟨0x5002, 0x01, 0x02, .u32, .ro⟩, ⟨0x5003, 0x01, 0x06, .u8, .ro⟩,
   ⟨0x5004, 0x01, 0x05, .ticks, .const⟩, ⟨0x5005, 0x01, 0x02, .u32, .ro⟩, ⟨0x5006, 0x01, 0x01, .u8, .wo⟩, ⟨0x5006, 0x02, 0x02, .u8, .ro⟩,
   ⟨0x5100, 0x01, 0x01, .u8, .ro⟩, ⟨0x5100, 0x02, 0x02, .u16, .rw⟩, ⟨0x5100, 0x03, 0x03, .u32, .rw⟩, ⟨0x5100, 0x04, 0x04, .u32, .ro⟩,
   ⟨0x5100, 0x05, 0x05, .ticks, .rw⟩, ⟨0x5100, 0x06, 0x06, .u8, .ro⟩, ⟨0x5100, 0x0A, 0x0A, .bool, .wo⟩, ⟨0x5101, 0x01, 0x17, .u32, .ro⟩,
   ⟨0x5200, 0x01, 0x12, .u8, .ro⟩, ⟨0x5201, 0x01, 0x12, .i32, .ro⟩, ⟨0x5202, 0x01, 0x12, .u16, .ro⟩, ⟨0x5203, 0x01, 0x12, .u32, .ro⟩,
   ⟨0x5203, 0x13, 0x13, .u32, .const⟩, ⟨0x5204, 0x01, 0x07, .u8, .ro⟩, ⟨0x5400, 0x01, 0x01, .u8, .rw⟩, ⟨0x5400, 0x02, 0x02, .u16, .ro⟩,
   ⟨0x5400, 0x03, 0x03, .oct 12, .ro⟩, ⟨0x5400, 0x04, 0x05, .u64, .ro⟩, ⟨0x5400, 0x06, 0x07, .u32, .ro⟩, ⟨0x5400, 0x08, 0x08, .u64, .ro⟩,
   ⟨0x5400, 0x09, 0x09, .u8, .ro⟩, ⟨0x5400, 0x0A, 0x0A, .u64, .ro⟩, ⟨0x5401, 0x01, 0x03, .ticks, .const⟩,
   ⟨0x5401, 0x04, 0x04, .u8, .const⟩, ⟨0x5401, 0x05, 0x05, .u32, .const⟩, ⟨0x5401, 0x06, 0x06, .u8, .const⟩,
   ⟨0x5402, 0x01, 0x08, .u8, .ro⟩]

/-- D:6000 to D:6200. -/
def objectsMemory : List ObjRow :=
  [⟨0x6000, 0x01, 0x01, .u8, .rw⟩, ⟨0x6000, 0x02, 0x02, .u32, .const⟩, ⟨0x6000, 0x03, 0x03, .u32, .ro⟩, ⟨0x6000, 0x04, 0x04, .u16, .ro⟩,
   ⟨0x6000, 0x05, 0x05, .u32, .ro⟩, ⟨0x6001, 0x01, 0x01, .eid, .rw⟩, ⟨0x6001, 0x02, 0x02, .u8, .rw⟩, ⟨0x6001, 0x03, 0x04, .u32, .rw⟩,
   ⟨0x6001, 0x05, 0x05, .u16, .rw⟩, ⟨0x6001, 0x06, 0x06, .bool, .rw⟩, ⟨0x6001, 0x07, 0x07, .bool, .wo⟩, ⟨0x6002, 0x01, 0x02, .u8, .rw⟩,
   ⟨0x6002, 0x03, 0x03, .u16, .ro⟩, ⟨0x6002, 0x04, 0x04, .u8, .ro⟩, ⟨0x6002, 0x05, 0x05, .u16, .ro⟩, ⟨0x6002, 0x06, 0x06, .u32, .ro⟩,
   ⟨0x6002, 0x07, 0x07, .u16, .ro⟩, ⟨0x6002, 0x08, 0x08, .u8, .ro⟩, ⟨0x6003, 0x01, 0x01, .u8, .wo⟩, ⟨0x6003, 0x02, 0x02, .u8, .ro⟩,
   ⟨0x6003, 0x03, 0x04, .ticks, .const⟩, ⟨0x6003, 0x05, 0x05, .u32, .ro⟩, ⟨0x6004, 0x01, 0x01, .u8, .rw⟩, ⟨0x6004, 0x02, 0x02, .u16, .ro⟩,
   ⟨0x6004, 0x03, 0x05, .u8, .ro⟩, ⟨0x6004, 0x06, 0x06, .u16, .const⟩, ⟨0x6004, 0x07, 0x07, .u32, .const⟩, ⟨0x6100, 0x01, 0x01, .u32, .ro⟩,
   ⟨0x6100, 0x02, 0x02, .u16, .rw⟩, ⟨0x6100, 0x03, 0x03, .oct 32, .ro⟩, ⟨0x6100, 0x04, 0x04, .u32, .ro⟩, ⟨0x6100, 0x05, 0x05, .ticks, .rw⟩,
   ⟨0x6100, 0x10, 0x10, .u64, .ro⟩, ⟨0x6100, 0x11, 0x13, .u32, .ro⟩, ⟨0x6100, 0x14, 0x14, .ticks, .ro⟩, ⟨0x6100, 0x15, 0x15, .ticks, .rw⟩,
   ⟨0x6100, 0x20, 0x20, .u64, .ro⟩, ⟨0x6100, 0x21, 0x21, .u32, .ro⟩, ⟨0x6100, 0x22, 0x22, .u64, .ro⟩, ⟨0x6100, 0x23, 0x23, .ticks, .ro⟩,
   ⟨0x6100, 0x24, 0x24, .ticks, .rw⟩, ⟨0x6101, 0x01, 0x05, .u8, .rw⟩, ⟨0x6101, 0x06, 0x06, .oct 128, .rw⟩,
   ⟨0x6101, 0x07, 0x07, .oct 4, .rw⟩, ⟨0x6101, 0x08, 0x08, .u8, .wo⟩, ⟨0x6101, 0x09, 0x0A, .u8, .ro⟩, ⟨0x6101, 0x0B, 0x0B, .oct 128, .ro⟩,
   ⟨0x6200, 0x01, 0x02, .u8, .rw⟩, ⟨0x6200, 0x03, 0x03, .u32, .rw⟩, ⟨0x6200, 0x04, 0x04, .bool, .wo⟩, ⟨0x6200, 0x05, 0x05, .u8, .ro⟩,
   ⟨0x6200, 0x06, 0x07, .u16, .ro⟩, ⟨0x6200, 0x08, 0x08, .u16, .rw⟩, ⟨0x6200, 0x09, 0x09, .u64, .ro⟩, ⟨0x6200, 0x0A, 0x0A, .u8, .const⟩]

/-- D:7000 to D:7304. -/
def objectsVault : List ObjRow :=
  [⟨0x7000, 0x01, 0x01, .oct 48, .const⟩, ⟨0x7000, 0x02, 0x02, .oct 32, .const⟩, ⟨0x7000, 0x03, 0x03, .oct 1952, .const⟩,
   ⟨0x7000, 0x04, 0x04, .u8, .ro⟩, ⟨0x7000, 0x05, 0x05, .u32, .ro⟩, ⟨0x7000, 0x06, 0x06, .bool, .ro⟩, ⟨0x7001, 0x01, 0x01, .u8, .rw⟩,
   ⟨0x7001, 0x02, 0x02, .u16, .ro⟩, ⟨0x7001, 0x03, 0x03, .oct 8192, .ro⟩, ⟨0x7002, 0x01, 0x01, .oct 48, .wo⟩,
   ⟨0x7002, 0x02, 0x02, .u8, .ro⟩, ⟨0x7002, 0x03, 0x03, .u16, .ro⟩, ⟨0x7002, 0x04, 0x04, .oct 20653, .ro⟩, ⟨0x7003, 0x01, 0x01, .u16, .rw⟩,
   ⟨0x7003, 0x02, 0x02, .oct 64, .ro⟩, ⟨0x7004, 0x01, 0x05, .oct 1984, .rw2⟩, ⟨0x7010, 0x01, 0x01, .oct 4669, .wo⟩,
   ⟨0x7010, 0x02, 0x03, .u32, .ro⟩, ⟨0x7020, 0x01, 0x01, .u8, .rw⟩, ⟨0x7020, 0x02, 0x02, .u16, .rw⟩, ⟨0x7020, 0x03, 0x04, .u8, .ro⟩,
   ⟨0x7020, 0x05, 0x06, .u32, .ro⟩, ⟨0x7020, 0x07, 0x07, .u8, .ro⟩, ⟨0x7020, 0x08, 0x08, .bool, .wo⟩, ⟨0x7021, 0x01, 0x02, .u16, .const⟩,
   ⟨0x7021, 0x03, 0x03, .ticks, .rw⟩, ⟨0x7100, 0x01, 0x01, .oct 16384, .wo⟩, ⟨0x7100, 0x02, 0x02, .oct 48, .ro⟩,
   ⟨0x7100, 0x03, 0x04, .u8, .ro⟩, ⟨0x7100, 0x05, 0x06, .u32, .ro⟩, ⟨0x7100, 0x07, 0x07, .bool, .ro⟩, ⟨0x7200, 0x01, 0x09, .u8, .rw2⟩,
   ⟨0x7201, 0x01, 0x01, .u32, .ro⟩, ⟨0x7201, 0x02, 0x02, .u8, .ro⟩, ⟨0x7201, 0x03, 0x03, .ticks, .ro⟩, ⟨0x7201, 0x04, 0x04, .u8, .ro⟩,
   ⟨0x7202, 0x01, 0x01, .u16, .rw⟩, ⟨0x7202, 0x02, 0x02, .bool, .rw2⟩, ⟨0x7202, 0x03, 0x03, .u16, .ro⟩, ⟨0x7300, 0x01, 0x02, .bool, .rw2⟩,
   ⟨0x7300, 0x03, 0x04, .u32, .const⟩, ⟨0x7301, 0x01, 0x40, .oct 16, .rw2⟩, ⟨0x7302, 0x01, 0x40, .oct 16, .rw2⟩,
   ⟨0x7303, 0x01, 0x02, .u32, .ro⟩, ⟨0x7303, 0x03, 0x04, .bool, .rw2⟩, ⟨0x7304, 0x01, 0x01, .u8, .wo⟩, ⟨0x7304, 0x02, 0x02, .u8, .ro⟩]

/-- D:8000 to D:F000. -/
def objectsPower : List ObjRow :=
  [⟨0x8000, 0x01, 0x01, .u16, .ro⟩, ⟨0x8000, 0x02, 0x03, .u32, .ro⟩, ⟨0x8000, 0x04, 0x04, .u8, .ro⟩, ⟨0x8000, 0x05, 0x05, .u32, .ro⟩,
   ⟨0x8000, 0x06, 0x07, .u32, .const⟩, ⟨0x8000, 0x08, 0x08, .ticks, .ro⟩, ⟨0x8000, 0x09, 0x09, .ticks, .const⟩,
   ⟨0x8000, 0x0A, 0x0A, .u32, .ro⟩, ⟨0x8001, 0x01, 0x09, .u8, .ro⟩, ⟨0x8002, 0x01, 0x01, .u8, .rw⟩, ⟨0x8002, 0x02, 0x02, .u8, .ro⟩,
   ⟨0x8002, 0x03, 0x03, .u16, .ro⟩, ⟨0x8002, 0x04, 0x05, .u32, .ro⟩, ⟨0x8002, 0x06, 0x06, .u64, .ro⟩, ⟨0x8002, 0x07, 0x07, .u8, .ro⟩,
   ⟨0x8002, 0x08, 0x08, .u32, .ro⟩, ⟨0x8003, 0x01, 0x01, .u8, .rw⟩, ⟨0x8003, 0x02, 0x02, .u32, .ro⟩, ⟨0x8003, 0x03, 0x03, .u32, .const⟩,
   ⟨0x8003, 0x04, 0x04, .u32, .ro⟩, ⟨0x8004, 0x01, 0x01, .bool, .rw⟩, ⟨0x8004, 0x02, 0x02, .u32, .rw⟩, ⟨0x8100, 0x01, 0x02, .i16, .ro⟩,
   ⟨0x8100, 0x03, 0x03, .u16, .ro⟩, ⟨0x8101, 0x01, 0x01, .u8, .rw⟩, ⟨0x8101, 0x02, 0x03, .i16, .ro⟩, ⟨0x8101, 0x04, 0x05, .u8, .ro⟩,
   ⟨0x8101, 0x06, 0x06, .i16, .ro⟩, ⟨0x8101, 0x07, 0x07, .u8, .ro⟩, ⟨0x8101, 0x08, 0x08, .u32, .ro⟩, ⟨0x8101, 0x09, 0x09, .bool, .wo⟩,
   ⟨0x8101, 0x0A, 0x0A, .ticks, .ro⟩, ⟨0x8101, 0x0B, 0x0B, .u32, .ro⟩, ⟨0x8102, 0x01, 0x10, .u8, .ro⟩, ⟨0x8103, 0x01, 0x03, .i16, .const⟩,
   ⟨0x8103, 0x04, 0x04, .ticks, .const⟩, ⟨0x8103, 0x05, 0x05, .u16, .const⟩, ⟨0x8103, 0x06, 0x07, .ticks, .const⟩,
   ⟨0x8400, 0x01, 0x01, .u8, .rw⟩, ⟨0x8400, 0x02, 0x02, .u32, .rw⟩, ⟨0x8400, 0x03, 0x03, .u16, .ro⟩, ⟨0x8400, 0x04, 0x04, .oct 8512, .ro⟩,
   ⟨0x8400, 0x05, 0x05, .oct 8512, .rw⟩, ⟨0x8400, 0x06, 0x06, .ticks, .rw⟩, ⟨0x8400, 0x07, 0x07, .u8, .ro⟩,
   ⟨0x8400, 0x08, 0x08, .ticks, .ro⟩, ⟨0x8400, 0x09, 0x09, .u32, .const⟩, ⟨0x8401, 0x01, 0x02, .ticks, .rw⟩,
   ⟨0x8402, 0x01, 0x01, .u64, .ro⟩, ⟨0x8402, 0x02, 0x04, .u32, .ro⟩, ⟨0x9000, 0x01, 0x01, .u32, .ro⟩, ⟨0x9000, 0x02, 0x02, .u16, .rw⟩,
   ⟨0x9000, 0x03, 0x03, .oct 32, .ro⟩, ⟨0x9000, 0x04, 0x04, .u16, .ro⟩, ⟨0x9000, 0x05, 0x05, .u32, .ro⟩, ⟨0x9001, 0x01, 0x0C, .u32, .ro⟩,
   ⟨0x9002, 0x01, 0x01, .u16, .rw⟩, ⟨0x9002, 0x02, 0x02, .u8, .rw⟩, ⟨0xF000, 0x01, 0x01, .bool, .rw⟩, ⟨0xF000, 0x02, 0x02, .u64, .ro⟩,
   ⟨0xF000, 0x03, 0x03, .u32, .ro⟩, ⟨0xF000, 0x04, 0x04, .u8, .ro⟩, ⟨0xF000, 0x05, 0x05, .u32, .const⟩]

/-- Table DI-15 (R567). -/
def objectTable : List ObjRow :=
  objectsTransport ++ objectsLedger ++ objectsTower ++ objectsPlacement ++ objectsBase ++ objectsMemory ++ objectsVault ++ objectsPower

/-! ## Which object a name finds (R541, R105) -/

def isTowerIndex (index : Nat) : Bool := decide (0x3000 ≤ index) && decide (index < 0x3500)

/-- Tower t of a tower-block index. -/
def indexTower (index : Nat) : Nat := (index - 0x3000) / 0x40

/-- The index under which Table DI-15 lists it: tower blocks at B = D:3000. -/
def tableIndex (index : Nat) : Nat := if isTowerIndex index then 0x3000 + (index - 0x3000) % 0x40 else index

/-- A per-region object that a cache tower does not have (R105). -/
def notOnCache (index sub : Nat) : Bool :=
  isTowerIndex index && decide (16 ≤ indexTower index) && decide (0x3002 ≤ tableIndex index) && decide (tableIndex index ≤ 0x3005)
    && decide (5 ≤ sub) && decide (sub ≤ 0x10)

/-- Rows of an index. -/
def indexRows (index : Nat) : List ObjRow := objectTable.filter (fun r => r.index == tableIndex index)

def ObjRow.has (r : ObjRow) (sub : Nat) : Bool := decide (r.first ≤ sub) && decide (sub ≤ r.last)

/-- Highest subindex in use at an index: on a cache tower B+02 and B+04 end at 0x04 (R105, R541). -/
def highestSub (index : Nat) : Nat :=
  if notOnCache index 5 && (tableIndex index == 0x3002 || tableIndex index == 0x3004) then 4 else maxNat ((indexRows index).map (·.last))

/-- The row of D:index.sub; subindex 0x00 is a CONST U8 at every index that holds objects (R541). -/
def object? (index sub : Nat) : Option ObjRow :=
  if indexRows index = [] then none
  else if sub = 0 then some { index := tableIndex index, first := 0, last := 0, type := .u8, right := .const }
  else if notOnCache index sub then none
  else (indexRows index).find? (fun r => r.has sub)

/-- An object that belongs to an unpopulated guest site (Table DI-9, 0x02000003). -/
def State.guestAbsent (s : State) (index sub : Nat) : Bool :=
  (index == 0x7300 && ((sub == 1 && !s.hasGuest 0) || (sub == 2 && !s.hasGuest 1)))
    || (index == 0x7301 && sub != 0 && !s.hasGuest 0) || (index == 0x7302 && sub != 0 && !s.hasGuest 1)
    || (index == 0x7303 && (((sub == 1 || sub == 3) && !s.hasGuest 0) || ((sub == 2 || sub == 4) && !s.hasGuest 1)))

/-- Check 2 of R544. -/
def State.objectAbort (s : State) (index sub : Nat) : Nat :=
  if indexRows index = [] then 0x02000001 else if (object? index sub).isNone then 0x02000002
  else if s.guestAbsent index sub then 0x02000003 else 0

/-! ## Values -/

/-- What an object reads: an unsigned value, a signed value, or octets. -/
inductive ObjVal where
  | n (v : Nat)
  | i (v : Int)
  | b (l : List Byte)
  deriving DecidableEq, Repr

/-- Octets of a value, least significant first (R542). -/
def ObjVal.octets (v : ObjVal) (t : ObjType) : List Byte :=
  match v with
  | .n v => leBytes t.size v
  | .i v => leBytes t.size (twos (8 * t.size) v)
  | .b l => l

def flagVal (b : Bool) : ObjVal := .n (if b then 1 else 0)

/-- The transport's selection at an object, or its default (R546). -/
def sel (view : KV Nat) (index sub d : Nat) : Nat := kvGet view (index * 256 + sub) d

/-- Place from the newest of the record at ring position `pos`, in a ring of `size` that has taken `count` records. -/
def ringAge (size count pos : Nat) : Nat := (count - 1 + size - pos % size) % size

def newestIndex (size count : Nat) : Nat := (count - 1) % size

def AbortRec.octets (r : AbortRec) : List Byte :=
  leBytes 8 r.tick ++ leBytes 2 r.index ++ leBytes 1 r.sub ++ leBytes 1 (if r.i3c then 1 else 0) ++ leBytes 4 r.code ++ leBytes 2 r.arg ++ leBytes 6 0

/-- Table FD-2. -/
def EvRec.octets (r : EvRec) : List Byte :=
  leBytes 8 r.tick ++ leBytes 1 (r.code / 256) ++ leBytes 1 (r.sev % 16) ++ leBytes 2 r.code ++ leBytes 1 r.unit ++ leBytes 3 r.loc
    ++ leBytes 8 r.arg0 ++ leBytes 4 r.arg1 ++ leBytes 4 0

/-- Table EC-3. -/
def EccRec.octets (r : EccRec) : List Byte :=
  leBytes 8 r.tick ++ leBytes 1 r.array ++ leBytes 1 r.event ++ leBytes 1 (r.symbols % 16 + r.found % 16 * 16) ++ leBytes 1 r.tower
    ++ leBytes 1 r.unit ++ leBytes 1 r.channel ++ leBytes 4 r.page ++ leBytes 2 r.word ++ leBytes 4 r.merged ++ leBytes 8 r.addr

/-- The record at ring position `pos`; zeros where none has been written. -/
def ringRecord {α : Type} (octets : α → List Byte) (n size count pos : Nat) (l : List α) : List Byte :=
  match if pos < count ∨ size ≤ count then l[ringAge size count pos]? else none with
  | some r => octets r
  | none => List.replicate n 0

/-- A count that saturates in a field of `bits`. -/
def saturated (bits v : Nat) : Nat := min v (2 ^ bits - 1)

/-! ## Codes of state objects -/

/-- B+0F.02. -/
def TowerResetState.code : TowerResetState → Nat
  | .idle => 0 | .off => 1 | .image => 2 | .selfTest => 3 | .training => 4

/-- D:6003.02. -/
def LayerResetState.code : LayerResetState → Nat
  | .idle => 0 | .draining => 1 | .forced => 2 | .off => 3 | .training => 4

/-- D:6200.05. -/
def RetireState.code : RetireState → Nat
  | .idle => 0 | .copying => 1 | .replaced => 2 | .withdrawn => 3

/-- D:7000.04. -/
def VaultMode.code : VaultMode → Nat
  | .normal => 0 | .transitional => 1 | .erased => 2

/-! ## Reads, by block -/

def readTransport (s : State) (view : KV Nat) (i3c : Bool) (index sub : Nat) : ObjVal :=
  if index = 0x1000 then
    match sub with
    | 1 => .b (orderingCode s.ident)
    | 2 => .n s.ident.guests
    | 3 => flagVal s.ident.laserE
    | 4 => .b s.ident.serial
    | 5 => .n s.ident.guestRecords
    | 6 => .n s.ident.hwRev
    | 7 => .n 0x0100
    | _ => .n 3840
  else if index = 0x1020 then
    match sub with
    | 1 => .n s.stageLayer
    | 3 => .n (if s.dict.pcie.seg.any (fun w => w.index == 0x1020 && w.sub == 2) then 1 else s.boot.stageSt)
    | _ => .n s.boot.stageCheck
  else if index = 0x1021 then
    if sub ≤ 3 then .n (s.boot.copy sub (s.boot.runsB sub)).svn
    else if sub ≤ 6 then .n (s.boot.minSvn.getD (sub - 4) 0)
    else flagVal (s.boot.runsB (sub - 6))
  else if index = 0x1022 then (if sub = 1 then .n s.boot.modState else .n s.boot.bootFails)
  else if index = 0x1100 then
    match sub with
    | 1 => .n s.dict.served
    | 2 => .n s.dict.aborted
    | 3 => .n s.dict.discarded
    | 4 => .n s.dict.abandoned
    | _ => .n 1000000
  else if index = 0x1101 then
    match sub with
    | 1 => .n (sel view 0x1101 1 0)
    | 2 => .b (ringRecord AbortRec.octets 24 64 s.dict.abortCount (sel view 0x1101 1 0) s.dict.aborts)
    | _ => .n (newestIndex 64 s.dict.abortCount)
  else if index = 0x1110 then (if sub = 1 then .n (if i3c then s.log.vecI else s.log.vecP).toNat else .n s.log.ibiEnable.toNat)
  else if index = 0x1200 then .n s.now
  else if index = 0x1201 then .n s.time.epochCount
  else if index = 0x1202 then
    match sub with
    | 1 => .n s.time.mode.code
    | 2 => .n s.time.cause.toNat
    | 3 => .n s.holdoverTicks
    | 4 => .n s.time.holdLimit
    | _ => .n 200000
  else if index = 0x1203 then
    match sub with
    | 1 => .i s.time.refOffset
    | 2 => .i s.time.phaseErr
    | 3 => .n (saturated 8 s.time.missRun)
    | 4 => .n s.time.missTotal
    | 5 => .n s.time.discarded
    | _ => .i s.time.residual
  else if index = 0x1204 then
    match sub with
    | 1 => .n s.time.twinCount
    | 2 => .n s.pairStatus
    | _ => .n s.time.mismatches
  else .n ([1500000, 1200000, 1800000, 30, 1489, 5].getD (sub - 1) 0)

/-- A view slot inside the current horizon (R397). -/
def State.inHorizon (s : State) (slot : Nat) : Bool := decide (s.now / 1024 ≤ slot) && decide (slot < s.now / 1024 + 65536)

/-- What a resource has booked in a view slot (R397). -/
def State.viewBooked (s : State) (r : Resource) (slot : Nat) : Nat := if s.inHorizon slot then s.ledger.bookedAt false r slot else 0

/-- Latest slot that holds a booking of a resource (D:2002.06). -/
def LedgerSt.lastSlot (l : LedgerSt) (r : Resource) : Nat :=
  maxNat ((l.bookings.filter (fun b => decide (b.res = r) && !b.recovery && decide (0 < b.len))).map (fun b => b.start + b.len - 1))

def readLedger (s : State) (view : KV Nat) (index sub : Nat) : ObjVal :=
  let l := s.ledger
  if index = 0x2000 then .n ([l.fraction, l.pairLimit, l.ctxLimit, 128, 1024, 64, 200, 1024, 65536, l.margin].getD (sub - 1) 0)
  else if index = 0x2001 then
    .n ([l.gAccepted, l.bAccepted, l.beAccepted, l.refusals, l.lastReason, l.busy, l.missed, l.late, l.exceptions].getD (sub - 1) 0)
  else if index = 0x2002 then
    let t := sel view 0x2002 1 0
    let slot := sel view 0x2002 7 0
    match sub with
    | 1 => .n t
    | 7 => .n slot
    | _ => if !s.inHorizon slot then .n 0 else match sub with
    | 2 => .n (s.towerLimit t)
    | 3 => .n (s.viewBooked (.tower t) slot)
    | 4 => .n (s.viewBooked (.contexts t) slot)
    | 5 => .n (256 - (l.slots.filter (fun p => p.1 == t)).length)
    | _ => .n (l.lastSlot (.tower t))
  else if index = 0x2003 then
    let i := sel view 0x2003 1 0
    let j := sel view 0x2003 2 1
    let slot := sel view 0x2003 5 0
    match sub with
    | 1 => .n i
    | 2 => .n j
    | 3 => .n (if s.inHorizon slot then s.limit (.pair i j) else 0)
    | 4 => .n (s.viewBooked (.pair i j) slot)
    | _ => .n slot
  else
    let x := sel view 0x2004 1 0
    let slot := sel view 0x2004 4 0
    match sub with
    | 1 => .n x
    | 2 => .n (if !s.inHorizon slot then 0 else if (s.port x).lanes = 0 then 400 * 7 - 128 else s.limit (.egress x))
    | 3 => .n (s.viewBooked (.egress x) slot)
    | _ => .n slot

def readPorts (s : State) (view : KV Nat) (index sub : Nat) : ObjVal :=
  if index = 0x2100 then
    let x := sel view 0x2100 1 0
    let p := s.port x
    if sub = 4 then flagVal p.reversed
    else
      .n ([x, p.st, p.lanes.toNat, 0, p.polarity.toNat, p.corrected, p.replays, p.received, p.sent, p.discarded, p.notices, p.refusals,
           p.egressGrant - p.egressSent, p.stall].getD (sub - 1) 0)
  else
    .n ([33554432, s.ledger.unitGap, 1024, 65536, 8192, 2000, s.ledger.tagFails, s.ledger.gapTimeouts, 10000000, 4096, s.ledger.reqEnded,
         s.ledger.claimAnomalies].getD (sub - 1) 0)

def readPair (s : State) (view : KV Nat) (index sub : Nat) : ObjVal :=
  let p := s.pair
  if index = 0x2200 then (if sub = 2 then .b (leBytes 48 p.twinId) else if sub = 1 then flagVal p.bound else flagVal p.preferred)
  else if index = 0x2201 then .n ([8000, 32000, p.seekLimit, 1024, 100000, 100000].getD (sub - 1) 0)
  else if index = 0x2202 then
    match sub with
    | 0x0B => .b (leBytes 48 s.configDigest)
    | 0x0D => flagVal s.lockstep
    | _ => .n ([p.mode.code, p.claim, p.twinClaim, p.pxPath, p.thPath, p.pathFaults, p.takeovers, p.mirrored, p.notRun, p.withheld, 0,
                p.sDiscarded, 0, p.keyGen, p.bindFaults].getD (sub - 1) 0)
  else if index = 0x2203 then (if sub = 1 then .n p.joinTick else .n p.snapshotTick)
  else
    let k := sel view 0x2204 2 0
    let w := p.spoolWins.getD k (0, 1)
    .n ([p.checkpoint, k, w.1, w.2, 1000000, p.spoolStore, p.lastFold, p.tail.length, p.spoolUsed, p.spoolSt].getD (sub - 1) 0)

/-- B+03.01 to B+03.10 at tick `now`: the run of shortfalls, 0 once a judged slot after the last of them has closed full (R70): the run of a
region that is out of service stands if it reached up to the slot in which the region left. -/
def Region.shortRead (g : Region) (now : Nat) : Nat :=
  if g.st ≠ .lost ∧ (if g.entered.isSome then (g.shortSlot + 2) * 1024 < now else g.shortSlot + 1 < g.left) then 0 else g.short

/-- Reads of a tower's block (Tables TW-4, LP-10, NS-10, EC-6, BR-9). -/
def readTower (s : State) (index sub : Nat) : ObjVal :=
  let t := indexTower index
  let x := s.tower t
  let b := tableIndex index - 0x3000
  let reg := x.regions.getD (sub - 1) (Region.fresh 0)
  if b = 0 then
    match sub with
    | 1 => flagVal x.isCache
    | 2 => .n x.mode.code
    | 3 => .n t
    | _ => .n (x.group.getD 0xFFFF)
  else if b = 1 then
    match sub with
    | 1 => .n x.hwCapacity
    | 2 => .n x.floorCapacity
    | 3 => .n x.activeRegions
    | _ => .n (if x.isCache then 0 else (x.regions.filter (fun r => r.st == .spareInUse || r.st == .noSpare)).length)
  else if b = 2 then .n reg.st.code
  else if b = 3 then (if sub = 0x11 then .n x.shortTotal else .n (saturated 8 (reg.shortRead s.now)))
  else if b = 4 then .n reg.target
  else if b = 5 then (if x.isCache then .n 0 else if sub = 0x11 then .n x.tileFaults else .n reg.map.toNat)
  else if b = 6 then
    let booked := fun (c : Chunk) => c.booked
    .n ([x.records.length, (x.queue.filter booked).length, (x.queue.filter (fun c => !booked c)).length, x.opsDone, x.reruns, x.overruns,
         x.lastBooked].getD (sub - 1) 0)
  else if b = 7 then .n ([x.entriesUsed, x.sbHigh, x.sbStalls].getD (sub - 1) 0)
  else if b = 8 then (if sub = 1 then flagVal x.fence else .n (if x.fence then x.fenceCause else 0))
  else if b = 9 then .n x.syncLimit
  else if b = 0x0A then .n ([2048, 512, 256].getD (sub - 1) 0)
  else if b = 0x0B then .n ([x.laneFaults, x.refetches].getD (sub - 1) 0)
  else if b = 0x0C then
    .n ([x.flitsFixed, x.linkRetries, x.linksOut.length, 84, if x.isCache then 252 else 720, 27, 16].getD (sub - 1) 0)
  else if b = 0x0D then
    .n ([x.signalsSent, x.noticesSent, x.saturations, x.busyRefusals, x.openReductions.length, x.fencedCopies, x.mcast.high].getD (sub - 1) 0)
  else if b = 0x0E then .n ([x.smallFixed, x.remapUsed, x.remapExhausted].getD (sub - 1) 0)
  else .n (if sub = 2 then x.resetState.code else x.resetCount)

/-- D:4001.02: what stands of a model handle. -/
def State.packageState (s : State) (m : Nat) : Nat :=
  if s.load.open_ && s.load.model == m && s.load.target == 1 then 1
  else match s.pkg? m with
    | some p => p.st
    | none => if kvHas s.loadStatus m then 3 else 0

def readPlacement (s : State) (view : KV Nat) (index sub : Nat) : ObjVal :=
  if index = 0x4000 then
    let g := sel view 0x4000 1 0
    let cur := s.groups.getD g Group.fresh
    match sub with
    | 1 => .n g
    | 2 => .n (s.held (groupKindKey g) 0)
    | 3 => .n (s.held (groupMaskKey g) 0)
    | 4 => .n (s.held (groupFlagKey g) 1)
    | 6 => .n cur.members.toNat
    | _ => .n (maxNat ((maskTowers cur.members.toNat).map (fun t => (s.tower t).lastBooked)))
  else if index = 0x4001 then
    let m := sel view 0x4001 1 0
    match sub with
    | 1 => .n m
    | 2 => .n (s.packageState m)
    | 3 => .b ((s.roleMap m).map (BitVec.ofNat 8))
    | 4 => .n (match s.pkg? m with
        | some p => p.shapes.length
        | none => 0)
    | 5 => .n (kvGet s.loadStatus m (0, 0)).1
    | _ => .n (s.recordsOf m)
  else if index = 0x4002 then
    match sub with
    | 1 => .n (s.held 0x400201 0)
    | 2 => .n (s.held 0x400202 1)
    | 3 => .n (s.held 0x400203 0)
    | 6 => .n s.load.st
    | 7 => .n s.load.bytes
    | 8 => .n s.load.segs
    | _ => .n (s.held 0x40020A 0)
  else
    let t := sel view 0x4100 1 0
    let i := sel view 0x4100 2 0
    let o := (s.tower t).syncObj i
    match sub with
    | 1 => .n t
    | 2 => .n i
    | 3 => .n o.value
    | 5 => .n o.subs.toNat
    | 6 => .n ((s.tower t).objGen i)
    | _ => .n persistentBase

def readBase (s : State) (view : KV Nat) (index sub : Nat) : ObjVal :=
  let b := s.base
  if index = 0x5000 then .n s.siteMask
  else if index = 0x5001 then
    let i := sel view 0x5001 1 0
    let j := sel view 0x5001 2 1
    let p := s.linkPair i j
    .n ([i, j, sparePlane i j, towerMask p.planes, p.spare, p.planes.length, p.symbols, p.replays, p.permFaults].getD (sub - 1) 0)
  else if index = 0x5002 then .n (if sub = 1 then b.spDegraded.toNat else b.spResent)
  else if index = 0x5003 then .n (b.planeSt.getD (sub - 1) 0)
  else if index = 0x5004 then .n ([2000, 192, 80, 40, 160].getD (sub - 1) 0)
  else if index = 0x5005 then
    (if sub = 1 then .n (towerMask ((List.range 23).filter s.siteFenced)) else .n b.unroutable)
  else if index = 0x5006 then flagVal b.fieldReset.isSome
  else if index = 0x5100 then
    let e := sel view 0x5100 2 0x20
    match sub with
    | 1 => flagVal b.activeB
    | 2 => .n e
    | 3 => .n (s.routingEntry (!b.activeB) e).toNat
    | 4 => .n (s.routingEntry b.activeB e).toNat
    | 5 => .n b.switchTick
    | _ => .n b.switchSt
  else if index = 0x5101 then .n (s.drainCount (sub - 1))
  else if index = 0x5200 then .n (s.laser (sub - 1)).st
  else if index = 0x5201 then .i (s.laser (sub - 1)).output
  else if index = 0x5202 then .n (s.laser (sub - 1)).drive
  else if index = 0x5203 then .n (if sub = 0x13 then s.wearBudget else (s.laser (sub - 1)).hours)
  else if index = 0x5204 then .n (b.linkMap.getD (sub - 1) 0)
  else if index = 0x5400 then
    let t := sel view 0x5400 1 0
    let k := s.bankSet t
    match sub with
    | 1 => .n t
    | 2 => .n (towerMask ((List.range 12).filter (fun i => (k.banks.getD i Bank.fresh).inService)))
    | 3 => .b (asciiPad 12 k.map)
    | _ => .n ([k.loads, k.skipped, k.checkFails, k.retrims, k.clipped, k.retired, k.streams].getD (sub - 4) 0)
  else if index = 0x5401 then .n ([1000, 48, 4608, 2, 4194304, 11].getD (sub - 1) 0)
  else .n (b.feedMap.getD (sub - 1) 0)

/-- Region that owns vertical channel `c` (Table MM-2). -/
def owningRegion (isCache : Bool) (c : Nat) : Nat := if isCache then c / 8 else c / 2

/-- D:6200.09: entry `k` of the list of the retire tower's pages (R326). -/
def Tower.listEntry (t : Tower) (k : Nat) : Nat :=
  match ((t.replacedPages.map (fun p => (1, 2, p))) ++ t.withdrawnPages.map (fun p => (p.1, 3, p.2)))[k]? with
  | some e => e.1 * 2 ^ 56 + e.2.1 * 2 ^ 48 + e.2.2
  | none => 0

def readMemory (s : State) (view : KV Nat) (index sub : Nat) : ObjVal :=
  let t := sel view 0x6000 1 0
  let x := s.tower t
  let k := sel view 0x6004 1 0
  let m := s.mem.dram.getD k Stack.fresh
  if index = 0x6000 then
    .n ([t, towerPages x.isCache, sumNat ((s.mem.windows.filter (fun w => w.tower == t && w.space != 2)).map (·.len)), x.derate,
         x.windowFaults].getD (sub - 1) 0)
  else if index = 0x6001 then .n (s.held (0x600100 + sub) (if sub = 1 then 0x20 else if sub = 2 then 1 else 0))
  else if index = 0x6002 then
    let l := sel view 0x6002 1 1
    let c := sel view 0x6002 2 0
    let h := x.channel l c
    if sub ≤ 2 then .n (if sub = 1 then l else c)
    else if !x.hasChannel l c then .n 0
    else
      .n ([h.width, h.spares.length, h.gen, h.retries, h.failed, (x.regions.getD (owningRegion x.isCache c) (Region.fresh 0)).clock].getD
        (sub - 3) 0)
  else if index = 0x6003 then
    let busy := s.towers.find? (fun t => t.layerReset != .idle)
    match sub with
    | 2 => .n (match busy with
        | some t => t.layerReset.code
        | none => 0)
    | 3 => .n 100000
    | 4 => .n 50000
    | _ => .n s.mem.poisonedTransfers
  else if index = 0x6004 then
    .n ([k, if m.st = 0 ∧ (s.tower (16 + k / 2)).mode = .training then 3200 else 9600, m.refresh, m.mr4, m.st, 240, s.ident.lpddrRec].getD (sub - 1) 0)
  else if index = 0x6100 then
    if sub ≤ 5 then
      match sub with
      | 1 => .n s.mem.logCount
      | 2 => .n (sel view 0x6100 2 0)
      | 3 => .b (ringRecord EccRec.octets 32 1024 s.mem.logCount (sel view 0x6100 2 0) s.mem.log)
      | 4 => .n s.mem.logLost
      | _ => .n s.mem.mergeWin
    else if sub ≤ 0x15 then
      .n ([x.wordsFixed, x.wordsBad, x.poisonReads, x.validDisagree, x.patrolPass, x.patrolInterval].getD (sub - 0x10) 0)
    else .n ([m.fixed, m.bad, m.linkFixed, m.patrolPass, m.patrolInterval].getD (sub - 0x20) 0)
  else if index = 0x6101 then
    match sub with
    | 6 => .b (s.heldBytes 0x610106 (List.replicate 128 0))
    | 7 => .b (s.heldBytes 0x610107 [0, 0, 0, 0])
    | 9 => .n s.mem.testStatus
    | 0x0A => .n s.mem.testSymbols
    | 0x0B => .b s.mem.testRead
    | _ => .n (s.held (0x610100 + sub) (if sub = 1 ∨ sub = 3 then 1 else 0))
  else
    let r := s.held 0x620001 0
    let y := s.tower r
    match sub with
    | 1 => .n r
    | 2 => .n (s.held 0x620002 1)
    | 3 => .n (s.held 0x620003 0)
    | 5 => .n y.retireState.code
    | 6 => .n (8 * 32 * y.layers - sumNat (y.reserveUsed.map (·.2)))
    | 7 => .n (y.withdrawnPages.filter (fun w => w.1 == (if y.isCache then 2 else 1))).length
    | 8 => .n (sel view 0x6200 8 0)
    | 9 => .n (y.listEntry (sel view 0x6200 8 0))
    | _ => .n 8

/-- The key slot entry that a transport's D:7020.01 and D:7020.02 select. -/
def readKeySlot (s : State) (view : KV Nat) (sub : Nat) : ObjVal :=
  let kind := sel view 0x7020 1 1
  let id := sel view 0x7020 2 1
  let k := (s.vault.key? kind id).getD { kind, id, cur := none, prev := none }
  let of := fun (q : Option KeySlot) (f : KeySlot → Nat) => match q with
    | some q => f q
    | none => 0
  let closing := of k.cur (fun q => if q.closing then 1 else 0) + of k.prev (fun q => if q.closing then 1 else 0)
  .n ([kind, id, of k.cur (·.epoch), of k.prev (·.epoch), of k.cur (·.refs), of k.prev (·.refs),
       (if k.cur.isSome then 1 else 0) + (if k.prev.isSome then 2 else 0) + (if 0 < closing then 4 else 0)].getD (sub - 1) 0)

def readVault (s : State) (view : KV Nat) (index sub : Nat) : ObjVal :=
  let v := s.vault
  if index = 0x7000 then
    match sub with
    | 1 => .b (leBytes 48 s.ident.didh)
    | 2 => .b ((List.range 32).map (Config.didKeyByte 2))
    | 3 => .b ((List.range 1952).map (Config.didKeyByte 3))
    | 4 => .n v.mode.code
    | 5 => .n v.install
    | _ => flagVal v.pairPos
  else if index = 0x7001 then
    let c := sel view 0x7001 1 0
    let len := s.ident.certLen.getD c 0
    match sub with
    | 1 => .n c
    | 2 => .n len
    | _ => .b ((List.range len).map (Config.certByte c))
  else if index = 0x7002 then
    match sub with
    | 2 => .n v.reportSt
    | 3 => .n s.reportLength
    | _ => .b (if v.reportSt = 2 then s.reportBytes else [])
  else if index = 0x7003 then
    let k := sel view 0x7003 1 0
    if sub = 1 then .n k
    else .b (match s.entries[k]? with
      | some m => m.bytes
      | none => List.replicate 64 0)
  else if index = 0x7004 then .b (leBytes 1984 (v.anchors.getD (sub - 1) 0))
  else if index = 0x7010 then .n (if sub = 2 then v.imports else v.importFails)
  else if index = 0x7020 then readKeySlot s view sub
  else if index = 0x7021 then .n ([1024, 240, v.grace].getD (sub - 1) 0)
  else if index = 0x7100 then
    match sub with
    | 2 => .b (leBytes 48 v.nonce)
    | 3 => .n v.ticketSt
    | 4 => .n v.failCheck
    | 5 => .n v.applied
    | 6 => .n v.ticketFails
    | _ => flagVal v.enrolled
  else if index = 0x7200 then .n (v.policy.getD (sub - 1) 0)
  else if index = 0x7201 then .n ([v.alarms, v.lastSource, v.lastAlarmTick, v.lastAction].getD (sub - 1) 0)
  else if index = 0x7202 then
    let t := sel view 0x7202 1 1
    match sub with
    | 1 => .n t
    | 2 => flagVal (v.tenantFenced t)
    | _ => .n v.fencedCount
  else if index = 0x7300 then
    match sub with
    | 1 => flagVal (v.admitted.getLsbD 0)
    | 2 => flagVal (v.admitted.getLsbD 1)
    | 3 => .n (if s.hasGuest 0 then s.ident.guestRec0 else 0)
    | _ => .n (if s.hasGuest 1 then s.ident.guestRec1 else 0)
  else if index = 0x7301 then .b (leBytes 16 (v.rules0.getD (sub - 1) 0).toNat)
  else if index = 0x7302 then .b (leBytes 16 (v.rules1.getD (sub - 1) 0).toNat)
  else if index = 0x7303 then
    match sub with
    | 1 => .n v.refusals0
    | 2 => .n v.refusals1
    | 3 => flagVal (v.guestFence.getLsbD 0)
    | _ => flagVal (v.guestFence.getLsbD 1)
  else .n v.gready.toNat

/-- D:8002.03: the set point with the trim of the domain's channel of kind 0x05 (Table WB-7). -/
def State.domainmV (s : State) (d : Nat) : Nat :=
  if (d = 42 ∨ d = 43) ∧ !s.hasGuest 0 then 0
  else if (d = 44 ∨ d = 45) ∧ !s.hasGuest 1 then 0
  else Config.trimmedmV (s.domain d).setmV (leAt (s.calChannel 5 d).active 32 2 % 1024)

def readPower (s : State) (view : KV Nat) (index sub : Nat) : ObjVal :=
  let p := s.power
  if index = 0x8000 then
    .n ([p.inputmV, p.watts, p.mean, p.exSt, p.exCount, 16000, 19000, allowance p.inlet, 200000000, p.inputEvents].getD (sub - 1) 0)
  else if index = 0x8001 then .n (p.converters.getD (sub - 1) 0)
  else if index = 0x8002 then
    let d := sel view 0x8002 1 0
    let x := s.domain d
    .n ([d, x.st, s.domainmV d, x.current, x.power, x.energy / 10 ^ 7,
         if x.st ≠ 2 then 0 else if 16 ≤ d ∧ d < 32 then (s.tower (d - 16)).gates.toNat
         else if 36 ≤ d ∧ d < 40 then (s.tower (d - 20)).gates.toNat else 0,
         x.faults].getD (sub - 1) 0)
  else if index = 0x8003 then
    let t := sel view 0x8003 1 0
    .n ([t, (s.tower t).wearHours, 35000, (s.tower t).wearCeiling].getD (sub - 1) 0)
  else if index = 0x8004 then (if sub = 1 then flagVal p.boost else .n p.cap)
  else if index = 0x8100 then
    match sub with
    | 1 => .i p.inlet
    | 2 => .i p.outlet
    | _ => .n p.flow
  else if index = 0x8101 then
    let u := sel view 0x8101 1 0
    let x := s.tower u
    match sub with
    | 1 => .n u
    | 2 => .i x.temp
    | 3 => .i (if u < 20 then x.diode else if u = 20 then p.hubDiode else p.guestDiode.getD (u - 21) 0)
    | 4 => .n x.band
    | 5 => .n x.ballast
    | 6 => .i x.anchorCorr
    | 7 => .n (s.tripOf u)
    | 8 => .n (if u < 20 then x.trips else p.guestTrips.getD (u - 20) 0)
    | 0x0A => .n (match s.belowOf u with
        | some t => s.now - t
        | none => 0)
    | _ => .n x.overTemps
  else if index = 0x8102 then .n (p.fieldBand.getD (sub - 1) 0)
  else .n ([1050, 1200, 800, 10000000000, 30, 1000, 1000000].getD (sub - 1) 0)

def readCalibration (s : State) (index sub : Nat) : ObjVal :=
  let b := s.base
  let w := s.calWindow
  if index = 0x8400 then
    match sub with
    | 1 => .n w.1
    | 2 => .n w.2
    | 3 => .n (setLength w.1)
    | 4 => .b (s.calChannel w.1 w.2).active
    | 5 => .b ((s.calChannel w.1 w.2).shadow.getD [])
    | 6 => .n b.commitTick
    | 7 => .n b.commitSt
    | 8 => .n b.appliedTick
    | _ => .n s.ident.bind
  else if index = 0x8401 then .n (if sub = 1 then b.relockPeriod else b.bankPeriod)
  else .n ([b.stepsDone, b.stepsAbandoned, b.restoresOk, b.restoresBad].getD (sub - 1) 0)

def readLog (s : State) (view : KV Nat) (index sub : Nat) : ObjVal :=
  let l := s.log
  if index = 0x9000 then
    match sub with
    | 1 => .n l.count
    | 2 => .n (sel view 0x9000 2 0)
    | 3 => .b (ringRecord EvRec.octets 32 4096 l.count (sel view 0x9000 2 0) l.recs)
    | 4 => .n (newestIndex 4096 l.count)
    | _ => .n l.lost
  else if index = 0x9001 then .n (l.byClass.getD (sub - 1) 0)
  else if index = 0x9002 then .n (if sub = 1 then l.mask.toNat else l.minSev)
  else
    match sub with
    | 1 => flagVal s.tap.access
    | 2 => .n s.inserted.toNat
    | 3 => .n s.tap.sessions
    | 4 => .n s.tap.refused.toNat
    | _ => .n s.ident.idcode

/-- What D:index.sub reads over a transport (the owning tables). -/
def State.objVal (s : State) (view : KV Nat) (i3c : Bool) (index sub : Nat) : ObjVal :=
  if sub = 0 then .n (highestSub index)
  else if index < 0x2000 then readTransport s view i3c index sub
  else if index < 0x2100 then readLedger s view index sub
  else if index < 0x2200 then readPorts s view index sub
  else if index < 0x3000 then readPair s view index sub
  else if index < 0x4000 then readTower s index sub
  else if index < 0x5000 then readPlacement s view index sub
  else if index < 0x6000 then readBase s view index sub
  else if index < 0x7000 then readMemory s view index sub
  else if index < 0x8000 then readVault s view index sub
  else if index < 0x8400 then readPower s view index sub
  else if index < 0x9000 then readCalibration s index sub
  else readLog s view index sub

/-- The octets that D:index.sub reads over a transport; none where it has no such object. -/
def State.objOctets (s : State) (i3c : Bool) (index sub : Nat) : List Byte :=
  match object? index sub with
  | some r => (s.objVal (s.dict.transport i3c).sels i3c index sub).octets r.type
  | none => []

end Sys2Proof.Machine
end

