-- ==== Sys2Proof/Machine/Dictionary.lean ====
section
/-!
DEFINITION. Accesses to the dictionary (chapter 21): the checks of R544, writes of every writable object, whole and segmented
accesses over the PCIe window (R548 to R557), I3C accesses and CCCs (R558 to R560), clearing of vectors (R565), and PE_PERST_L (R578).
-/
namespace Sys2Proof.Machine

open Sys2Proof

/-! ## Writes of objects that hold a value -/

/-- A range of unsigned values, by object key index * 256 + subindex. -/
structure KeyRange where
  key : Nat
  lo  : Nat
  hi  : Nat
  deriving DecidableEq, Repr

def anyU64 : Nat := 2 ^ 64 - 1

/-- Selections, windows and read indices that each transport holds for itself (R546), with their ranges. -/
def selRanges : List KeyRange :=
  [⟨0x110101, 0, 63⟩, ⟨0x200201, 0, 19⟩, ⟨0x200207, 0, anyU64⟩, ⟨0x200305, 0, anyU64⟩, ⟨0x200401, 0, 3⟩, ⟨0x200404, 0, anyU64⟩,
   ⟨0x210001, 0, 4⟩, ⟨0x220402, 0, 15⟩, ⟨0x400001, 0, 15⟩, ⟨0x400101, 0, 65535⟩, ⟨0x410001, 0, 15⟩, ⟨0x410002, 0, 8191⟩,
   ⟨0x510002, 0, 65535⟩, ⟨0x540001, 0, 15⟩, ⟨0x600001, 0, 19⟩, ⟨0x600202, 0, 31⟩, ⟨0x600401, 0, 7⟩, ⟨0x610002, 0, 1023⟩,
   ⟨0x620008, 0, 4095⟩, ⟨0x700101, 0, 3⟩, ⟨0x700301, 0, 248⟩, ⟨0x702001, 1, 2⟩, ⟨0x702002, 0, 65535⟩, ⟨0x720201, 0, 65535⟩,
   ⟨0x800201, 0, 47⟩, ⟨0x800301, 0, 19⟩, ⟨0x900002, 0, 4095⟩]

/-- Settings of a content that a later write applies: one value for the module. -/
def heldRanges : List KeyRange :=
  [⟨0x102001, 1, 3⟩, ⟨0x400201, 0, 65535⟩, ⟨0x400202, 1, 3⟩, ⟨0x400203, 0, 65535⟩, ⟨0x600103, 0, 2 ^ 32 - 1⟩, ⟨0x600104, 0, 2 ^ 32 - 1⟩,
   ⟨0x600105, 0, 65535⟩, ⟨0x600106, 0, 1⟩, ⟨0x610101, 1, 2⟩, ⟨0x610105, 0, 15⟩,
   ⟨0x620001, 0, 19⟩, ⟨0x620002, 1, 2⟩, ⟨0x620003, 0, 2 ^ 32 - 1⟩]

def rangeOf (l : List KeyRange) (key : Nat) : Option KeyRange := l.find? (fun r => r.key == key)

def KeyRange.misses (r : KeyRange) (v : Nat) : Bool := decide (v < r.lo) || decide (r.hi < v)

/-- Set a transport's selection (R546). -/
def State.setSel (s : State) (i3c : Bool) (key v : Nat) : State :=
  s.mapDict (fun d => d.mapTransport i3c (fun x => { x with sels := kvSet x.sels key v }))

def State.setHeld (s : State) (key v : Nat) : State := s.mapDict (fun d => { d with held := kvSet d.held key v })
def State.setHeldOct (s : State) (key : Nat) (l : List Byte) : State := s.mapDict (fun d => { d with heldOct := kvSet d.heldOct key l })

/-- A write of one setting: its range, then the change. -/
def ranged (lo hi v : Nat) (effect : State → State) (s : State) : Nat × State :=
  checked [(KeyRange.misses ⟨0, lo, hi⟩ v, 0x04000001)] effect s

/-- A site selector of a pair view (R258, R397): populated, and not the pair's other site. -/
def putSite (i3c : Bool) (key v other : Nat) (s : State) : Nat × State :=
  checked [(!s.populated v || v == other, 0x04000004)] (fun s => s.setSel i3c key v) s

/-- A write of the selected entry of the inactive routing bank, D:5100.03 (R245, R246, R249). -/
def entryProc (v : Nat) (s : State) : Nat × State :=
  let e := kvGet s.dict.pcie.sels 0x510002 0x20
  let unicast := field v 1 0 == 1
  checked
    [(bit v 7 || bit v 31 || field v 1 0 == 3, 0x04000002),
     (decide (e < 0x20) || decide (0xFFFE ≤ e), 0x04000004),
     (unicast && decide (22 < field v 6 2), 0x04000001),
     (unicast && !s.populated (field v 6 2), 0x04000004),
     (field v 1 0 == 2 && field v 30 8 &&& s.siteMask != field v 30 8, 0x04000004),
     (decide (s.base.switchSt = 2), stateAbort 0x5100 8)]
    (fun s => s.mapBase (fun b =>
      if b.activeB then { b with bankA := kvSet b.bankA e (BitVec.ofNat 32 v) } else { b with bankB := kvSet b.bankB e (BitVec.ofNat 32 v) })) s

/-- A write of the role map of the selected handle, D:4001.03 (R335): while its package is placed, only to groups that meet the
same test. -/
def roleMapProc (data : List Byte) (s : State) : Nat × State :=
  let m := s.modelSel
  let map := data.map (·.toNat)
  checked
    [(map.any (fun g => decide (15 < g) && g != 0xFF), 0x04000001),
     ((s.pkg? m).any (fun p => (p.st == 2 || p.st == 4) && (s.rolesCheck p map).isSome), stateAbort 0x4001 5)]
    (fun s => { s.groupsWere [] with roles := kvSet s.roles m map }) s

/-- A write of a spool list entry (R473): D:2204.03 names a window in space 0x01 or 0x02, or none. -/
def spoolEidProc (v : Nat) (s : State) : Nat × State :=
  let k := kvGet s.dict.pcie.sels 0x220402 0
  checked [(v != 0 && (s.window? v 1).isNone && (s.window? v 2).isNone, 0x04000004)]
    (fun s => s.mapPair (fun p => { p with spoolWins := modAt p.spoolWins k (fun w => (v, w.2)) })) s

def spoolSpaceProc (v : Nat) (s : State) : Nat × State :=
  let k := kvGet s.dict.pcie.sels 0x220402 0
  ranged 1 2 v (fun s => s.mapPair (fun p => { p with spoolWins := modAt p.spoolWins k (fun w => (w.1, v)) })) s

/-- A write of the spool store, D:2204.06 (R473): a window in space 0x02 without park, or none. -/
def spoolStoreProc (v : Nat) (s : State) : Nat × State :=
  checked [(v != 0 && !(s.window? v 2).any (fun w => !w.park), 0x04000004)]
    (fun s => s.mapPair (fun p => { p with spoolStore := v })) s

/-- A write of the channel view, D:8400.01 or D:8400.02 (R281): refused while a commit is armed. -/
def channelProc (key lo hi v : Nat) (s : State) : Nat × State :=
  checked [(KeyRange.misses ⟨0, lo, hi⟩ v, 0x04000001), (decide (s.base.commitSt = 1), stateAbort 0x8400 3)] (fun s => s.setSel false key v) s

/-- A write of D:8101.01: a guest site must be populated (R6). -/
def thermalSelProc (i3c : Bool) (v : Nat) (s : State) : Nat × State :=
  checked [(decide (22 < v), 0x04000001), (!s.populated v, 0x04000004)] (fun s => s.setSel i3c thermalKey v) s

/-- A clear of the vectors `bits` in one transport's copy (R565): raises sampled before this tick are cleared; a vector raised in
this tick stays set, and its one message is sent anew where the clear removed earlier raises. -/
def LogSt.clearVector (l : LogSt) (i3c : Bool) (t : Nat) (pcieUp : Bool) (v : Nat) : LogSt :=
  let raisedNow := decide (kvGet l.raisedAt v 0 = t) && kvHas l.raisedAt v
  if i3c then
    if !l.vecI.getLsbD v then l
    else if raisedNow then
      if kvGet l.setAtI v 0 = t then l
      else
        { l with setAtI := kvSet l.setAtI v t
                 ibis := if l.ibiEnable.getLsbD v && l.i3cEvents.getLsbD 0 then l.ibis ++ [v] else l.ibis }
    else { l with vecI := l.vecI &&& ~~~(1#32 <<< v) }
  else
    if !l.vecP.getLsbD v then l
    else if raisedNow then
      if kvGet l.setAtP v 0 = t then l
      else
        let send := pcieUp && l.msixOn
        { l with setAtP := kvSet l.setAtP v t
                 msix := if send && !l.msixMask.getLsbD v then l.msix ++ [v] else l.msix
                 msixPending := if send && l.msixMask.getLsbD v then l.msixPending ||| (1#32 <<< v) else l.msixPending }
    else { l with vecP := l.vecP &&& ~~~(1#32 <<< v) }

def State.clearVectors (s : State) (i3c : Bool) (bits : BitVec 32) : State :=
  ((List.range 32).filter (fun v => bits.getLsbD v)).foldl (fun s v => s.mapLog (fun l => l.clearVector i3c s.now s.dict.pcieUp v)) s

/-- The vault's verdicts on octets that come through the access window (Config.verdict; assumption log 28). -/
def windowEnvelope (data : List Byte) : EnvelopeIn := { bytes := data, sigOk := Config.verdict 1 data, openOk := Config.verdict 2 data }
def windowTicket (data : List Byte) : TicketIn := { bytes := data, sigOk := Config.verdict 3 data }
def windowImage (data : List Byte) : ImageIn :=
  { header := data.take 256, parts := (data.drop 256).take 640, length := data.length, sigOk := Config.verdict 4 data, bodyOk := Config.verdict 5 data }

/-- Octets of the package parked under the EID that a placement would take. -/
def State.parkedOctets (s : State) : List Byte :=
  let eid := if s.load.open_ then s.load.parkEid else s.held 0x400203 0
  (s.mem.parked.filter (fun p => p.1 == eid)).flatMap (fun p => p.2.2)

/-! ## Writes, by block -/

/-- A write of a tower's block (Table TW-4 and the others). -/
def putTower (t b v : Nat) (s : State) : Nat × State :=
  if b = 7 then checked [(v != 0, 0x04000001)] (fun s => s.mapTower t (fun x => { x with sbHigh := 0 })) s
  else if b = 8 then towerFenceProc t v s
  else if b = 9 then ranged 1000 1000000000 v (fun s => s.mapTower t (fun x => { x with syncLimit := v })) s
  else if b = 0x0D then
    checked [(v != 0, 0x04000001)] (fun s => s.mapTower t (fun x => { x with mcast := { x.mcast with high := 0 } })) s
  else towerResetProc t v s

/-- A write `f` of the guard policy: what an admission whose search begins in this tick goes by is kept (R392). -/
def State.putGuard (s : State) (f : LedgerSt → LedgerSt) : State :=
  let old := match s.ledger.guardWas.filter (fun g => g.tick == s.now) with
    | some g => g
    | none => { tick := s.now, fraction := s.ledger.fraction, pairLimit := s.ledger.pairLimit, ctxLimit := s.ledger.ctxLimit }
  s.mapLedger (fun l => { f l with guardWas := some old })

/-- Settings and commands of D:1020 to D:2204. -/
def putLow (i3c : Bool) (k v : Nat) (data : List Byte) (s : State) : Nat × State :=
  match k with
  | 0x102002 => stageImageProc (windowImage data) s
  | 0x102005 => activateProc v s
  | 0x102006 => abandonProc v s
  | 0x102202 => moduleResetProc v s
  | 0x111002 => (0, s.clearVectors i3c (BitVec.ofNat 32 v))
  | 0x111003 => (0, s.mapLog (fun l => { l with ibiEnable := BitVec.ofNat 32 v }))
  | 0x120101 => epochCountLoadProc v s
  | 0x120204 => ranged 0 1000000000 v (fun s => s.mapTime (fun t => { t with holdLimit := v })) s
  | 0x120601 => timeResetProc v s
  | 0x200001 => ranged 8 15 v (fun s => s.putGuard (fun l => { l with fraction := v })) s
  | 0x200002 => ranged 1 3 v (fun s => s.putGuard (fun l => { l with pairLimit := v })) s
  | 0x200003 => ranged 1 16 v (fun s => s.putGuard (fun l => { l with ctxLimit := v })) s
  | 0x200301 => putSite i3c k v (kvGet (s.dict.transport i3c).sels 0x200302 1) s
  | 0x200302 => putSite i3c k v (kvGet (s.dict.transport i3c).sels 0x200301 0) s
  | 0x210102 => ranged 1000 1000000 v (fun s => s.mapLedger (fun l => { l with unitGap := v })) s
  | 0x220103 => ranged 32000 60000000000 v (fun s => s.mapPair (fun p => { p with seekLimit := v })) s
  | 0x220303 => stepDownProc v s
  | 0x220401 => ranged 10000000 1000000000 v (fun s => s.mapPair (fun p => { p with checkpoint := v })) s
  | 0x220403 => spoolEidProc v s
  | 0x220404 => spoolSpaceProc v s
  | _ => spoolStoreProc v s

/-- Settings and commands of D:4000 to D:5100. -/
def putMid (i3c : Bool) (k v : Nat) (data : List Byte) (s : State) : Nat × State :=
  match k with
  | 0x400002 => ranged 0 4 v (fun s => s.setHeld (groupKindKey s.groupSel) v) s
  | 0x400003 => checked [(decide (2 ^ 20 ≤ v), 0x04000002)] (fun s => s.setHeld (groupMaskKey s.groupSel) v) s
  | 0x400004 => (0, s.setHeld (groupFlagKey s.groupSel) v)
  | 0x400005 => groupApplyProc v s
  | 0x400103 => roleMapProc data s
  | 0x400106 => removeProc v s
  | 0x400204 => openLoadProc v s
  | 0x400205 =>
    placeFromParkProc v { sigOk := Config.verdict 6 s.parkedOctets, hashOk := Config.verdict 7 s.parkedOctets } (Config.verdict 8 s.parkedOctets) s
  | 0x400209 => cancelLoadProc v s
  | 0x40020A => checked [(decide (2 ^ 20 ≤ v), 0x04000002)] (fun s => s.setHeld k v) s
  | 0x410003 => syncWriteProc v s
  | 0x410004 => syncAddProc v s
  | 0x500101 => putSite i3c k v (kvGet (s.dict.transport i3c).sels 0x500102 1) s
  | 0x500102 => putSite i3c k v (kvGet (s.dict.transport i3c).sels 0x500101 0) s
  | 0x500601 => fieldResetProc v s
  | 0x510003 => entryProc v s
  | 0x510005 => routingArmProc v s
  | _ => routingCopyProc v s

/-- Settings and commands of D:6001 to D:F000. -/
def putHigh (i3c : Bool) (k v : Nat) (data : List Byte) (s : State) : Nat × State :=
  match k with
  | 0x600101 =>
    checked [(s.eidUnnamed v, 0x04000004), (KeyRange.misses ⟨0, 0x20, 0xEFFF⟩ v, 0x04000001)] (fun s => s.setHeld k v) s
  | 0x600102 => checked [(!(v == 1 || v == 2 || v == 5), 0x04000001)] (fun s => s.setHeld k v) s
  | 0x600107 => applyWindowProc v s
  | 0x600201 => ranged 1 (s.tower (kvGet s.dict.pcie.sels 0x600001 0)).layers v (fun s => s.setSel i3c k v) s
  | 0x600301 => layerResetProc v s
  | 0x610005 => ranged 0 1000000000 v (fun s => s.mapMem (fun m => { m with mergeWin := v })) s
  | 0x610015 =>
    ranged 1000000 280000000 v
      (fun s => s.mapTower (kvGet s.dict.pcie.sels 0x600001 0) (fun t => { t with patrolInterval := v })) s
  | 0x610024 =>
    ranged 1000000 15000000 v
      (fun s => s.mapMem (fun m => { m with dram := modAt m.dram (kvGet s.dict.pcie.sels 0x600401 0) (fun q => { q with patrolInterval := v }) })) s
  | 0x610102 => ranged 0 (if s.testSel.1 = 1 then 19 else 7) v (fun s => s.setHeld k v) s
  | 0x610103 => ranged 1 (if s.testSel.1 = 1 then (s.tower s.testSel.2.1).layers else 4) v (fun s => s.setHeld k v) s
  | 0x610104 => ranged 0 (if s.testSel.1 = 1 then 31 else 15) v (fun s => s.setHeld k v) s
  | 0x610106 => (0, s.setHeldOct k data)
  | 0x610107 => (0, s.setHeldOct k data)
  | 0x610108 => testProc v s
  | 0x620004 => retireProc v s
  | 0x700201 => reportNonceProc v s
  | 0x701001 => keyEnvelopeProc (windowEnvelope data) s
  | 0x702008 => closeProc v s
  | 0x702103 => ranged 0 100000000000 v (fun s => s.mapVault (fun x => { x with grace := v })) s
  | 0x710001 => ticketProc (windowTicket data) s
  | 0x730401 => guestResetProc v s
  | 0x800401 => (0, s.mapPower (fun p => { p with boost := decide (v = 1) }))
  | 0x800402 => ranged 8000 16000 v (fun s => s.mapPower (fun p => { p with cap := v })) s
  | 0x810109 => restartProc v s
  | 0x840001 => channelProc k 1 5 v s
  | 0x840002 => channelProc k 0 (2 ^ 32 - 1) v s
  | 0x840005 => shadowProc data s
  | 0x840006 => commitArmProc v s
  | 0x840101 => ranged 100000000 10000000000 v (fun s => s.mapBase (fun b => { b with relockPeriod := v })) s
  | 0x840102 => ranged 10000000 10000000000 v (fun s => s.mapBase (fun b => { b with bankPeriod := v })) s
  | 0x900201 => checked [(v % 2 != 0 || v / 2 ^ 13 != 0, 0x04000002)] (fun s => s.mapLog (fun l => { l with mask := BitVec.ofNat 16 v })) s
  | 0x900202 => ranged 1 4 v (fun s => s.mapLog (fun l => { l with minSev := v })) s
  | _ => (0, s.mapTap (fun t => { t with access := decide (v = 1) }))

/-- A dictionary access that reaches a tower's block: a read or a write crosses the die's control channel to its management stop and a
response that echoes its TAG comes back (R198, Table NS-3; the TAG is assumption log 27). One refused before it is sent crosses nothing. -/
def State.ctlAccess (s : State) (type index sub code : Nat) : State :=
  if code = 0 ∧ isTowerIndex index = true then
    (s.ctlTo (indexTower index) type .management .site (index * 256 + sub)).ctlTo (indexTower index) 8 .site .management (index * 256 + sub)
  else s

/-- Checks 5 to 7 of R544 on a whole value, and its effect: what a write of D:index.sub of type `t` does. -/
def State.putObject (s : State) (i3c : Bool) (t : ObjType) (index sub : Nat) (data : List Byte) : Nat × State :=
  let v := leNat data
  let k := index * 256 + sub
  if t = .bool ∧ 1 < v then (0x04000003, s)
  else if isTowerIndex index then
    let r := putTower (indexTower index) (tableIndex index - 0x3000) v s
    (r.1, r.2.ctlAccess 7 index sub r.1)
  else if k = thermalKey then thermalSelProc i3c v s
  else
    match rangeOf selRanges k with
    | some r => checked [(r.misses v, 0x04000001)] (fun s => s.setSel i3c k v) s
    | none =>
      match rangeOf heldRanges k with
      | some r => checked [(t = .eid && s.eidUnnamed v, 0x04000004), (r.misses v, 0x04000001)] (fun s => s.setHeld k v) s
      | none => if index < 0x3000 then putLow i3c k v data s else if index < 0x6000 then putMid i3c k v data s else putHigh i3c k v data s

/-! ## Accesses over the PCIe window -/

/-- An object that is read and written in segments (R555). -/
def ObjRow.segmented (r : ObjRow) : Bool := decide (3840 < r.type.size)

/-- A right that refuses a direct write (Table DI-2). -/
def Right.writeAbort : Right → Nat
  | .ro => 0x03000001 | .const => 0x03000001 | .rw2 => 0x03000003 | .rw => 0 | .wo => 0

/-- Current size of an object in octets, as TOTAL reports it. -/
def State.objTotal (s : State) (i3c : Bool) (index sub : Nat) : Nat :=
  match object? index sub with
  | some r => if r.type.isOct && r.right != .wo then (s.objOctets i3c index sub).length else if r.type.isOct then 0 else r.type.size
  | none => 0

/-- The registers of the window as an access leaves them (R549); DATA keeps the bytes the access does not write. -/
def Transport.setAccess (x : Transport) (offset length total : Nat) (data : List Byte) : Transport :=
  { x with offset, length, total, data := data ++ x.data.drop data.length }

/-- Checks 1 to 3 of R544 for a write. -/
def State.writeAbort (s : State) (index sub n : Nat) : Nat :=
  firstAbort
    [(decide (n = 0) || decide (3840 < n) || (index == 0x1110 && sub == 3), if n = 0 ∨ 3840 < n then 0x01000002 else 0x01000008),
     (s.objectAbort index sub != 0, s.objectAbort index sub),
     (match object? index sub with
        | some r => r.right.writeAbort != 0
        | none => false,
      match object? index sub with
        | some r => r.right.writeAbort
        | none => 0)]

/-- One segment of a write (R555, R557): held until the segment with LAST, which runs the checks over the whole value. -/
def segmentProc (r : ObjRow) (index sub offset : Nat) (data : List Byte) (last : Bool) (s : State) : Nat × State :=
  let s := if offset = 0 then s.mapDict (fun d => d.abandon false s.now) else s
  let held := match s.dict.pcie.seg with
    | some w => w.data
    | none => []
  if offset ≠ held.length then (0x01000003, s)
  else if r.type.size < offset + data.length then (0x01000005, s)
  else if last then (s.mapDict (fun d => { d with pcie := { d.pcie with seg := none } })).putObject false r.type index sub (held ++ data)
  else (0, s.mapDict (fun d => { d with pcie := { d.pcie with seg := some { index, sub, data := held ++ data, tick := s.now } } }))

/-- A write of D:index.sub over the window: R544 in order. -/
def writeProc (index sub offset : Nat) (data : List Byte) (last : Bool) (s : State) : Nat × State :=
  let code := s.writeAbort index sub data.length
  if code ≠ 0 then (code, s)
  else
    match object? index sub with
    | none => (0x02000001, s)
    | some r =>
      if r.segmented then segmentProc r index sub offset data last s
      else if offset ≠ 0 ∨ data.length ≠ r.type.size then (0x01000005, s)
      else s.putObject false r.type index sub data

/-- The host's `n` register writes that found STATE busy: each is discarded and counted (R551). -/
def State.discardWrites (s : State) (n : Nat) : State := s.mapDict (fun d => { d with discarded := d.discarded + n })

/-- ACCESS_WRITE (R550): a write of an object through the access window. `busy` is how many register writes the host made while the
access was in service (assumption log 48). -/
def execAccessWrite (at_ : Nat) (obj : ObjRef) (offset : Nat) (data : List Byte) (last : Bool) (busy : Nat) (s : State) : Host.Outcome State Fault Refusal :=
  let s := s.advance at_
  .next (if s.dead || !s.dict.pcieUp then s
    else
      ((s.discardWrites busy).telling (fun s => s.pcieWrite obj.index obj.sub (writeProc obj.index obj.sub offset data last))).mapDict (fun d =>
        { d with pcie := d.pcie.setAccess offset data.length (s.objTotal false obj.index obj.sub) data }))

/-- Checks 1 to 4 of R544 for a read, and the octets it returns (R555, R556). -/
def readProc (index sub offset length : Nat) (s : State) : Nat × List Byte × State :=
  if length = 0 ∨ 3840 < length then (0x01000002, [], s)
  else if s.objectAbort index sub ≠ 0 then (s.objectAbort index sub, [], s)
  else
    match object? index sub with
    | none => (0x02000001, [], s)
    | some r =>
      if r.right = .wo then (0x03000002, [], s)
      else
        let value := s.objOctets false index sub
        if r.segmented then
          if offset = 0 then
            (0, value.take length, s.mapDict (fun d => { d with pcie := { d.pcie with copy := some (index, sub, value) } }))
          else
            match s.dict.pcie.copy with
            | none => (0x01000003, [], s)
            | some c => if offset < c.2.2.length then (0, (c.2.2.drop offset).take length, s) else (0x01000005, [], s)
        else if offset ≠ 0 ∨ length < value.length ∨ r.type.size < length then (0x01000005, [], s)
        else (0, value, s)

/-- ACCESS_READ (R550): a read of an object or of a segment of it. -/
def State.accessRead (s : State) (index sub offset length busy : Nat) : State :=
  if s.dead || !s.dict.pcieUp then s
  else
    let s := (s.discardWrites busy).mapDict (fun d => d.begin_ false s.now index sub)
    let total := s.objTotal false index sub
    let r := if s.gate index = 0 then readProc index sub offset length s else (s.gate index, [], s)
    ((r.2.2.ctlAccess 6 index sub r.1).endAccess false index sub r.1).mapDict (fun d => { d with pcie := d.pcie.setAccess offset length total r.2.1 })

/-- ACCESS_READ (R550), with the register writes that found it in service (R551). -/
def execAccessRead (at_ : Nat) (obj : ObjRef) (offset length busy : Nat) (s : State) : Host.Outcome State Fault Refusal :=
  .next ((s.advance at_).accessRead obj.index obj.sub offset length busy)

/-! ## Service bounds and the idle limit -/

/-- The bound of an access (Table DI-7). -/
def serviceBound (index sub : Nat) (write last : Bool) : Nat :=
  if write && ((index == 0x7010 && sub == 1) || (index == 0x1020 && sub == 5)
      || (last && ((index == 0x7100 && sub == 1) || (index == 0x1020 && sub == 2)))) then 4000000
  else if isTowerIndex index || index == 0x4100 || index == 0x5006 || decide (0x5400 ≤ index ∧ index ≤ 0x5402)
      || decide (0x6000 ≤ index ∧ index ≤ 0x6200) || decide (0x8400 ≤ index ∧ index ≤ 0x8402) then 6000
  else 2000

/-- The object that an access over a transport names, and its tick; none, where the command is no access of that transport. The rows that
are one write each name their own object. -/
def accessOf (i3c : Bool) (c : Instr) : Option (Nat × Nat × Nat) :=
  if i3c then
    match c with
    | .i3cRead a i k => some (a, i, k)
    | .i3cWrite a i k _ => some (a, i, k)
    | .vectorClear a true _ => some (a, 0x1110, 2)
    | _ => none
  else
    match c with
    | .accessRead a o _ _ _ => some (a, o.index, o.sub)
    | .accessWrite a o _ _ _ _ => some (a, o.index, o.sub)
    | .vectorClear a false _ => some (a, 0x1110, 2)
    | .stageImage a _ => some (a, 0x1020, 2)
    | .activate a _ => some (a, 0x1020, 5)
    | .keyEnvelope a _ => some (a, 0x7010, 1)
    | .ticket a _ => some (a, 0x7100, 1)
    | .epochCountLoad a _ => some (a, 0x1201, 1)
    | .timeReset a _ => some (a, 0x1206, 1)
    | .towerFenceWrite a t _ => some (a, towerIndex t 8, 1)
    | .towerResetWarm a t => some (a, towerIndex t 15, 1)
    | .towerResetCold a t => some (a, towerIndex t 15, 1)
    | _ => none

/-- An access of a transport to object `index`.`sub` is sampled in this tick (R61). -/
def State.accessNow (s : State) (i3c : Bool) (index sub : Nat) : Bool :=
  s.sampled (fun c => match accessOf i3c c with
    | some x => decide (x.1 ≤ s.now ∧ x.2.1 = index ∧ x.2.2 = sub)
    | none => false)

/-- An access sampled at tick `go` has not ended by its bound (R552): it is aborted and never takes effect. An access of the transport
that ended after `go`, be it in this tick, is that access: its ending is kept (R62, R552). -/
def State.boundExpires (s : State) (i3c : Bool) (go index sub : Nat) (write last : Bool) : State :=
  if s.dead || (!i3c && !s.dict.pcieUp) || (i3c && s.dict.i3cAddr.isNone) || decide (s.now < go + serviceBound index sub write last)
      || decide (go < (s.dict.transport i3c).served) || s.accessNow i3c index sub then s
  else
    let s := (s.mapDict (fun d => d.begin_ i3c s.now index sub)).endAccess i3c index sub 0x01000006
    if i3c then s.mapDict (fun d => { d with i3cReply := 3 :: leBytes 4 0x01000006 }) else s

/-- SERVICE_BOUND_EXPIRY (R552). -/
def execServiceBoundExpiry (at_ : Nat) (i3c : Bool) (go index sub : Nat) (write last : Bool) (s : State) : Host.Outcome State Fault Refusal :=
  .next ((s.advance at_).boundExpires i3c go index sub write last)

/-- No segment within D:1100.05 ticks of the last (R557); one sampled in this tick has arrived (R62). -/
def State.segmentIdle (s : State) (i3c : Bool) : State :=
  match (s.dict.transport i3c).seg with
  | some w => if w.tick + 1000000 ≤ s.now ∧ !s.accessNow i3c w.index w.sub then s.mapDict (fun d => d.abandon i3c s.now) else s
  | none => s

/-- SEGMENT_IDLE_EXPIRY (R557). -/
def execSegmentIdleExpiry (at_ : Nat) (i3c : Bool) (s : State) : Host.Outcome State Fault Refusal := .next ((s.advance at_).segmentIdle i3c)

/-! ## I3C (R558 to R560) -/

/-- Objects that I3C reads (R560). -/
def i3cReadable (index sub : Nat) : Bool :=
  index == 0x1000 || (index == 0x1022 && sub == 1) || index == 0x1110 || (index == 0x1200 && sub == 1) || (index == 0x1202 && sub == 1)
    || (index == 0x2202 && decide (1 ≤ sub) && decide (sub ≤ 5)) || index == 0x5003 || decide (0x5200 ≤ index ∧ index ≤ 0x5203)
    || decide (0x8000 ≤ index ∧ index ≤ 0x8003) || decide (0x8100 ≤ index ∧ index ≤ 0x8103) || index == 0x9000 || index == 0x9001

/-- Objects that I3C writes (R560): the selections of R546 within those blocks, D:1110.02 and D:1110.03. -/
def i3cWritable (index sub : Nat) : Bool :=
  [0x800201, 0x800301, 0x810101, 0x900002, 0x111002, 0x111003].contains (index * 256 + sub)

/-- An object larger than 32 bytes cannot be accessed over I3C (R559). -/
def i3cTooLarge (index sub : Nat) : Bool := (object? index sub).any (fun r => decide (32 < r.type.size))

/-- The reply that the next private read returns (Table DI-8). -/
def State.i3cAnswer (s : State) (code : Nat) (value : List Byte) : State :=
  s.mapDict (fun d => { d with i3cReply := (if code = 0 then 2 else 3) :: leBytes 4 code ++ value })

/-- A read over I3C: R544 in order. -/
def i3cReadProc (index sub : Nat) (s : State) : Nat × List Byte :=
  if !i3cReadable index sub || i3cTooLarge index sub then (0x01000008, [])
  else if s.objectAbort index sub ≠ 0 then (s.objectAbort index sub, [])
  else if (object? index sub).any (fun r => r.right == .wo) then (0x03000002, [])
  else (0, s.objOctets true index sub)

/-- A private write of op 0x01 (R559); without a dynamic address the module answers nothing. -/
def State.i3cRead (s : State) (index sub : Nat) : State :=
  if s.dead || s.dict.i3cAddr.isNone then s
  else
    let s := s.mapDict (fun d => d.begin_ true s.now index sub)
    let r := if s.gate index = 0 then i3cReadProc index sub s else (s.gate index, [])
    ((s.ctlAccess 6 index sub r.1).endAccess true index sub r.1).i3cAnswer r.1 r.2

/-- I3C_READ (R559). -/
def execI3cRead (at_ index sub : Nat) (s : State) : Host.Outcome State Fault Refusal := .next ((s.advance at_).i3cRead index sub)

/-- A write over I3C: R544 in order. -/
def i3cWriteProc (index sub : Nat) (data : List Byte) (s : State) : Nat × State :=
  if !i3cWritable index sub || i3cTooLarge index sub then (0x01000008, s)
  else
    match object? index sub with
    | none => (0x02000002, s)
    | some r => if data.length ≠ r.type.size then (0x01000005, s) else s.putObject true r.type index sub data

/-- A private write of op 0x02 (R559). -/
def State.i3cWrite (s : State) (index sub : Nat) (data : List Byte) : State :=
  if s.dead || s.dict.i3cAddr.isNone then s
  else
    let s := s.mapDict (fun d => d.begin_ true s.now index sub)
    let r := if s.gate index = 0 then i3cWriteProc index sub data s else (s.gate index, s)
    (r.2.endAccess true index sub r.1).i3cAnswer r.1 []

/-- I3C_WRITE (R559). -/
def execI3cWrite (at_ index sub : Nat) (data : List Byte) (s : State) : Host.Outcome State Fault Refusal :=
  .next ((s.advance at_).i3cWrite index sub data)

/-- The I3C target answers: the hub runs. -/
def State.i3cLive (s : State) : Bool := !s.dead && decide (s.boot.modState ≠ 0)

/-- ENTDAA (R558): a target without a dynamic address takes the one it is given. -/
def execEntdaa (at_ : Nat) (address : BitVec 7) (s : State) : Host.Outcome State Fault Refusal :=
  let s := s.advance at_
  .next (if s.i3cLive && s.dict.i3cAddr.isNone then s.mapDict (fun d => { d with i3cAddr := some address }) else s)

/-- RSTDAA (R558): the dynamic address is gone. -/
def execRstdaa (at_ : Nat) (s : State) : Host.Outcome State Fault Refusal :=
  let s := s.advance at_
  .next (if s.i3cLive then s.mapDict (fun d => { d with i3cAddr := none }) else s)

/-- ENEC (R558): events enabled; bit 0 is the in-band interrupt. -/
def execEnec (at_ : Nat) (events : BitVec 8) (s : State) : Host.Outcome State Fault Refusal :=
  let s := s.advance at_
  .next (if s.i3cLive then s.mapLog (fun l => { l with i3cEvents := l.i3cEvents ||| events }) else s)

/-- DISEC (R558): events disabled. -/
def execDisec (at_ : Nat) (events : BitVec 8) (s : State) : Host.Outcome State Fault Refusal :=
  let s := s.advance at_
  .next (if s.i3cLive then s.mapLog (fun l => { l with i3cEvents := l.i3cEvents &&& ~~~events }) else s)

/-- The answer to a directed CCC that reads, given to a controller that has assigned an address. -/
def State.cccAnswer (s : State) (bytes : List Byte) : State :=
  if s.i3cLive && s.dict.i3cAddr.isSome then s.mapDict (fun d => { d with i3cReply := bytes }) else s

/-- `n` bytes of reply `which` that the published standard and the maker fix (Config.i3cByte). -/
def i3cBytes (which n : Nat) : List Byte := (List.range n).map (Config.i3cByte which)

/-- The provisional ID, most significant byte first: the straps in bits [3:0] of its instance field, which is PID[15:12] (R585). -/
def State.pid (s : State) : List Byte :=
  let b := i3cBytes 0 6
  b.take 4 ++ [s.boot.straps ++ (b.getD 4 0).extractLsb' 0 4] ++ b.drop 5

/-- GETPID (R558, R585). -/
def execGetpid (at_ : Nat) (s : State) : Host.Outcome State Fault Refusal :=
  let s := s.advance at_
  .next (s.cccAnswer s.pid)

/-- GETBCR (R558). -/
def execGetbcr (at_ : Nat) (s : State) : Host.Outcome State Fault Refusal := .next ((s.advance at_).cccAnswer (i3cBytes 1 1))

/-- GETDCR (R558). -/
def execGetdcr (at_ : Nat) (s : State) : Host.Outcome State Fault Refusal := .next ((s.advance at_).cccAnswer (i3cBytes 2 1))

/-- GETMWL (R558). -/
def execGetmwl (at_ : Nat) (s : State) : Host.Outcome State Fault Refusal := .next ((s.advance at_).cccAnswer (i3cBytes 3 2))

/-- GETMRL (R558). -/
def execGetmrl (at_ : Nat) (s : State) : Host.Outcome State Fault Refusal := .next ((s.advance at_).cccAnswer (i3cBytes 4 3))

/-- GETSTATUS (R558): two bytes that no rule states (free values). -/
def execGetstatus (at_ : Nat) (s : State) : Host.Outcome State Fault Refusal :=
  let r := (s.advance at_).drawFree
  .next (r.2.cccAnswer (leBytes 2 r.1.toNat))

/-! ## Vectors and the PCIe reset -/

/-- A write of D:1110.02 over a transport (R565). -/
def State.vectorClear (s : State) (i3c : Bool) (bits : BitVec 32) : State :=
  if i3c then s.i3cWrite 0x1110 2 (leBytes 4 bits.toNat) else s.pcieWrite 0x1110 2 (fun s => (0, s.clearVectors false bits))

/-- VECTOR_CLEAR (R565). -/
def execVectorClear (at_ : Nat) (i3c : Bool) (bits : BitVec 32) (s : State) : Host.Outcome State Fault Refusal :=
  .next ((s.advance at_).vectorClear i3c bits)

/-- PE_PERST_L falls (R578): the link is down, and an open segmented write is abandoned. -/
def execPePerstLFall (at_ : Nat) (s : State) : Host.Outcome State Fault Refusal :=
  let s := s.advance at_
  .next (if s.dict.perst then s.mapDict (fun d => { d.abandon false s.now with perst := false, pcieUp := false }) else s)

/-- BAR0 at its reset values; the selections stand (R578). -/
def Transport.resetWindow (x : Transport) : Transport := { Transport.fresh with copy := x.copy, sels := x.sels }

/-- PE_PERST_L rises (R578): configuration space, BAR0 and the PCIe copy of D:1110.01 return to their reset values, and the link comes
up where the cores that serve it run. -/
def execPePerstLRise (at_ : Nat) (s : State) : Host.Outcome State Fault Refusal :=
  let s := s.advance at_
  .next (if s.dict.perst then s
    else
      (s.mapDict (fun d =>
        { d with perst := true, pcieUp := !s.dead && (decide (2 ≤ s.boot.layers) || s.boot.recovery), pcie := d.pcie.resetWindow })).mapLog
        (fun l => { l with msixOn := false, msixMask := 0xFFFFFFFF, msixPending := 0, vecP := 0 }))

end Sys2Proof.Machine
end

