-- ==== Sys2Proof/Machine/Lane.lean ====
section
/-! DEFINITION. Lane instructions (Table LP-5): each acts on the registers of one vector engine. -/
namespace Sys2Proof.Machine

open Sys2Proof

/-- FADD (R182). -/
def execFadd (eng : Nat) (o : LaneOp) (s : State) : Host.Outcome State Fault Refusal :=
  .next (s.onEngine eng (fun l => l.fadd o))

/-- FSUB (R182). -/
def execFsub (eng : Nat) (o : LaneOp) (s : State) : Host.Outcome State Fault Refusal :=
  .next (s.onEngine eng (fun l => l.fsub o))

/-- FMUL (R182). -/
def execFmul (eng : Nat) (o : LaneOp) (s : State) : Host.Outcome State Fault Refusal :=
  .next (s.onEngine eng (fun l => l.fmul o))

/-- FFMA (R182). -/
def execFfma (eng : Nat) (o : LaneOp) (s : State) : Host.Outcome State Fault Refusal :=
  .next (s.onEngine eng (fun l => l.ffma o))

/-- FMIN (R182). -/
def execFmin (eng : Nat) (o : LaneOp) (s : State) : Host.Outcome State Fault Refusal :=
  .next (s.onEngine eng (fun l => l.fmin o))

/-- FMAX (R182). -/
def execFmax (eng : Nat) (o : LaneOp) (s : State) : Host.Outcome State Fault Refusal :=
  .next (s.onEngine eng (fun l => l.fmax o))

/-- FSGN (R182). -/
def execFsgn (eng : Nat) (o : LaneOp) (s : State) : Host.Outcome State Fault Refusal :=
  .next (s.onEngine eng (fun l => l.fsgn o))

/-- FRND (R182). -/
def execFrnd (eng : Nat) (o : LaneOp) (s : State) : Host.Outcome State Fault Refusal :=
  .next (s.onEngine eng (fun l => l.frnd o))

/-- FRCP (R184). -/
def execFrcp (eng : Nat) (o : LaneOp) (s : State) : Host.Outcome State Fault Refusal :=
  .next (s.onEngine eng (fun l => l.frcp o))

/-- FRSQ (R184). -/
def execFrsq (eng : Nat) (o : LaneOp) (s : State) : Host.Outcome State Fault Refusal :=
  .next (s.onEngine eng (fun l => l.frsq o))

/-- FEXP2 (R184). -/
def execFexp2 (eng : Nat) (o : LaneOp) (s : State) : Host.Outcome State Fault Refusal :=
  .next (s.onEngine eng (fun l => l.fexp2 o))

/-- FLOG2 (R184). -/
def execFlog2 (eng : Nat) (o : LaneOp) (s : State) : Host.Outcome State Fault Refusal :=
  .next (s.onEngine eng (fun l => l.flog2 o))

/-- FTANH (R184). -/
def execFtanh (eng : Nat) (o : LaneOp) (s : State) : Host.Outcome State Fault Refusal :=
  .next (s.onEngine eng (fun l => l.ftanh o))

/-- FCMP (R182). -/
def execFcmp (eng : Nat) (o : LaneOp) (s : State) : Host.Outcome State Fault Refusal :=
  .next (s.onEngine eng (fun l => l.fcmp o))

/-- IADD (R182). -/
def execIadd (eng : Nat) (o : LaneOp) (s : State) : Host.Outcome State Fault Refusal :=
  .next (s.onEngine eng (fun l => l.iadd o))

/-- ISUB (R182). -/
def execIsub (eng : Nat) (o : LaneOp) (s : State) : Host.Outcome State Fault Refusal :=
  .next (s.onEngine eng (fun l => l.isub o))

/-- IMUL (R182). -/
def execImul (eng : Nat) (o : LaneOp) (s : State) : Host.Outcome State Fault Refusal :=
  .next (s.onEngine eng (fun l => l.imul o))

/-- IMIN (R182). -/
def execImin (eng : Nat) (o : LaneOp) (s : State) : Host.Outcome State Fault Refusal :=
  .next (s.onEngine eng (fun l => l.imin o))

/-- IMAX (R182). -/
def execImax (eng : Nat) (o : LaneOp) (s : State) : Host.Outcome State Fault Refusal :=
  .next (s.onEngine eng (fun l => l.imax o))

/-- AND (R182). -/
def execAnd (eng : Nat) (o : LaneOp) (s : State) : Host.Outcome State Fault Refusal :=
  .next (s.onEngine eng (fun l => l.and_ o))

/-- OR (R182). -/
def execOr (eng : Nat) (o : LaneOp) (s : State) : Host.Outcome State Fault Refusal :=
  .next (s.onEngine eng (fun l => l.or_ o))

/-- XOR (R182). -/
def execXor (eng : Nat) (o : LaneOp) (s : State) : Host.Outcome State Fault Refusal :=
  .next (s.onEngine eng (fun l => l.xor_ o))

/-- SHL (R182). -/
def execShl (eng : Nat) (o : LaneOp) (s : State) : Host.Outcome State Fault Refusal :=
  .next (s.onEngine eng (fun l => l.shl o))

/-- SHR (R182). -/
def execShr (eng : Nat) (o : LaneOp) (s : State) : Host.Outcome State Fault Refusal :=
  .next (s.onEngine eng (fun l => l.shr o))

/-- SRA (R182). -/
def execSra (eng : Nat) (o : LaneOp) (s : State) : Host.Outcome State Fault Refusal :=
  .next (s.onEngine eng (fun l => l.sra o))

/-- ICMP (R182). -/
def execIcmp (eng : Nat) (o : LaneOp) (s : State) : Host.Outcome State Fault Refusal :=
  .next (s.onEngine eng (fun l => l.icmp o))

/-- CVT (R124, R126, R182). -/
def execCvt (eng : Nat) (o : LaneOp) (s : State) : Host.Outcome State Fault Refusal :=
  .next (s.onEngine eng (fun l => l.cvt eng o))

/-- MOV (R182). -/
def execMov (eng : Nat) (o : LaneOp) (s : State) : Host.Outcome State Fault Refusal :=
  .next (s.onEngine eng (fun l => l.mov o))

/-- SEL (R180, R182). -/
def execSel (eng : Nat) (o : LaneOp) (s : State) : Host.Outcome State Fault Refusal :=
  .next (s.onEngine eng (fun l => l.sel o))

/-- MOVI (R182). -/
def execMovi (eng : Nat) (o : LaneOp) (s : State) : Host.Outcome State Fault Refusal :=
  .next (s.onEngine eng (fun l => l.movi o))

/-- LDC (R182). -/
def execLdc (eng : Nat) (o : LaneOp) (s : State) : Host.Outcome State Fault Refusal :=
  .next (s.onEngine eng (fun l => l.ldc o))

/-- LIDX (R182). -/
def execLidx (eng : Nat) (o : LaneOp) (s : State) : Host.Outcome State Fault Refusal :=
  .next (s.onEngine eng (fun l => l.lidx o))

/-- RSUM (R182, R183). -/
def execRsum (eng : Nat) (o : LaneOp) (s : State) : Host.Outcome State Fault Refusal :=
  .next (s.onEngine eng (fun l => l.rsum o))

/-- RMAX (R183). -/
def execRmax (eng : Nat) (o : LaneOp) (s : State) : Host.Outcome State Fault Refusal :=
  .next (s.onEngine eng (fun l => l.rmax o))

/-- RMIN (R183). -/
def execRmin (eng : Nat) (o : LaneOp) (s : State) : Host.Outcome State Fault Refusal :=
  .next (s.onEngine eng (fun l => l.rmin o))

/-- ROT (R182). -/
def execRot (eng : Nat) (o : LaneOp) (s : State) : Host.Outcome State Fault Refusal :=
  .next (s.onEngine eng (fun l => l.rot o))

/-- BCST (R182). -/
def execBcst (eng : Nat) (o : LaneOp) (s : State) : Host.Outcome State Fault Refusal :=
  .next (s.onEngine eng (fun l => l.bcst o))

/-- PAND (R182). -/
def execPand (eng : Nat) (o : LaneOp) (s : State) : Host.Outcome State Fault Refusal :=
  .next (s.onEngine eng (fun l => l.pand o))

/-- POR (R182). -/
def execPor (eng : Nat) (o : LaneOp) (s : State) : Host.Outcome State Fault Refusal :=
  .next (s.onEngine eng (fun l => l.por o))

/-- PNOT (R182). -/
def execPnot (eng : Nat) (o : LaneOp) (s : State) : Host.Outcome State Fault Refusal :=
  .next (s.onEngine eng (fun l => l.pnot o))

/-- LOOP (R185). -/
def execLoop (eng : Nat) (o : LaneOp) (body : List (BitVec 64)) (s : State) : Host.Outcome State Fault Refusal :=
  .next (s.onEngine eng (fun l => l.loop eng o body))

end Sys2Proof.Machine
end

