-- ==== Sys2Proof/Machine/Operators.lean ====
section
/-!
DEFINITION. The operators of the catalogue (Table OP-7): each computes a chunk that a tile of the tower is running and stages its
outputs; CHUNK_COMMIT releases them.
-/
namespace Sys2Proof.Machine

open Sys2Proof

/-- MATMUL (R149). -/
def execMatmul (at_ tower chunk : Nat) (s : State) : Host.Outcome State Fault Refusal :=
  .next ((s.advance at_).runChunk tower chunk 0x01 evalMatmul)

/-- MATMUL_BATCHED (R149). -/
def execMatmulBatched (at_ tower chunk : Nat) (s : State) : Host.Outcome State Fault Refusal :=
  .next ((s.advance at_).runChunk tower chunk 0x02 evalMatmul)

/-- MATMUL_GROUPED (R150). -/
def execMatmulGrouped (at_ tower chunk : Nat) (s : State) : Host.Outcome State Fault Refusal :=
  .next ((s.advance at_).runChunk tower chunk 0x03 evalGrouped)

/-- MATMUL_ROUTED (R150). -/
def execMatmulRouted (at_ tower chunk : Nat) (s : State) : Host.Outcome State Fault Refusal :=
  .next ((s.advance at_).runChunk tower chunk 0x04 evalRouted)

/-- CONV (R151). -/
def execConv (at_ tower chunk : Nat) (s : State) : Host.Outcome State Fault Refusal :=
  .next ((s.advance at_).runChunk tower chunk 0x08 evalConv)

/-- ATTN (R152, R153). -/
def execAttn (at_ tower chunk : Nat) (s : State) : Host.Outcome State Fault Refusal :=
  .next ((s.advance at_).runChunk tower chunk 0x10 evalAttn)

/-- NORM (R148). -/
def execNorm (at_ tower chunk : Nat) (s : State) : Host.Outcome State Fault Refusal :=
  .next ((s.advance at_).runChunk tower chunk 0x18 evalNorm)

/-- ELEMENTWISE (R154). -/
def execElementwise (at_ tower chunk : Nat) (s : State) : Host.Outcome State Fault Refusal :=
  .next ((s.advance at_).runChunk tower chunk 0x20 evalElementwise)

/-- REDUCE (R148). -/
def execReduce (at_ tower chunk : Nat) (s : State) : Host.Outcome State Fault Refusal :=
  .next ((s.advance at_).runChunk tower chunk 0x28 evalReduce)

/-- GATHER (R155). -/
def execGather (at_ tower chunk : Nat) (s : State) : Host.Outcome State Fault Refusal :=
  .next ((s.advance at_).runChunk tower chunk 0x30 evalGather)

/-- SCATTER (R155). -/
def execScatter (at_ tower chunk : Nat) (s : State) : Host.Outcome State Fault Refusal :=
  .next ((s.advance at_).runChunk tower chunk 0x31 evalScatter)

/-- INDEX (R147). -/
def execIndex (at_ tower chunk : Nat) (s : State) : Host.Outcome State Fault Refusal :=
  .next ((s.advance at_).runChunk tower chunk 0x32 evalIndex)

/-- SORT (R156). -/
def execSort (at_ tower chunk : Nat) (s : State) : Host.Outcome State Fault Refusal :=
  .next ((s.advance at_).runChunk tower chunk 0x38 evalSort)

/-- TOPK (R156). -/
def execTopk (at_ tower chunk : Nat) (s : State) : Host.Outcome State Fault Refusal :=
  .next ((s.advance at_).runChunk tower chunk 0x39 evalTopk)

/-- FFT (R157). -/
def execFft (at_ tower chunk : Nat) (s : State) : Host.Outcome State Fault Refusal :=
  .next ((s.advance at_).runChunk tower chunk 0x40 evalFft)

/-- RESAMPLE (R158). -/
def execResample (at_ tower chunk : Nat) (s : State) : Host.Outcome State Fault Refusal :=
  .next ((s.advance at_).runChunk tower chunk 0x48 evalResample)

/-- CONVERT (R126). -/
def execConvert (at_ tower chunk : Nat) (s : State) : Host.Outcome State Fault Refusal :=
  .next ((s.advance at_).runChunk tower chunk 0x50 evalConvert)

/-- REDUCE_TO (R159): the contribution, sent at commit. -/
def execReduceTo (at_ tower chunk : Nat) (s : State) : Host.Outcome State Fault Refusal :=
  .next ((s.advance at_).runChunk tower chunk 0x60 evalCopy)

/-- MULTICAST (R160): the copies, sent at commit. -/
def execMulticast (at_ tower chunk : Nat) (s : State) : Host.Outcome State Fault Refusal :=
  .next ((s.advance at_).runChunk tower chunk 0x61 evalCopy)

/-- ALLREDUCE (R159, R211): the contribution, sent at commit. -/
def execAllreduce (at_ tower chunk : Nat) (s : State) : Host.Outcome State Fault Refusal :=
  .next ((s.advance at_).runChunk tower chunk 0x62 evalCopy)

/-- KV_WRITE (R162). -/
def execKvWrite (at_ tower chunk : Nat) (s : State) : Host.Outcome State Fault Refusal :=
  .next ((s.advance at_).runChunk tower chunk 0x68 evalKv)

/-- KV_READ (R162). -/
def execKvRead (at_ tower chunk : Nat) (s : State) : Host.Outcome State Fault Refusal :=
  .next ((s.advance at_).runChunk tower chunk 0x69 evalKv)

/-- BACKING_COPY (R162). -/
def execBackingCopy (at_ tower chunk : Nat) (s : State) : Host.Outcome State Fault Refusal :=
  .next ((s.advance at_).runChunk tower chunk 0x70 evalCopy)

/-- DELIVER (R161). -/
def execDeliver (at_ tower chunk : Nat) (s : State) : Host.Outcome State Fault Refusal :=
  .next ((s.advance at_).runChunk tower chunk 0x78 evalDeliver)

/-- OPTICAL (R269 to R274): `failingBanks` are the physical banks whose reference check fails. -/
def execOptical (at_ tower chunk : Nat) (failingBanks : List Nat) (s : State) : Host.Outcome State Fault Refusal :=
  .next ((s.advance at_).runOptical tower chunk failingBanks)

/-- A fault of the tile that runs a chunk is sampled in this tick: the chunk is rerun, and no lane exception ends its operator (R191). -/
def State.tileFaultNow (s : State) (t : Nat) (c : Chunk) : Bool :=
  s.sampled (fun i => match i with
    | .tileFault a t' r k => decide (a ≤ s.now ∧ t' = t) && c.place == some (r, k)
    | _ => false)

/-- A word of the instruction buffer or constant store fails (R190): the first time in a chunk the entry is refetched and the
pass restarts; the second time the operator ends with 0x82. -/
def State.wordError (s : State) (t chunk word : Nat) : State :=
  match (s.tower t).running.find? (fun c => c.id == chunk) with
  | none => s
  | some c =>
    if c.badWords.contains word then
      if s.tileFaultNow t c then s else
      let prog := match (s.tower t).ops.find? (fun o => o.id == c.op) with
        | some o => dLprog o.word
        | none => 0
      let tenant := match (s.tower t).ops.find? (fun o => o.id == c.op) with
        | some o => match (s.tower t).record? o.slot with
          | some r => r.tenant
          | none => 0
        | none => 0
      let s := s.mapTower t (fun x => { x with laneFaults := x.laneFaults + 1 })
      let s := s.logEv 0x0242 sevLogged t 0 (prog * 65536 + word) (arg1Of tenant 0 0x82)
      s.failChunk t chunk 0x82
    else
      (s.loadEntry t c).mapTower t (fun x => { x with
        refetches := x.refetches + 1
        running := modWhere x.running (fun k => k.id == chunk)
          (fun k => { k with badWords := insertNat k.badWords word, computed := false, staged := [], flags := 0 }) })

/-- INSTRUCTION_WORD_ERROR (R190, R191). -/
def execInstructionWordError (at_ tower chunk word : Nat) (s : State) : Host.Outcome State Fault Refusal :=
  .next ((s.advance at_).wordError tower chunk word)

end Sys2Proof.Machine
end

