-- ==== Sys2Proof/Machine/Dispatch.lean ====
section
/-! DEFINITION. The effect of each command: one arm for each row of the table, in its order. -/
namespace Sys2Proof.Machine

open Sys2Proof

/-- The effect of a command on everything but the queue. -/
def exec (i : Instr) (s : State) : Host.Outcome State Fault Refusal :=
  match i with
  | .refclkEdgeTimeout at_ lastEdge => Sys2Proof.Machine.execRefclkEdgeTimeout at_ lastEdge s
  | .refclkGateEnd at_ ppb edgeFail => Sys2Proof.Machine.execRefclkGateEnd at_ ppb edgeFail s
  | .epochPulse at_ width => Sys2Proof.Machine.execEpochPulse at_ width s
  | .epochWindowClose at_ => Sys2Proof.Machine.execEpochWindowClose at_ s
  | .epochCountLoad at_ n => Sys2Proof.Machine.execEpochCountLoad at_ n s
  | .tallySlew at_ => Sys2Proof.Machine.execTallySlew at_ s
  | .twinEpochCount at_ count twinLocked => Sys2Proof.Machine.execTwinEpochCount at_ count twinLocked s
  | .timeReset at_ value => Sys2Proof.Machine.execTimeReset at_ value s
  | .clockStretch at_ tower region ask => Sys2Proof.Machine.execClockStretch at_ tower region ask s
  | .shortfall at_ tower region cycles => Sys2Proof.Machine.execShortfall at_ tower region cycles s
  | .tileFault at_ tower region tile => Sys2Proof.Machine.execTileFault at_ tower region tile s
  | .chunkOverrun at_ tower chunk cycles => Sys2Proof.Machine.execChunkOverrun at_ tower chunk cycles s
  | .spareSelfTest at_ tower region pass => Sys2Proof.Machine.execSpareSelfTest at_ tower region pass s
  | .activationInstall at_ tower slot => Sys2Proof.Machine.execActivationInstall at_ tower slot s
  | .windowOpen at_ tower slot win => Sys2Proof.Machine.execWindowOpen at_ tower slot win s
  | .chunkIssue at_ tower region tile => Sys2Proof.Machine.execChunkIssue at_ tower region tile s
  | .chunkCommit at_ tower chunk checksOk => Sys2Proof.Machine.execChunkCommit at_ tower chunk checksOk s
  | .syncWaitExpiry at_ tower op => Sys2Proof.Machine.execSyncWaitExpiry at_ tower op s
  | .towerFenceWrite at_ tower value => Sys2Proof.Machine.execTowerFenceWrite at_ tower value s
  | .matmul at_ tower chunk => Sys2Proof.Machine.execMatmul at_ tower chunk s
  | .matmulBatched at_ tower chunk => Sys2Proof.Machine.execMatmulBatched at_ tower chunk s
  | .matmulGrouped at_ tower chunk => Sys2Proof.Machine.execMatmulGrouped at_ tower chunk s
  | .matmulRouted at_ tower chunk => Sys2Proof.Machine.execMatmulRouted at_ tower chunk s
  | .conv at_ tower chunk => Sys2Proof.Machine.execConv at_ tower chunk s
  | .attn at_ tower chunk => Sys2Proof.Machine.execAttn at_ tower chunk s
  | .norm at_ tower chunk => Sys2Proof.Machine.execNorm at_ tower chunk s
  | .elementwise at_ tower chunk => Sys2Proof.Machine.execElementwise at_ tower chunk s
  | .reduce at_ tower chunk => Sys2Proof.Machine.execReduce at_ tower chunk s
  | .gather at_ tower chunk => Sys2Proof.Machine.execGather at_ tower chunk s
  | .scatter at_ tower chunk => Sys2Proof.Machine.execScatter at_ tower chunk s
  | .index at_ tower chunk => Sys2Proof.Machine.execIndex at_ tower chunk s
  | .sort at_ tower chunk => Sys2Proof.Machine.execSort at_ tower chunk s
  | .topk at_ tower chunk => Sys2Proof.Machine.execTopk at_ tower chunk s
  | .fft at_ tower chunk => Sys2Proof.Machine.execFft at_ tower chunk s
  | .resample at_ tower chunk => Sys2Proof.Machine.execResample at_ tower chunk s
  | .convert at_ tower chunk => Sys2Proof.Machine.execConvert at_ tower chunk s
  | .optical at_ tower chunk failingBanks => Sys2Proof.Machine.execOptical at_ tower chunk failingBanks s
  | .reduceTo at_ tower chunk => Sys2Proof.Machine.execReduceTo at_ tower chunk s
  | .multicast at_ tower chunk => Sys2Proof.Machine.execMulticast at_ tower chunk s
  | .allreduce at_ tower chunk => Sys2Proof.Machine.execAllreduce at_ tower chunk s
  | .kvWrite at_ tower chunk => Sys2Proof.Machine.execKvWrite at_ tower chunk s
  | .kvRead at_ tower chunk => Sys2Proof.Machine.execKvRead at_ tower chunk s
  | .backingCopy at_ tower chunk => Sys2Proof.Machine.execBackingCopy at_ tower chunk s
  | .deliver at_ tower chunk => Sys2Proof.Machine.execDeliver at_ tower chunk s
  | .completionWord at_ tower slot => Sys2Proof.Machine.execCompletionWord at_ tower slot s
  | .endNotice at_ tower slot => Sys2Proof.Machine.execEndNotice at_ tower slot s
  | .fadd eng o => Sys2Proof.Machine.execFadd eng o s
  | .fsub eng o => Sys2Proof.Machine.execFsub eng o s
  | .fmul eng o => Sys2Proof.Machine.execFmul eng o s
  | .ffma eng o => Sys2Proof.Machine.execFfma eng o s
  | .fmin eng o => Sys2Proof.Machine.execFmin eng o s
  | .fmax eng o => Sys2Proof.Machine.execFmax eng o s
  | .fsgn eng o => Sys2Proof.Machine.execFsgn eng o s
  | .frnd eng o => Sys2Proof.Machine.execFrnd eng o s
  | .frcp eng o => Sys2Proof.Machine.execFrcp eng o s
  | .frsq eng o => Sys2Proof.Machine.execFrsq eng o s
  | .fexp2 eng o => Sys2Proof.Machine.execFexp2 eng o s
  | .flog2 eng o => Sys2Proof.Machine.execFlog2 eng o s
  | .ftanh eng o => Sys2Proof.Machine.execFtanh eng o s
  | .fcmp eng o => Sys2Proof.Machine.execFcmp eng o s
  | .iadd eng o => Sys2Proof.Machine.execIadd eng o s
  | .isub eng o => Sys2Proof.Machine.execIsub eng o s
  | .imul eng o => Sys2Proof.Machine.execImul eng o s
  | .imin eng o => Sys2Proof.Machine.execImin eng o s
  | .imax eng o => Sys2Proof.Machine.execImax eng o s
  | .and eng o => Sys2Proof.Machine.execAnd eng o s
  | .or eng o => Sys2Proof.Machine.execOr eng o s
  | .xor eng o => Sys2Proof.Machine.execXor eng o s
  | .shl eng o => Sys2Proof.Machine.execShl eng o s
  | .shr eng o => Sys2Proof.Machine.execShr eng o s
  | .sra eng o => Sys2Proof.Machine.execSra eng o s
  | .icmp eng o => Sys2Proof.Machine.execIcmp eng o s
  | .cvt eng o => Sys2Proof.Machine.execCvt eng o s
  | .mov eng o => Sys2Proof.Machine.execMov eng o s
  | .sel eng o => Sys2Proof.Machine.execSel eng o s
  | .movi eng o => Sys2Proof.Machine.execMovi eng o s
  | .ldc eng o => Sys2Proof.Machine.execLdc eng o s
  | .lidx eng o => Sys2Proof.Machine.execLidx eng o s
  | .rsum eng o => Sys2Proof.Machine.execRsum eng o s
  | .rmax eng o => Sys2Proof.Machine.execRmax eng o s
  | .rmin eng o => Sys2Proof.Machine.execRmin eng o s
  | .rot eng o => Sys2Proof.Machine.execRot eng o s
  | .bcst eng o => Sys2Proof.Machine.execBcst eng o s
  | .pand eng o => Sys2Proof.Machine.execPand eng o s
  | .por eng o => Sys2Proof.Machine.execPor eng o s
  | .pnot eng o => Sys2Proof.Machine.execPnot eng o s
  | .loop eng o body => Sys2Proof.Machine.execLoop eng o body s
  | .instructionWordError at_ tower chunk word => Sys2Proof.Machine.execInstructionWordError at_ tower chunk word s
  | .readRequest at_ p finds => Sys2Proof.Machine.execReadRequest at_ p finds s
  | .readResponse at_ p => Sys2Proof.Machine.execReadResponse at_ p s
  | .write at_ w => Sys2Proof.Machine.execWrite at_ w s
  | .writeAcknowledgement at_ p => Sys2Proof.Machine.execWriteAcknowledgement at_ p s
  | .reducePacket at_ p => Sys2Proof.Machine.execReducePacket at_ p s
  | .multicastCopy at_ site p => Sys2Proof.Machine.execMulticastCopy at_ site p s
  | .multicastBranchSend at_ site branch => Sys2Proof.Machine.execMulticastBranchSend at_ site branch s
  | .poisonedCompletion at_ tower c => Sys2Proof.Machine.execPoisonedCompletion at_ tower c s
  | .fencedAcknowledgement at_ p => Sys2Proof.Machine.execFencedAcknowledgement at_ p s
  | .chunkIssuePacket at_ tower p => Sys2Proof.Machine.execChunkIssuePacket at_ tower p s
  | .poisonNotice at_ tower p => Sys2Proof.Machine.execPoisonNotice at_ tower p s
  | .fence at_ tower p => Sys2Proof.Machine.execFence at_ tower p s
  | .towerEvent at_ tower p => Sys2Proof.Machine.execTowerEvent at_ tower p s
  | .chunkArrival at_ tower m => Sys2Proof.Machine.execChunkArrival at_ tower m s
  | .regionBarrierArrival at_ tower region step => Sys2Proof.Machine.execRegionBarrierArrival at_ tower region step s
  | .ondieLinkRetry at_ tower link good => Sys2Proof.Machine.execOndieLinkRetry at_ tower link good s
  | .signal at_ m => Sys2Proof.Machine.execSignal at_ m s
  | .signalAcknowledgement at_ m => Sys2Proof.Machine.execSignalAcknowledgement at_ m s
  | .watch at_ m => Sys2Proof.Machine.execWatch at_ m s
  | .notice at_ m => Sys2Proof.Machine.execNotice at_ m s
  | .reductionDone at_ m => Sys2Proof.Machine.execReductionDone at_ m s
  | .reductionClosed at_ m => Sys2Proof.Machine.execReductionClosed at_ m s
  | .reducerBusy at_ m => Sys2Proof.Machine.execReducerBusy at_ m s
  | .syncHostWrite at_ value => Sys2Proof.Machine.execSyncHostWrite at_ value s
  | .syncAdd at_ value => Sys2Proof.Machine.execSyncAdd at_ value s
  | .replay at_ src dst plane seq => Sys2Proof.Machine.execReplay at_ src dst plane seq s
  | .replayLimit at_ src dst plane locked => Sys2Proof.Machine.execReplayLimit at_ src dst plane locked s
  | .creditReturn at_ src dst credit word => Sys2Proof.Machine.execCreditReturn at_ src dst credit word s
  | .spResendRequest at_ requester nsite nseq => Sys2Proof.Machine.execSpResendRequest at_ requester nsite nseq s
  | .spBusLoss at_ site bus => Sys2Proof.Machine.execSpBusLoss at_ site bus s
  | .standIn at_ src dst plane => Sys2Proof.Machine.execStandIn at_ src dst plane s
  | .lockLoss at_ src dst plane => Sys2Proof.Machine.execLockLoss at_ src dst plane s
  | .wavelengthReturn at_ src dst plane => Sys2Proof.Machine.execWavelengthReturn at_ src dst plane s
  | .wavelengthPermanentFault at_ src dst plane => Sys2Proof.Machine.execWavelengthPermanentFault at_ src dst plane s
  | .fadeLevelA at_ module output drive => Sys2Proof.Machine.execFadeLevelA at_ module output drive s
  | .fadeLevelB at_ module output => Sys2Proof.Machine.execFadeLevelB at_ module output s
  | .fadeLevelC at_ module => Sys2Proof.Machine.execFadeLevelC at_ module s
  | .lossOfLight at_ module => Sys2Proof.Machine.execLossOfLight at_ module s
  | .planeCalibrationWindow at_ plane => Sys2Proof.Machine.execPlaneCalibrationWindow at_ plane s
  | .planeSwitch at_ plane => Sys2Proof.Machine.execPlaneSwitch at_ plane s
  | .routingSwitchArm at_ tick => Sys2Proof.Machine.execRoutingSwitchArm at_ tick s
  | .routingSwitch at_ => Sys2Proof.Machine.execRoutingSwitch at_ s
  | .oldBankDrained at_ => Sys2Proof.Machine.execOldBankDrained at_ s
  | .copyActiveToInactive at_ value => Sys2Proof.Machine.execCopyActiveToInactive at_ value s
  | .weightCombSwitch at_ feed loss => Sys2Proof.Machine.execWeightCombSwitch at_ feed loss s
  | .feedForwardStep at_ field temp => Sys2Proof.Machine.execFeedForwardStep at_ field temp s
  | .heaterRamp at_ field => Sys2Proof.Machine.execHeaterRamp at_ field s
  | .calibrationStep at_ kind index => Sys2Proof.Machine.execCalibrationStep at_ kind index s
  | .calibrationStepEnd at_ kind index result => Sys2Proof.Machine.execCalibrationStepEnd at_ kind index result s
  | .commitArm at_ tick => Sys2Proof.Machine.execCommitArm at_ tick s
  | .shadowSetWrite at_ bytes => Sys2Proof.Machine.execShadowSetWrite at_ bytes s
  | .coefficientCommit at_ => Sys2Proof.Machine.execCoefficientCommit at_ s
  | .commitVerify at_ pass => Sys2Proof.Machine.execCommitVerify at_ pass s
  | .applyWindow at_ value => Sys2Proof.Machine.execApplyWindow at_ value s
  | .burstRetry at_ tower layer channel good => Sys2Proof.Machine.execBurstRetry at_ tower layer channel good s
  | .wireFailure at_ tower layer channel wire trains512 => Sys2Proof.Machine.execWireFailure at_ tower layer channel wire trains512 s
  | .channelClockChange at_ tower region => Sys2Proof.Machine.execChannelClockChange at_ tower region s
  | .bandChange at_ tower layer channel => Sys2Proof.Machine.execBandChange at_ tower layer channel s
  | .layerResetRequest at_ value byHub => Sys2Proof.Machine.execLayerResetRequest at_ value byHub s
  | .layerDrainComplete at_ tower => Sys2Proof.Machine.execLayerDrainComplete at_ tower s
  | .layerResetForced at_ tower => Sys2Proof.Machine.execLayerResetForced at_ tower s
  | .layerPowerOn at_ tower => Sys2Proof.Machine.execLayerPowerOn at_ tower s
  | .layerTrained at_ tower trained => Sys2Proof.Machine.execLayerTrained at_ tower trained s
  | .refresh at_ stack => Sys2Proof.Machine.execRefresh at_ stack s
  | .mr4Poll at_ stack value => Sys2Proof.Machine.execMr4Poll at_ stack value s
  | .wck2dqRetraining at_ k => Sys2Proof.Machine.execWck2dqRetraining at_ k s
  | .patrolVisit at_ unit layer channel finds linkFixed => Sys2Proof.Machine.execPatrolVisit at_ unit layer channel finds linkFixed s
  | .remap at_ tower unit bank w => Sys2Proof.Machine.execRemap at_ tower unit bank w s
  | .retire at_ value => Sys2Proof.Machine.execRetire at_ value s
  | .testWriteRaw at_ => Sys2Proof.Machine.execTestWriteRaw at_ s
  | .testReadChecker at_ => Sys2Proof.Machine.execTestReadChecker at_ s
  | .groupApply at_ value => Sys2Proof.Machine.execGroupApply at_ value s
  | .remove at_ value => Sys2Proof.Machine.execRemove at_ value s
  | .packageRemovalComplete at_ model => Sys2Proof.Machine.execPackageRemovalComplete at_ model s
  | .portLinkUp at_ port reversed polarity => Sys2Proof.Machine.execPortLinkUp at_ port reversed polarity s
  | .xLaneLost at_ port lane => Sys2Proof.Machine.execXLaneLost at_ port lane s
  | .gFrame at_ f => Sys2Proof.Machine.execGFrame at_ f s
  | .bFrame at_ f => Sys2Proof.Machine.execBFrame at_ f s
  | .mFrame at_ f payload tagOk trailer => Sys2Proof.Machine.execMFrame at_ f payload tagOk trailer s
  | .kFrame at_ f => Sys2Proof.Machine.execKFrame at_ f s
  | .hello at_ f didh preferred => Sys2Proof.Machine.execHello at_ f didh preferred s
  | .errorNotice at_ f => Sys2Proof.Machine.execErrorNotice at_ f s
  | .portState at_ f state lanes => Sys2Proof.Machine.execPortState at_ f state lanes s
  | .payloadComplete at_ port payload tagOk => Sys2Proof.Machine.execPayloadComplete at_ port payload tagOk s
  | .unitGapTimeout at_ port => Sys2Proof.Machine.execUnitGapTimeout at_ port s
  | .admissionDecision at_ fetched took => Sys2Proof.Machine.execAdmissionDecision at_ fetched took s
  | .slotBoundary at_ => Sys2Proof.Machine.execSlotBoundary at_ s
  | .dFrameDeparture at_ port => Sys2Proof.Machine.execDFrameDeparture at_ port s
  | .promiseCompare at_ tenant seq => Sys2Proof.Machine.execPromiseCompare at_ tenant seq s
  | .reportNonce at_ nonce => Sys2Proof.Machine.execReportNonce at_ nonce s
  | .reportReady at_ => Sys2Proof.Machine.execReportReady at_ s
  | .keyEnvelope at_ e => Sys2Proof.Machine.execKeyEnvelope at_ e s
  | .previousSlotRetire at_ kind e => Sys2Proof.Machine.execPreviousSlotRetire at_ kind e s
  | .close at_ value => Sys2Proof.Machine.execClose at_ value s
  | .closingSlotErase at_ kind id readsZero => Sys2Proof.Machine.execClosingSlotErase at_ kind id readsZero s
  | .drbgReseed at_ => Sys2Proof.Machine.execDrbgReseed at_ s
  | .ticket at_ t => Sys2Proof.Machine.execTicket at_ t s
  | .guestPacket at_ guest fromGuest p => Sys2Proof.Machine.execGuestPacket at_ guest fromGuest p s
  | .tamperMesh at_ => Sys2Proof.Machine.execTamperMesh at_ s
  | .supplyGlitch at_ => Sys2Proof.Machine.execSupplyGlitch at_ s
  | .clockGlitch at_ => Sys2Proof.Machine.execClockGlitch at_ s
  | .grstLRelease at_ guest => Sys2Proof.Machine.execGrstLRelease at_ guest s
  | .gready at_ guest => Sys2Proof.Machine.execGready at_ guest s
  | .greadyTimeout at_ guest => Sys2Proof.Machine.execGreadyTimeout at_ guest s
  | .pxLinkUp at_ didh preferred twin => Sys2Proof.Machine.execPxLinkUp at_ didh preferred twin s
  | .heartbeat at_ onPx tagOk h => Sys2Proof.Machine.execHeartbeat at_ onPx tagOk h s
  | .heartbeatSend at_ => Sys2Proof.Machine.execHeartbeatSend at_ s
  | .pathSilence at_ onPx => Sys2Proof.Machine.execPathSilence at_ onPx s
  | .decision at_ f d => Sys2Proof.Machine.execDecision at_ f d s
  | .status at_ f free limits => Sys2Proof.Machine.execStatus at_ f free limits s
  | .delivered at_ f tenant seq => Sys2Proof.Machine.execDelivered at_ f tenant seq s
  | .config at_ f digest => Sys2Proof.Machine.execConfig at_ f digest s
  | .delta at_ f tenant seq granules => Sys2Proof.Machine.execDelta at_ f tenant seq granules s
  | .snapshot at_ f tick bookings => Sys2Proof.Machine.execSnapshot at_ f tick bookings s
  | .package at_ f model body trailer => Sys2Proof.Machine.execPackage at_ f model body trailer s
  | .image at_ f granules => Sys2Proof.Machine.execImage at_ f granules s
  | .joinReady at_ f => Sys2Proof.Machine.execJoinReady at_ f s
  | .join at_ f tick => Sys2Proof.Machine.execJoin at_ f tick s
  | .joinTick at_ => Sys2Proof.Machine.execJoinTick at_ s
  | .holdLimit at_ port => Sys2Proof.Machine.execHoldLimit at_ port s
  | .endDeferral at_ tenant seq => Sys2Proof.Machine.execEndDeferral at_ tenant seq s
  | .checkpoint at_ => Sys2Proof.Machine.execCheckpoint at_ s
  | .restore at_ => Sys2Proof.Machine.execRestore at_ s
  | .seekLimit at_ => Sys2Proof.Machine.execSeekLimit at_ s
  | .stepDown at_ value => Sys2Proof.Machine.execStepDown at_ value s
  | .isolationResume at_ => Sys2Proof.Machine.execIsolationResume at_ s
  | .inputVoltageEvent at_ millivolts duration => Sys2Proof.Machine.execInputVoltageEvent at_ millivolts duration s
  | .converterFailure at_ unit => Sys2Proof.Machine.execConverterFailure at_ unit s
  | .domainFault at_ supply => Sys2Proof.Machine.execDomainFault at_ supply s
  | .laserDriverFault at_ module => Sys2Proof.Machine.execLaserDriverFault at_ module s
  | .switchSupplyFault at_ weightBank => Sys2Proof.Machine.execSwitchSupplyFault at_ weightBank s
  | .powerStep at_ inputWatts inputMillivolts currents targets unbookedWatts => Sys2Proof.Machine.execPowerStep at_ inputWatts inputMillivolts currents targets unbookedWatts s
  | .excursionAllowance at_ => Sys2Proof.Machine.execExcursionAllowance at_ s
  | .holdOffEnd at_ => Sys2Proof.Machine.execHoldOffEnd at_ s
  | .ballastPauseEnd at_ tower => Sys2Proof.Machine.execBallastPauseEnd at_ tower s
  | .modelStep at_ tower temp => Sys2Proof.Machine.execModelStep at_ tower temp s
  | .anchor at_ unit diodes => Sys2Proof.Machine.execAnchor at_ unit diodes s
  | .diodeSample at_ unit diodes => Sys2Proof.Machine.execDiodeSample at_ unit diodes s
  | .tripDomainOff at_ tower => Sys2Proof.Machine.execTripDomainOff at_ tower s
  | .restartHold at_ unit => Sys2Proof.Machine.execRestartHold at_ unit s
  | .restart at_ value => Sys2Proof.Machine.execRestart at_ value s
  | .coolantLimit at_ inlet outlet flow => Sys2Proof.Machine.execCoolantLimit at_ inlet outlet flow s
  | .inputCharged at_ => Sys2Proof.Machine.execInputCharged at_ s
  | .domainSwitchOn at_ domain straps => Sys2Proof.Machine.execDomainSwitchOn at_ domain straps s
  | .bootLayer at_ layer okA okB => Sys2Proof.Machine.execBootLayer at_ layer okA okB s
  | .towerReady at_ tower faults wiresFailed otherFault => Sys2Proof.Machine.execTowerReady at_ tower faults wiresFailed otherFault s
  | .stageImage at_ img => Sys2Proof.Machine.execStageImage at_ img s
  | .activate at_ value => Sys2Proof.Machine.execActivate at_ value s
  | .abandon at_ value => Sys2Proof.Machine.execAbandon at_ value s
  | .activationStartLimit at_ => Sys2Proof.Machine.execActivationStartLimit at_ s
  | .imageReloadMeasure at_ unit agrees => Sys2Proof.Machine.execImageReloadMeasure at_ unit agrees s
  | .moduleReset at_ value => Sys2Proof.Machine.execModuleReset at_ value s
  | .towerResetWarm at_ tower => Sys2Proof.Machine.execTowerResetWarm at_ tower s
  | .towerResetCold at_ tower => Sys2Proof.Machine.execTowerResetCold at_ tower s
  | .towerResetComplete at_ tower faults trained otherFault => Sys2Proof.Machine.execTowerResetComplete at_ tower faults trained otherFault s
  | .fieldReset at_ field => Sys2Proof.Machine.execFieldReset at_ field s
  | .fieldResetComplete at_ => Sys2Proof.Machine.execFieldResetComplete at_ s
  | .guestReset at_ site => Sys2Proof.Machine.execGuestReset at_ site s
  | .openLoad at_ value => Sys2Proof.Machine.execOpenLoad at_ value s
  | .placeFromPark at_ value trailer tagsOk => Sys2Proof.Machine.execPlaceFromPark at_ value trailer tagsOk s
  | .cancelLoad at_ value => Sys2Proof.Machine.execCancelLoad at_ value s
  | .bypass at_ => Sys2Proof.Machine.execBypass at_ s
  | .idcode at_ => Sys2Proof.Machine.execIdcode at_ s
  | .samplePreload at_ => Sys2Proof.Machine.execSamplePreload at_ s
  | .extest at_ => Sys2Proof.Machine.execExtest at_ s
  | .clamp at_ => Sys2Proof.Machine.execClamp at_ s
  | .highz at_ => Sys2Proof.Machine.execHighz at_ s
  | .segsel at_ bits => Sys2Proof.Machine.execSegsel at_ bits s
  | .testStatus at_ => Sys2Proof.Machine.execTestStatus at_ s
  | .accessRead at_ obj offset length busy => Sys2Proof.Machine.execAccessRead at_ obj offset length busy s
  | .accessWrite at_ obj offset data last busy => Sys2Proof.Machine.execAccessWrite at_ obj offset data last busy s
  | .serviceBoundExpiry at_ i3c go index sub write last => Sys2Proof.Machine.execServiceBoundExpiry at_ i3c go index sub write last s
  | .segmentIdleExpiry at_ i3c => Sys2Proof.Machine.execSegmentIdleExpiry at_ i3c s
  | .i3cRead at_ index sub => Sys2Proof.Machine.execI3cRead at_ index sub s
  | .i3cWrite at_ index sub data => Sys2Proof.Machine.execI3cWrite at_ index sub data s
  | .entdaa at_ address => Sys2Proof.Machine.execEntdaa at_ address s
  | .rstdaa at_ => Sys2Proof.Machine.execRstdaa at_ s
  | .enec at_ events => Sys2Proof.Machine.execEnec at_ events s
  | .disec at_ events => Sys2Proof.Machine.execDisec at_ events s
  | .getpid at_ => Sys2Proof.Machine.execGetpid at_ s
  | .getbcr at_ => Sys2Proof.Machine.execGetbcr at_ s
  | .getdcr at_ => Sys2Proof.Machine.execGetdcr at_ s
  | .getmwl at_ => Sys2Proof.Machine.execGetmwl at_ s
  | .getmrl at_ => Sys2Proof.Machine.execGetmrl at_ s
  | .getstatus at_ => Sys2Proof.Machine.execGetstatus at_ s
  | .vectorClear at_ i3c bits => Sys2Proof.Machine.execVectorClear at_ i3c bits s
  | .pePerstLFall at_ => Sys2Proof.Machine.execPePerstLFall at_ s
  | .pePerstLRise at_ => Sys2Proof.Machine.execPePerstLRise at_ s
  | .regionOscillatorStop at_ tower region => Sys2Proof.Machine.execRegionOscillatorStop at_ tower region s
  | .schedulerFault at_ tower => Sys2Proof.Machine.execSchedulerFault at_ tower s
  | .faultyFrameHeader at_ f => Sys2Proof.Machine.execFaultyFrameHeader at_ f s
  | .unitBeyondCredit at_ f => Sys2Proof.Machine.execUnitBeyondCredit at_ f s
  | .egressCreditStall at_ port ticks => Sys2Proof.Machine.execEgressCreditStall at_ port ticks s
  | .testLogicReset at_ => Sys2Proof.Machine.execTestLogicReset at_ s

end Sys2Proof.Machine
end

