-- ==== Sys2Proof/Machine/Step.lean ====
section
/-!
DEFINITION. One step: the command at the front of the queue acts. On an empty queue one period of the tally clock passes
(assumption log 3).
-/
namespace Sys2Proof.Machine

open Sys2Proof

/-- One period of the tally clock with nothing sampled: the tally advances, or holds under R530. -/
def idle (s : State) : State :=
  if s.time.started then
    s.mapTime (fun t => if t.hold = 0 then { t with tally := t.tally + 1 } else { t with hold := t.hold - 1 })
  else s

/-- One step of the module. -/
def step (s : State) : Host.Outcome State Fault Refusal :=
  match s.pending with
  | [] => .next (idle s)
  | c :: rest => exec c { s with pending := rest }

/-- `s` with the command that the word spells at the front of its queue; no row of the table has bits, so no word spells a
command. -/
def State.withFetchWord (s : State) (nbits w : Nat) : State :=
  match decodeTableWord nbits w with
  | some c => { s with pending := c :: s.pending }
  | none => s

end Sys2Proof.Machine
end

