-- ==== Sys2Proof/WellFormed.lean ====
section
/-!
DEFINITION. Which commands are well formed: every number that names a unit of the module names one that exists, and every number
carried in a field fits it. The meanings are total all the same: a command that is not well formed finds no unit and changes nothing.
-/
namespace Sys2Proof

/-- Towers T0 to T15 and K0 to K3, as t of R105. -/
def towerOk (t : Nat) : Bool := decide (t < 20)
/-- Clock regions of a tower (R66). -/
def regionOk (r : Nat) : Bool := decide (r < 16)
/-- Tiles of a region, the spare among them (R84). -/
def tileOk (i : Nat) : Bool := decide (i < 17)
/-- Activation slots (R89). -/
def slotOk (n : Nat) : Bool := decide (n < 256)
/-- X0 to X3 and PX (R345). -/
def portOk (x : Nat) : Bool := decide (x < 5)
/-- SRAM layers: three on a compute tower, four on a cache tower (R295). -/
def layerOk (l : Nat) : Bool := decide (1 ≤ l) && decide (l ≤ 4)
/-- Vertical channels of a layer (R295). -/
def channelOk (c : Nat) : Bool := decide (c < 32)
/-- Data wires of a channel, 1,024 in use and 32 spares (R295). -/
def wireOk (w : Nat) : Bool := decide (w < 1056)
/-- Data planes DP0 to DP4 and the sync plane (R222). -/
def planeOk (p : Nat) : Bool := decide (p < 6)
/-- Sites S00 to S22 (R31). -/
def siteOk (k : Nat) : Bool := decide (k < 23)
/-- SPA and SPB (R235). -/
def busOk (b : Nat) : Bool := decide (b < 2)
/-- Comb laser modules LC0 to LC7 and WC0 to WC9 (R252). -/
def laserOk (m : Nat) : Bool := decide (m < 18)
/-- Weight-comb feeds (D:5402). -/
def feedOk (f : Nat) : Bool := decide (f < 8)
/-- Fields F00 to F33 of the base (R285). -/
def fieldOk (f : Nat) : Bool := decide (f < 16)
/-- LPDDR5X stacks M0 to M7 (R306). -/
def stackOk (m : Nat) : Bool := decide (m < 8)
/-- Guests G0 and G1. -/
def guestOk (g : Nat) : Bool := decide (g < 2)
/-- Power domains (Table PT-2). -/
def domainOk (d : Nat) : Bool := decide (d < 48)
/-- Lanes of a port (R345). -/
def laneOk (k : Nat) : Bool := decide (k < 8)
/-- First-stage converters PC0 to PC8 (R485). -/
def converterOk (u : Nat) : Bool := decide (u < 9)
/-- Units with diodes: towers, hub, guests (D:8101.01). -/
def thermalOk (u : Nat) : Bool := decide (u < 23)
/-- Units of the patrol (R321): a stack where the layer is 0, else a tower. -/
def patrolUnitOk (layer u : Nat) : Bool := if layer = 0 then stackOk u else decide (layer ≤ 4) && towerOk u
/-- Small arrays, as the remap tables name them (R323). -/
def arrayOk (u : Nat) : Bool := decide (u ≤ 33)
/-- Units that a firmware layer reloads: towers and guest sites, fields at 32, layer 3 itself at 64 (R406). -/
def reloadUnitOk (u : Nat) : Bool := decide (u < 48) || decide (u = 64)
/-- Firmware layers (R525). -/
def fwLayerOk (l : Nat) : Bool := decide (1 ≤ l) && decide (l ≤ 3)
/-- STRAP_ID0 to STRAP_ID3 (R585). -/
def strapOk (v : Nat) : Bool := decide (v < 16)
/-- Field widths. -/
def byteOk (v : Nat) : Bool := decide (v < 2 ^ 8)
def u16Ok (v : Nat) : Bool := decide (v < 2 ^ 16)
def u32Ok (v : Nat) : Bool := decide (v < 2 ^ 32)
def u64Ok (v : Nat) : Bool := decide (v < 2 ^ 64)

/-- A bulk packet (R194, Table NS-2): a listed type and reserved bits zero; LEN data flits, which a read request asks for and a packet
without data has none of; data at a 64-byte-aligned address within one 256-byte granule. -/
def Packet.wf (p : Packet) : Bool :=
  let h := p.hdr.toNat
  let type := h % 16
  let len := h / 2 ^ 5 % 8
  let addr := h / 2 ^ 64 % 2 ^ 64
  decide (1 ≤ type ∧ type ≤ 8) && decide (len ≤ 4) && decide (h / 2 ^ 49 % 2 ^ 15 = 0) && decide (h / 2 ^ 180 = 0)
    && decide (h / 2 ^ 160 % 4 ≠ 3) && decide (h / 2 ^ 162 % 4 ≠ 3)
    && decide (p.data.length = if type = 2 ∨ type = 3 ∨ type = 5 ∨ type = 6 then 64 * len else 0)
    && decide (addr % 64 = 0) && decide (addr % 256 + 64 * len ≤ 256)

/-- A wavelength of a pair of sites, or a lane of a port (R347). -/
def lanesOk (src : StreamSrc) (dst plane : Nat) : Bool :=
  match src with
  | .site i => siteOk i && siteOk dst && planeOk plane
  | .port x => portOk x && decide (plane < 8)

/-- A frame arrives on one of the five ports. -/
def FrameIn.wf (f : FrameIn) : Bool := portOk f.port

/-- Whether a command is well formed. -/
def Instr.wf (i : Instr) : Bool :=
  match i with
  | .refclkEdgeTimeout _ _ => true
  | .refclkGateEnd _ _ _ => true
  | .epochPulse _ _ => true
  | .epochWindowClose _ => true
  | .epochCountLoad _ _ => true
  | .tallySlew _ => true
  | .twinEpochCount _ _ _ => true
  | .timeReset _ value => u32Ok value
  | .clockStretch _ tower region _ => towerOk tower && regionOk region
  | .shortfall _ tower region _ => towerOk tower && regionOk region
  | .tileFault _ tower region tile => towerOk tower && regionOk region && tileOk tile
  | .chunkOverrun _ tower _ _ => towerOk tower
  | .spareSelfTest _ tower region _ => towerOk tower && regionOk region
  | .activationInstall _ tower slot => towerOk tower && slotOk slot
  | .windowOpen _ tower slot win => towerOk tower && slotOk slot && byteOk win
  | .chunkIssue _ tower region tile => towerOk tower && regionOk region && tileOk tile
  | .chunkCommit _ tower _ _ => towerOk tower
  | .syncWaitExpiry _ tower _ => towerOk tower
  | .towerFenceWrite _ tower value => towerOk tower && u32Ok value
  | .matmul _ tower _ => towerOk tower
  | .matmulBatched _ tower _ => towerOk tower
  | .matmulGrouped _ tower _ => towerOk tower
  | .matmulRouted _ tower _ => towerOk tower
  | .conv _ tower _ => towerOk tower
  | .attn _ tower _ => towerOk tower
  | .norm _ tower _ => towerOk tower
  | .elementwise _ tower _ => towerOk tower
  | .reduce _ tower _ => towerOk tower
  | .gather _ tower _ => towerOk tower
  | .scatter _ tower _ => towerOk tower
  | .index _ tower _ => towerOk tower
  | .sort _ tower _ => towerOk tower
  | .topk _ tower _ => towerOk tower
  | .fft _ tower _ => towerOk tower
  | .resample _ tower _ => towerOk tower
  | .convert _ tower _ => towerOk tower
  | .optical _ tower _ _ => towerOk tower
  | .reduceTo _ tower _ => towerOk tower
  | .multicast _ tower _ => towerOk tower
  | .allreduce _ tower _ => towerOk tower
  | .kvWrite _ tower _ => towerOk tower
  | .kvRead _ tower _ => towerOk tower
  | .backingCopy _ tower _ => towerOk tower
  | .deliver _ tower _ => towerOk tower
  | .completionWord _ tower slot => towerOk tower && slotOk slot
  | .endNotice _ tower slot => towerOk tower && slotOk slot
  | .fadd _ _ => true
  | .fsub _ _ => true
  | .fmul _ _ => true
  | .ffma _ _ => true
  | .fmin _ _ => true
  | .fmax _ _ => true
  | .fsgn _ _ => true
  | .frnd _ _ => true
  | .frcp _ _ => true
  | .frsq _ _ => true
  | .fexp2 _ _ => true
  | .flog2 _ _ => true
  | .ftanh _ _ => true
  | .fcmp _ _ => true
  | .iadd _ _ => true
  | .isub _ _ => true
  | .imul _ _ => true
  | .imin _ _ => true
  | .imax _ _ => true
  | .and _ _ => true
  | .or _ _ => true
  | .xor _ _ => true
  | .shl _ _ => true
  | .shr _ _ => true
  | .sra _ _ => true
  | .icmp _ _ => true
  | .cvt _ _ => true
  | .mov _ _ => true
  | .sel _ _ => true
  | .movi _ _ => true
  | .ldc _ _ => true
  | .lidx _ _ => true
  | .rsum _ _ => true
  | .rmax _ _ => true
  | .rmin _ _ => true
  | .rot _ _ => true
  | .bcst _ _ => true
  | .pand _ _ => true
  | .por _ _ => true
  | .pnot _ _ => true
  | .loop _ _ _ => true
  | .instructionWordError _ tower _ _ => towerOk tower
  | .readRequest _ p _ => Packet.wf p
  | .readResponse _ p => Packet.wf p
  | .write _ w => Packet.wf w.pkt
  | .writeAcknowledgement _ p => Packet.wf p
  | .reducePacket _ p => Packet.wf p
  | .multicastCopy _ site p => siteOk site && Packet.wf p
  | .multicastBranchSend _ site _ => siteOk site
  | .poisonedCompletion _ tower _ => towerOk tower
  | .fencedAcknowledgement _ p => Packet.wf p
  | .chunkIssuePacket _ tower _ => towerOk tower
  | .poisonNotice _ tower _ => towerOk tower
  | .fence _ tower _ => towerOk tower
  | .towerEvent _ tower _ => towerOk tower
  | .chunkArrival _ tower _ => towerOk tower
  | .regionBarrierArrival _ tower region _ => towerOk tower && regionOk region
  | .ondieLinkRetry _ tower link _ => towerOk tower && u32Ok link.fixed
  | .signal _ _ => true
  | .signalAcknowledgement _ _ => true
  | .watch _ _ => true
  | .notice _ _ => true
  | .reductionDone _ _ => true
  | .reductionClosed _ _ => true
  | .reducerBusy _ _ => true
  | .syncHostWrite _ value => u32Ok value
  | .syncAdd _ value => u32Ok value
  | .replay _ src dst plane seq => lanesOk src dst plane && u32Ok seq
  | .replayLimit _ src dst plane _ => lanesOk src dst plane
  | .creditReturn _ src dst word units => siteOk src && siteOk dst && decide (word.plane < 5) && decide (units.length = 10)
  | .spResendRequest _ requester nsite _ => siteOk requester && siteOk nsite
  | .spBusLoss _ site bus => siteOk site && busOk bus
  | .standIn _ src dst plane => siteOk src && siteOk dst && planeOk plane
  | .lockLoss _ src dst plane => siteOk src && siteOk dst && planeOk plane
  | .wavelengthReturn _ src dst plane => siteOk src && siteOk dst && planeOk plane
  | .wavelengthPermanentFault _ src dst plane => siteOk src && siteOk dst && planeOk plane
  | .fadeLevelA _ module _ _ => laserOk module
  | .fadeLevelB _ module _ => laserOk module
  | .fadeLevelC _ module => laserOk module
  | .lossOfLight _ module => laserOk module
  | .planeCalibrationWindow _ plane => planeOk plane
  | .planeSwitch _ plane => planeOk plane
  | .routingSwitchArm _ tick => u64Ok tick
  | .routingSwitch _ => true
  | .oldBankDrained _ => true
  | .copyActiveToInactive _ value => u32Ok value
  | .weightCombSwitch _ feed _ => feedOk feed
  | .feedForwardStep _ field _ => fieldOk field
  | .heaterRamp _ field => fieldOk field
  | .calibrationStep _ kind ix => byteOk kind && u32Ok ix
  | .calibrationStepEnd _ kind ix _ => byteOk kind && u32Ok ix
  | .commitArm _ tick => u64Ok tick
  | .shadowSetWrite _ _ => true
  | .coefficientCommit _ => true
  | .commitVerify _ _ => true
  | .applyWindow _ value => u32Ok value
  | .burstRetry _ tower layer channel _ => towerOk tower && layerOk layer && channelOk channel
  | .wireFailure _ tower layer channel wire _ => towerOk tower && layerOk layer && channelOk channel && wireOk wire
  | .channelClockChange _ tower region => towerOk tower && regionOk region
  | .bandChange _ tower layer channel => towerOk tower && layerOk layer && channelOk channel
  | .layerResetRequest _ value _ => u32Ok value
  | .layerDrainComplete _ tower => towerOk tower
  | .layerResetForced _ tower => towerOk tower
  | .layerPowerOn _ tower => towerOk tower
  | .layerTrained _ tower _ => towerOk tower
  | .refresh _ stack => stackOk stack
  | .mr4Poll _ stack value => stackOk stack && u32Ok value
  | .wck2dqRetraining _ k => stackOk k.stack && k.failed.all (fun c => decide (c < 16))
  | .patrolVisit _ unit layer channel _ _ => patrolUnitOk layer unit && channelOk channel
  | .remap _ tower unit _ _ => towerOk tower && arrayOk unit
  | .retire _ value => u32Ok value
  | .testWriteRaw _ => true
  | .testReadChecker _ => true
  | .groupApply _ value => u32Ok value
  | .remove _ value => u32Ok value
  | .packageRemovalComplete _ model => u16Ok model
  | .portLinkUp _ port _ _ => portOk port
  | .xLaneLost _ port lane => portOk port && laneOk lane
  | .gFrame _ f => FrameIn.wf f
  | .bFrame _ f => FrameIn.wf f
  | .mFrame _ f _ _ _ => FrameIn.wf f
  | .kFrame _ f => FrameIn.wf f
  | .hello _ f _ _ => FrameIn.wf f
  | .errorNotice _ f => FrameIn.wf f
  | .portState _ f _ _ => FrameIn.wf f
  | .payloadComplete _ port _ _ => portOk port
  | .unitGapTimeout _ port => portOk port
  | .admissionDecision _ _ _ => true
  | .slotBoundary _ => true
  | .dFrameDeparture _ port => portOk port
  | .promiseCompare _ tenant seq => u16Ok tenant && u64Ok seq
  | .reportNonce _ _ => true
  | .reportReady _ => true
  | .keyEnvelope _ _ => true
  | .previousSlotRetire _ kind e => byteOk kind && u16Ok e.id
  | .close _ value => u32Ok value
  | .closingSlotErase _ kind id _ => byteOk kind && u16Ok id
  | .drbgReseed _ => true
  | .ticket _ _ => true
  | .guestPacket _ guest _ p => guestOk guest && Packet.wf p
  | .tamperMesh _ => true
  | .supplyGlitch _ => true
  | .clockGlitch _ => true
  | .grstLRelease _ guest => guestOk guest
  | .gready _ guest => guestOk guest
  | .greadyTimeout _ guest => guestOk guest
  | .pxLinkUp _ _ _ _ => true
  | .heartbeat _ _ _ _ => true
  | .heartbeatSend _ => true
  | .pathSilence _ _ => true
  | .decision _ _ _ => true
  | .status _ _ _ _ => true
  | .delivered _ _ tenant seq => u16Ok tenant && u64Ok seq
  | .config _ _ _ => true
  | .delta _ _ tenant seq _ => u16Ok tenant && u64Ok seq
  | .snapshot _ _ tick _ => u64Ok tick
  | .package _ _ model _ _ => u16Ok model
  | .image _ _ _ => true
  | .joinReady _ _ => true
  | .join _ _ tick => u64Ok tick
  | .joinTick _ => true
  | .holdLimit _ port => portOk port
  | .endDeferral _ tenant seq => u16Ok tenant && u64Ok seq
  | .checkpoint _ => true
  | .restore _ => true
  | .seekLimit _ => true
  | .stepDown _ value => u32Ok value
  | .isolationResume _ => true
  | .inputVoltageEvent _ _ _ => true
  | .converterFailure _ unit => converterOk unit
  | .domainFault _ d => domainOk d.domain && d.region.all (fun r => decide (d.domain < 16 ∧ r < 16 ∨ 32 ≤ d.domain ∧ d.domain < 36 ∧ r < 4))
  | .laserDriverFault _ module => laserOk module
  | .switchSupplyFault _ _ => true
  | .powerStep _ _ _ _ _ _ => true
  | .excursionAllowance _ => true
  | .holdOffEnd _ => true
  | .ballastPauseEnd _ tower => towerOk tower
  | .modelStep _ tower _ => towerOk tower
  | .anchor _ unit _ => thermalOk unit
  | .diodeSample _ unit _ => thermalOk unit
  | .tripDomainOff _ tower => towerOk tower
  | .restartHold _ unit => thermalOk unit
  | .restart _ value => u32Ok value
  | .coolantLimit _ _ _ _ => true
  | .inputCharged _ => true
  | .domainSwitchOn _ domain straps => domainOk domain && strapOk straps
  | .bootLayer _ layer _ _ => fwLayerOk layer
  | .towerReady _ tower _ _ _ => towerOk tower
  | .stageImage _ _ => true
  | .activate _ value => u32Ok value
  | .abandon _ value => u32Ok value
  | .activationStartLimit _ => true
  | .imageReloadMeasure _ unit _ => reloadUnitOk unit
  | .moduleReset _ value => u32Ok value
  | .towerResetWarm _ tower => towerOk tower
  | .towerResetCold _ tower => towerOk tower
  | .towerResetComplete _ tower _ _ _ => towerOk tower
  | .fieldReset _ field => byteOk field
  | .fieldResetComplete _ => true
  | .guestReset _ site => byteOk site
  | .openLoad _ value => u32Ok value
  | .placeFromPark _ value _ _ => u32Ok value
  | .cancelLoad _ value => u32Ok value
  | .bypass _ => true
  | .idcode _ => true
  | .samplePreload _ => true
  | .extest _ => true
  | .clamp _ => true
  | .highz _ => true
  | .segsel _ _ => true
  | .testStatus _ => true
  | .accessRead _ obj _ _ _ => u16Ok obj.index && byteOk obj.sub
  | .accessWrite _ obj _ _ _ _ => u16Ok obj.index && byteOk obj.sub
  | .serviceBoundExpiry _ _ _ ix sub _ _ => u16Ok ix && byteOk sub
  | .segmentIdleExpiry _ _ => true
  | .i3cRead _ ix sub => u16Ok ix && byteOk sub
  | .i3cWrite _ ix sub _ => u16Ok ix && byteOk sub
  | .entdaa _ _ => true
  | .rstdaa _ => true
  | .enec _ _ => true
  | .disec _ _ => true
  | .getpid _ => true
  | .getbcr _ => true
  | .getdcr _ => true
  | .getmwl _ => true
  | .getmrl _ => true
  | .getstatus _ => true
  | .vectorClear _ _ _ => true
  | .pePerstLFall _ => true
  | .pePerstLRise _ => true
  | .regionOscillatorStop _ tower region => towerOk tower && regionOk region
  | .schedulerFault _ tower => towerOk tower
  | .faultyFrameHeader _ f => FrameIn.wf f
  | .unitBeyondCredit _ f => FrameIn.wf f
  | .egressCreditStall _ port _ => portOk port
  | .testLogicReset _ => true

end Sys2Proof
end

