-- ==== Sys2Proof/Safety.lean ====
section
/-!
DEFINITION. What counts as a safe run: no command stops the machine, and the state keeps the forms its parts promise. The words the
statements use for that.
-/
namespace Sys2Proof.Machine

open Sys2Proof

/-- The command completes from `s` in a state for which `P` holds. -/
def Completes (c : Instr) (s : State) (P : State → Prop) : Prop := ∃ t, exec c s = .next t ∧ P t

/-- An access over the PCIe window to `index` is served: the module lives, the link is up, and no core restarts (R553). -/
abbrev State.Serves (s : State) (index : Nat) : Prop := s.dead = false ∧ s.dict.pcieUp = true ∧ s.gate index = 0

/-- The last access over the window ended done, or aborted with a code (Tables DI-5, DI-6). -/
abbrev State.AccessDone (s : State) : Prop := s.dict.pcie.state = 2 ∧ s.dict.pcie.abort = 0
abbrev State.AccessAborted (s : State) (code : Nat) : Prop := s.dict.pcie.state = 3 ∧ s.dict.pcie.abort = code

/-- Bytes of memory are listed in their canonical form: addresses rising, no zero listed (R319). -/
abbrev State.MemoryCanonical (s : State) : Prop := Memory.wf s.mem.cells

/-- The rings hold no more than they are sized for: event log (R515), error log (R328), abort log (R563). -/
abbrev State.RingsBounded (s : State) : Prop := s.log.recs.length ≤ 4096 ∧ s.mem.log.length ≤ 1024 ∧ s.dict.aborts.length ≤ 64

/-- The byte of module memory at a key. -/
def State.memByte (s : State) (k : Nat) : Byte := cellGet s.mem.cells k

/-- Every byte of memory reads as before. -/
def SameMemory (s t : State) : Prop := ∀ k, t.memByte k = s.memByte k

/-- Every tower but `t` is as before. -/
def OtherTowersSame (t : Nat) (s s' : State) : Prop := ∀ k, k ≠ t → s'.towers[k]? = s.towers[k]?

/-- The module as it stands while packet `p` acts at tick `at_`: the bank the packet carries routes (R247). -/
def State.forPacket (s : State) (at_ : Nat) (p : Packet) : State := (s.advance at_).mapBase (fun b => { b with activeB := p.tepoch })

/-- The module once packet `p` has come out of the buffers of the interface of site `site`, or else of its DST, at tick `at_` (R230). -/
def State.landed (s : State) (at_ : Nat) (site : Option Nat) (p : Packet) : State :=
  match site.or ((s.forPacket at_ p).eidSite p.dst), (s.forPacket at_ p).eidSite p.src with
  | some k, some i => (s.advance at_).handOff i k (Carried.isPacket p)
  | some _, none => s.advance at_
  | none, _ => s.advance at_

/-- The pair that packet `p` crosses to site `site`, or else to that of its DST, has a wavelength in service (Table PB-6). -/
abbrev Crosses (v : State) (site : Option Nat) (p : Packet) : Prop :=
  ∀ k ∈ site.or (v.eidSite p.dst), ∀ i ∈ v.eidSite p.src, v.pairFailed i k = false

/-- A bulk packet reaches memory at `key`: its EID has a unicast entry, the site is not fenced, the space is one that packets reach,
the window is no park window, the packet may reach its KV frame, and the address resolves (R246, R251, R289, R311, R314). -/
abbrev ReachesMemory (v : State) (p : Packet) (key : Nat) : Prop :=
  (v.eidSite p.dst).isSome = true ∧ v.siteFenced ((v.eidSite p.dst).getD 0) = false ∧ packetSpace p.addr = true ∧ v.parked p = false
    ∧ v.kvRefused p = false ∧ v.locateAddr p.addr = .key key

/-- Memory holds `bs` from `key` up, and elsewhere what it held. -/
def Wrote (s t : State) (key : Nat) (bs : List Byte) : Prop :=
  ∀ k, t.memByte k = if key ≤ k ∧ k < key + bs.length then bs.getD (k - key) 0 else s.memByte k

/-- A header stands at a port that carries frames and passes checks 1 to 3 under its class, within the credit granted (R356, R367). -/
abbrev State.TakesHeader (u : State) (f : FrameIn) (cls : Nat) : Prop :=
  u.dead = false ∧ f.port < 5 ∧ f.port < u.ports.length ∧ (u.port f.port).up = true ∧ f.fault = 0 ∧ f.cls = cls
    ∧ (cls = 6 ∨ cls = 15 ∨ f.port = 4 ∨ (u.port f.port).ingressUsed < (u.port f.port).ingressGrant)

/-- The registers of vector engine `eng`. -/
def State.engine (s : State) (eng : Nat) : LaneSt := kvGet s.engines eng LaneSt.fresh

/-- A lane instruction on engine `eng` writes `f` of the registers before it to every active lane of VD, in `cost` cycles (R180,
R182), and adds the flags of the active lanes that hold an element (R177); every other lane, register, predicate and engine, and
the rest of the module, is as before. -/
def WritesLanes (c : Instr) (eng : Nat) (o : LaneOp) (cost : Nat) (f : LaneSt → Nat → Word × BitVec 8) : Prop :=
  ∀ s l, l = s.engine eng → Completes c s (fun t =>
    (∀ i, i < 128 → (t.engine eng).lane o.vd i = if (l.active o).getLsbD i then (f l i).1 else l.lane o.vd i)
    ∧ (t.engine eng).flags = l.flags ||| l.laneFlags (l.active o) (fun i => (f l i).2)
    ∧ (∀ r, r ≠ o.vd → (t.engine eng).reg r = l.reg r) ∧ (t.engine eng).p = l.p ∧ (t.engine eng).pool = l.pool
    ∧ (t.engine eng).cycles = l.cycles + beatCost eng cost ∧ (∀ k, k ≠ eng → t.engine k = s.engine k) ∧ t = { s with engines := t.engines })

/-- A lane instruction on engine `eng` writes bit `f` to every active lane of the predicate that VD names; p0 cannot be written
(R180, R182). Vector registers, other predicates and engines, and the rest of the module, are as before. -/
def WritesPredicate (c : Instr) (eng : Nat) (o : LaneOp) (f : LaneSt → Nat → Bool) : Prop :=
  ∀ s l, l = s.engine eng → Completes c s (fun t =>
    (∀ i, i < 128 → ((t.engine eng).pred (predOf o.vd)).getLsbD i =
      if predOf o.vd = 0 then true else if (l.active o).getLsbD i then f l i else (l.pred (predOf o.vd)).getLsbD i)
    ∧ (∀ r, r ≠ predOf o.vd → (t.engine eng).pred r = l.pred r) ∧ (t.engine eng).v = l.v
    ∧ (t.engine eng).cycles = l.cycles + beatCost eng 1 ∧ (∀ k, k ≠ eng → t.engine k = s.engine k) ∧ t = { s with engines := t.engines })

/-- The command runs the computation of operator `opc` for a chunk that the tower runs (R95): the chunk has its outputs staged as
`eval` gives them, no byte of memory changes before it commits, and nothing but the tower's running chunks changes. The bank that
routes while it runs is the record's (R247). -/
def StagesOutput (cmd : Nat → Nat → Nat → Instr) (opc : Nat) (eval : State → OpEnv → Chunk → ChunkResult) : Prop :=
  ∀ s at_ t id c o u v, u = s.advance at_ → v = u.mapBase (fun b => { b with activeB := u.chunkBank t id }) → t < u.towers.length →
    (u.tower t).running.find? (fun k => k.id == id) = some c → (u.tower t).ops.find? (fun k => k.id == c.op) = some o →
    dOpcode o.word = opc → c.computed = false → (opEnv v t o).kvFault v = false → (eval v (opEnv v t o) c).bad = [] →
    Completes (cmd at_ t id) s (fun w =>
      (w.tower t).running = modWhere (u.tower t).running (fun k => k.id == id) (fun k =>
        { k with computed := true, attempts := 0, poisoned := false, code := if (eval v (opEnv v t o) c).skipped then 2 else 0,
                 staged := (stageAll v (opEnv v t o) c (eval v (opEnv v t o) c)).acc.reverse,
                 flags := (stageAll v (opEnv v t o) c (eval v (opEnv v t o) c)).flags })
      ∧ (w.tower t).queue = (u.tower t).queue ∧ (w.tower t).records = (u.tower t).records ∧ SameMemory u w ∧ OtherTowersSame t u w
      ∧ w = { u with towers := w.towers, freeCtr := w.freeCtr })

/-- An S frame is taken: the unit hears its twin and holds time (R50), and the frame is the next one under the pair key (R456). -/
abbrev State.TakesS (u : State) (f : SFrameIn) : Prop :=
  u.hearsTwin = true ∧ u.time.mode ≠ .unset ∧ u.pair.sFault = false ∧ f.ok = true ∧ f.kepoch = u.pair.keyGen % 256 ∧ f.seq = u.pair.sSeqIn + 1

/-- The pair state after the head of an S frame that is taken. -/
def State.pairHeard (u : State) (f : SFrameIn) : PairSt := { u.pair with sSeqIn := f.seq, twinClaim := f.claim }

/-- No request of the module is held, pending or accepted. -/
abbrev State.NoneLive (s : State) : Prop := ∀ r ∈ s.ledger.reqs, r.live = false

/-- The module as an access to `index`.`sub` over the PCIe window, or over I3C, finds it (R556, R557). -/
def State.begun (s : State) (i3c : Bool) (index sub : Nat) : State := s.mapDict (fun d => d.begin_ i3c s.now index sub)

/-- The I3C target serves a private write to `index`: it runs, has an address, and no core restarts (R553, R558). -/
abbrev State.ServesI3c (s : State) (index : Nat) : Prop := s.dead = false ∧ s.dict.i3cAddr.isSome ∧ s.gate index = 0

end Sys2Proof.Machine
end

