-- ==== Sys2Proof/Certificates/Slice0/Obligations.lean ====
section
/-! DEFINITION. The statements for the provers, chapter by chapter. -/

open Sys2Proof Sys2Proof.Machine

/-! ## The queue -/

/-- The command at the front of the queue is what a step runs: exec of it on the module with the queue's rest. -/
def Obligations.StepRunsFrontCommand : Prop :=
  ∀ (c : Instr) (rest : List Instr) (s : State), step { s with pending := c :: rest } = exec c { s with pending := rest }

/-! ## Time (chapter 02) -/

/-- R43, R44, R47, R50, R52, R55, R56, R59, R64, R68, R530: the commands of the reference, the tally and the region clocks, where
each has its own effect. `u` is the module at the tick at which the command is sampled.
R43, R44, R56, R60: the third window in a row that closes without an accepted pulse is EPOCH loss; the duration of the
HOLDOVER counts from the expected tick of the first of the three, and the loss is recorded. -/
def Obligations.TimeCommandsComplete : Prop :=
  ((∀ s at_ e u, u = s.advance at_ → e + 32 ≤ at_ → u.time.refLost = false → u.time.mode = .locked →
      Completes (.refclkEdgeTimeout at_ e) s (fun t => t.time.refLost = true ∧ t.time.mode = .holdover ∧ t.time.cause = 1
        ∧ t.time.holdStart = some u.now ∧ t.now = u.now))
    ∧ (∀ s at_ ppb u, u = s.advance at_ → -100000 ≤ ppb → ppb ≤ 100000 → u.time.refLost = true → u.time.goodGates = 9 →
      u.time.gateDue = true → (u.time.started = true → u.time.gateNo + 1 = u.time.gateAt) →
      Completes (.refclkGateEnd at_ ppb false) s
        (fun t => t.time.refLost = false ∧ t.time.started = true ∧ t.time.refOffset = ppb))
    ∧ (∀ s at_ width u, u = s.advance at_ → u.time.started = true → 4000 ≤ width → u.time.mode = .locked →
      u.time.inWindow = true → u.pair.bound = false →
      Completes (.epochPulse at_ width) s (fun t => t.time.mode = .locked ∧ t.time.missRun = 0 ∧ t.now = u.now
        ∧ t.time.discarded = u.time.discarded ∧ t.time.epochCount = nearestEpoch u.now
        ∧ t.time.phaseErr = phaseErrorAt u.now ∧ t.time.residual = phaseErrorAt u.now))
    ∧ (∀ s at_ n u, u = s.advance at_ → u.Serves 0x1201 → u.time.loadUsed = false → 1 ≤ n → n ≤ 18446744000000 →
      u.now < n * 1000000 →
      Completes (.epochCountLoad at_ n) s (fun t => t.time.loadN = some n ∧ t.time.loadUsed = true ∧ t.now = u.now ∧ t.AccessDone))
    ∧ (∀ s at_ u, u = s.advance at_ → u.time.started = true → u.time.mode ≠ .fault → 0 < u.time.residual →
      u.time.lastSlew = none →
      Completes (.tallySlew at_) s (fun t => t.now = u.now ∧ t.time.hold = u.time.hold + 1
        ∧ t.time.residual = u.time.residual - 1))
    ∧ (∀ s at_ count u, u = s.advance at_ → u.pair.bound = true → u.time.hasOwnCount = true → count = u.time.epochCount →
      Completes (.twinEpochCount at_ count true) s (fun t => t.time.twinCount = count ∧ t.time.pairTime = 1
        ∧ t.time.mismatchRun = 0 ∧ t.pair.twinLocked = true))
    ∧ (∀ s at_ u, u = s.advance at_ → u.Serves 0x1206 → u.holdsWork = false → u.time.mode ≠ .unset →
      Completes (.timeReset at_ 1) s (fun t => t.time.mode = .unset ∧ t.time.loadUsed = false ∧ t.time.cause = 0
        ∧ t.time.holdStart = none ∧ t.time.epochCount = 0 ∧ t.now = u.now ∧ t.pair.beating = false ∧ t.AccessDone))
    ∧ (∀ s at_ tower region ask r u, u = s.advance at_ → tower < u.towers.length → (u.tower tower).regions[region]? = some r →
      Completes (.clockStretch at_ tower region ask) s (fun t =>
        (t.tower tower).regions[region]? = some { r with
          supplyLow := if ask.path then r.supplyLow else decide (r.nominal < ask.period)
          pathLow := if ask.path then decide (r.nominal < ask.period) else r.pathLow
          period := if r.nominal < ask.period then min 833 ask.period
                    else if (if ask.path then r.supplyLow else r.pathLow) then r.period else r.nominal }
        ∧ OtherTowersSame tower u t)))
  ∧ (∀ (s : State) (at_ : Nat) (u : State), u = s.advance at_ → u.time.started = true → u.time.mode = .locked →
      u.pair.bound = false → u.time.missRun = 2 → 0 < u.time.closedWindow →
      (∀ w, u.time.lastWindow = some w → w < u.time.closedWindow.toNat) →
      (∀ w, u.time.lastClosed = some w → w < u.time.closedWindow.toNat) →
      Completes (.epochWindowClose at_) s (fun t => t.time.mode = .holdover ∧ t.time.missRun = 3
        ∧ t.time.missTotal = u.time.missTotal + 1 ∧ t.time.cause = 2
        ∧ t.time.holdStart = some (1000000 * u.time.closedWindow.toNat - 2000000) ∧ t.log.count = u.log.count + 3))

/-! ## Towers and tiles (chapter 03) -/

/-- R66 to R70, R84 to R87, R101, R104: faults of tiles, spares, oscillators and schedulers, shortfalls, and the host's fence of a
tower, each where it has its own effect.
R70, R86, R87: the fourth consecutive shortfall of a region loses it. -/
def Obligations.TowerFaultCommandsComplete : Prop :=
  ((∀ s at_ t r i g u, u = s.advance at_ → (u.tower t).isCache = false → t < u.towers.length → i < 16 →
      (u.tower t).regions[r]? = some g → g.st = .inService → g.faulted.getLsbD i = false → g.subst = none →
      u.losesNow t r g = false → u.towerFalls t = false →
      Completes (.tileFault at_ t r i) s (fun v =>
        (v.tower t).regions[r]? = some { g with st := .spareInUse, faulted := g.faulted ||| (1#17 <<< i),
                                                map := (g.map &&& ~~~(1#17 <<< i)) ||| 0x10000#17, subst := some (i, u.now),
                                                queue := g.queue.filter (fun id =>
                                                  !(u.tower t).running.any (fun c => c.place == some (r, i) && c.id == id)) }
        ∧ (v.tower t).tileFaults = (u.tower t).tileFaults + 1 ∧ v.log.count = u.log.count + 1
        ∧ (∀ c ∈ (v.tower t).running, c.place ≠ some (r, i)) ∧ OtherTowersSame t u v ∧ SameMemory u v))
    ∧ (∀ s at_ t id cycles c r i u, u = s.advance at_ → (u.tower t).running.find? (fun k => k.id == id) = some c →
      c.place = some (r, i) → i < 17 → 4 * c.cost < cycles →
      Completes (.chunkOverrun at_ t id cycles) s (fun v => exec (.tileFault at_ t r i) s = .next v))
    ∧ (∀ s at_ t r g u, u = s.advance at_ → (u.tower t).isCache = false → t < u.towers.length →
      (u.tower t).regions[r]? = some g → g.st = .inService → g.selfTest + 100000000 ≤ u.replica t →
      Completes (.spareSelfTest at_ t r true) s (fun v => (v.tower t).regions[r]? = some { g with selfTest := u.replica t }
        ∧ v.log = u.log ∧ OtherTowersSame t u v))
    ∧ (∀ s at_ t r g u, u = s.advance at_ → (u.tower t).isCache = false → t < u.towers.length →
      (u.tower t).regions[r]? = some g → g.st ≠ .lost → 1 < (u.tower t).activeRegions → u.towerFalls t = false →
      Completes (.regionOscillatorStop at_ t r) s (fun v =>
        (v.tower t).regions[r]? = some { g with running := false, st := .lost, subst := none,
                                                queue := g.queue.filter (fun id =>
                                                  !(u.tower t).running.any (fun c => c.inRegion r && c.id == id)) }
        ∧ (v.tower t).activeRegions + 1 = (u.tower t).activeRegions ∧ v.log.count = u.log.count + 1
        ∧ (∀ c ∈ (v.tower t).running, c.inRegion r = false)))
    ∧ (∀ s at_ t u, u = s.advance at_ → t < 20 → t < u.towers.length → (u.tower t).mode ≠ .failed →
      Completes (.schedulerFault at_ t) s (fun v => (v.tower t).mode = .failed ∧ (v.tower t).fence = true ∧ (v.tower t).fenceCause = 5))
    ∧ (∀ s at_ t r cycles g u, u = s.advance at_ → t < u.towers.length → (u.tower t).regions[r]? = some g →
      (u.tower t).judges g (u.slotClosed t) = true → cycles < 1489 → g.short = 0 →
      Completes (.shortfall at_ t r cycles) s (fun v =>
        (v.tower t).regions[r]? = some { g with cycles := cycles, short := 1, shortSlot := u.slotClosed t }
        ∧ (v.tower t).shortTotal = (u.tower t).shortTotal + 1 ∧ v.log = u.log ∧ OtherTowersSame t u v))
    ∧ (∀ s at_ t u, u = s.advance at_ → t < 20 → t < u.towers.length → u.Serves (towerIndex t 0x08) → (u.tower t).fence = false →
      u.holdsBooked t = false → (u.tower t).group = none →
      Completes (.towerFenceWrite at_ t 1) s (fun v => (v.tower t).fence = true ∧ (v.tower t).fenceCause = 1 ∧ v.AccessDone
        ∧ ((u.tower t).mode = .ready → (v.tower t).mode = .fenced) ∧ OtherTowersSame t u v)))
  ∧ (∀ (s : State) (at_ t r cycles : Nat) (g : Region) (u : State), u = s.advance at_ → t < u.towers.length →
      (u.tower t).regions[r]? = some g → (u.tower t).judges g (u.slotClosed t) = true → cycles < 1489 → g.short = 3 →
      g.follows (u.slotClosed t) = true → u.towerFalls t = false →
      Completes (.shortfall at_ t r cycles) s (fun v => ∃ h, (v.tower t).regions[r]? = some h ∧ h.st = .lost ∧ h.short = 4
        ∧ (v.tower t).hwCapacity + (if (u.tower t).isCache then 64 else 16) = (u.tower t).hwCapacity))

/-- R89, R90, R93, R95, R100, R142, R164, R202, R217: an activation record is installed on an ACTIVE tower that has room, with its
operators in issue order; a window whose start has come opens; a record that is due reports its completion word, which its request
notes; and once the word of every tower is in, the end notice retires the record, frees its slot and zeroes its objects. -/
def Obligations.RecordCommandsComplete : Prop :=
  (∀ s at_ t slot k r u, u = s.advance at_ → t < u.towers.length →
    u.ledger.inflight.find? (fun i => i.1 == t && i.2.slot == slot) = some (k, r) → (u.tower t).mode = .active →
    (u.tower t).records.length < 256 → (u.tower t).records.any (fun q => q.slot == slot) = false →
    Completes (.activationInstall at_ t slot) s (fun v =>
      (v.tower t).records = (u.tower t).records ++
        [{ r with total := (graphDescs (u.recordTables t r) r.graphs).length, done := 0, status := 0, code := 0, codeDesc := 0xFFFF }]
      ∧ (v.tower t).ops.length = (u.tower t).ops.length + (graphDescs (u.recordTables t r) r.graphs).length
      ∧ (v.tower t).running = (u.tower t).running
      ∧ v.ledger.inflight = u.ledger.inflight.filter (fun i => !(i.1 == t && i.2.slot == slot)) ∧ SameMemory u v ∧ OtherTowersSame t u v))
  ∧ (∀ s at_ t slot win r w u, u = s.advance at_ → t < u.towers.length → (u.tower t).record? slot = some r → w ∈ r.windows →
    w.win = win → w.open_ ≤ u.replica t →
    Completes (.windowOpen at_ t slot win) s (fun v =>
      (v.tower t).record? slot = some { r with windows := modWhere r.windows (fun w => w.win == win) (fun w => { w with opened := true }) }
      ∧ (v.tower t).records.length = (u.tower t).records.length ∧ v.ledger = u.ledger ∧ SameMemory u v ∧ OtherTowersSame t u v))
  ∧ (∀ s at_ t slot r q u, u = s.advance at_ → t < u.towers.length → (u.tower t).record? slot = some r → r.due = true → r.code < 0x80 →
    u.req? r.tenant r.seq = some q →
    Completes (.completionWord at_ t slot) s (fun v => (v.tower t).record? slot = some { r with reported := true }
      ∧ v.req? r.tenant r.seq = some { q with words := insertNat q.words t } ∧ v.log = u.log ∧ v.ports = u.ports
      ∧ SameMemory u v ∧ OtherTowersSame t u v))
  ∧ (∀ s at_ t slot r q u, u = s.advance at_ → t < u.towers.length → (u.tower t).record? slot = some r →
    u.req? r.tenant r.seq = some q → r.reported = true → (∀ k ∈ q.towers, k ∈ q.words) →
    Completes (.endNotice at_ t slot) s (fun v => (v.tower t).record? slot = none ∧ (t, slot) ∉ v.ledger.slots
      ∧ (∀ p, v.req? r.tenant r.seq = some p → t ∈ p.retired)
      ∧ ((u.tower t).isCache = false →
          (∀ o ∈ (u.tower t).sync, slot * 24 ≤ o.1 → o.1 < slot * 24 + 24 → o.2.tick ≠ some u.now) →
          ∀ i, slot * 24 ≤ i → i < slot * 24 + 24 → (v.tower t).syncObj i = SyncObj.fresh)))

/-- R93, R95, R96, R100, R202: an idle tile takes the next chunk of the queue; a chunk whose checks passed commits and its region
sends the chunk's arrival; one whose checks failed faults its tile; an unmet sync wait ends its operator with 0x80 at its expiry. -/
def Obligations.SchedulerCommandsComplete : Prop :=
  (∀ s at_ t r i c g u v, u = s.advance at_ → v = u.schedule t → t < u.towers.length → (v.tower t).runs = true →
    (v.tower t).idle r i = true → (v.tower t).regions[r]? = some g → g.queue.length < 16 → v.nextChunk t = some c →
    Completes (.chunkIssue at_ t r i) s (fun w =>
      (w.tower t).running = (v.tower t).running ++ [{ c with place := some (r, i) }]
      ∧ (w.tower t).queue = (v.tower t).queue.filter (fun q => q.id != c.id)
      ∧ (w.tower t).regions[r]? = some { g with queue := g.queue ++ [c.id] } ∧ SameMemory u w ∧ OtherTowersSame t u w))
  ∧ (∀ s at_ t id c o u, u = s.advance at_ → t < u.towers.length → (u.tower t).running.find? (fun k => k.id == id) = some c →
    (u.tower t).ops.find? (fun k => k.id == c.op) = some o → c.computed = true → c.kind ≠ .copy →
    (∀ r, (u.tower t).record? o.slot = some r → r.withdrawn = false) →
    (u.mapBase (fun b => { b with activeB := u.slotBank t o.slot })).refusedWrites o c = [] →
    Completes (.chunkCommit at_ t id true) s (fun v =>
      (v.tower t).running = (u.tower t).running.filter (fun k => k.id != id)
      ∧ (v.tower t).tree = (u.tower t).tree ++ [arrivalMsg o.slot o.desc c.flags]
      ∧ (v.tower t).records.length = (u.tower t).records.length ∧ OtherTowersSame t u v))
  ∧ (∀ s at_ t id c r i u, u = s.advance at_ → (u.tower t).running.find? (fun k => k.id == id) = some c → c.place = some (r, i) →
    i < 17 → Completes (.chunkCommit at_ t id false) s (fun v => exec (.tileFault at_ t r i) s = .next v))
  ∧ (∀ s at_ t id o r u, u = s.advance at_ → t < u.towers.length → (u.tower t).ops.find? (fun k => k.id == id) = some o →
    o.cut = false → o.failed = false → (∀ c ∈ (u.tower t).running, c.op ≠ id) → u.waitsArrive t o = false →
    o.expiry (u.tower t).syncLimit ≤ u.replica t → o.eligible ≤ u.replica t → (u.tower t).record? o.slot = some r → r.withdrawn = false →
    Completes (.syncWaitExpiry at_ t id) s (fun v => (∀ k ∈ (v.tower t).ops, k.id ≠ id)
      ∧ (v.tower t).record? o.slot = some { r.takeCode 0x80 o.desc with status := r.status ||| o.flags }
      ∧ (r.code < 0x80 → ∀ q, (v.tower t).record? o.slot = some q → q.code = 0x80 ∧ q.codeDesc = o.desc)
      ∧ SameMemory u v ∧ OtherTowersSame t u v))

/-- R80, R81: floor capacity in CU per slot: 16 for each active region of a compute tower, at most 256; 64 for each active region but
one of a cache tower, at most 192, and 0 with one region or none. A compute tower that loses a region loses 16. -/
def Obligations.FloorCapacityCountsActiveRegions : Prop :=
  ∀ x : Tower,
    (x.isCache = false → x.floorCapacity = 16 * (x.regions.filter (fun r => r.st != .lost)).length
      ∧ (x.regions.length ≤ 16 → x.floorCapacity ≤ 256)
      ∧ ∀ q g, x.regions[q]? = some g → g.st ≠ .lost →
          ({ x with regions := x.regions.set q { g with st := .lost } } : Tower).floorCapacity + 16 = x.floorCapacity)
    ∧ (x.isCache = true → (x.activeRegions ≤ 1 → x.floorCapacity = 0) ∧ (1 ≤ x.activeRegions → x.floorCapacity + 64 = 64 * x.activeRegions)
      ∧ (x.regions.length ≤ 4 → x.floorCapacity ≤ 192))

/-! ## Operators (chapters 05, 09) -/

/-- R95, R149 to R162: each operator of the catalogue runs its computation for a chunk that a tile or region is running and stages
the outputs. The value of an element is that of the operator's definition in OperatorEval.lean; where the spec fixes no bits it is
the free value of assumption log 22. -/
def Obligations.OperatorsStageTheirOutputs : Prop :=
  StagesOutput .matmul 0x01 evalMatmul ∧ StagesOutput .matmulBatched 0x02 evalMatmul
  ∧ StagesOutput .matmulGrouped 0x03 evalGrouped ∧ StagesOutput .matmulRouted 0x04 evalRouted
  ∧ StagesOutput .conv 0x08 evalConv ∧ StagesOutput .attn 0x10 evalAttn ∧ StagesOutput .norm 0x18 evalNorm
  ∧ StagesOutput .elementwise 0x20 evalElementwise ∧ StagesOutput .reduce 0x28 evalReduce
  ∧ StagesOutput .gather 0x30 evalGather ∧ StagesOutput .scatter 0x31 evalScatter ∧ StagesOutput .index 0x32 evalIndex
  ∧ StagesOutput .sort 0x38 evalSort ∧ StagesOutput .topk 0x39 evalTopk ∧ StagesOutput .fft 0x40 evalFft
  ∧ StagesOutput .resample 0x48 evalResample ∧ StagesOutput .convert 0x50 evalConvert
  ∧ StagesOutput .reduceTo 0x60 evalCopy ∧ StagesOutput .multicast 0x61 evalCopy ∧ StagesOutput .allreduce 0x62 evalCopy
  ∧ StagesOutput .kvWrite 0x68 evalKv ∧ StagesOutput .kvRead 0x69 evalKv ∧ StagesOutput .backingCopy 0x70 evalCopy
  ∧ StagesOutput .deliver 0x78 evalDeliver

/-- R269 to R273: a load chunk whose banks pass their reference check loads its round; a stream chunk streams; a bank that fails the
check is retrimmed and the chunk has its computation to do again. -/
def Obligations.OpticalChunkLoadsAndStreams : Prop :=
  ∀ s at_ t id failing c o u v, u = s.advance at_ →
    v = u.mapBase (fun b => { b with activeB := u.chunkBank t id }) → t < u.towers.length → t < u.base.bankSets.length →
    (u.tower t).running.find? (fun k => k.id == id) = some c → (u.tower t).ops.find? (fun k => k.id == c.op) = some o →
    dOpcode o.word = 0x58 → c.computed = false → (opEnv v t o).kvFault v = false →
    (u.bankSet t).usable ((opEnv v t o).param 907 896) ≠ [] →
    ((∀ b ∈ chunkBanks (u.bankSet t) (opEnv v t o) c, b ∉ failing) → c.kind = .load →
      Completes (.optical at_ t id failing) s (fun w => (w.bankSet t).loads = (u.bankSet t).loads + 1
        ∧ (∀ k ∈ (w.tower t).running, k.id = id → k.computed = true) ∧ SameMemory u w ∧ OtherTowersSame t u w))
    ∧ ((∀ b ∈ chunkBanks (u.bankSet t) (opEnv v t o) c, b ∉ failing) → c.kind = .stream → (evalOptical v (opEnv v t o) c).bad = [] →
      Completes (.optical at_ t id failing) s (fun w => (w.bankSet t).streams = (u.bankSet t).streams + 1
        ∧ (w.bankSet t).clipped = (u.bankSet t).clipped + opticalClipped v (opEnv v t o) c
        ∧ (∀ k ∈ (w.tower t).running, k.id = id → k.computed = true
            ∧ k.staged = (stageAll v (opEnv v t o) c (evalOptical v (opEnv v t o) c)).acc.reverse)
        ∧ SameMemory u w ∧ OtherTowersSame t u w))
    ∧ (∀ b k, b ∈ chunkBanks (u.bankSet t) (opEnv v t o) c → failing = [b] → c.kind = .stream → (u.bankSet t).banks[b]? = some k →
      k.retrims < 3 →
      Completes (.optical at_ t id failing) s (fun w => (w.bankSet t).checkFails = (u.bankSet t).checkFails + 1
        ∧ (w.bankSet t).banks[b]? = some { k with retrims := k.retrims + 1, image := none }
        ∧ (∀ k ∈ (w.tower t).running, k.id = id → k.computed = false ∧ k.staged = []) ∧ SameMemory u w))

/-- R190: the first failure of a word in a chunk refetches the entry and the pass restarts; the second ends the operator.
R163, R320: a chunk whose computation reads poison is requeued at the head of the queue; the fourth time in a row its operator ends
with 0x81 and a record of code 0x0604. A word that its own read has just found uncorrectable is poisoned. -/
def Obligations.ErroredChunksRunAgain : Prop :=
  (∀ s at_ t id word c u, u = s.advance at_ → t < u.towers.length → (u.tower t).running.find? (fun k => k.id == id) = some c →
      (word ∉ c.badWords → Completes (.instructionWordError at_ t id word) s (fun w =>
        (w.tower t).refetches = (u.tower t).refetches + 1 ∧ (w.tower t).laneFaults = (u.tower t).laneFaults
        ∧ (∃ k, (w.tower t).running.find? (fun k => k.id == id) = some k ∧ word ∈ k.badWords ∧ k.computed = false)
        ∧ w.log = u.log ∧ SameMemory u w ∧ OtherTowersSame t u w))
      ∧ (word ∈ c.badWords → u.tileFaultNow t c = false → (∀ r ∈ (u.tower t).records, r.withdrawn = false) →
        Completes (.instructionWordError at_ t id word) s (fun w =>
        (w.tower t).laneFaults = (u.tower t).laneFaults + 1 ∧ w.log.count = u.log.count + 1
        ∧ (w.tower t).refetches = (u.tower t).refetches)))
  ∧ (∀ s at_ t p c u v, u = s.advance at_ → v = u.mapBase (fun b => { b with activeB := u.chunkBank t p.chunk }) → t < u.towers.length →
      (u.tower t).running.find? (fun k => k.id == p.chunk) = some c →
      (c.attempts < 3 → Completes (.poisonedCompletion at_ t p) s (fun w =>
        (w.tower t).queue.head? = some { c.restart with attempts := c.attempts + 1, poisoned := true }
        ∧ (w.tower t).reruns = (u.tower t).reruns + 1 ∧ (∀ k ∈ (w.tower t).running, k.id ≠ p.chunk) ∧ (p.words = [] → w.log = u.log)
        ∧ (∀ a key, p.words = [a] → v.keyAt? a = some key → u.mem.isValid key = true → poisonKey key ∈ w.mem.poison) ∧ SameMemory u w))
      ∧ (3 ≤ c.attempts → (∀ r ∈ (u.tower t).records, r.withdrawn = false) →
        (∀ k ∈ (u.tower t).running, k.op = c.op → k.id = p.chunk) → Completes (.poisonedCompletion at_ t p) s (fun w =>
        (p.words = [] → w.log.count = u.log.count + 1)
        ∧ (∀ k ∈ (w.tower t).running, k.id ≠ p.chunk) ∧ (∀ k ∈ (w.tower t).ops, k.id ≠ c.op))))

/-- R156: SORT of a row gives the row's keys in order, NaN last: no key precedes one that goes before it, and the pairs of key and index
are those of the row, each once. -/
def Obligations.SortedRowIsOrderedPermutation : Prop :=
  ∀ s e x, (sortedRow s e x).Perm ((List.range ((e.tensor 1).dim 0)).map (fun i => (e.elem s 1 (x.put 0 i), i)))
    ∧ (sortedRow s e x).Pairwise (fun a b => sortBefore (bit (e.param 896 896) 0) b.1 a.1 = false)

/-- R119: an integer reduction is exact and saturates once, at the end. -/
def Obligations.IntegerReductionIsExact : Prop :=
  ∀ fa fb (ps : Products), groupSize fa fb = 0 →
    (reduceProducts fa fb ps).v =
      .ofInt (max (-2147483648) (min 2147483647 ((ps.map (fun p => p.1.toInt * p.2.1.toInt)).sum)))

/-- R95, R319: one commit writes bytes at keys of memory: each key listed reads the last byte given for it, every other key reads as
before, and nothing but memory changes.
R320: a commit clears the poison of a word of bonded SRAM all of whose 32 bytes it writes, and of no word it writes nothing of. -/
def Obligations.CommitWritesBytesOnce : Prop :=
  (∀ (s : State) (l : List (Nat × Byte)),
      (∀ k, (s.writeKeys l).memByte k = ((l.reverse.find? (fun p => p.1 == k)).map (·.2)).getD (s.memByte k))
      ∧ s.writeKeys l = { s with mem := { s.mem with cells := (s.writeKeys l).mem.cells, valid := (s.writeKeys l).mem.valid,
                                                                        poison := (s.writeKeys l).mem.poison } })
  ∧ (∀ (s : State) (l : List (Nat × Byte)) (p : Nat), p ∈ s.mem.poison → p / 2 ^ 40 < 32 →
      ((∀ i, i < 32 → ∃ b, (p + i, b) ∈ l) → p ∉ (s.writeKeys l).mem.poison)
      ∧ ((∀ i, i < 32 → ∀ b, (p + i, b) ∉ l) → p ∈ (s.writeKeys l).mem.poison))

/-! ## Lane instructions (chapter 06) -/

/-- R123, R180, R182: the two- and three-operand floating-point instructions, and FRND and FSGN, lane by lane. The arithmetic on
binary32 encodings is that of Flags.lean. -/
def Obligations.LaneFloatInstructions : Prop :=
  ∀ eng o,
    WritesLanes (.fadd eng o) eng o 1 (fun l i => f32Add o.rnd.toNat (l.lane o.va i) (l.lane o.vb i))
    ∧ WritesLanes (.fsub eng o) eng o 1 (fun l i => f32Sub o.rnd.toNat (l.lane o.va i) (l.lane o.vb i))
    ∧ WritesLanes (.fmul eng o) eng o 1 (fun l i => f32Mul o.rnd.toNat (l.lane o.va i) (l.lane o.vb i))
    ∧ WritesLanes (.ffma eng o) eng o 1 (fun l i => f32Fma o.rnd.toNat (l.lane o.va i) (l.lane o.vb i) (l.lane o.vc i))
    ∧ WritesLanes (.fmin eng o) eng o 1 (fun l i => f32Pick false (l.lane o.va i) (l.lane o.vb i))
    ∧ WritesLanes (.fmax eng o) eng o 1 (fun l i => f32Pick true (l.lane o.va i) (l.lane o.vb i))
    ∧ WritesLanes (.frnd eng o) eng o 1 (fun l i => f32Round o.rnd.toNat (l.lane o.va i))
    ∧ WritesLanes (.fsgn eng o) eng o 1 (fun l i => fsgn o.mode.toNat (l.lane o.va i) (l.lane o.vb i))

/-- R180, R182, R184: the approximations, four cycles each; RSUM, RMAX and RMIN across lanes, eight cycles (R183). Values that Table
LP-6 only bounds are the free values of assumption log 1. -/
def Obligations.LaneApproximationsAndReductions : Prop :=
  ∀ eng o,
    WritesLanes (.frcp eng o) eng o 4 (fun l i => frcp (l.lane o.va i))
    ∧ WritesLanes (.frsq eng o) eng o 4 (fun l i => frsq (l.lane o.va i))
    ∧ WritesLanes (.fexp2 eng o) eng o 4 (fun l i => fexp2 (l.lane o.va i))
    ∧ WritesLanes (.flog2 eng o) eng o 4 (fun l i => flog2 (l.lane o.va i))
    ∧ WritesLanes (.ftanh eng o) eng o 4 (fun l i => ftanh (l.lane o.va i))
    ∧ WritesLanes (.rsum eng o) eng o 8 (fun l _ => l.rsumAll o)
    ∧ WritesLanes (.rmax eng o) eng o 8 (fun l i => (l.pickAll true o, flagIf (fvOf (l.lane o.va i)).isNan flNanin))
    ∧ WritesLanes (.rmin eng o) eng o 8 (fun l i => (l.pickAll false o, flagIf (fvOf (l.lane o.va i)).isNan flNanin))

/-- R180, R182: the integer and bitwise instructions: sums, differences and products wrap; shifts go by the low five bits. -/
def Obligations.LaneIntegerInstructions : Prop :=
  ∀ eng o,
    WritesLanes (.iadd eng o) eng o 1 (fun l i => (l.lane o.va i + l.lane o.vb i, 0))
    ∧ WritesLanes (.isub eng o) eng o 1 (fun l i => (l.lane o.va i - l.lane o.vb i, 0))
    ∧ WritesLanes (.imul eng o) eng o 1 (fun l i => (l.lane o.va i * l.lane o.vb i, 0))
    ∧ WritesLanes (.imin eng o) eng o 1 (fun l i => (BitVec.ofInt 32 (min (l.lane o.va i).toInt (l.lane o.vb i).toInt), 0))
    ∧ WritesLanes (.imax eng o) eng o 1 (fun l i => (BitVec.ofInt 32 (max (l.lane o.va i).toInt (l.lane o.vb i).toInt), 0))
    ∧ WritesLanes (.and eng o) eng o 1 (fun l i => (l.lane o.va i &&& l.lane o.vb i, 0))
    ∧ WritesLanes (.or eng o) eng o 1 (fun l i => (l.lane o.va i ||| l.lane o.vb i, 0))
    ∧ WritesLanes (.xor eng o) eng o 1 (fun l i => (l.lane o.va i ^^^ l.lane o.vb i, 0))
    ∧ WritesLanes (.shl eng o) eng o 1 (fun l i => (l.lane o.va i <<< (l.lane o.vb i).extractLsb' 0 5, 0))
    ∧ WritesLanes (.shr eng o) eng o 1 (fun l i => (l.lane o.va i >>> (l.lane o.vb i).extractLsb' 0 5, 0))
    ∧ WritesLanes (.sra eng o) eng o 1 (fun l i => ((l.lane o.va i).sshiftRight' ((l.lane o.vb i).extractLsb' 0 5), 0))

/-- R124, R126, R180, R182: conversion, moves, constants, indices and the lane crossings. Lane i of CVT under stochastic rounding
takes its own draw of the generator.
R180, R182: comparisons and predicate logic write predicates; p0 always reads all ones. -/
def Obligations.LaneMovesAndPredicates : Prop :=
  (∀ eng o,
      WritesLanes (.cvt eng o) eng o 1 (fun l i => cvtLane o (Config.stochastic eng (l.draws + i)).toNat (l.lane o.va i))
      ∧ WritesLanes (.mov eng o) eng o 1 (fun l i => (l.lane o.va i, 0))
      ∧ WritesLanes (.movi eng o) eng o 1 (fun _ _ => (if o.mode = 0 then o.imm.signExtend 32 else o.imm.zeroExtend 32 <<< 8, 0))
      ∧ WritesLanes (.ldc eng o) eng o 1 (fun l _ => (l.pool.getD (o.imm.extractLsb' 0 5).toNat 0, 0))
      ∧ WritesLanes (.lidx eng o) eng o 1 (fun l i =>
          (BitVec.ofNat 32 (if o.mode = 0 then i else if o.mode = 1 then l.d0 + i else l.row), 0))
      ∧ WritesLanes (.rot eng o) eng o 2 (fun l i => (l.lane o.va ((i + 128 - o.imm.toNat % 128) % 128), 0))
      ∧ WritesLanes (.bcst eng o) eng o 2 (fun l _ => (l.lane o.va (o.imm.extractLsb' 0 7).toNat, 0))
      ∧ (∀ s l, l = s.engine eng → Completes (.sel eng o) s (fun t =>
          (∀ i, i < 128 → (t.engine eng).lane o.vd i = if (l.active o).getLsbD i then l.lane o.va i else l.lane o.vb i)
          ∧ (∀ r, r ≠ o.vd → (t.engine eng).reg r = l.reg r) ∧ (t.engine eng).p = l.p ∧ (t.engine eng).flags = l.flags
          ∧ t = { s with engines := t.engines })))
  ∧ (∀ eng o,
      WritesPredicate (.fcmp eng o) eng o (fun l i => fcmpCond o.mode.toNat (fvOf (l.lane o.va i)) (fvOf (l.lane o.vb i)))
      ∧ WritesPredicate (.icmp eng o) eng o (fun l i => icmpCond o.mode.toNat (l.lane o.va i) (l.lane o.vb i))
      ∧ WritesPredicate (.pand eng o) eng o (fun l i => (l.pred (predOf o.va)).getLsbD i && (l.pred (predOf o.vb)).getLsbD i)
      ∧ WritesPredicate (.por eng o) eng o (fun l i => (l.pred (predOf o.va)).getLsbD i || (l.pred (predOf o.vb)).getLsbD i)
      ∧ WritesPredicate (.pnot eng o) eng o (fun l i => !(l.pred (predOf o.va)).getLsbD i))

/-- R185: LOOP runs the instructions that follow it IMM[15:0] + 1 times. A body of one IADD word runs as that many IADD commands
would, after the one cycle of LOOP itself. -/
def Obligations.LaneLoopRepeatsItsBody : Prop :=
  ∀ eng o p s, loopBody o = 1 →
    Completes (.loop eng o [laneWord 0x10 p]) s (fun t =>
      t.engine eng = beats eng (s.engine eng)
        (iterate (fun l => l.iadd p) (loopCount o) { s.engine eng with cycles := (s.engine eng).cycles + 1 })
      ∧ (∀ k, k ≠ eng → t.engine k = s.engine k) ∧ t = { s with engines := t.engines })

/-- Table LP-4, R179: the fields of an instruction word are read where they are written: every opcode and every operand at every
value comes back from its word.
Table LP-4: no word is lost either: the word of the fields of `w` is `w`. -/
def Obligations.LaneWordCodec : Prop :=
  (∀ opc o, laneFields (laneWord opc o) = (opc, o))
  ∧ (∀ w, laneWord (laneFields w).1 (laneFields w).2 = w)

/-! ## On-die networks (chapter 07) -/

/-- R194, R205, R251, R316, R317, R320: a read request is answered with the bytes of memory as its checks leave them, or with a poisoned
completion where a word of them is poisoned or proves uncorrectable; a write is written and acknowledged; a response reaches its
requester. But for what the checks find, the module changes in nothing else.
R246, R251: a write to a fenced site, or to an EID with an unused entry, writes nothing and brings a fenced acknowledgement. -/
def Obligations.BulkReadsAndWrites : Prop :=
  ((∀ s at_ p u v key, u = s.landed at_ none p → v = s.forPacket at_ p → Crosses v none p → ReachesMemory v p key →
      u.mem.poisoned key (64 * p.len) = false →
      Completes (.readRequest at_ p []) s (fun t => t = u.sendBulk ((v.eidSite p.dst).getD 20) (v.eidSite p.src)
        (mkPacket p.tepoch { type := 2, src := p.dst, dst := p.src, addr := p.addr, tag := p.tag } (u.readMem key (64 * p.len)))))
    ∧ (∀ s at_ p finds u v key w, u = s.landed at_ none p → v = s.forPacket at_ p → w = v.readFinds key (64 * p.len) 0 finds →
      Crosses v none p → ReachesMemory v p key →
      Completes (.readRequest at_ p finds) s (fun t => t.mem = w.mem ∧ t.net = u.net ++
        [if w.mem.poisoned key (64 * p.len) then
           mkPacket p.tepoch { type := 7, src := p.dst, dst := p.src, addr := p.addr, tag := p.tag } []
         else mkPacket p.tepoch { type := 2, src := p.dst, dst := p.src, addr := p.addr, tag := p.tag } (w.readMem key (64 * p.len))]))
    ∧ (∀ s at_ p off n u v key, u = s.landed at_ none p → v = s.forPacket at_ p → Crosses v none p → ReachesMemory v p key →
      off < 64 * p.len → 3 ≤ n → u.mem.isValid (key + off) = true →
      Completes (.readRequest at_ p [⟨off, .symbols n⟩]) s (fun t => poisonKey (key + off) ∈ t.mem.poison ∧ SameMemory u t))
    ∧ (∀ s at_ p u v key, u = s.landed at_ none p → v = s.forPacket at_ p → Crosses v none p → ReachesMemory v p key →
      Completes (.write at_ ⟨p, []⟩) s (fun t => Wrote u t key p.data
        ∧ t = { u.sendBulk ((v.eidSite p.dst).getD 20) (v.eidSite p.src)
                  (mkPacket p.tepoch { type := 4, src := p.dst, dst := p.src, addr := p.addr, tag := p.tag } []) with mem := t.mem }))
    ∧ (∀ s at_ p finds u v key w, u = s.landed at_ none p → v = s.forPacket at_ p →
      w = (if 32 ≤ key / 2 ^ 40 ∧ key / 2 ^ 40 < 64 ∧ p.data.length < 1024 then v.readFinds (key / 1024 * 1024) 1024 2 finds else v) →
      Crosses v none p → ReachesMemory v p key →
      Completes (.write at_ ⟨p, finds⟩) s (fun t => Wrote w t key p.data
        ∧ t.net = u.net ++ [mkPacket p.tepoch { type := 4, src := p.dst, dst := p.src, addr := p.addr, tag := p.tag } []]))
    ∧ (∀ s at_ p u v k, u = s.landed at_ none p → v = s.forPacket at_ p → Crosses v none p → v.eidSite p.dst = some k →
      v.siteFenced k = false → Completes (.readResponse at_ p) s (fun t => t = { u with inbox := u.inbox ++ [p] })))
  ∧ (∀ s at_ p finds u v, u = s.landed at_ none p → v = s.forPacket at_ p → Crosses v none p →
      (∀ k ∈ v.eidSite p.dst, v.siteFenced k = true ∧ p.mgmt k = false) →
      Completes (.write at_ ⟨p, finds⟩) s (fun t => SameMemory u t ∧ t.net = u.net ++
        [mkPacket p.tepoch { type := 8, src := p.dst, dst := p.src, addr := p.addr, tag := p.tag } []]))

/-- R205, R208, R210 to R213: acknowledgements, contributions to a reduction and multicast copies, each where it has its own effect. -/
def Obligations.AcknowledgementsReductionsAndCopies : Prop :=
  (∀ s at_ p u v t o, u = s.landed at_ none p → v = s.forPacket at_ p → Crosses v none p → v.eidSite p.dst = some t → t < u.towers.length → p.tag < 32768 →
    (u.tower t).tagged p.tag = some o → 1 < o.unacked → (∀ r, (u.tower t).record? o.slot = some r → r.withdrawn = false) →
    Completes (.writeAcknowledgement at_ p) s (fun w => (∃ q, (w.tower t).ops.find? (fun k => k.id == o.id) = some q
      ∧ q.unacked = o.unacked - 1 ∧ q.fencedCopies = o.fencedCopies) ∧ SameMemory u w)
    ∧ (v.readRefused t o p.addr = false → Completes (.fencedAcknowledgement at_ p) s (fun w => (∃ q, (w.tower t).ops.find? (fun k => k.id == o.id) = some q
      ∧ q.unacked = o.unacked - 1
      ∧ q.fencedCopies = if dOpcode o.word = 0x61 then o.fencedCopies ++ [p.src] else o.fencedCopies)
      ∧ (dOpcode o.word = 0x61 → t < 16 → (w.tower t).fencedCopies = (u.tower t).fencedCopies + 1) ∧ SameMemory u w)))
  ∧ (∀ s at_ p u v k r e, u = s.landed at_ none p → v = s.forPacket at_ p → Crosses v none p → v.eidSite p.dst = some k → k < 16 →
    k < u.towers.length → v.siteFenced k = false → packetSpace p.addr = true → (v.eidSites r.group).any (fun g => v.siteFenced g) = false →
    (u.tower k).reduction? p.redid p.slot = some r → e = kvGet r.entries p.addr (0, []) →
    e.1 + p.ccount < r.expected →
    Completes (.reducePacket at_ p) s (fun w => (∃ q, (w.tower k).reduction? p.redid p.slot = some q
      ∧ kvGet q.entries p.addr (0, []) =
          (e.1 + p.ccount, if e.1 = 0 then p.data else (combineData r.rfmt r.rop e.2.length e.2 p.data).1)
      ∧ q.written = r.written) ∧ SameMemory u w ∧ (e.1 = 0 → OtherTowersSame k u w)))
  ∧ (∀ s at_ p u v k, u = s.landed at_ none p → v = s.forPacket at_ p → Crosses v none p → v.eidSite p.dst = some k → k < 16 →
    v.siteFenced k = false → packetSpace p.addr = true → (u.tower k).reduction? p.redid p.slot = none →
    v.reducerRoom k p.slot ≤ (u.tower k).openReductions.length →
    Completes (.reducePacket at_ p) s (fun w =>
      w = u.sendSync (syncMsg 7 k ((v.eidSite p.src).getD 0) 0 0 (p.redid + p.slot * 65536) 0)))
  ∧ (∀ s at_ site p u v key, u = s.landed at_ (some site) p → v = s.forPacket at_ p → Crosses v (some site) p →
    v.eidSite p.src ≠ some site → v.siteFenced site = false → packetSpace p.addr = true →
    (∀ w ∈ v.memberWindow? site p.addr, w.park = false ∧ w.kvRefuses p = false) → v.memberLoc site p.addr = .key key →
    Completes (.multicastCopy at_ site p) s (fun w => Wrote u w key p.data
      ∧ w = { u.sendBulk (((v.eidSite (v.siteEid site)).or (v.eidSite p.dst)).getD 20) (v.eidSite p.src)
                (mkPacket p.tepoch { type := 4, src := v.siteEid site, dst := p.src, addr := p.addr, tag := p.tag } [])
              with mem := w.mem }))
  ∧ (∀ s at_ site p u v, u = s.landed at_ (some site) p → v = s.forPacket at_ p → v.eidSite p.src = some site → site < u.towers.length →
    site ∉ v.eidSites p.dst → (u.tower site).mcast.store = [] → (u.tower site).mcast.wait = [] → (u.tower site).mcast.queues = [] →
    Completes (.multicastCopy at_ site p) s (fun w =>
      (∀ b ∈ v.eidSites p.dst, kvGet (w.tower site).mcast.queues b [] = [p]) ∧ (w.tower site).mcast.store = []
      ∧ SameMemory u w ∧ OtherTowersSame site u w))
  ∧ (∀ s at_ site p u v, u = s.landed at_ (some site) p → v = s.forPacket at_ p → v.eidSite p.src = some site → site < u.towers.length →
    site ∈ v.eidSites p.dst → (u.tower site).dieMcast.store = [] → (u.tower site).dieMcast.wait = [] →
    (u.tower site).dieMcast.queues = [] →
    Completes (.multicastCopy at_ site p) s (fun w =>
      kvGet (w.tower site).dieMcast.queues site [] = [p] ∧ kvGet (w.tower site).dieMcast.queues branchOn [] = [p]
      ∧ (w.tower site).mcast = (u.tower site).mcast ∧ SameMemory u w ∧ OtherTowersSame site u w))
  ∧ (∀ s at_ site b p rest u, u = s.advance at_ → site < u.towers.length → b ≠ site → b ≠ branchOn →
    kvGet (u.tower site).mcast.queues b [] = p :: rest →
    (u.tower site).mcast.store = [] → (u.tower site).mcast.wait = [] → u.siteFenced site = false →
    Completes (.multicastBranchSend at_ site b) s (fun w => w.net = u.net ++ [u.copyFor site b p]
      ∧ w.lines = (u.sendBulk site (some b) (u.copyFor site b p)).lines
      ∧ kvGet (w.tower site).mcast.queues b [] = rest ∧ OtherTowersSame site u w ∧ SameMemory u w))
  ∧ (∀ s at_ site p rest u v, u = s.advance at_ → v = s.forPacket at_ p → site < u.towers.length →
    kvGet (u.tower site).dieMcast.queues branchOn [] = p :: rest → (u.tower site).dieMcast.store = [] → (u.tower site).dieMcast.wait = [] →
    (u.tower site).mcast.store = [] → (u.tower site).mcast.wait = [] → (u.tower site).mcast.queues = [] →
    Completes (.multicastBranchSend at_ site branchOn) s (fun w => kvGet (w.tower site).dieMcast.queues branchOn [] = rest
      ∧ (∀ b ∈ v.eidSites p.dst, b ≠ site → kvGet (w.tower site).mcast.queues b [] = [p]) ∧ SameMemory u w ∧ OtherTowersSame site u w))
  ∧ (∀ s at_ site p rest u v key, u = s.advance at_ → v = s.forPacket at_ p → site < u.towers.length → site ≠ branchOn →
    kvGet (u.tower site).dieMcast.queues site [] = p :: rest → (u.tower site).dieMcast.store = [] → (u.tower site).dieMcast.wait = [] →
    packetSpace p.addr = true → (∀ w ∈ v.memberWindow? site p.addr, w.park = false ∧ w.kvRefuses p = false) →
    v.memberLoc site p.addr = .key key →
    Completes (.multicastBranchSend at_ site site) s (fun w => Wrote u w key p.data
      ∧ kvGet (w.tower site).dieMcast.queues site [] = rest ∧ OtherTowersSame site u w))

/-- R198, R199, R201 to R203, R206, R207: control packets of Table NS-3 reach their stop; a message of the sync tree counts as many
arrivals as it says, with the OR of their status bytes; barrier arrivals reach the root; a link that retries counts, and is out at
the fourth failure in a row; a ring is travelled in its shorter direction (R195), and in the other where a link is out. -/
def Obligations.ControlPacketsAndTreeComplete : Prop :=
  (∀ s at_ t p u, u = s.advance at_ → s.ctlOf t 2 p = true →
    Completes (.chunkIssuePacket at_ t p) s (fun w => w = { u with ctl := u.ctl ++ [(t, p)] }))
  ∧ (∀ s at_ t p u, u = s.advance at_ → s.ctlOf t 5 p = true →
    Completes (.poisonNotice at_ t p) s (fun w => w = { u with ctl := u.ctl ++ [(t, p)] }))
  ∧ (∀ s at_ t p u, u = s.advance at_ → s.ctlOf t 4 p = true →
    Completes (.fence at_ t p) s (fun w => w = { u with ctl := u.ctl ++ [(t, p)] }))
  ∧ (∀ s at_ t p u, u = s.advance at_ → s.ctlOf t 9 p = true → u.log.mask.getLsbD 2 = true → u.log.minSev ≤ 2 →
    Completes (.towerEvent at_ t p) s (fun w => w = { u with ctl := u.ctl ++ [(t, p)], log := w.log } ∧ w.log.vecP.getLsbD 2 = true
      ∧ w.log.vecI.getLsbD 2 = true ∧ w.log.recs = u.log.recs))
  ∧ (∀ s at_ t m o u n g, u = s.advance at_ → t < 16 → t < u.towers.length → field m.toNat 1 0 = 1 → n = field m.toNat 47 32 → 1 ≤ n →
    g = takeMatching (sameArrival m) n (u.tower t).tree → g.1.length = n → (u.tower t).ops.find? (fun o => o.slot == field m.toNat 15 8 && o.desc == field m.toNat 31 16) = some o →
    (u.tower t).ops.find? (fun k => k.id == o.id) = some o → (∀ r ∈ (u.tower t).records, r.withdrawn = false) →
    o.tree + n < o.chunks → o.cut = true →
    Completes (.chunkArrival at_ t (.tree m)) s (fun w => (w.tower t).tree = g.2
      ∧ (∃ q, (w.tower t).ops.find? (fun k => k.id == o.id) = some q ∧ q.tree = o.tree + n
        ∧ q.flags = g.1.foldl (fun f q => f ||| BitVec.ofNat 8 (field q.toNat 55 48)) o.flags)
      ∧ SameMemory u w ∧ OtherTowersSame t u w))
  ∧ (∀ s at_ t p m o u n g, u = s.advance at_ → 16 ≤ t → t < u.towers.length → u.ctlOf t 0xA p = true → m = p.arg → n = 1 →
    field m.toNat 1 0 = 1 → n = field m.toNat 47 32 →
    g = takeMatching (sameArrival m) n (u.tower t).tree → g.1.length = n → (u.tower t).ops.find? (fun o => o.slot == field m.toNat 15 8 && o.desc == field m.toNat 31 16) = some o →
    (u.tower t).ops.find? (fun k => k.id == o.id) = some o → (∀ r ∈ (u.tower t).records, r.withdrawn = false) →
    o.tree + n < o.chunks → o.cut = true →
    Completes (.chunkArrival at_ t (.control p)) s (fun w => (w.tower t).tree = g.2
      ∧ (∃ q, (w.tower t).ops.find? (fun k => k.id == o.id) = some q ∧ q.tree = o.tree + n
        ∧ q.flags = g.1.foldl (fun f q => f ||| BitVec.ofNat 8 (field q.toNat 55 48)) o.flags)
      ∧ SameMemory u w ∧ OtherTowersSame t u w
      ∧ w.ctl = u.ctl ++ [(t, p)]))
  ∧ (∀ s at_ t r k q u, u = s.advance at_ → t < 16 → t < u.towers.length → (u.tower t).barrier.1 = k →
    q < (u.tower t).regions.length → (∀ g, (u.tower t).regions[q]? = some g → g.st ≠ .lost) → q ≠ r → q ∉ (u.tower t).barrier.2 →
    Completes (.regionBarrierArrival at_ t r k) s (fun w => (w.tower t).barrier = (k, insertNat (u.tower t).barrier.2 r)
      ∧ OtherTowersSame t u w))
  ∧ (∀ s at_ t link fixed u, u = s.advance at_ → t < u.towers.length → link ∉ (u.tower t).linksOut →
    linkExists (u.tower t).isCache link = true →
    Completes (.ondieLinkRetry at_ t ⟨link, fixed⟩ true) s (fun w => (w.tower t).linkRetries = (u.tower t).linkRetries + 1
      ∧ (w.tower t).flitsFixed = (u.tower t).flitsFixed + fixed
      ∧ kvGet (w.tower t).linkFails link 0 = 0 ∧ w.log = u.log ∧ OtherTowersSame t u w))
  ∧ (∀ s at_ t link fixed u, u = s.advance at_ → t < u.towers.length → 256 ≤ link → link ∉ (u.tower t).linksOut →
    linkExists (u.tower t).isCache link = true → kvGet (u.tower t).linkFails link 0 = 3 →
    Completes (.ondieLinkRetry at_ t ⟨link, fixed⟩ false) s (fun w => link ∈ (w.tower t).linksOut ∧ w.log.count = u.log.count + 1
      ∧ (w.tower t).mode = (u.tower t).mode ∧ OtherTowersSame t u w))
  ∧ (∀ (g : Ring) a b, (g.path [] a b).length = min (g.hops true a b) (g.hops false a b))
  ∧ (∀ (g : Ring) a b link, link ∉ g.path [link] a b)

/-- R203: the step of a region barrier is complete with the arrival of its last region in service. -/
def Obligations.BarrierCompletesWithLastRegion : Prop :=
  ∀ s at_ t r k u, u = s.advance at_ → t < 16 → t < u.towers.length → (u.tower t).barrier.1 = k →
    (∀ q < (u.tower t).regions.length, q = r ∨ q ∈ (u.tower t).barrier.2 ∨ ∀ g ∈ (u.tower t).regions[q]?, g.st = .lost) →
    Completes (.regionBarrierArrival at_ t r k) s (fun w => (w.tower t).barrier = (k + 1, []) ∧ OtherTowersSame t u w)

/-- R214 to R219: sync objects by message and by host access, reduction messages and acknowledgements. -/
def Obligations.SyncCommandsComplete : Prop :=
  (∀ s at_ m u d, u = s.advance at_ → d = msgDst m → d < 16 → d < u.towers.length → u.siteFenced d = false → msgSrc m < 21 →
    (((u.tower d).syncObj (msgIndex m)).tick = some u.now → ((u.tower d).syncObj (msgIndex m)).hostWrote = false
      ∧ ((u.tower d).syncObj (msgIndex m)).value =
          min 0xFFFFFFFF (((u.tower d).syncObj (msgIndex m)).base + ((u.tower d).syncObj (msgIndex m)).sum)) →
    u.zeroesNow d (msgIndex m) = false →
    Completes (.signal at_ m) s (fun t =>
      ((t.tower d).syncObj (msgIndex m)).value = min 0xFFFFFFFF (((u.tower d).syncObj (msgIndex m)).value + msgValue m)
      ∧ t.syncOut.getLast? = some (syncMsg 2 d (msgSrc m) (msgIndex m) (msgGen m) 0 0)))
  ∧ (∀ s at_ m u d slot r, u = s.advance at_ → d = msgDst m → d < u.towers.length →
    (u.tower d).awaits (msgSrc m) (msgIndex m) = some slot → (u.tower d).record? slot = some r →
    Completes (.signalAcknowledgement at_ m) s (fun t => (t.tower d).signalsSent = (u.tower d).signalsSent + 1
      ∧ (t.tower d).record? slot = some { r with unacked := r.unacked - 1 }
      ∧ (t.tower d).signalsOut.length + 1 = (u.tower d).signalsOut.length ∧ OtherTowersSame d u t))
  ∧ (∀ s at_ m u d, u = s.advance at_ → d = msgDst m → d < 16 → d < u.towers.length → u.siteFenced d = false → msgSrc m < 21 →
    Completes (.watch at_ m) s (fun t => ((t.tower d).syncObj (msgIndex m)).subs.getLsbD (msgSrc m) = true
      ∧ ((t.tower d).syncObj (msgIndex m)).value = ((u.tower d).syncObj (msgIndex m)).value
      ∧ t.syncOut = u.syncOut ++ [syncMsg 4 d (msgSrc m) (msgIndex m) ((u.tower d).objGen (msgIndex m))
          ((u.tower d).syncObj (msgIndex m)).value (2 ^ msgSrc m)] ∧ OtherTowersSame d u t))
  ∧ (∀ s at_ m u d o thr, u = s.advance at_ → d = msgDst m → d < 20 → d < u.towers.length → d ≠ msgSrc m →
    (u.tower d).ops = [o] → o.entered = true → o.waits = [(msgSrc m, msgIndex m, thr, none)] → thr ≤ msgValue m →
    Completes (.notice at_ m) s (fun t => ∀ q ∈ (t.tower d).ops, q.waits = []))
  ∧ (∀ s at_ m u d, u = s.advance at_ → d = msgDst m → d < 16 → d < u.towers.length →
    Completes (.reductionDone at_ m) s (fun t => ∀ o ∈ u.contributors d (msgSrc m) (msgRedid m) (msgSlot m),
      ∀ q ∈ (t.tower d).ops, q.id = o.id → q.remote = false))
  ∧ (∀ s at_ m u d, u = s.advance at_ → d = msgDst m → d < 16 → d < u.towers.length →
    Completes (.reductionClosed at_ m) s (fun t =>
      (t.tower d).heldReductions = (u.tower d).heldReductions.filter (fun h => h.2.2 != msgSrc m) ∧ (∃ l, t.net = u.net ++ l)
      ∧ SameMemory u t))
  ∧ (∀ s at_ m u d, u = s.advance at_ → d = msgDst m → d < u.towers.length →
    Completes (.reducerBusy at_ m) s (fun t => (t.tower d).busyRefusals = (u.tower d).busyRefusals + 1
      ∧ ((msgRedid m, msgSlot m, msgSrc m) ∈ (u.tower d).heldReductions → (t.tower d).heldReductions = (u.tower d).heldReductions)
      ∧ ((msgRedid m, msgSlot m, msgSrc m) ∉ (u.tower d).heldReductions →
          (t.tower d).heldReductions = (u.tower d).heldReductions ++ [(msgRedid m, msgSlot m, msgSrc m)])
      ∧ OtherTowersSame d u t))
  ∧ (∀ s at_ value u w, u = s.advance at_ → u.Serves 0x4100 → w = u.syncWindow → w.1 < u.towers.length → persistentBase ≤ w.2 →
    value ≤ 0xFFFFFFFF →
    Completes (.syncHostWrite at_ value) s (fun t => ((t.tower w.1).syncObj w.2).value = value ∧ t.AccessDone))
  ∧ (∀ s at_ value u w, u = s.advance at_ → u.Serves 0x4100 → w = u.syncWindow → w.1 < u.towers.length → persistentBase ≤ w.2 →
    1 ≤ value → value ≤ 0xFFFFFFFF →
    (((u.tower w.1).syncObj w.2).tick = some u.now → ((u.tower w.1).syncObj w.2).hostWrote = false
      ∧ ((u.tower w.1).syncObj w.2).value = min 0xFFFFFFFF (((u.tower w.1).syncObj w.2).base + ((u.tower w.1).syncObj w.2).sum)) →
    Completes (.syncAdd at_ value) s (fun t =>
      ((t.tower w.1).syncObj w.2).value = min 0xFFFFFFFF (((u.tower w.1).syncObj w.2).value + value) ∧ t.AccessDone))

/-! ## The photonic base (chapter 08) -/

/-- R224, R226, R229, R230, R232, R236, R237, R239 to R241, R243, R347: a NACK resends; a codeword is received and what it brings is taken in
rotation order; credit and an ACK come back; the sync plane resends and
loses a bus, and a wavelength leaves, is replaced by the spare of its pair and comes back; packets, control carriers and credit returns are read
from their units (R227). `p` is the pair and `l` its stream before
the command. -/
def Obligations.WavelengthCommandsComplete : Prop :=
  ∀ s at_ i j w u p l, u = s.advance at_ → u.pairExists i j = true → p = u.linkPair i j → l = u.line i j → w < 5 →
    (∀ seq n, w ∉ p.dead → l.position w seq = some n →
      Completes (.replay at_ (.site i) j w seq) s (fun t => t.linkPair i j = { p with replays := p.replays + 1 }
        ∧ (t.line i j).buffer w = ((l.buffer w).drop n).map (fun c => if c.resendable u.now then { c with resent := c.resent + 1 } else c)
        ∧ (∀ x y, pairKey x y ≠ pairKey i j → t.line x y = u.line x y ∧ t.linkPair x y = u.linkPair x y)))
    ∧ (∀ x lane seq n, x < 5 → x < u.ports.length → (u.port x).up = true → (u.port x).lanes.getLsbD lane = true →
      (u.port x).line.position lane seq = some n →
      Completes (.replay at_ (.port x) j lane seq) s (fun t => (t.port x).replays = (u.port x).replays + 1
        ∧ (t.port x).line.buffer lane =
            (((u.port x).line.buffer lane).drop n).map (fun c => if c.resendable u.now then { c with resent := c.resent + 1 } else c)))
    ∧ (l.limited w u.now = true →
      Completes (.replayLimit at_ (.site i) j w true) s (fun t => exec (.wavelengthPermanentFault at_ i j w) s = .next t)
      ∧ Completes (.replayLimit at_ (.site i) j w false) s (fun t => exec (.lockLoss at_ i j w) s = .next t))
    ∧ (∀ word units y cs, word.plane = w → word.decodes = true → word.nack = false → l.held = [] → l.orphans = [] →
      ((u.rx j i).codeword (u.linkPair j i).planes word units).parsed = (y, cs) →
      Completes (.creditReturn at_ i j word units) s (fun t => t.rx j i = y ∧ t.line i j = (l.credited cs).ack w word.ack
        ∧ t.linkPair j i = { u.linkPair j i with symbols := (u.linkPair j i).symbols + word.corrected } ∧ t.linkPair i j = p))
    ∧ (∀ word b c, word.plane = w → word.decodes = true → word.nack = false → word.kind = 1 → word.seq = 0 → l.held = [] → l.orphans = [] →
      u.rx j i = LineRx.fresh → (u.linkPair j i).planes.head? = some w → b < 4096 → c < 256 →
      Completes (.creditReturn at_ i j word (creditUnit b c :: List.replicate 9 fillUnit)) s (fun t =>
        t.line i j = ({ l with bulk := min 1024 (l.bulk + b), control := min 64 (l.control + c) } : Line).ack w word.ack
        ∧ (t.rx j i).taken = 1 ∧ kvGet (t.rx j i).good w 255 = 0 ∧ kvGet (t.rx j i).symbols w 0 = 544))
    ∧ (∀ word units, word.plane = w → word.decodes = false →
      Completes (.creditReturn at_ i j word units) s (fun t => kvGet (t.rx j i).nack w false = true
        ∧ kvGet (t.rx j i).symbols w 0 = kvGet (u.rx j i).symbols w 0 + 544 ∧ (t.rx j i).taken = (u.rx j i).taken))
    ∧ (∀ ack n, l.position w ack = some n → (l.ack w ack).buffer w = (l.buffer w).drop (n + 1)
        ∧ ∀ x, x ≠ w → (l.ack w ack).buffer x = l.buffer x)
    ∧ (∀ k b, b ∈ (kvGet u.spSites j SpSite.fresh).blocks → b.seq = k →
        Completes (.spResendRequest at_ i j k) s (fun t => t.base = { u.base with spResent := u.base.spResent + 1 }
          ∧ (∃ c ∈ (kvGet t.spSites j SpSite.fresh).blocks, c.seq = k ∧ c.msg = b.msg ∧ c.sent = b.sent + 1 ∧ c.buses = u.busesOf j)))
    ∧ (kvGet u.base.busOut i 0 = 1 → u.base.spDegraded.getLsbD i = false →
        Completes (.spBusLoss at_ i 1) s (fun t => t.base.spDegraded = u.base.spDegraded ||| (1#23 <<< i)
          ∧ kvGet t.base.busOut i 0 = 3 ∧ t.log.count = u.log.count + 1))
    ∧ (w ∈ p.planes → p.spare = 0 → w ≠ sparePlane i j → p.calibrating = none → 2 ≤ p.planes.length → u.base.calSuspended = false →
        p.anyOut (sparePlane i j) = false → u.ringOut i = false → u.pairFaultNow i j = false →
        u.commitNear 1 (txRing i j w) = false →
        Completes (.standIn at_ i j w) s (fun t => t.linkPair i j =
          { p with planes := p.planes.map (fun x => if x = w then sparePlane i j else x), standFor := some w, spare := 1, rot := !p.rot,
                   calibrating := some w } ∧ t.base.calBegan = some u.now ∧ t.log = u.log))
    ∧ (w ∈ p.planes → p.spare = 0 → w ≠ sparePlane i j → p.calibrating = none → l.orphans = [] →
        (l.buffer (sparePlane i j)).length + (l.buffer w).length ≤ replayDepth →
        Completes (.lockLoss at_ i j w) s (fun t => t.linkPair i j =
            { p with planes := p.planes.map (fun x => if x = w then sparePlane i j else x), standFor := some w, spare := 1, rot := !p.rot,
                     faultAt := some u.now }
          ∧ (t.line i j).buffer w = []
          ∧ ((t.line i j).buffer (sparePlane i j)).length = (l.buffer (sparePlane i j)).length + (l.buffer w).length ∧ t.log = u.log))
    ∧ (w ∉ p.dead → w ∉ p.planes → w ≠ sparePlane i j → p.standFor = some w → sparePlane i j ∈ p.planes →
        (∀ o, o < 5 → o ≠ sparePlane i j → o ≠ w → o ∈ p.planes) →
        Completes (.wavelengthReturn at_ i j w) s (fun t => w ∈ (t.linkPair i j).planes ∧ (t.linkPair i j).spare = 0
          ∧ (t.linkPair i j).standFor = none ∧ (t.linkPair i j).rot = !p.rot ∧ (t.linkPair i j).planes.length = p.planes.length))
    ∧ (w ∉ p.dead → w ∈ p.planes → p.spare = 0 → w ≠ sparePlane i j → p.calibrating = none → u.base.commitSt ≠ 1 →
        u.base.commitChecks = [] →
        Completes (.wavelengthPermanentFault at_ i j w) s (fun t => w ∈ (t.linkPair i j).dead ∧ (t.linkPair i j).spare = 2
          ∧ (t.linkPair i j).permFaults = p.permFaults + 1 ∧ (t.linkPair i j).planes.length = p.planes.length
          ∧ (t.line i j).buffer w = [] ∧ t.log.count = u.log.count + 1))
    ∧ (∀ q : Packet, 1 ≤ q.type → q.type ≤ 8 → cdiv q.data.length 64 = q.len →
        parseUnits 1 (packetUnits q) = ([.bulk q.hdr (packetUnits q).tail], []))
    ∧ (∀ b c, b < 4096 → c < 256 → parseUnits 1 [creditUnit b c] = ([.credit b c], []))
    ∧ (∀ x y f, parseUnits 1 [controlUnit x y f] = ([.control (controlUnit x y f)], []))

/-- R252 to R256, R275: comb lasers that fade or lose their light, and the windows in which a plane moves to a spare module. -/
def Obligations.LaserAndPlaneCommandsComplete : Prop :=
  ∀ s at_ m u, u = s.advance at_ → m < u.base.lasers.length →
    (∀ out drive, (u.laser m).st = 1 → out < -50 →
      Completes (.fadeLevelA at_ m out drive) s (fun t =>
        t.laser m = { u.laser m with output := out, st := 2, drive := max (u.laser m).drive (min 1000 drive) } ∧ t.log = u.log))
    ∧ (∀ out, 8 ≤ m → (u.laser m).st = 2 → u.levelB m out = true →
      Completes (.fadeLevelB at_ m out) s (fun t => t.laser m = { u.laser m with output := out, st := 3, since := u.now }
        ∧ t.log.count = u.log.count + 1))
    ∧ (m < 8 → u.spareModule m = none → (u.laser m).st = 3 →
      Completes (.fadeLevelC at_ m) s (fun t => ∀ w ∈ u.base.planesOf m, t.base.planeSt.getD w 2 = 2))
    ∧ (∀ new, m < 8 → (u.laser m).st = 1 → u.spareModule m = some new →
      Completes (.lossOfLight at_ m) s (fun t => (t.laser m).st = 5 ∧ (t.laser new).st = 1
        ∧ t.base.linkMap = u.base.linkMap.map (fun k => if k = m then new else k)))
    ∧ (∀ w, w < u.base.planeSt.length → u.base.linkMap.getD w 99 = m → u.base.window = none → u.base.windowQueue.head? = some w →
      u.spareModule m ≠ none → u.calQuiet = true →
      Completes (.planeCalibrationWindow at_ w) s (fun t => t.base.window = some (w, u.now) ∧ t.base.calSuspended = true
        ∧ t.base.planeSt.getD w 9 = 1 ∧ w ∉ t.base.windowQueue))
    ∧ (∀ w tick new, w < 5 → u.base.linkMap.getD w 99 = m → m < 8 → u.base.window = some (w, tick) → u.spareModule m = some new → new ≠ m →
      (∀ x ∈ u.allPairs, (u.line x.1 x.2).buffer w = []) →
      Completes (.planeSwitch at_ w) s (fun t => t.base.linkMap = u.base.linkMap.map (fun k => if k = m then new else k)
        ∧ (t.laser m).st = 4 ∧ (t.laser new).st = 1))

/-- R244, R248, R249: a routing switch is armed for a tick, happens at the first tick at or after it, and drains; the host copies the
active bank.
R248: arming a switch for a tick less than 100,000 tk ahead, while one is armed, or while the old bank drains, is aborted and
changes nothing but the dictionary. -/
def Obligations.RoutingSwitchCommandsComplete : Prop :=
  ((∀ s at_ tick u, u = s.advance at_ → u.Serves 0x5100 → u.now + 100000 ≤ tick → u.base.switchSt = 0 → u.routingConflict = false →
      Completes (.routingSwitchArm at_ tick) s (fun t => t.base = { u.base with switchTick := tick, switchSt := 1 } ∧ t.AccessDone))
    ∧ (∀ s at_ u, u = s.advance at_ → u.base.switchSt = 1 → u.base.switchTick ≤ u.now →
      Completes (.routingSwitch at_) s (fun t => t = { u with base := { u.base with activeB := !u.base.activeB, switchSt := 2 } }))
    ∧ (∀ s at_ u, u = s.advance at_ → u.base.switchSt = 2 → (∀ k, k < 23 → u.drainCount k = 0) →
      Completes (.oldBankDrained at_) s (fun t => t = { u with base := { u.base with switchSt := 0 } }))
    ∧ (∀ s at_ u, u = s.advance at_ → u.Serves 0x5100 → u.base.switchSt ≠ 2 →
      Completes (.copyActiveToInactive at_ 1) s (fun t => t.AccessDone ∧ ∀ e, t.routingEntry true e = u.routingEntry u.base.activeB e
        ∧ t.routingEntry false e = u.routingEntry u.base.activeB e)))
  ∧ (∀ s at_ tick u, u = s.advance at_ → u.Serves 0x5100 →
      (tick < u.now + 100000 → Completes (.routingSwitchArm at_ tick) s (fun t => t.AccessAborted 0x05510007 ∧ t = { u with dict := t.dict }))
      ∧ (u.now + 100000 ≤ tick → u.base.switchSt = 1 →
          Completes (.routingSwitchArm at_ tick) s (fun t => t.AccessAborted 0x05510003 ∧ t = { u with dict := t.dict }))
      ∧ (u.now + 100000 ≤ tick → u.base.switchSt = 2 →
          Completes (.routingSwitchArm at_ tick) s (fun t => t.AccessAborted 0x05510008 ∧ t = { u with dict := t.dict })))

/-- R223: the spare plane of an ordered pair is (i + j) mod 5, in both directions; the pair's other four data planes, in plane order, are
its active ones, each with a wavelength of the pair. R239: a wavelength that leaves is replaced by the spare, so that four different
planes stay in rotation; when it returns the rotation is as it was. -/
def Obligations.SparePlaneKeepsFourInRotation : Prop :=
  ∀ i j, sparePlane i j = (i + j) % 5 ∧ sparePlane j i = sparePlane i j
    ∧ (∀ p, p ∈ (Pair.fresh i j).planes ↔ p < 5 ∧ p ≠ sparePlane i j) ∧ (Pair.fresh i j).planes.Pairwise (· < ·)
    ∧ (Pair.fresh i j).planes.length = 4 ∧ (Pair.fresh i j).spare = 0
    ∧ ∀ w st, w ∈ (Pair.fresh i j).planes → st ≤ 2 →
      ((Pair.fresh i j).leave (sparePlane i j) w st).planes.length = 4 ∧ ((Pair.fresh i j).leave (sparePlane i j) w st).planes.Nodup
      ∧ w ∉ ((Pair.fresh i j).leave (sparePlane i j) w st).planes
      ∧ (((Pair.fresh i j).leave (sparePlane i j) w 1).rejoin (sparePlane i j) w).planes = (Pair.fresh i j).planes

/-! ## Weight banks and calibration (chapter 09) -/

/-- R275, R277, R278, R285, R286: weight-bank combs, feed-forward, heater ramps and background steps. -/
def Obligations.CalibrationStepsComplete : Prop :=
  (∀ s at_ feed new u, u = s.advance at_ → feed < 8 → feed < u.base.feedMap.length → u.feedModule feed < u.base.lasers.length →
    (u.laser (u.feedModule feed)).st = 3 → u.spareModule (u.feedModule feed) = some new → 8 ≤ u.feedModule feed →
    (u.tower (2 * feed)).opticalQueued = false → (u.tower (2 * feed + 1)).opticalQueued = false →
    Completes (.weightCombSwitch at_ feed false) s (fun t => t.feedModule feed = new ∧ (t.laser (u.feedModule feed)).st = 4
      ∧ (t.laser new).st = 1 ∧ SameMemory u t))
  ∧ (∀ s at_ field temp u, u = s.advance at_ → field < u.base.feedFwd.length →
    Completes (.feedForwardStep at_ field temp) s (fun t => t.base.feedFwd[field]? = some temp
      ∧ (∀ k, k ≠ field → t.base.feedFwd[k]? = u.base.feedFwd[k]?) ∧ t = { u with base := { u.base with feedFwd := t.base.feedFwd } }))
  ∧ (∀ s at_ field h u, u = s.advance at_ → u.base.heaterOff[field]? = some h →
    Completes (.heaterRamp at_ field) s (fun t => t.base.heaterOff[field]? = some (
        if h < bandOffset (u.power.fieldBand.getD field 0) then h + 1
        else if bandOffset (u.power.fieldBand.getD field 0) < h then h - 1 else h)
      ∧ t = { u with base := { u.base with heaterOff := t.base.heaterOff } }))
  ∧ (∀ s at_ index k u, u = s.advance at_ → index / 256 < u.base.bankSets.length → channelExists 3 index = true →
    u.base.calSuspended = false → (u.calChannel 3 index).busy = false → u.commitNear 3 index = false → u.stepDue (u.calChannel 3 index) = true →
    (u.bankSet (index / 256)).banks[index % 256]? = some k → k.inService = true →
    (u.bankSet (index / 256)).banks.any (·.calibrating) = false → u.bankIdle (index / 256) (index % 256) = true →
    Completes (.calibrationStep at_ 3 index) s (fun t => (t.calChannel 3 index).busy = true
      ∧ (t.bankSet (index / 256)).banks[index % 256]? = some { k with calibrating := true }
      ∧ (t.calChannel 3 index).active = (u.calChannel 3 index).active ∧ SameMemory u t))
  ∧ (∀ s at_ index result k u, u = s.advance at_ → index / 256 < u.base.bankSets.length → channelExists 3 index = true →
    result.length + 32 = setLength 3 → u.commitDue 3 index = false → (u.calChannel 3 index).busy = true → u.base.engineTick ≠ some u.now →
    (u.bankSet (index / 256)).banks[index % 256]? = some k →
    Completes (.calibrationStepEnd at_ 3 index result) s (fun t => (t.calChannel 3 index).active = u.captureSet 3 index result
      ∧ (t.calChannel 3 index).prev = (u.calChannel 3 index).active ∧ (t.calChannel 3 index).busy = false
      ∧ t.base.stepsDone = u.base.stepsDone + 1
      ∧ (t.bankSet (index / 256)).banks[index % 256]? = some { k with image := none, calibrating := false }))

/-- R281 to R284: a coefficient set is written to the shadow, armed, applied whole in one tick, and verified.
R290, R291, R319: applying a window whose description passes every check puts the window in force, and every byte of it reads
zero. `w` is the window that D:6001.01 to D:6001.06 describe, on the site of its EID. -/
def Obligations.RestoreAndApplyComplete : Prop :=
  ((∀ s at_ b kind index u, u = s.advance at_ → u.Serves 0x8400 → u.calWindow = (kind, index) → b.length = setLength kind →
      leAt b 28 4 = setCrc b → leAt b 0 4 = u.ident.bind → setReserved kind b = false → u.channelAbsent kind index = false →
      u.base.commitSt ≠ 1 → leAt b 4 1 = kind → leAt b 8 4 = index →
      Completes (.shadowSetWrite at_ b) s (fun t => t.calChannel kind index = { u.calChannel kind index with shadow := some b }
        ∧ (∀ k i, (k, i) ≠ (kind, index) → t.calChannel k i = u.calChannel k i) ∧ t.base = { u.base with cal := t.base.cal } ∧ t.AccessDone))
    ∧ (∀ s at_ tick kind index u, u = s.advance at_ → u.Serves 0x8400 → u.now + 10000 ≤ tick → u.base.commitSt ≠ 1 →
      u.calWindow = (kind, index) → (u.calChannel kind index).shadow.isSome = true →
      Completes (.commitArm at_ tick) s (fun t => t.AccessDone
        ∧ t.base = { u.base with commitTick := tick, commitSt := 1, commitKind := kind, commitIndex := index }))
    ∧ (∀ s at_ u, u = s.advance at_ → u.commitReady = true →
      Completes (.coefficientCommit at_) s (fun t => t.base.commitSt = 2 ∧ t.base.appliedTick = u.now
        ∧ some (t.calChannel u.base.commitKind u.base.commitIndex).active = (u.calChannel u.base.commitKind u.base.commitIndex).shadow
        ∧ (t.calChannel u.base.commitKind u.base.commitIndex).prev = (u.calChannel u.base.commitKind u.base.commitIndex).active
        ∧ (u.base.commitKind, u.base.commitIndex) ∈ t.base.commitChecks ∧ t.log.vecP.getLsbD 0 = true ∧ SameMemory u t))
    ∧ (∀ s at_ kind index rest u, u = s.advance at_ → u.base.commitChecks = (kind, index) :: rest →
      Completes (.commitVerify at_ true) s (fun t => t.base.restoresOk = u.base.restoresOk + 1 ∧ t.base.commitChecks = rest
        ∧ (t.calChannel kind index).busy = false ∧ (t.calChannel kind index).active = (u.calChannel kind index).active))
    ∧ (∀ s at_ kind index rest u, u = s.advance at_ → u.base.commitChecks = (kind, index) :: rest →
      Completes (.commitVerify at_ false) s (fun t => t.base.restoresBad = u.base.restoresBad + 1 ∧ t.base.commitChecks = rest
        ∧ t.base.commitSt = (if u.base.commitSt = 1 then 1 else 3)
        ∧ (t.calChannel kind index).active = (u.calChannel kind index).prev ∧ t.log.count = u.log.count + 1)))
  ∧ (∀ s at_ u k w, u = s.advance at_ → u.Serves 0x6001 → u.eidSite (u.held 0x600101 0x20) = some k → w = u.windowHeld k →
      (∀ p ∈ u.pkgs, p.uses w.eid = false) → (∀ x ∈ u.mem.windows, ¬(x.eid = w.eid ∧ x.space = w.space) → w.overlaps x = false) →
      0 < w.len → w.base + w.len ≤ poolPages k w.space → (w.space = 1 ∨ w.space = 2 ∨ w.space = 5) → (w.space = 5 → w.frames ≠ 0) →
      (w.space = 2 → w.frames = 0) → (w.park = true → w.space = 2) →
      (∀ x ∈ (u.tower k).withdrawnPages, ¬(x.1 = (if w.space = 2 then 2 else 1) ∧ w.base ≤ x.2 ∧ x.2 < w.base + w.len)) →
      Completes (.applyWindow at_ 1) s (fun t => t.window? w.eid w.space = some w ∧ t.AccessDone
        ∧ (w.space ≠ 2 → ∀ b, b < w.len * 65536 → t.memByte (sramKey k w.base b) = 0)
        ∧ (∀ eid space, ¬(eid = w.eid ∧ space = w.space) → t.window? eid space = u.window? eid space)))

/-! ## Memory (chapter 10) -/

/-- R293, R296, R297, R300 to R302: bursts resent, wires replaced, channels narrowed, clocks and retiming changed. `k` is the channel
before the command. -/
def Obligations.VerticalChannelCommandsComplete : Prop :=
  ∀ s at_ t l c u k, u = s.advance at_ → t < 20 → t < u.towers.length → (u.tower t).hasChannel l c = true → k = (u.tower t).channel l c →
    (∀ good, k.attempts < 4 → k.width ≠ 0 →
      Completes (.burstRetry at_ t l c good) s (fun v =>
        (v.tower t).channel l c = { k with retries := k.retries + 1, attempts := if good then 0 else k.attempts + 1 }
        ∧ v.log = u.log ∧ OtherTowersSame t u v ∧ SameMemory u v))
    ∧ (∀ wire ok, wire < 1056 → u.towerFalls t = false → k.width = 1024 → k.spares.length < 32 →
      Completes (.wireFailure at_ t l c wire ok) s (fun v => (v.tower t).channel l c =
          { k with failed := k.failed + 1, spares := k.spares ++ [wire], gen := (k.gen + 1) % 65536, attempts := 0 }
        ∧ v.log.count = u.log.count + 1 ∧ OtherTowersSame t u v ∧ SameMemory u v))
    ∧ (∀ wire, wire < 1056 → u.towerFalls t = false → k.width = 1024 → 32 ≤ k.spares.length → k.failed < 544 →
      Completes (.wireFailure at_ t l c wire true) s (fun v => ((v.tower t).channel l c).width = 512
        ∧ ((v.tower t).channel l c).gen = (k.gen + 1) % 65536 ∧ v.log.count = u.log.count + 1 ∧ OtherTowersSame t u v))
    ∧ (∀ wire, wire < 1056 → u.towerFalls t = false → k.width ≠ 0 → 32 ≤ k.spares.length →
      Completes (.wireFailure at_ t l c wire false) s (fun v => ((v.tower t).channel l c).width = 0 ∧ v.log.count = u.log.count + 1))
    ∧ (∀ r g h, r % 2 = 0 → (u.tower t).regions[r]? = some g → g.st = .lost → (u.tower t).regions[r + 1]? = some h → h.st ≠ .lost →
      Completes (.channelClockChange at_ t r) s (fun v => (∀ q ∈ (v.tower t).regions, q.clock = r → False)
        ∧ (v.tower t).regions.length = (u.tower t).regions.length ∧ OtherTowersSame t u v))
    ∧ (k.attempts = 0 → Completes (.bandChange at_ t l c) s (fun v =>
        (v.tower t).channel l c = { k with retiming := if (u.tower t).band < 2 then 1 else 2 } ∧ OtherTowersSame t u v))

/-- R303 to R305: the course of a layer reset: fenced and draining, off for 10,000 tk, on and training, trained and lifted; past the
drain limit the transfers still outstanding end poisoned.
R306, R308: refresh, MR4 polling and WCK2DQ retraining of a stack in service. The rate that an MR4 value requires is the free value
`Config.mr4Rate` (log 1). -/
def Obligations.LayerAndStackCommandsComplete : Prop :=
  (∀ s at_ t u x, u = s.advance at_ → t < 20 → t < u.towers.length → x = u.tower t →
      (∀ k, u.Serves 0x6003 → 1 ≤ k → k ≤ x.layers → u.holdsBooked t = false → x.group = none → x.resetState = .idle → x.layerReset = .idle →
        x.fence = false →
        Completes (.layerResetRequest at_ (8 * t + k) false) s (fun v => (v.tower t).layerReset = .draining ∧ (v.tower t).layerNo = k
          ∧ (v.tower t).layerTick = u.now + 100000 ∧ (v.tower t).fence = true ∧ (v.tower t).fenceCause = 2 ∧ v.AccessDone
          ∧ OtherTowersSame t u v))
      ∧ (x.layerReset = .draining → 1 ≤ x.layerNo → x.layerNo ≤ 4 →
        Completes (.layerDrainComplete at_ t) s (fun v => (v.tower t).layerReset = .off ∧ (v.tower t).layerTick = u.now + 10000
          ∧ (v.tower t).gates.getLsbD (x.layerNo - 1) = false ∧ OtherTowersSame t u v ∧ SameMemory u v))
      ∧ (x.layerReset = .draining → x.layerTick ≤ u.now →
        Completes (.layerResetForced at_ t) s (fun v => (v.tower t).layerReset = .forced
          ∧ (v.tower t).running = x.running.filter (fun c => !x.holdsTransfer c)
          ∧ (v.tower t).queue = (x.running.filter x.holdsTransfer).map Chunk.restart ++ x.queue
          ∧ v.mem.poisonedTransfers = u.mem.poisonedTransfers + (x.running.filter x.holdsTransfer).length ∧ SameMemory u v))
      ∧ (x.layerReset = .off → x.layerTick ≤ u.now → 1 ≤ x.layerNo → x.layerNo ≤ 4 →
        Completes (.layerPowerOn at_ t) s (fun v => (v.tower t).layerReset = .training ∧ (v.tower t).gates.getLsbD (x.layerNo - 1) = true
          ∧ ∀ l c, l < x.layerNo → c < 32 → ((v.tower t).channel (l + 1) c).trained = false))
      ∧ (x.layerReset = .training → x.layerQueue = [] → x.fenceCause = 2 →
        Completes (.layerTrained at_ t ⟨[], []⟩) s (fun v => (v.tower t).layerReset = .idle ∧ (v.tower t).fence = false
          ∧ (∀ l c, l < x.layerNo → c < 32 → ((v.tower t).channel (l + 1) c).trained = true) ∧ v.log.vecP.getLsbD 0 = true
          ∧ SameMemory u v)))
  ∧ (∀ s at_ m u k, u = s.advance at_ → u.mem.dram[m]? = some k → k.st = 1 →
      Completes (.refresh at_ m) s (fun t => t = { u with mem := { u.mem with dram := t.mem.dram } } ∧ t.mem.dram[m]? = some { k with
          refreshes := k.refreshes + 1
          refresh := max (bandRefresh (u.power.fieldBand.getD (8 + m / 2) 0)) (Config.mr4Rate k.mr4) })
      ∧ (∀ v, v < 256 → Completes (.mr4Poll at_ m v) s (fun t => t = { u with mem := { u.mem with dram := t.mem.dram } }
          ∧ t.mem.dram[m]? = some { k with mr4 := v }))
      ∧ Completes (.wck2dqRetraining at_ ⟨m, none⟩) s (fun t => t = { u with mem := { u.mem with dram := t.mem.dram } }
          ∧ t.mem.dram[m]? = some { k with retrainings := k.retrainings + 1 })
      ∧ (∀ c, m < 8 → c < 16 → c ∉ k.failed → Completes (.wck2dqRetraining at_ ⟨m, some c⟩) s (fun t =>
          t.mem.dram[m]? = some { k with retrainings := k.retrainings + 1, failed := insertNat k.failed c
                                         st := if 15 ≤ k.failed.length then 3 else 2 } ∧ t.log.count = u.log.count + 1)))

/-! ## Memory integrity (chapter 11) -/

/-- R321, R323 to R327: patrol, remap, retirement and the checker test. The checker's verdict on octets written raw is
`Config.checkerStatus` (log 1).
R325, R319: with no reserve page left a page is withdrawn: every byte of it reads zero, the retirement is recorded and the log
copies it. -/
def Obligations.IntegrityCommandsComplete : Prop :=
  ((∀ s at_ t l c u k, u = s.advance at_ → 1 ≤ l → t < 20 → t < u.towers.length → (u.tower t).hasChannel l c = true →
      (u.tower t).layerReset = .idle → (u.tower t).retireState ≠ .copying → k = (u.tower t).channel l c → k.width ≠ 0 →
      k.patrol + 1 < 256 * channelPages (u.tower t).isCache l c →
      Completes (.patrolVisit at_ t l c [] 0) s (fun v => (v.tower t).channel l c = { k with patrol := k.patrol + 1 }
        ∧ v.mem = u.mem ∧ v.log = u.log ∧ OtherTowersSame t u v)
      ∧ (∀ off n key, key = sramKey t (channelPage (u.tower t).isCache l c (k.patrol / 256)) (k.patrol % 256 * 256) + off → off < 256 → 3 ≤ n →
          u.mem.isValid key = true → poisonKey key ∉ u.mem.poison →
          Completes (.patrolVisit at_ t l c [⟨off, .symbols n⟩] 0) s (fun v => poisonKey key ∈ v.mem.poison
            ∧ v.mem.logCount = u.mem.logCount + 1 ∧ SameMemory u v)))
    ∧ (∀ s at_ t unit bank word u l, u = s.advance at_ → t < 20 → t < u.towers.length → unit ≤ 33 →
      l = kvGet (u.tower t).remaps (remapKey unit bank) [] →
      (l.length < 8 → Completes (.remap at_ t unit bank ⟨word, .wrongAfterRewrite⟩) s (fun v =>
        kvGet (v.tower t).remaps (remapKey unit bank) [] = l ++ [word] ∧ (v.tower t).remapUsed = (u.tower t).remapUsed + 1
        ∧ v.mem.logCount = u.mem.logCount + 1 ∧ SameMemory u v ∧ OtherTowersSame t u v))
      ∧ (l.length < 8 → (u.tower t).fixedLately (remapKey unit bank) word u.now = true →
        Completes (.remap at_ t unit bank ⟨word, .corrected⟩) s (fun v =>
        kvGet (v.tower t).remaps (remapKey unit bank) [] = l ++ [word] ∧ (v.tower t).remapUsed = (u.tower t).remapUsed + 1
        ∧ (v.tower t).smallFixed = (u.tower t).smallFixed + 1 ∧ v.mem.logCount = u.mem.logCount + 1 ∧ SameMemory u v ∧ OtherTowersSame t u v))
      ∧ ((u.tower t).fixedLately (remapKey unit bank) word u.now = false → Completes (.remap at_ t unit bank ⟨word, .corrected⟩) s (fun v =>
        (v.tower t).remaps = (u.tower t).remaps ∧ (v.tower t).smallFixed = (u.tower t).smallFixed + 1
        ∧ (v.tower t).fixedLately (remapKey unit bank) word u.now = true ∧ v.mem = u.mem ∧ OtherTowersSame t u v))
      ∧ (unit < 16 → bank / 16 < 17 → Completes (.remap at_ t unit bank ⟨word, .uncorrectable⟩) s (fun v =>
        exec (.tileFault at_ t unit (bank / 16)) s = .next v)))
    ∧ (∀ s at_ u t page, u = s.advance at_ → u.Serves 0x6200 → t = u.held 0x620001 0 → u.held 0x620002 1 = 1 → page = u.held 0x620003 0 →
      t < u.towers.length → page < towerPages (u.tower t).isCache → page ∉ (u.tower t).replacedPages →
      (1, page) ∉ (u.tower t).withdrawnPages → (u.tower t).retireState ≠ .copying → (u.tower t).layerReset = .idle →
      (u.tower t).resetState = .idle → ((u.tower t).withdrawnPages.filter (fun w => w.1 == 1)).length < 1024 →
      (u.tower t).reserveOf page < 8 →
      Completes (.retire at_ 1) s (fun v => (v.tower t).retireState = .copying ∧ (v.tower t).retirePage = page
        ∧ (v.tower t).reserveOf page = (u.tower t).reserveOf page + 1 ∧ SameMemory u v ∧ v.AccessDone))
    ∧ (∀ s at_ u, u = s.advance at_ → u.Serves 0x6101 → u.testRange = false →
      (u.testSel.1 = 1 → ((u.heldBytes 0x610106 []).drop 32).any (· != 0) = false ∧ (u.tower u.testSel.2.1).layerReset = .idle) →
      (u.testSel.1 = 2 → (u.mem.dram.getD u.testSel.2.1 Stack.fresh).st = 1) →
      Completes (.testWriteRaw at_) s (fun v => v.testRow = (u.testData, u.heldBytes 0x610107 [0, 0, 0, 0]) ∧ SameMemory u v
        ∧ v.log = u.log ∧ v.mem.log = u.mem.log ∧ v.AccessDone)
      ∧ Completes (.testReadChecker at_) s (fun v => v.mem.testStatus = Config.checkerStatus u.testRow.1 u.testRow.2 % 4
        ∧ SameMemory u v ∧ v.log = u.log ∧ v.mem.log = u.mem.log ∧ v.AccessDone)))
  ∧ (∀ s at_ u t page, u = s.advance at_ → u.Serves 0x6200 → t = u.held 0x620001 0 → u.held 0x620002 1 = 1 → page = u.held 0x620003 0 →
      t < u.towers.length → page < towerPages (u.tower t).isCache → page ∉ (u.tower t).replacedPages →
      (1, page) ∉ (u.tower t).withdrawnPages → (u.tower t).retireState ≠ .copying → (u.tower t).layerReset = .idle →
      (u.tower t).resetState = .idle → ((u.tower t).withdrawnPages.filter (fun w => w.1 == 1)).length < 1024 →
      8 ≤ (u.tower t).reserveOf page →
      Completes (.retire at_ 1) s (fun v => (1, page) ∈ (v.tower t).withdrawnPages ∧ (v.tower t).retireState = .withdrawn
        ∧ (∀ b, b < 65536 → v.memByte (sramKey t page b) = 0) ∧ v.pageOk t page = false
        ∧ v.mem.logCount = u.mem.logCount + 1 ∧ v.log.count = u.log.count + 1 ∧ v.AccessDone))

/-! ## Phase groups, packages and loads (chapters 12, 20) -/

/-- R331 to R334, R343, R533 to R536: a group applied, a package removed, and the commands of a load.
R534, R536: what a load may not do while another is open, without a package to restore, or with one already placed: the abort says
so and nothing but the dictionary changes. -/
def Obligations.GroupAndLoadCommandsComplete : Prop :=
  ((∀ s at_ u g kind mask, u = s.advance at_ → u.Serves 0x4000 → g = u.groupSel → g < u.groups.length → 20 ≤ u.towers.length →
      kind = u.held (groupKindKey g) 0 → mask = u.held (groupMaskKey g) 0 → u.groupBound g = false →
      (∀ t ∈ maskTowers mask, kindAllows kind t = true ∧ ((u.tower t).group = some g ∨ (u.tower t).group = none)
        ∧ ((u.groups.getD g Group.fresh).members.getLsbD t = true ∨ (u.tower t).mode = .ready)) →
      (∀ t ∈ maskTowers (u.groups.getD g Group.fresh).members.toNat, bit mask t = false → u.groupNames g t = false) →
      Completes (.groupApply at_ 1) s (fun v => v.AccessDone
        ∧ v.groups[g]? = some { kind, members := BitVec.ofNat 20 mask, unbooked := u.held (groupFlagKey g) 1 != 0 }
        ∧ (∀ t ∈ maskTowers mask, (u.groups.getD g Group.fresh).members.getLsbD t = false →
            (v.tower t).group = some g ∧ ((u.tower t).reload = [] → (v.tower t).mode = .active))
        ∧ (∀ t ∈ maskTowers (u.groups.getD g Group.fresh).members.toNat, bit mask t = false →
            (v.tower t).group = none ∧ (v.tower t).records = (u.tower t).records)))
    ∧ (∀ s at_ u p, u = s.advance at_ → u.Serves 0x4001 → u.pkg? u.modelSel = some p → p.st = 2 →
      Completes (.remove at_ 1) s (fun v => v.pkg? u.modelSel = some { p with st := 4, tick := u.now } ∧ v.AccessDone))
    ∧ (∀ s at_ m u p, u = s.advance at_ → u.pkg? m = some p → p.st = 4 → u.recordsOf m = 0 →
      Completes (.packageRemovalComplete at_ m) s (fun v => v.pkg? m = none ∧ ∀ k, k ≠ m → v.pkg? k = u.pkg? k))
    ∧ (∀ s at_ u, u = s.advance at_ → u.Serves 0x4002 → u.load.open_ = false → u.held 0x400202 1 = 1 → u.pkg? (u.held 0x400201 0) = none →
      Completes (.openLoad at_ 1) s (fun v => v.AccessDone ∧ v.load.open_ = true ∧ v.load.st = 1 ∧ v.load.target = 1
        ∧ v.load.model = u.held 0x400201 0 ∧ v.load.bytes = 0 ∧ v.load.segs = 0 ∧ v.load.body = []))
    ∧ (∀ s at_ u trailer eid hdr payload w k, u = s.advance at_ → u.Serves 0x4002 → u.load.open_ = false → u.held 0x400202 1 = 1 →
      u.pkg? (u.held 0x400201 0) = none → eid = u.held 0x400203 0 → u.window? eid 2 = some w → w.park = true →
      u.mem.parked.filter (fun p => p.1 == eid) = [(eid, hdr, payload)] → u.vault.slot? kindModel (hdrModel hdr) (hdrEpoch hdr) = some k →
      field hdr.toNat 191 128 = 1 → field hdr.toNat 319 256 = 0 → bit hdr.toNat 8 = false → payload.length < 256 →
      Completes (.placeFromPark at_ 1 trailer true) s (fun v => v.AccessDone ∧ v.load.open_ = true ∧ v.load.segs = 1
        ∧ v.load.bytes = payload.length ∧ v.load.body = payload ∧ v.load.st = 2 ∧ SameMemory u v))
    ∧ (∀ s at_ u, u = s.advance at_ → u.Serves 0x4002 → u.load.open_ = true →
      Completes (.cancelLoad at_ 1) s (fun v => v.AccessDone ∧ v.load.open_ = false ∧ v.load.st = 5
        ∧ kvHas v.loadStatus u.load.model = true ∧ u.dict.abortCount < v.dict.abortCount ∧ v.log.vecP.getLsbD 0 = true)))
  ∧ (∀ s at_ u, u = s.advance at_ → u.Serves 0x4002 →
      (u.load.open_ = true → Completes (.openLoad at_ 1) s (fun v => v.AccessAborted 0x05400203 ∧ v = { u with dict := v.dict }))
      ∧ (u.load.open_ = false → u.held 0x400202 1 = 1 → u.pkg? (u.held 0x400201 0) ≠ none →
          Completes (.openLoad at_ 1) s (fun v => v.AccessAborted 0x05400104 ∧ v = { u with dict := v.dict }))
      ∧ (u.load.open_ = false → Completes (.cancelLoad at_ 1) s (fun v => v.AccessAborted 0x05400204 ∧ v = { u with dict := v.dict })))

/-! ## Ports and frames (chapter 13) -/

/-- R356, R357, R384: the header of a G or B frame that passes every check takes its SEQ, holds a reference on its key, and the request
waits for its decision. -/
def Obligations.RequestHeaderIsHeldForDecision : Prop :=
  ∀ s at_ f u cls c, u = s.advance at_ → (cls = 1 ∨ cls = 2) → u.TakesHeader f cls → u.pair.mode = .unbound → f.claim ≤ u.pair.claim →
    check4 f (u.seenSlots kindTenant f.tenant) = false → check5 f.kepoch (u.seenSlots kindTenant f.tenant) = false →
    u.checks6to11 f = 0 → u.now < f.tick → u.fencedNow f.tenant = false → u.takenBelow f = false →
    (u.pkg? f.model).bind (fun p => p.shape? f.word) = some c →
    Completes (if cls = 1 then .gFrame at_ f else .bFrame at_ f) s (fun v =>
      newReq f u.now .pending c ∈ v.ledger.reqs ∧ v.ledger.reqs.length = u.ledger.reqs.length + 1
      ∧ (v.seqState f.tenant).high = max (u.seqState f.tenant).high f.seq ∧ f.seq ∈ (v.seqState f.tenant).taken
      ∧ (v.port f.port).received = (u.port f.port).received + 1
      ∧ (v.port f.port).ingressUsed = (u.port f.port).ingressUsed + f.units ∧ v.ledger.bookings = u.ledger.bookings ∧ SameMemory u v)

/-- R346, R348, R352, R358 to R360, R363, R366 to R368, R452, R534: links, segments, credit, link control and payloads. -/
def Obligations.PortCommandsComplete : Prop :=
  (∀ s at_ x rev pol u, u = s.advance at_ → u.dead = false → x < 4 → x < u.ports.length → (u.port x).st ≠ 4 → (u.port x).lanes = 0xFF →
    Completes (.portLinkUp at_ x rev pol) s (fun v => (v.port x).st = 2 ∧ (v.port x).lanes = 0xFF ∧ (v.port x).reversed = rev
      ∧ (v.port x).polarity = pol ∧ (v.port x).ingressGrant = 65536 ∧ (v.port x).ingressUsed = 0 ∧ (v.port x).egressGrant = 0
      ∧ (u.drives = true → (u.port x).queue = [] → (∀ y, (u.port y).st = 4 → (u.port y).queue = []) → ∃ f ∈ (v.port x).out, f.cls = 15 ∧ f.word / 2 ^ 24 = 1
          ∧ f.payload = leBytes 1 x ++ u.ident.octets)))
  ∧ (∀ s at_ x lane u, u = s.advance at_ → x < 5 → x < u.ports.length → (u.port x).st = 2 → (u.port x).lanes.getLsbD lane = true →
    2 ≤ laneCount ((u.port x).lanes &&& ~~~(1#8 <<< lane)) →
    Completes (.xLaneLost at_ x lane) s (fun v => (v.port x).st = 3 ∧ (v.port x).lanes = ((u.port x).lanes &&& ~~~(1#8 <<< lane))
      ∧ v.log.count = u.log.count + 1))
  ∧ (∀ s at_ f payload trailer u, u = s.advance at_ → u.TakesHeader f 3 → f.claim ≤ u.pair.claim → u.segmentChecks f = 0 →
    payload.length = f.length → u.load.target ≠ 2 → f.seq = u.load.segs + 1 → f.tick = u.load.bytes → f.last = false →
    u.load.body.length + payload.length < 256 →
    Completes (.mFrame at_ f payload true trailer) s (fun v => v.load.bytes = u.load.bytes + payload.length ∧ v.load.segs = u.load.segs + 1
      ∧ v.load.body = u.load.body ++ payload ∧ v.load.st = 2 ∧ v.load.open_ = true ∧ SameMemory u v))
  ∧ (∀ s at_ f u, u = s.advance at_ → u.TakesHeader f 6 → u.time.mode ≠ .unset → f.reservedSet = false →
    Completes (.kFrame at_ f) s (fun v => (v.port f.port).egressGrant = max (u.port f.port).egressGrant f.tick
      ∧ (v.port f.port).received = (u.port f.port).received + 1))
  ∧ (∀ s at_ f didh pref u, u = s.advance at_ → u.TakesHeader f 15 → f.port = 4 → f.subtype = 1 → u.pair.bound = true →
    u.helloBad didh pref = true → u.time.mode ≠ .unset → f.reservedSet = false →
    Completes (.hello at_ f didh pref) s (fun v => v.pair = { u.pair with bindFaults := u.pair.bindFaults + 1 }
      ∧ v.log.count = u.log.count + 1 ∧ (v.port 4).received = (u.port 4).received + 1))
  ∧ (∀ s at_ f didh pref u, u = s.advance at_ → u.TakesHeader f 15 → f.subtype = 1 → u.time.mode ≠ .unset → f.reservedSet = false →
    (f.port = 4 → u.pair.bound = true → u.helloBad didh pref = false) →
    Completes (.hello at_ f didh pref) s (fun v => v = { u with ports := v.ports } ∧ (v.port f.port).received = (u.port f.port).received + 1
      ∧ (v.port f.port).resync = false ∧ ∀ k, k ≠ f.port → v.port k = u.port k))
  ∧ (∀ s at_ f u, u = s.advance at_ → u.TakesHeader f 15 → f.subtype = 2 →
    Completes (.errorNotice at_ f) s (fun v => v = { u with ports := v.ports } ∧ (v.port f.port).received = (u.port f.port).received + 1
      ∧ ∀ k, k ≠ f.port → v.port k = u.port k))
  ∧ (∀ s at_ f st lanes u, u = s.advance at_ → u.TakesHeader f 15 → f.subtype = 3 → u.time.mode ≠ .unset → f.reservedSet = false →
    Completes (.portState at_ f st lanes) s (fun v => v = { u with ports := v.ports } ∧ (v.port f.port).partnerState = st
      ∧ (v.port f.port).partnerLanes = lanes ∧ (v.port f.port).received = (u.port f.port).received + 1))
  ∧ (∀ s at_ x bytes tenant seq r u, u = s.advance at_ → u.dead = false → x < u.ports.length → (u.port x).incoming = some (tenant, seq) →
    tenant ≠ 0 → u.req? tenant seq = some r → r.phase = .pending →
    Completes (.payloadComplete at_ x bytes true) s (fun v => (v.port x).incoming = none
      ∧ v.req? tenant seq = some { r with payload := some bytes, payloadTick := u.now, payloadGood := true }))
  ∧ (∀ s at_ x tenant seq r u, u = s.advance at_ → x < u.ports.length → (u.port x).incoming = some (tenant, seq) →
    (u.port x).lastUnit + u.ledger.unitGap ≤ u.now → u.unitArrives x = false → u.req? tenant seq = some r → r.phase = .pending → r.port = x →
    Completes (.unitGapTimeout at_ x) s (fun v => v.ledger.gapTimeouts = u.ledger.gapTimeouts + 1 ∧ (v.port x).resync = true
      ∧ (v.port x).incoming = none ∧ v.req? tenant seq = some { r with reason := 0x80, buffered := false } ∧ v.log.count = u.log.count + 1))
  ∧ (∀ s at_ x ticks f rest u, u = s.advance at_ → x < u.ports.length → (u.port x).queue = f :: rest → f.cls = 5 →
    (u.port x).covers f = false →
    Completes (.egressCreditStall at_ x ticks) s (fun v => (v.port x).stall = (u.port x).stall + ticks
      ∧ (v.port x).queue = (u.port x).queue ∧ v.log.count = u.log.count + 1))
  ∧ (∀ s at_ f u, u = s.advance at_ → u.dead = false → f.port < 5 → f.port < u.ports.length → (u.port f.port).up = true → f.fault ≠ 0 →
    (u.port f.port).resync = false →
    Completes (.faultyFrameHeader at_ f) s (fun v => (v.port f.port).resync = true ∧ (v.port f.port).incoming = none
      ∧ (v.port f.port).discarded = (u.port f.port).discarded + 1 ∧ (v.port f.port).received = (u.port f.port).received))
  ∧ (∀ s at_ f u, u = s.advance at_ → u.dead = false → f.port < 4 → f.port < u.ports.length → (u.port f.port).up = true →
    (u.port f.port).ingressGrant < (u.port f.port).ingressUsed + f.units →
    Completes (.unitBeyondCredit at_ f) s (fun v => (v.port f.port).resync = true ∧ (v.port f.port).incoming = none
      ∧ (v.port f.port).discarded = (u.port f.port).discarded + 1))

/-- R365: frames waiting on a port stand in the order of the rule, whatever is queued: no frame stands behind one that goes after it. -/
def Obligations.FramesQueueInOrder : Prop :=
  ∀ (p : Port) (now : Nat) (f : OutFrame), p.queue.Pairwise (fun a b => OutFrame.before b a = false) →
    ((p.enqueue now f).queue).Pairwise (fun a b => OutFrame.before b a = false)

/-- R357: a sequence number once taken is refused again; one 1,024 or more below the highest is too old. -/
def Obligations.TakenSequenceIsStale : Prop :=
  ∀ (q : SeqState) n, n ≠ 0 → q.stale n = false →
    (q.take n).stale n = true ∧ (q.take n).high = max q.high n
    ∧ ∀ m, q.stale m = true → (q.take n).stale m = true

/-! ## The ledger (chapter 14) -/

/-- R373, R376, R377, R382, R389, R396, R364 to R366: decisions, slot boundaries, results that leave and promises compared. -/
def Obligations.LedgerCommandsComplete : Prop :=
  (∀ s at_ fetched took u a r p m b pr, u = s.advance at_ →
    a = (u.mapLedger (fun l => { l with engineFree := u.commitTick took })).asDecided → u.dead = false → u.pair.mode = .unbound → u.pair.bound = false →
    u.nextPending = some r → u.req? r.tenant r.seq = some r → u.ledger.engineFree ≤ fetched + 24 → u.pkg? r.model = some p →
    a.assignSlots p r.rec_.towers = some m → a.precondition r true = 0 → r.bestEffort = false → a.search r r.arrival = .at_ b pr →
    r.reason = 0 → r.payload = none → u.vault.tenantFenced r.tenant = false →
    Completes (.admissionDecision at_ fetched took) s (fun v =>
      v.req? r.tenant r.seq = some { r with phase := .accepted, promised := pr, commit := u.commitTick took, base := b, slotMap := m,
                                            bank := u.bankNow, prot := false, here := true }
      ∧ v.ledger.bookings = (u.ledger.book r.tenant r.seq false (r.rec_.needs r.port b)).bookings
      ∧ v.ledger.slots = u.ledger.slots ++ m ∧ v.ledger.refusals = u.ledger.refusals
      ∧ v.ledger.gAccepted = u.ledger.gAccepted + (if r.cls = 1 then 1 else 0) ∧ SameMemory u v))
  ∧ (∀ s at_ fetched took u a r p m, u = s.advance at_ →
    a = (u.mapLedger (fun l => { l with engineFree := u.commitTick took })).asDecided → u.dead = false → u.pair.mode = .unbound →
    u.nextPending = some r → u.req? r.tenant r.seq = some r → u.ledger.engineFree ≤ fetched + 24 → u.pkg? r.model = some p →
    m = a.assignSlots p r.rec_.towers → a.precondition r m.isSome ≠ 0 →
    Completes (.admissionDecision at_ fetched took) s (fun v =>
      (∃ q, v.req? r.tenant r.seq = some q ∧ q.phase = .refused ∧ q.reason = a.precondition r m.isSome)
      ∧ v.ledger.refusals = u.ledger.refusals + 1 ∧ v.ledger.lastReason = a.precondition r m.isSome
      ∧ v.ledger.bookings = u.ledger.bookings ∧ v.ledger.slots = u.ledger.slots ∧ SameMemory u v))
  ∧ (∀ s at_ u, u = s.advance at_ → u.ledger.slot < u.now / 1024 →
    Completes (.slotBoundary at_) s (fun v => v.ledger.slot = u.now / 1024
      ∧ (u.decides = true → v.ledger.bookings = u.ledger.bookings.filter (fun b => decide (u.now / 1024 < b.start + b.len))) ∧ SameMemory u v))
  ∧ (∀ s at_ x f rest r u, u = s.advance at_ → u.dead = false → x < u.ports.length → (u.port x).queue = f :: rest → f.cls = 5 →
    (u.port x).up = true → (u.port x).covers f = true → u.vault.tenantFenced f.tenant = false → u.req? f.tenant f.seq = some r →
    1 < r.framesLeft → u.now ≤ r.promised →
    Completes (.dFrameDeparture at_ x) s (fun v => (v.port x).queue = rest ∧ (v.port x).out = (u.port x).out ++ [f]
      ∧ (v.port x).egressSent = (u.port x).egressSent + f.units
      ∧ v.req? f.tenant f.seq = some { r with framesLeft := r.framesLeft - 1 } ∧ SameMemory u v))
  ∧ (∀ s at_ r u, u = s.advance at_ → u.dead = false → u.pair.mode = .unbound → u.req? r.tenant r.seq = some r → r.phase = .accepted → r.reason = 0 →
    r.lastLeft = false → r.promised < u.now → (∀ x ∈ u.towers, ∀ a ∈ x.records, a.reported = true ∨ a.code < 0x80) →
    Completes (.promiseCompare at_ r.tenant r.seq) s (fun v => v.ledger.missed = u.ledger.missed + 1 ∧ v.log.count = u.log.count + 1
      ∧ ∃ q, v.req? r.tenant r.seq = some q ∧ q.phase = .ended ∧ (q.reason = 0x80 ∨ q.reason = 0x84 ∨ q.reason = 0x85)))

/-- R377: amounts of entries that name the same resource in the same slot add, and a booking fits exactly when in every slot that it
touches the booked and the new amount together stay at or below the limit. Once booked it leaves no slot above the larger of its limit
and what was booked there before. -/
def Obligations.BookingFitsWhenEverySlotDoes : Prop :=
  ∀ (l : LedgerSt) (rec_ : Bool) (limit : Resource → Nat) (ns : List Need) (tenant seq : Nat),
    (l.fits rec_ limit ns = true ↔ ∀ n ∈ ns, ∀ x, n.start ≤ x → x < n.start + n.len →
      l.bookedAt rec_ n.res x + ((ns.filter (fun k => k.res == n.res && k.covers x)).map (·.amt)).sum ≤ limit n.res)
    ∧ (l.fits rec_ limit ns = true → ∀ r x, (l.book tenant seq rec_ ns).bookedAt rec_ r x ≤ max (l.bookedAt rec_ r x) (limit r))

/-- R377, R382: the base slot that the search answers lets every entry of the record fit this unit, and its promised tick is not after
the deadline.
R379: a slot map names the towers asked for, in order, and every slot in it was free on its tower. -/
def Obligations.SearchAndSlotsFit : Prop :=
  (∀ (s : State) (r : Req) (a b p : Nat), s.search r a = .at_ b p →
      s.fitsOwn r b = true ∧ p ≤ r.deadline ∧ p = s.promise r a b ∧ b ∈ candidates r a ∧ b + r.rec_.span ≤ a / 1024 + 65536)
  ∧ (∀ (s : State) (p : Pkg) (towers : List Nat) (m : List (Nat × Nat)), s.assignSlots p towers = some m →
      m.map (·.1) = towers ∧ ∀ q ∈ m, q ∉ s.ledger.slots ∧ q.2 < 256)

/-! ## The vault, tickets, guests and the alarm (chapters 15, 16) -/

/-- R405, R408, R412, R413, R416, R420, Table SK-1: reports, envelopes, retirement, closing, erasure, reseeding. -/
def Obligations.VaultCommandsComplete : Prop :=
  (∀ s at_ nonce u, u = s.advance at_ → u.Serves 0x7002 → nonce < 2 ^ 384 → u.vault.mode ≠ .erased → u.vault.reportSt ≠ 1 →
    Completes (.reportNonce at_ nonce) s (fun t => t.vault = { u.vault with
        nonceIn := nonce, reportSt := 1, reportTick := u.now, reportTrans := decide (u.vault.mode = .transitional),
        reportEntries := u.entries, reportGen := u.vault.releaseGen, reportPaired := u.pair.bound } ∧ t.AccessDone ∧ SameMemory u t))
  ∧ (∀ s at_ u, u = s.advance at_ → u.dead = false → u.vault.reportSt = 1 →
    Completes (.reportReady at_) s (fun t => t.vault.reportSt = 2 ∧ t.log.vecP.getLsbD 0 = true
      ∧ (u.vault.reportTrans = true ∨ u.vault.reportGen ≠ u.vault.releaseGen → t.vault.reportHashes = u.vault.reportHashes)
      ∧ (u.vault.reportTrans = false → u.vault.reportGen = u.vault.releaseGen → t.vault.reportHashes.length = min (u.vault.reportHashes.length + 1) 64)))
  ∧ (∀ s at_ e u, u = s.advance at_ → u.Serves 0x7010 → u.envelopeCheck e = 0 →
    Completes (.keyEnvelope at_ e) s (fun t =>
      t.vault.slot? (Envelope.kind e.bytes) (Envelope.id e.bytes) (Envelope.epoch e.bytes) =
        some { epoch := Envelope.epoch e.bytes, refs := 0, closing := false, since := u.now, install := u.vault.install + 1, counter := 0 }
      ∧ t.vault.install = u.vault.install + 1 ∧ t.vault.imports = u.vault.imports + 1 ∧ t.tap.segments = 0
      ∧ t.log.count = u.log.count + 1 ∧ t.AccessDone ∧ SameMemory u t))
  ∧ (∀ s at_ e u, u = s.advance at_ → u.Serves 0x7010 → u.envelopeCheck e ≠ 0 →
    Completes (.keyEnvelope at_ e) s (fun t => t.AccessAborted (0x06010000 + u.envelopeCheck e)
      ∧ t.vault.importFails = u.vault.importFails + 1 ∧ t.vault.install = u.vault.install))
  ∧ (∀ s at_ kind e k p u, u = s.advance at_ → u.vault.key? kind e.id = some k → k.prev = some p → k.cur.isSome → p.refs = 0 →
    p.since + u.vault.grace ≤ u.now → u.headerTakes kind e.id p.epoch = false →
    Completes (.previousSlotRetire at_ kind e) s (fun t => SameMemory u t
      ∧ (e.readsZero = true → t.vault.key? kind e.id = some { k with prev := none } ∧ t.vault.deadSlots = u.vault.deadSlots)
      ∧ (e.readsZero = false → t.vault.deadSlots = u.vault.deadSlots ++ [kind] ∧ t.vault.lastSource = 9
          ∧ (3 ≤ u.rw2Now.policy.getD 8 0 → t.vault.mode = .erased ∧ t.vault.keys = []))))
  ∧ (∀ s at_ k u, u = s.advance at_ → u.Serves 0x7020 → u.vault.key? u.slotSel.1 u.slotSel.2 = some k →
    Completes (.close at_ 1) s (fun t => t.vault.key? u.slotSel.1 u.slotSel.2 =
        some { k with cur := k.cur.map KeySlot.close, prev := k.prev.map KeySlot.close } ∧ t.AccessDone ∧ SameMemory u t))
  ∧ (∀ s at_ kind id k readsZero u, u = s.advance at_ → u.vault.key? kind id = some k →
    (k.cur.any KeySlot.done || k.prev.any KeySlot.done) = true → (readsZero = false → 3 ≤ u.rw2Now.policy.getD 8 0) →
    Completes (.closingSlotErase at_ kind id readsZero) s (fun t =>
      (∀ q ∈ t.vault.keys, q.named kind id = true → q.cur.any KeySlot.done = false ∧ q.prev.any KeySlot.done = false)
      ∧ t.vault.deadSlots = u.vault.deadSlots ++ (if readsZero then [] else [kind]) ∧ (readsZero = false → t.vault.mode = .erased)
      ∧ SameMemory u t))
  ∧ (∀ s at_ u, u = s.advance at_ → u.dead = false → 1000000000 * (u.vault.reseeds + 1) ≤ u.now →
    Completes (.drbgReseed at_) s (fun t => t.vault.reseeds = u.vault.reseeds + 1 ∧ t.vault.keys = u.vault.keys ∧ SameMemory u t))

/-- R432 to R435: a ticket that passes every check takes effect in whole and draws the nonce anew; one that fails check `n` is refused
with it, changes no policy, and draws the nonce anew from check 5 on. -/
def Obligations.TicketsApplyWholeOrNotAtAll : Prop :=
  (∀ s at_ t u, u = s.advance at_ → u.Serves 0x7100 → u.ticketCheck t = 0 →
    Completes (.ticket at_ t) s (fun v => v.vault.applied = u.vault.applied + 1 ∧ v.vault.ticketSt = 1
      ∧ v.vault.ticketFails = u.vault.ticketFails ∧ v.vault.nonce = (Config.random u.vault.nextRandom).toNat
      ∧ v.vault.enrolled = (u.vault.enrolled || Ticket.enrol t.bytes) ∧ v.AccessDone
      ∧ ∀ e, Ticket.entries t.bytes = some [e] → e.is 0x7200 e.sub = true → v.vault.policy = modAt u.vault.policy (e.sub - 1) (fun _ => e.num)))
  ∧ (∀ s at_ t u n, u = s.advance at_ → u.Serves 0x7100 → u.ticketCheck t = n → n ≠ 0 →
    Completes (.ticket at_ t) s (fun v => v.vault.applied = u.vault.applied ∧ v.vault.ticketSt = 2 ∧ v.vault.failCheck = n
      ∧ v.vault.ticketFails = u.vault.ticketFails + 1 ∧ v.vault.policy = u.vault.policy ∧ v.vault.anchors = u.vault.anchors
      ∧ v.vault.nonce = (if 5 ≤ n then (Config.random u.vault.nextRandom).toNat else u.vault.nonce) ∧ v.AccessAborted (0x06020000 + n)))

/-- R427, R440 to R443, R445, R446, R523: guests come up or are fenced, their packets pass a rule or are refused, and the monitors raise
the alarm, which at action 3 erases the vault. -/
def Obligations.GuestAndAlarmCommandsComplete : Prop :=
  (∀ s at_ g p u, u = s.forPacket at_ p → u.hasGuest g = true → u.siteFenced (guestSite g) = false → u.packetPasses g false p = true →
    Completes (.guestPacket at_ g false p) s (fun t => t.net = s.net ++ [p] ∧ t.vault.guestFence = u.vault.guestFence
      ∧ t.vault.alarms = u.vault.alarms ∧ t.vault.refusals0 = u.vault.refusals0 ∧ t.vault.refusals1 = u.vault.refusals1
      ∧ ((opsBit p.type).isSome = true → p.type ≠ 6 → (∃ e ∈ t.vault.guestPkts, e.guest = g ∧ e.fromGuest = false
        ∧ e.src = p.src ∧ e.dst = p.dst ∧ e.tag = p.tag)) ∧ SameMemory u t))
  ∧ (∀ s at_ g p u, u = s.forPacket at_ p → u.hasGuest g = true → u.siteFenced (guestSite g) = false → u.packetPasses g true p = true →
    field (u.routingEntry p.tepoch p.dst).toNat 1 0 ≠ 0 →
    Completes (.guestPacket at_ g true p) s (fun t => t.net = (u.sendBulk (guestSite g) (u.eidSite p.dst) p).net
      ∧ t.lines = (u.sendBulk (guestSite g) (u.eidSite p.dst) p).lines ∧ t.vault.guestFence = u.vault.guestFence
      ∧ t.vault.alarms = u.vault.alarms ∧ t.vault.refusals0 = u.vault.refusals0 ∧ t.vault.refusals1 = u.vault.refusals1
      ∧ ((opsBit p.type).isSome = true → p.type ≠ 6 → (∃ e ∈ t.vault.guestPkts, e.guest = g ∧ e.fromGuest = true
        ∧ e.src = p.src ∧ e.dst = p.dst ∧ e.tag = p.tag)) ∧ SameMemory u t))
  ∧ (∀ s at_ g p u, u = s.forPacket at_ p → u.hasGuest g = true → u.siteFenced (guestSite g) = false → u.packetPasses g true p = false →
    Completes (.guestPacket at_ g true p) s (fun t => t.vault.guestFence.getLsbD g = true ∧ t.vault.alarms = u.vault.alarms + 1
      ∧ t.vault.lastSource = 4 + g ∧ t.vault.refusals0 + t.vault.refusals1 = u.vault.refusals0 + u.vault.refusals1 + 1
      ∧ (∃ q, t.net = s.net ++ [q] ∧ q.type = 8 ∧ q.dst = p.src ∧ q.tag = p.tag)))
  ∧ (∀ s at_ g p u, u = s.forPacket at_ p → u.hasGuest g = true → u.siteFenced (guestSite g) = false → u.packetPasses g false p = false →
    Completes (.guestPacket at_ g false p) s (fun t => t.vault.guestFence = u.vault.guestFence ∧ t.vault.alarms = u.vault.alarms
      ∧ t.vault.refusals0 + t.vault.refusals1 = u.vault.refusals0 + u.vault.refusals1 + 1 ∧ SameMemory u t))
  ∧ (∀ s at_ n c u, u = s.advance at_ → (n, c) ∈ [(1, Instr.tamperMesh at_), (2, .supplyGlitch at_), (3, .clockGlitch at_)] →
    u.dead = false →
    Completes c s (fun t => t.vault.alarms = u.vault.alarms + 1 ∧ t.vault.lastSource = n ∧ t.vault.lastAlarmTick = u.now
      ∧ u.rw2Now.policy.getD (n - 1) 0 ≤ t.vault.lastAction
      ∧ (3 ≤ u.rw2Now.policy.getD (n - 1) 0 → t.vault.mode = .erased ∧ t.vault.keys = [] ∧ t.vault.secrets = 0 ∧ t.vault.releaseGen = 0
        ∧ t.vault.pairKey = false ∧ t.vault.reportHashes = [] ∧ t.log.count = u.log.count + 1)))
  ∧ (∀ s at_ g u, u = s.advance at_ → u.hasGuest g = true → u.vault.grstHigh.getLsbD g = false →
    (guestDomains g).all u.domainOn = true → u.vault.grstTick.getD g 0 + 10000 ≤ u.now →
    Completes (.grstLRelease at_ g) s (fun t => t.vault.grstHigh.getLsbD g = true ∧ t.vault.gready = u.vault.gready
      ∧ t = { u with vault := t.vault }))
  ∧ (∀ s at_ g u, u = s.advance at_ → u.hasGuest g = true → u.vault.grstHigh.getLsbD g = true → u.vault.gready.getLsbD g = false →
    Completes (.gready at_ g) s (fun t => t.vault.gready.getLsbD g = true ∧ t.vault.guestReset.getLsbD g = false
      ∧ (u.vault.guestReset.getLsbD g = true → t.base.guestSiteFence.getLsbD g = false)
      ∧ (u.vault.guestReset.getLsbD g = false → t.base.guestSiteFence = u.base.guestSiteFence) ∧ SameMemory u t))
  ∧ (∀ s at_ g u, u = s.advance at_ → u.hasGuest g = true → u.vault.grstHigh.getLsbD g = true → u.vault.gready.getLsbD g = false →
    u.base.guestSiteFence.getLsbD g = false → u.vault.grstTick.getD g 0 + 1000000 ≤ u.now → u.greadyArrives g = false →
    Completes (.greadyTimeout at_ g) s (fun t => t.base.guestSiteFence.getLsbD g = true ∧ t.log.count = u.log.count + 1 ∧ SameMemory u t))

/-! ## The pair (chapter 17) -/

/-- R452, R456, R458, R460, R475, R477: the handshake, heartbeats, silent paths, and S frames out of order. -/
def Obligations.TwinWatchCommandsComplete : Prop :=
  (∀ s at_ pref twin u, u = s.advance at_ → u.pair.bound = true → u.dead = false → u.vault.mode ≠ .erased → u.time.mode ≠ .unset →
    pref ≠ u.pair.preferred → twin.reportsOk = true →
    Completes (.pxLinkUp at_ u.pair.twinId pref twin) s (fun t => t.vault.pairKey = true
      ∧ t.pair.keyGen = u.pair.keyGen + 1 ∧ t.pair.sSeqIn = 0 ∧ t.pair.sSeqOut = 0 ∧ t.pair.sFault = false
      ∧ (u.pair.mode = .seeking → twin.seeking = true → u.pair.preferred = true → t.pair.mode = .solo ∧ t.pair.claim = 4 + u.pos)
      ∧ (u.pair.mode ≠ .seeking ∨ twin.seeking = false ∨ u.pair.preferred = false →
          t.pair.mode = u.pair.mode ∧ t.pair.claim = u.pair.claim ∧ t = { u with vault := { u.vault with pairKey := true }, pair := t.pair })))
  ∧ (∀ s at_ didh pref ok u, u = s.advance at_ → u.pair.bound = true → u.dead = false → u.vault.mode ≠ .erased → u.time.mode ≠ .unset →
    didh ≠ u.pair.twinId ∨ pref = u.pair.preferred →
    Completes (.pxLinkUp at_ didh pref ok) s (fun t => t.pair = { u.pair with bindFaults := u.pair.bindFaults + 1 }
      ∧ t.vault = u.vault ∧ t.log.count = u.log.count + 1))
  ∧ (∀ s at_ u, u = s.advance at_ → u.hearsTwin = true → u.pair.beating = true → u.pair.mode ≠ .unbound → u.pair.mode ≠ .seeking →
    u.pair.nextBeat ≤ u.now →
    Completes (.heartbeatSend at_) s (fun t => t.pair.sent.map (·.msg) = u.pair.sent.map (·.msg) ++
        [.heartbeat true u.heartbeat, .heartbeat false u.heartbeat,
         .status ((List.range 4).map (fun x => 65536 - (u.port x).buffered)) u.limitList (decide (u.pair.spoolSt = 2))]
      ∧ t.pair.sSeqOut = u.pair.sSeqOut + 2 ∧ t.pair.nextBeat = u.now + 8000 ∧ t.pair.hbseq = u.pair.hbseq + 1 ∧ t = { u with pair := t.pair }))
  ∧ (∀ s at_ h u, u = s.advance at_ → u.hearsTwin = true → u.pair.mode = .standby →
    Completes (.heartbeat at_ false true h) s (fun t => t.pair = { u.pair with
        thHeard := u.now, thPath := 1, twinClaim := h.claim, twinMode := PairMode.ofCode h.state, twinLocked := h.locked,
        twinDecnum := h.decnum, lockRuns := u.pair.lockRuns && h.locked } ∧ t = { u with pair := t.pair }))
  ∧ (∀ s at_ onPx h u, u = s.advance at_ → u.hearsTwin = true → u.time.mode ≠ .unset → u.pair.sFault = false →
    u.pair.mode = .active ∨ u.pair.mode = .solo → u.pair.claim < h.claim →
    Completes (.heartbeat at_ onPx true h) s (fun t => t.pair.mode = .isolated ∧ t.pair.twinClaim = h.claim ∧ t.NoneLive
      ∧ ∀ p ∈ t.ports, p.queue = [] ∧ p.buffered = 0))
  ∧ (∀ s at_ onPx u, u = s.advance at_ → u.hearsTwin = true → u.pair.mode = .standby ∨ u.pair.mode = .active ∨ u.pair.mode = .syncing →
    u.silent onPx = true → u.silent (!onPx) = false → (if onPx then u.pair.pxPath else u.pair.thPath) ≠ 2 →
    Completes (.pathSilence at_ onPx) s (fun t => (if onPx then t.pair.pxPath else t.pair.thPath) = 2
      ∧ t.pair.pathFaults = u.pair.pathFaults + 1 ∧ t.pair.mode = u.pair.mode ∧ t.pair.claim = u.pair.claim ∧ t.log.count = u.log.count + 1))
  ∧ (∀ s at_ onPx u, u = s.advance at_ → u.hearsTwin = true → u.pair.mode = .standby → u.silent onPx = true → u.silent (!onPx) = true →
    u.raisedClaim ≤ 0xFFFFFFF0 →
    Completes (.pathSilence at_ onPx) s (fun t => t.pair.mode = .solo ∧ t.pair.claim = u.raisedClaim ∧ u.pair.claim < t.pair.claim
      ∧ u.pair.twinClaim < t.pair.claim ∧ t.pair.claim % 2 = u.pos ∧ t.pair.takeovers = u.pair.takeovers + 1 ∧ t.pair.spoolSt = 3
      ∧ t.pair.beating = true ∧ (∀ b ∈ t.ledger.bookings, b.recovery = false) ∧ ∀ r ∈ t.ledger.reqs, r.phase ≠ .held))
  ∧ (∀ s at_ f d u, u = s.advance at_ → u.hearsTwin = true → u.pair.sFault = false → u.pair.pxPath ≠ 2 →
    f.ok = false ∨ f.kepoch ≠ u.pair.keyGen % 256 ∨ f.seq ≠ u.pair.sSeqIn + 1 →
    Completes (.decision at_ f d) s (fun t => t.pair = { u.pair with
        sDiscarded := u.pair.sDiscarded + 1, sFault := true, pathFaults := u.pair.pathFaults + 1, pxPath := 2 }
      ∧ t.ledger = u.ledger ∧ t.log.count = u.log.count + 1))

/-- R464, R465, R469, R470, R473, R479, R480: what a unit takes from its twin over PX. -/
def Obligations.TwinMessagesComplete : Prop :=
  ∀ s at_ u f, u = s.advance at_ → u.TakesS f →
    (∀ d, u.pair.mode = .standby → d.decnum = u.pair.decnum + 1 → d.kind = 3 ∨ d.kind = 1 ∧ d.prot = false →
      Completes (.decision at_ f d) s (fun t => t.pair.decnum = d.decnum ∧ t.pair.mirrored = u.pair.mirrored + 1
        ∧ ∃ q, t.req? d.tenant d.seq = some q ∧ q.phase = .accepted ∧ q.promised = d.tick ∧ q.base = d.base ∧ q.sentRecords = true))
    ∧ (∀ free limits, Completes (.status at_ f free limits) s (fun t =>
        t.pair = { u.pairHeard f with twinFree := u.freeTotals free, twinLimits := limits.limits, twinSpoolFull := limits.spoolFull }
        ∧ t = { u with pair := t.pair, ports := t.ports, vault := t.vault } ∧ (u.drives = false → t.ports = u.ports ∧ t.vault = u.vault)))
    ∧ (∀ r, u.req? r.tenant r.seq = some r → Completes (.delivered at_ f r.tenant r.seq) s (fun t =>
        t.req? r.tenant r.seq = some { r with twinDelivered := true } ∧ t.pair = u.pairHeard f ∧ SameMemory u t))
    ∧ (∀ digest, u.pair.mode ≠ .syncing → Completes (.config at_ f digest) s (fun t =>
        t = { u with pair := { u.pairHeard f with twinDigest := digest } }))
    ∧ (∀ tenant seq granules, u.decides = false → u.spoolBytes + deltaBytes granules ≤ u.spoolRoom →
        Completes (.delta at_ f tenant seq granules) s (fun t =>
          (∀ b ∈ t.ledger.bookings, ¬(b.tenant = tenant ∧ b.seq = seq))
          ∧ (∀ q ∈ t.pair.tail, q.tenant = tenant → q.seq = seq → q.delta = some granules)
          ∧ (∀ r, u.req? tenant seq = some r → r.here = false → ∀ q ∈ r.slotMap, q ∉ t.ledger.slots)
          ∧ t.pair.tail.length = u.pair.tail.length ∧ SameMemory u t))
    ∧ (∀ tick, u.pair.mode = .syncing → u.pair.snapshotTick ≠ tick → Completes (.snapshot at_ f tick []) s (fun t =>
        t.ledger.bookings = [] ∧ t.ledger.slots = [] ∧ t.pair.snapshotTick = tick ∧ t.pair.decnum = 0 ∧ SameMemory u t))
    ∧ (∀ model body trailer, u.pair.mode = .syncing → u.load.open_ = false → u.pkg? model = none → f.last = false → body.length < 256 →
        Completes (.package at_ f model body trailer) s (fun t => t.load.open_ = true ∧ t.load.model = model ∧ t.load.target = 1
          ∧ t.load.body = body ∧ t.load.bytes = body.length ∧ t.load.segs = 1 ∧ t.pkgs = u.pkgs ∧ SameMemory u t))
    ∧ (∀ granules, u.pair.mode = .syncing → Completes (.image at_ f granules) s (fun t =>
        t.pair.image = foldGranules u.pair.image granules ∧ t.ledger = u.ledger ∧ SameMemory u t))
    ∧ (u.pair.mode = .solo → Completes (.joinReady at_ f) s (fun t => t.pair.joinArmed = true ∧ t.pair.sent.map (·.msg) = u.pair.sent.map (·.msg) ++ [.join t.pair.joinTick]
        ∧ t.pair.joinTick % 1000000 = 0 ∧ u.now + 100000 ≤ t.pair.joinTick ∧ t.pair.joinTick < u.now + 1100000 ∧ t.pair.mode = .solo))
    ∧ (∀ tick, u.pair.mode = .syncing → Completes (.join at_ f tick) s (fun t =>
        t.pair = { u.pairHeard f with joinTick := tick, joinArmed := true } ∧ SameMemory u t))

/-- R453, R461, R464, R469, R474, R476, R480: the ticks of the pair: joins, limits, deferred ends, checkpoints, restores. -/
def Obligations.PairTimersComplete : Prop :=
  (∀ s at_ u, u = s.advance at_ → u.pair.joinArmed = true → u.pair.joinTick ≤ u.now →
    Completes (.joinTick at_) s (fun t => t.pair.joinArmed = false ∧ t.pair.claim = u.pair.claim ∧ t.ledger = u.ledger ∧ SameMemory u t
      ∧ (u.pair.mode = .solo → t.pair.mode = .active ∧ t.pair.twinMode = .standby) ∧ (u.pair.mode = .syncing → t.pair.mode = .standby)))
  ∧ (∀ s at_ x u, u = s.advance at_ →
    Completes (.holdLimit at_ x) s (fun t => ∀ r ∈ t.ledger.reqs, r.phase = .held → r.port = x → u.now < r.arrival + 100000 ∨ u.recordArrives r = true))
  ∧ (∀ s at_ r u, u = s.advance at_ → u.req? r.tenant r.seq = some r → r.phase = .accepted → r.prot = true → r.cls = 1 → r.reason ≠ 0 →
    r.promised + 1024 ≤ u.now → u.decides = true →
    (r.twinDelivered = true → Completes (.endDeferral at_ r.tenant r.seq) s (fun t => t.pair.withheld = u.pair.withheld + 1
      ∧ t.ledger.reqEnded = u.ledger.reqEnded ∧ ∃ q, t.req? r.tenant r.seq = some q ∧ q.phase = .ended))
    ∧ (r.twinDelivered = false → u.deliveryArrives r = false → Completes (.endDeferral at_ r.tenant r.seq) s (fun t =>
      t.pair.withheld = u.pair.withheld ∧ t.ledger.reqEnded = u.ledger.reqEnded + 1
      ∧ ∃ q, t.req? r.tenant r.seq = some q ∧ q.phase = .ended ∧ q.reason = r.reason)))
  ∧ (∀ s at_ u, u = s.advance at_ → u.decides = false → u.pair.lastFold + u.pair.checkpoint ≤ u.now →
    Completes (.checkpoint at_) s (fun t => t.pair.tail = u.pair.tail.drop (leadingDone u.pair.tail).length ∧ t.pair.lastFold = u.now
      ∧ (∀ q rest, t.pair.tail = q :: rest → q.delta = none)
      ∧ (leadingDone u.pair.tail = [] → t.pair.image = u.pair.image ∧ SameMemory u t)))
  ∧ (∀ s at_ u, u = s.advance at_ → u.pair.spoolSt = 3 →
    Completes (.restore at_) s (fun t => t.pair.tail = [] ∧ t.pair.image = [] ∧ t.pair.spoolUsed = 0 ∧ t.pair.spoolSt = 0
      ∧ (u.pair.tail = [] → u.pair.image = [] → SameMemory u t)))
  ∧ (∀ s at_ u, u = s.advance at_ → u.pair.mode = .seeking →
    max u.pair.seekSince (max u.pair.pxHeard u.pair.thHeard) + (if u.pair.preferred then 32000 else u.pair.seekLimit) ≤ u.now → u.beatNow = false →
    Completes (.seekLimit at_) s (fun t => t.pair.mode = .solo ∧ t.pair.claim = 4 + u.pos ∧ t.pair.beating = true ∧ t.pair.nextBeat = u.now
      ∧ t.ledger = u.ledger ∧ SameMemory u t))
  ∧ (∀ s at_ u, u = s.advance at_ → u.Serves 0x2203 → u.pair.mode = .active →
    Completes (.stepDown at_ 1) s (fun t => t.pair.mode = .isolated ∧ t.pair.beating = false ∧ t.pair.resumeTick = some (u.now + 40000)
      ∧ t.NoneLive ∧ t.AccessDone))
  ∧ (∀ s at_ x u, u = s.advance at_ → u.pair.resumeTick = some x → x ≤ u.now →
    Completes (.isolationResume at_) s (fun t => t = { u with pair := { u.pair with resumeTick := none, beating := true, nextBeat := u.now } }))

/-! ## Power and thermal management (chapter 18) -/

/-- R86, R484 to R490: input, converters, domains, regulator phases, drivers and switches fail. -/
def Obligations.SupplyFaultCommandsComplete : Prop :=
  (∀ s at_ mv dur u, u = s.advance at_ → u.power.shutdown = false → u.power.charged = true →
    mv < 38000 ∨ 63000 < mv → 10000 ≤ dur →
    Completes (.inputVoltageEvent at_ mv dur) s (fun t => t.power.shutdown = true ∧ (∀ d ∈ t.power.domains, d.st = 0)
      ∧ t.pair.beating = false ∧ (∀ p ∈ t.ports, p.queue = [] ∧ p.up = false) ∧ t.log = u.log ∧ SameMemory u t))
  ∧ (∀ s at_ mv dur u, u = s.advance at_ → u.power.shutdown = false → u.power.charged = true → mv < 40000 ∨ 60000 < mv →
    (38000 ≤ mv ∧ mv ≤ 63000) ∨ dur < 10000 →
    Completes (.inputVoltageEvent at_ mv dur) s (fun t => t.power = { u.power with inputmV := mv, inputEvents := u.power.inputEvents + 1 }
      ∧ t.log.count = u.log.count + 1 ∧ t.towers = u.towers ∧ SameMemory u t))
  ∧ (∀ s at_ c st u, u = s.advance at_ → u.power.converters[c]? = some st → (∀ x ∈ u.power.converters, x ≠ 2) →
    Completes (.converterFailure at_ c) s (fun t => t.power.converters[c]? = some 2 ∧ t.power.moduleFailed = u.power.moduleFailed
      ∧ t.towers = u.towers ∧ t.log.count = u.log.count + 1))
  ∧ (∀ s at_ c st u, u = s.advance at_ → u.power.converters[c]? = some st → st ≠ 2 → 2 ∈ u.power.converters →
    Completes (.converterFailure at_ c) s (fun t => t.power.converters[c]? = some 2 ∧ t.power.moduleFailed = true
      ∧ (∀ x ∈ t.towers, x.ballast = 15 ∧ ∀ g ∈ x.regions, g.target = 1500000) ∧ t.log.count = u.log.count + 1))
  ∧ (∀ s at_ d x u, u = s.advance at_ → u.power.domains[d]? = some x → x.st ≠ 0 → d < 40 → domainTower d < u.towers.length →
    (u.tower (domainTower d)).mode ≠ .failed →
    Completes (.domainFault at_ ⟨d, none⟩) s (fun t => t.power.domains[d]? = some { x with st := 3, faults := x.faults + 1 }
      ∧ (t.tower (domainTower d)).mode = .failed ∧ (t.tower (domainTower d)).fence = true))
  ∧ (∀ s at_ d t r g u, u = s.advance at_ → supplyTower d = some t → (u.domain d).st ≠ 0 → t < u.towers.length → u.towerFalls t = false →
    (u.tower t).regions[r]? = some g → g.st ≠ .lost →
    Completes (.domainFault at_ ⟨d, some r⟩) s (fun v => (∃ h, (v.tower t).regions[r]? = some h ∧ h.st = .lost)
      ∧ v.power.domains = u.power.domains))
  ∧ (∀ s at_ d x u, u = s.advance at_ → u.power.domains[d]? = some x → x.st ≠ 0 → d = 40 ∨ d = 41 →
    Completes (.domainFault at_ ⟨d, none⟩) s (fun t => t.power.hubFailed = true ∧ t.pair.beating = false
      ∧ t.power.domains[d]? = some { x with st := 3, faults := x.faults + 1 } ∧ SameMemory u t))
  ∧ (∀ s at_ m u, u = s.advance at_ → m < 8 → m < u.base.lasers.length → (u.laser m).st ≠ 0 → (u.laser m).st < 4 →
    Completes (.laserDriverFault at_ m) s (fun t => (t.laser m).st = 5))
  ∧ (∀ s at_ u, u = s.advance at_ →
    Completes (.switchSupplyFault at_ true) s (fun t => t.base = { u.base with bankSwitchDown := true } ∧ SameMemory u t)
    ∧ Completes (.switchSupplyFault at_ false) s (fun t => t.base = { u.base with linkSwitchDown := true } ∧ SameMemory u t))

/-- R491 to R494, R497, R500 to R503: the power controller: telemetry, targets within the wear ceiling, ballast on hot towers, the
excursion and its hold-off. -/
def Obligations.PowerControlCommandsComplete : Prop :=
  (∀ s at_ watts mv currents targets unbooked u, u = s.advance at_ → (∀ t, u.power.powerTick = some t → t + 1000 ≤ u.now) →
    Completes (.powerStep at_ watts mv currents targets unbooked) s (fun v => v.power.watts = watts ∧ v.power.inputmV = mv
      ∧ v.power.powerTick = some u.now ∧ (∀ x ∈ v.towers, 1050 ≤ x.temp → x.ballast = 15)
      ∧ (∀ x ∈ v.towers, ∀ g ∈ x.regions, 1500000 ≤ g.target ∧ g.target ≤ 1800000) ∧ v.towers.length = u.towers.length
      ∧ v.log = u.log ∧ SameMemory u v))
  ∧ (∀ s at_ u, u = s.advance at_ → u.power.exSt = 1 → u.power.exLeft ≤ u.now →
    Completes (.excursionAllowance at_) s (fun v => (∀ x ∈ v.towers, ∀ g ∈ x.regions, g.target = 1500000)
      ∧ (∀ x ∈ v.towers, x.unbookedWork = true → x.ballast = 15) ∧ v.power = u.power ∧ SameMemory u v))
  ∧ (∀ s at_ u, u = s.advance at_ → u.power.exSt = 2 → u.power.holdUntil ≤ u.now →
    Completes (.holdOffEnd at_) s (fun v => v = { u with power := { u.power with exSt := 0 } }))
  ∧ (∀ s at_ t u, u = s.advance at_ → (u.tower t).ballastUntil ≤ u.replica t →
    Completes (.ballastPauseEnd at_ t) s (fun v => v = u.schedule t ∧ SameMemory u v))

/-- R495 to R499, R504 to R508: model steps and their bands, anchors, the hardware trip, what a trip switches off, the restart, and the
coolant limits. -/
def Obligations.ThermalCommandsComplete : Prop :=
  (∀ s at_ t temp x u, u = s.advance at_ → t < 20 → t < u.towers.length → x = u.tower t → x.useDiode = false →
    (temp < 1100 → Completes (.modelStep at_ t temp) s (fun v => v.tower t = { x with
        temp := temp, band := nextBand x.band temp, ballast := if 1050 ≤ temp then 15 else x.ballast, over110 := false }
      ∧ OtherTowersSame t u v ∧ v.log = u.log ∧ SameMemory u v))
    ∧ (1200 ≤ temp → x.tripState = 0 → x.mode ≠ .tripped → x.mode ≠ .failed → Completes (.modelStep at_ t temp) s (fun v =>
      (v.tower t).mode = .tripped ∧ (v.tower t).trips = x.trips + 1 ∧ (v.tower t).fence = true ∧ (v.tower t).fenceCause = 3
      ∧ (v.tower t).tripState = 1 ∧ (v.tower t).ballast = 15 ∧ v.log.count = u.log.count + 1)))
  ∧ (∀ s at_ t h u, u = s.advance at_ → t < 20 → t < u.towers.length → h < 1180 →
    Completes (.anchor at_ t [h]) s (fun v => v.tower t = { u.tower t with
        diode := h, anchorCorr := h - (u.tower t).temp, temp := h, useDiode := decide (50 < (h - (u.tower t).temp).natAbs) }
      ∧ OtherTowersSame t u v ∧ SameMemory u v))
  ∧ (∀ s at_ t h u, u = s.advance at_ → t < 20 → t < u.towers.length → 1200 ≤ h → (u.tower t).tripState = 0 →
    (u.tower t).mode ≠ .tripped → (u.tower t).mode ≠ .failed →
    Completes (.anchor at_ t [h]) s (fun v => (v.tower t).mode = .tripped ∧ (v.tower t).trips = (u.tower t).trips + 1 ∧ (v.tower t).tripState = 1))
  ∧ (∀ s at_ t a b u, u = s.advance at_ → t < 20 → t < u.towers.length → 1200 ≤ max a b → (u.tower t).tripState = 0 →
    (u.tower t).mode ≠ .tripped → (u.tower t).mode ≠ .failed →
    Completes (.diodeSample at_ t [a, b]) s (fun v => (v.tower t).mode = .tripped ∧ (v.tower t).diode = max a b
      ∧ (v.tower t).trips = (u.tower t).trips + 1 ∧ (v.tower t).tripState = 1))
  ∧ (∀ s at_ h u, u = s.advance at_ → u.power.hubTrip = 0 → 1200 ≤ h →
    Completes (.diodeSample at_ 20 [h]) s (fun v => v.power.hubFailed = true ∧ v.power.hubTrip = 1 ∧ v.pair.beating = false))
  ∧ (∀ s at_ t u, u = s.advance at_ → t < 20 → t < u.towers.length → (u.tower t).mode = .tripped →
    (u.domainOn (logicDomain t) = true → Completes (.tripDomainOff at_ t) s (fun v => v.domainOn (logicDomain t) = false
      ∧ (v.tower t).records = [] ∧ (v.tower t).running = [] ∧ (v.tower t).queue = []
      ∧ v.domainOn (memDomain t) = u.domainOn (memDomain t)))
    ∧ (u.domainOn (logicDomain t) = false → u.domainOn (memDomain t) = true → Completes (.tripDomainOff at_ t) s (fun v =>
      v.domainOn (memDomain t) = false ∧ (v.tower t).gates = 0
      ∧ ∀ k, t * 2 ^ 40 ≤ k → k < (t + 1) * 2 ^ 40 → v.memByte k = 0)))
  ∧ (∀ s at_ x b u, u = s.advance at_ → (x < 20 → x < u.towers.length) → (21 ≤ x → x - 21 < u.power.guestTrip.length) →
    u.belowOf x = some b → u.tripOf x = 2 → b + 10000000000 ≤ u.now →
    Completes (.restartHold at_ x) s (fun v => v.tripOf x = 3 ∧ SameMemory u v))
  ∧ (∀ s at_ x u, u = s.advance at_ → u.Serves 0x8101 → x = kvGet u.dict.pcie.sels 0x810101 0 → x < 20 → x < u.towers.length →
    u.tripOf x = 3 →
    Completes (.restart at_ 1) s (fun v => (v.tower x).mode = .training ∧ (v.tower x).resetState = .off ∧ (v.tower x).resetCold = true
      ∧ (v.tower x).tripState = 0 ∧ (v.tower x).records = [] ∧ v.AccessDone))
  ∧ (∀ s at_ inlet outlet flow u, u = s.advance at_ →
    (∀ b, u.power.coolHold = false → 400 < inlet → u.power.inletBad = some b → b + 1000000 ≤ u.now →
      Completes (.coolantLimit at_ inlet outlet flow) s (fun v => v.power.coolHold = true ∧ v.log.count = u.log.count + 1
        ∧ ∀ x ∈ v.towers, x.ballast = 15 ∧ ∀ g ∈ x.regions, g.target = 1500000))
    ∧ (∀ b, u.power.coolHold = true → inlet ≤ 400 → 140 ≤ flow → u.power.coolGood = some b → b + 1000000 ≤ u.now →
      Completes (.coolantLimit at_ inlet outlet flow) s (fun v => v.power.coolHold = false ∧ v.log = u.log ∧ v.towers = u.towers)))

/-! ## Bring-up, firmware and resets (chapter 20) -/

/-- R488, R520 to R523, R572: power comes, domains are switched on in order, layers boot or the unit recovers, towers come up. -/
def Obligations.BringUpCommandsComplete : Prop :=
  (∀ s at_ u, u = s.advance at_ → u.power.shutdown = true ∨ u.power.charged = false →
    Completes (.inputCharged at_) s (fun t => t.power.charged = true ∧ t.power.shutdown = false ∧ t.power.hubFailed = false
      ∧ (∀ x ∈ t.towers, x.mode = .off ∧ x.records = []) ∧ t.towers.length = u.towers.length ∧ (∀ k, t.memByte k = 0)
      ∧ t.vault.keys = [] ∧ t.vault.install = u.vault.install ∧ t.vault.policy = u.vault.policy ∧ t.ident = u.ident
      ∧ t.pair.mode = (if u.pair.bound then .seeking else .unbound)))
  ∧ (∀ s at_ d straps u, u = s.advance at_ → u.sequencerFree = true → u.nextDomain = some d → d < u.power.domains.length →
    (d < 40 → domainTower d < u.towers.length) →
    Completes (.domainSwitchOn at_ d straps) s (fun t => t.domainOn d = true ∧ t.power.lastOn = some u.now
      ∧ (∀ k, k ≠ d → t.domain k = u.domain k) ∧ (d < 40 → d ≠ memDomain (domainTower d) → (t.tower (domainTower d)).mode = .training)
      ∧ SameMemory u t))
  ∧ (∀ s at_ l okA okB u, u = s.advance at_ → u.dead = false → u.domainOn 40 = true → u.boot.activating = none → u.boot.recovery = false →
    1 ≤ l → l ≤ 3 → l = u.boot.layers + 1 → (if u.boot.runsB l then okB else okA) = true →
    Completes (.bootLayer at_ l okA okB) s (fun t => t.boot.layers = l ∧ t.boot.running = u.boot.running
      ∧ t.vault.secrets = u.vault.secrets + 1 ∧ (∃ m ∈ t.vault.measures, m.kind = 1 ∧ m.index = l ∧ m.tick = u.now)
      ∧ (l = 3 → t.boot.baseReady = true) ∧ SameMemory u t))
  ∧ (∀ s at_ l u, u = s.advance at_ → u.dead = false → u.domainOn 40 = true → u.boot.activating = none → u.boot.recovery = false →
    1 ≤ l → l ≤ 3 → l = u.boot.layers + 1 →
    Completes (.bootLayer at_ l false false) s (fun t => t.boot.recovery = true ∧ t.boot.bootFails = u.boot.bootFails + 1
      ∧ t.boot.modState = 1 ∧ t.boot.layers = u.boot.layers ∧ t.vault = u.vault ∧ SameMemory u t))
  ∧ (∀ s at_ t other u, u = s.advance at_ → t < 20 → t < u.towers.length → (u.tower t).mode = .training → (u.tower t).resetState = .idle →
    (u.tower t).heldInReset = false → (u.tower t).group = none → u.boot.baseReady = true →
    Completes (.towerReady at_ t [] [] other) s (fun v => (v.tower t).mode = (if other then .failed else .ready)))

/-- R406, R409, R525 to R528: images are staged, activated, abandoned, started, measured. -/
def Obligations.FirmwareCommandsComplete : Prop :=
  (∀ s at_ i u, u = s.advance at_ → u.Serves 0x1020 → u.stageCheck i = 0 →
    Completes (.stageImage at_ i) s (fun t => t.boot.pending = some (Image.layer i, Image.copy i) ∧ t.boot.stageSt = 2
      ∧ t.vault.mode = .transitional ∧ t.boot.running = u.boot.running ∧ t.boot.minSvn = u.boot.minSvn ∧ t.AccessDone ∧ SameMemory u t))
  ∧ (∀ s at_ i u, u = s.advance at_ → u.Serves 0x1020 → u.stageCheck i ≠ 0 →
    Completes (.stageImage at_ i) s (fun t => t.boot = { u.boot with stageSt := 3, stageCheck := u.stageCheck i } ∧ t.vault = u.vault
      ∧ t.AccessAborted (0x06030000 + u.stageCheck i)))
  ∧ (∀ s at_ l c u, u = s.advance at_ → u.Serves 0x1020 → u.boot.pending = some (l, c) → l = 1 ∨ l = 2 → u.vault.mode ≠ .erased →
    u.vault.referenced = false → l - 1 < u.boot.running.length →
    Completes (.activate at_ 1) s (fun t => t.boot.pending = none ∧ t.boot.stageSt = 4
      ∧ (c.raise = false → t.boot.minSvn = u.boot.minSvn)
      ∧ (l = 1 → t.boot.marked = true ∧ t.boot.running = u.boot.running ∧ t.vault = u.vault)
      ∧ (l = 2 → t.boot.runsB l = !u.boot.runsB l ∧ t.vault.keys = [] ∧ t.vault.secrets = u.vault.secrets + 1 ∧ t.vault.releaseGen = u.vault.releaseGen + 1
        ∧ t.boot.activating = some (2, u.now)) ∧ t.AccessDone))
  ∧ (∀ s at_ u, u = s.advance at_ → u.Serves 0x1020 → u.boot.pending.isSome →
    Completes (.abandon at_ 1) s (fun t => t.boot = { u.boot with pending := none, stageSt := 0 } ∧ t.vault.pendingLayers = []
      ∧ (u.vault.mode ≠ .erased → u.vault.reloading = [] → t.vault.mode = .normal) ∧ t.AccessDone))
  ∧ (∀ s at_ l x u, u = s.advance at_ → u.boot.activating = some (l, x) → x + 1000000 ≤ u.now → l - 1 < u.boot.running.length →
    Completes (.activationStartLimit at_) s (fun t => t.boot.activating = none ∧ t.boot.runsB l = !u.boot.runsB l ∧ t.boot.stageSt = 0
      ∧ t.log.count = u.log.count + 1 ∧ SameMemory u t))
  ∧ (∀ s at_ unit u, u = s.advance at_ → unit ∈ u.vault.reloading → unit ≠ 64 →
    Completes (.imageReloadMeasure at_ unit true) s (fun t => unit ∉ t.vault.reloading ∧ t.vault.alarms = u.vault.alarms ∧ SameMemory u t)
    ∧ Completes (.imageReloadMeasure at_ unit false) s (fun t => unit ∈ t.vault.reloading ∧ t.vault.alarms = u.vault.alarms + 1
      ∧ t.vault.lastSource = 6))

/-- R529 to R532: what each reset leaves. A module reset keeps the tally (R530) and the log (R515), and
logs the end of the time state (R60). -/
def Obligations.ResetCommandsComplete : Prop :=
  (∀ s at_ u, u = s.advance at_ → u.Serves 0x1022 → u.holdsWork = false →
    Completes (.moduleReset at_ 1) s (fun t => t.now = u.now
      ∧ t.log.count = u.log.count + (if u.time.mode = .unset then 0 else 1) ∧ (u.time.mode = .unset → t.log = u.log) ∧ (∀ x ∈ t.towers, x.mode = .off ∧ x.records = [])
      ∧ t.towers.length = u.towers.length ∧ (∀ k, t.memByte k = 0) ∧ t.mem.log = u.mem.log ∧ t.vault.keys = [] ∧ t.pkgs = []
      ∧ t.vault.policy = u.vault.policy ∧ t.time.mode = .unset ∧ t.dict.pcieUp = false))
  ∧ (∀ s at_ t cold u, u = s.advance at_ → t < 20 → t < u.towers.length → u.Serves (towerIndex t 0x0F) → u.holdsBooked t = false →
    u.resetAllowed t cold = true → u.resetBlocked t = false →
    Completes (if cold then .towerResetCold at_ t else .towerResetWarm at_ t) s (fun v =>
      (v.tower t).mode = .training ∧ (v.tower t).resetState = .off ∧ (v.tower t).resetCold = cold ∧ (v.tower t).records = []
      ∧ (v.tower t).running = [] ∧ (v.tower t).queue = [] ∧ v.domainOn (logicDomain t) = false ∧ t ∈ v.vault.reloading
      ∧ (cold = true → ∀ k, t * 2 ^ 40 ≤ k → k < (t + 1) * 2 ^ 40 → v.memByte k = 0) ∧ v.AccessDone))
  ∧ (∀ s at_ t u, u = s.advance at_ → t < 20 → t < u.towers.length → (u.tower t).resetState ≠ .idle → (u.tower t).heldInReset = false →
    t ∉ u.vault.reloading → (u.tower t).mode = .training → (u.tower t).resetFrom = .fenced → (u.tower t).fence = true →
    logicDomain t < u.power.domains.length → memDomain t < u.power.domains.length →
    Completes (.towerResetComplete at_ t [] ⟨[], []⟩ false) s (fun v => (v.tower t).resetState = .idle ∧ (v.tower t).mode = .fenced
      ∧ (v.tower t).resetCount = (u.tower t).resetCount + 1 ∧ (v.tower t).gates = (u.tower t).allGates
      ∧ v.domainOn (logicDomain t) = true ∧ v.domainOn (memDomain t) = true ∧ v.log.vecP.getLsbD 0 = true))
  ∧ (∀ s at_ n u, u = s.advance at_ → u.Serves 0x5006 → n ≤ 15 → n ≠ 13 → n ≠ 14 → (fieldSites n).all u.siteOut = true →
    u.base.fieldReset = none →
    Completes (.fieldReset at_ n) s (fun t => t.base.fieldReset = some n ∧ (32 + n) ∈ t.vault.reloading
      ∧ (∀ c ∈ t.base.cal, channelField c.kind c.index ≠ n) ∧ t.AccessDone ∧ SameMemory u t))
  ∧ (∀ s at_ n u, u = s.advance at_ → u.base.fieldReset = some n → (32 + n) ∉ u.vault.reloading → n < u.base.fieldBankClean.length →
    Completes (.fieldResetComplete at_) s (fun t => t.base.fieldReset = none ∧ t.base.fieldBankClean[n]? = some true
      ∧ t.log.vecP.getLsbD 0 = true ∧ SameMemory u t))
  ∧ (∀ s at_ g u, u = s.advance at_ → u.Serves 0x7304 → u.hasGuest g = true → u.siteFenced (guestSite g) = true →
    Completes (.guestReset at_ (guestSite g)) s (fun t => t.vault.grstHigh.getLsbD g = false ∧ t.vault.gready.getLsbD g = false
      ∧ t.vault.guestReset.getLsbD g = true ∧ guestSite g ∈ t.vault.reloading ∧ t.AccessDone ∧ SameMemory u t))

/-! ## The test access port (R537 to R539) -/

/-- R537, R538, Tables BR-7, BR-8: what each instruction of the test port loads. What the boundary register and the test status capture
is a free value (log 1). -/
def Obligations.TestPortCommandsComplete : Prop :=
  ∀ s at_ u n, u = s.advance at_ → n = u.tap.sessions + (if u.tap.reset then 1 else 0) →
    Completes (.bypass at_) s (fun t => t = { u with tap := { u.tap with ir := 0xFF, dr := 0, reset := false, sessions := n } })
    ∧ Completes (.idcode at_) s (fun t => t = { u with tap := { u.tap with ir := 0x01, dr := u.ident.idcode, reset := false, sessions := n } })
    ∧ (∀ code c, (code, c) ∈ [(0x02#8, Instr.samplePreload at_), (0x11#8, .testStatus at_)] →
      Completes c s (fun t => ∃ dr, t = { u with
        tap := { u.tap with ir := code, dr := dr, reset := false, sessions := n }, freeCtr := u.freeCtr + 1 }))
    ∧ (∀ code c, (code, c) ∈ [(0x03#8, Instr.extest at_), (0x04#8, .clamp at_), (0x05#8, .highz at_)] →
      (u.pinsFree = true → Completes c s (fun t => t.tap.ir = code ∧ t.tap.refused = u.tap.refused ∧ t.tap.segments = u.tap.segments
        ∧ t = { u with tap := t.tap, freeCtr := t.freeCtr }))
      ∧ (u.pinsFree = false → Completes c s (fun t => t = { u with
        tap := { u.tap with ir := 0xFF, dr := 0, refused := code, reset := false, sessions := n } })))
    ∧ (∀ bits, u.insertionHolds (bits &&& 0x7FFFFFFFFF#40) = true → Completes (.segsel at_ bits) s (fun t => t.tap.ir = 0x10
      ∧ t.tap.segments = bits &&& 0x7FFFFFFFFF#40 ∧ t.inserted = t.tap.segments ∧ t = { u with tap := t.tap }))
    ∧ (∀ bits, u.insertionHolds (bits &&& 0x7FFFFFFFFF#40) = false → bits &&& 0x7FFFFFFFFF#40 ≠ 0 →
      Completes (.segsel at_ bits) s (fun t => t.tap.ir = 0x10 ∧ t.tap.segments = u.tap.segments ∧ t = { u with tap := t.tap }))
    ∧ Completes (.testLogicReset at_) s (fun t => t = { u with tap := { u.tap with ir := 0x01, dr := 0, segments := 0, reset := true } })

/-! ## The object dictionary (chapter 21) -/

/-- R544, R549, R550, R551, R555, R563: a read of a plain object answers its octets, counts the register writes that found STATE busy, and
changes nothing but the dictionary's own registers; a
read of an object that is not there, or that is only written, aborts with its code.
R544, R546, R550, R555: a write of a selection within its range sets it for the transport that wrote it; one outside its range, and
one of a read-only object, abort and change nothing but the dictionary's own registers. -/
def Obligations.DictionaryAccessesComplete : Prop :=
  (∀ s at_ index sub length busy u v, u = (s.advance at_).discardWrites busy → v = u.begun false index sub → u.Serves index →
      (∀ r, object? index sub = some r → v.objectAbort index sub = 0 → r.right ≠ .wo → r.segmented = false → 1 ≤ length → length ≤ 3840 →
        (v.objOctets false index sub).length ≤ length → length ≤ r.type.size →
        Completes (.accessRead at_ ⟨index, sub⟩ 0 length busy) s (fun t => t.AccessDone
          ∧ t.dict.pcie.data.take (v.objOctets false index sub).length = v.objOctets false index sub
          ∧ t.dict.pcie.addr = index * 65536 + sub * 256 ∧ t.dict.pcie.served = u.now ∧ t.dict.served = u.dict.served + 1
          ∧ t.dict.discarded = (s.advance at_).dict.discarded + busy
          ∧ t = { u with dict := t.dict, ctl := t.ctl } ∧ (isTowerIndex index = false → t.ctl = u.ctl)))
      ∧ (v.objectAbort index sub ≠ 0 → 1 ≤ length → length ≤ 3840 →
        Completes (.accessRead at_ ⟨index, sub⟩ 0 length busy) s (fun t => t.AccessAborted (v.objectAbort index sub)
          ∧ t.dict.aborted = u.dict.aborted + 1 ∧ t = { u with dict := t.dict })))
  ∧ (∀ s at_ index sub data busy r k u v, u = (s.advance at_).discardWrites busy → v = u.begun false index sub → u.Serves index → object? index sub = some r →
      v.objectAbort index sub = 0 → data.length = r.type.size → 1 ≤ data.length → r.segmented = false → index * 256 + sub ≠ 0x111003 →
      (r.right.writeAbort = 0 → r.type ≠ .bool → isTowerIndex index = false → index * 256 + sub ≠ thermalKey →
        rangeOf selRanges (index * 256 + sub) = some k →
        (k.misses (leNat data) = false → Completes (.accessWrite at_ ⟨index, sub⟩ 0 data true busy) s (fun t => t.AccessDone
          ∧ kvGet t.dict.pcie.sels (index * 256 + sub) 0 = leNat data ∧ t.dict.i3c = u.dict.i3c ∧ t = { u with dict := t.dict }))
        ∧ (k.misses (leNat data) = true → Completes (.accessWrite at_ ⟨index, sub⟩ 0 data true busy) s (fun t => t.AccessAborted 0x04000001
          ∧ t.dict.pcie.sels = u.dict.pcie.sels ∧ t = { u with dict := t.dict })))
      ∧ (r.right = .ro ∨ r.right = .const → Completes (.accessWrite at_ ⟨index, sub⟩ 0 data true busy) s (fun t => t.AccessAborted 0x03000001
          ∧ t.dict.pcie.sels = u.dict.pcie.sels ∧ t = { u with dict := t.dict })))

/-- R552, R557, R558 to R560, R578, R585: bounds and idle limits expire, I3C accesses and CCCs are answered, the PCIe reset falls and
rises. Bytes that only the published standard or the maker fixes are `Config.i3cByte` and free values (log 1).
R565: a clear over the window removes the raises sampled before its tick from the PCIe copy alone; a vector raised in that tick
stays set, and so does one that the clear does not name. -/
def Obligations.TransportCommandsComplete : Prop :=
  ((∀ s at_ go index sub write last u, u = s.advance at_ → u.dead = false → u.dict.pcieUp = true → u.dict.pcie.served ≤ go → u.accessNow false index sub = false →
      go + serviceBound index sub write last ≤ u.now →
      Completes (.serviceBoundExpiry at_ false go index sub write last) s (fun t => t.AccessAborted 0x01000006
        ∧ t.dict.aborted = u.dict.aborted + 1 ∧ t = { u with dict := t.dict }))
    ∧ (∀ s at_ i3c w u, u = s.advance at_ → (u.dict.transport i3c).seg = some w → w.tick + 1000000 ≤ u.now → u.accessNow i3c w.index w.sub = false →
      Completes (.segmentIdleExpiry at_ i3c) s (fun t => (t.dict.transport i3c).seg = none ∧ t.dict.abandoned = u.dict.abandoned + 1
        ∧ (t.dict.transport (!i3c)) = u.dict.transport (!i3c) ∧ t = { u with dict := t.dict }))
    ∧ (∀ s at_ index sub r u v, u = s.advance at_ → v = u.begun true index sub → u.ServesI3c index → i3cReadable index sub = true →
      object? index sub = some r → r.type.size ≤ 32 → v.objectAbort index sub = 0 → r.right ≠ .wo →
      Completes (.i3cRead at_ index sub) s (fun t => t.dict.i3cReply = [2, 0, 0, 0, 0] ++ v.objOctets true index sub
        ∧ t.dict.i3c.abort = 0 ∧ t.dict.pcie = u.dict.pcie ∧ t = { u with dict := t.dict }))
    ∧ (∀ s at_ index sub u, u = s.advance at_ → u.ServesI3c index → i3cReadable index sub = false →
      Completes (.i3cRead at_ index sub) s (fun t => t.dict.i3cReply = [3, 8, 0, 0, 1] ∧ t.dict.i3c.abort = 0x01000008
        ∧ t = { u with dict := t.dict }))
    ∧ (∀ s at_ data u, u = s.advance at_ → u.ServesI3c 0x1110 → data.length = 4 →
      Completes (.i3cWrite at_ 0x1110 3 data) s (fun t => t.dict.i3cReply = [2, 0, 0, 0, 0]
        ∧ t.log = { u.log with ibiEnable := BitVec.ofNat 32 (leNat data) } ∧ t = { u with dict := t.dict, log := t.log }))
    ∧ (∀ s at_ index sub data u, u = s.advance at_ → u.ServesI3c index → i3cWritable index sub = false →
      Completes (.i3cWrite at_ index sub data) s (fun t => t.dict.i3cReply = [3, 8, 0, 0, 1] ∧ t = { u with dict := t.dict }))
    ∧ (∀ s at_ u, u = s.advance at_ → u.i3cLive = true →
      (∀ a, u.dict.i3cAddr = none → Completes (.entdaa at_ a) s (fun t => t = { u with dict := { u.dict with i3cAddr := some a } }))
      ∧ Completes (.rstdaa at_) s (fun t => t = { u with dict := { u.dict with i3cAddr := none } })
      ∧ (∀ e, Completes (.enec at_ e) s (fun t => t = { u with log := { u.log with i3cEvents := u.log.i3cEvents ||| e } }))
      ∧ (∀ e, Completes (.disec at_ e) s (fun t => t = { u with log := { u.log with i3cEvents := u.log.i3cEvents &&& ~~~e } }))
      ∧ (u.dict.i3cAddr.isSome → (∀ c n, (c, n) ∈ [(Instr.getpid at_, 6), (.getbcr at_, 1), (.getdcr at_, 1), (.getmwl at_, 2), (.getmrl at_, 3)] →
          Completes c s (fun t => t.dict.i3cReply.length = n ∧ t = { u with dict := t.dict }))
        ∧ Completes (.getpid at_) s (fun t => (t.dict.i3cReply.getD 4 0).extractLsb' 4 4 = u.boot.straps)
        ∧ Completes (.getstatus at_) s (fun t => t.dict.i3cReply.length = 2 ∧ t = { u with dict := t.dict, freeCtr := u.freeCtr + 1 })))
    ∧ (∀ s at_ u, u = s.advance at_ → u.dict.perst = true →
      Completes (.pePerstLFall at_) s (fun t => t.dict.perst = false ∧ t.dict.pcieUp = false ∧ t.dict.pcie.seg = none
        ∧ t.dict.i3c = u.dict.i3c ∧ t = { u with dict := t.dict }))
    ∧ (∀ s at_ u, u = s.advance at_ → u.dict.perst = false →
      Completes (.pePerstLRise at_) s (fun t => t.dict.perst = true ∧ t.log.vecP = 0 ∧ t.log.vecI = u.log.vecI ∧ t.dict.pcie.state = 0
        ∧ t.dict.pcie.sels = u.dict.pcie.sels ∧ (u.dead = false → 2 ≤ u.boot.layers → t.dict.pcieUp = true)
        ∧ t = { u with dict := t.dict, log := t.log })))
  ∧ (∀ s at_ bits u, u = s.advance at_ → u.Serves 0x1110 →
      Completes (.vectorClear at_ false bits) s (fun t => t.AccessDone ∧ t.log.vecI = u.log.vecI ∧ t.log.recs = u.log.recs
        ∧ (∀ v, v < 32 → t.log.vecP.getLsbD v = (u.log.vecP.getLsbD v
          && (!bits.getLsbD v || (kvHas u.log.raisedAt v && decide (kvGet u.log.raisedAt v 0 = u.now)))))
        ∧ t = { u with dict := t.dict, log := t.log }))

/-- R583, R584: ALERT_L is asserted while a unit that runs and decides has bit 9, 11 or 12 of the I3C copy set; a clear of these bits over I3C
releases it, but for a vector raised in the tick of the clear. MOD_READY is high while D:1022.01 reads 0x03 and the module has not shut
down; a shutdown takes it low and keeps D:1022.01. -/
def Obligations.PinsFollowVectorsAndModuleState : Prop :=
  (∀ s : State, (s.alertL = true ↔ s.dead = false ∧ (s.pair.mode = .unbound ∨ s.pair.mode = .active ∨ s.pair.mode = .solo)
      ∧ (s.log.vecI.getLsbD 9 = true ∨ s.log.vecI.getLsbD 11 = true ∨ s.log.vecI.getLsbD 12 = true))
    ∧ (s.modReady = true ↔ s.boot.modState = 3 ∧ s.power.shutdown = false))
  ∧ (∀ s at_ bits u, u = s.advance at_ → u.ServesI3c 0x1110 → (∀ v ∈ [9, 11, 12], bits.getLsbD v = true ∧ kvHas u.log.raisedAt v = false) →
    Completes (.vectorClear at_ true bits) s (fun t => t.alertL = false ∧ t.log.vecP = u.log.vecP))
  ∧ (∀ s at_ mv dur u, u = s.advance at_ → u.power.shutdown = false → u.power.charged = true → mv < 38000 ∨ 63000 < mv → 10000 ≤ dur →
    Completes (.inputVoltageEvent at_ mv dur) s (fun t => t.modReady = false ∧ t.boot.modState = u.boot.modState))

/-! ## The whole module -/

/-- With no command waiting a step is one period of the tally clock, and nothing else changes (the model's choice, log 3). -/
def Obligations.EmptyQueueStepIsOneClockPeriod : Prop :=
  ∀ s, s.pending = [] → s.time.started = true →
    (s.time.hold = 0 → step s = .next { s with time := { s.time with tally := s.time.tally + 1 } })
    ∧ (s.time.hold ≠ 0 → step s = .next { s with time := { s.time with hold := s.time.hold - 1 } })

/-- R43, R211, R245, R290, R319, R357, R418, R447, R453, R487, R515, R565: what the module holds when power comes. Every byte reads zero,
towers are OFF, no tenant is fenced, nothing is booked.
Memory keeps its canonical form and the rings their bounds at power-on (R319, R328, R515, R563). -/
def Obligations.PowerOnStateIsEmpty : Prop :=
  (State.reset.pending = [] ∧ State.reset.time.mode = .unset ∧ State.reset.now = 0 ∧ (∀ k, State.reset.memByte k = 0)
      ∧ (∀ t ∈ State.reset.towers, t.mode = .off ∧ t.records = [] ∧ t.queue = [] ∧ t.sync = []) ∧ State.reset.towers.length = 20
      ∧ (∀ p ∈ State.reset.ports, p.up = false ∧ p.queue = []) ∧ State.reset.ledger.bookings = [] ∧ State.reset.ledger.reqs = []
      ∧ State.reset.pkgs = [] ∧ State.reset.vault.keys = [] ∧ State.reset.vault.fencedCount = 0 ∧ State.reset.vault.admitted = 0
      ∧ State.reset.pair.mode = .unbound ∧ State.reset.log.count = 0 ∧ State.reset.log.vecP = 0 ∧ State.reset.log.vecI = 0
      ∧ (∀ d ∈ State.reset.power.domains, d.st = 0) ∧ State.reset.power.domains.length = 48 ∧ State.reset.dict.pcieUp = false)
  ∧ (State.reset.MemoryCanonical ∧ State.reset.RingsBounded)

/-- R319, R328, R515, R563: every step, whatever command it runs, keeps the bytes of memory in their canonical form, so that a byte reads
zero until it is written, and the event log, the error log and the abort log within their rings. -/
def Obligations.EveryStepKeepsMemoryAndRings : Prop :=
  ∀ s t, s.MemoryCanonical → s.RingsBounded → step s = .next t → t.MemoryCanonical ∧ t.RingsBounded

/-- R48: no step lowers the tally, but for the return of input power (R572). -/
def Obligations.TallyNeverDecreases : Prop :=
  ∀ s t, step s = .next t → (∀ at_ rest, s.pending ≠ .inputCharged at_ :: rest) → s.now ≤ t.now
end

