-- ==== Sys2Proof/Laws/State.lean ====
section
/-!
SUPPORT. One lemma per field per update of the state, so that no proof unfolds a record update.
-/
namespace Sys2Proof.Machine

open Sys2Proof

/-! ### mapTime -/

section
variable (s : State) (f : TimeSt → TimeSt)

@[simp] theorem State.mapTime_pending : (s.mapTime f).pending = s.pending := rfl
@[simp] theorem State.mapTime_ident : (s.mapTime f).ident = s.ident := rfl
@[simp] theorem State.mapTime_time : (s.mapTime f).time = f s.time := rfl
@[simp] theorem State.mapTime_towers : (s.mapTime f).towers = s.towers := rfl
@[simp] theorem State.mapTime_base : (s.mapTime f).base = s.base := rfl
@[simp] theorem State.mapTime_mem : (s.mapTime f).mem = s.mem := rfl
@[simp] theorem State.mapTime_groups : (s.mapTime f).groups = s.groups := rfl
@[simp] theorem State.mapTime_pkgs : (s.mapTime f).pkgs = s.pkgs := rfl
@[simp] theorem State.mapTime_roles : (s.mapTime f).roles = s.roles := rfl
@[simp] theorem State.mapTime_groupWas : (s.mapTime f).groupWas = s.groupWas := rfl
@[simp] theorem State.mapTime_loadStatus : (s.mapTime f).loadStatus = s.loadStatus := rfl
@[simp] theorem State.mapTime_load : (s.mapTime f).load = s.load := rfl
@[simp] theorem State.mapTime_ports : (s.mapTime f).ports = s.ports := rfl
@[simp] theorem State.mapTime_ledger : (s.mapTime f).ledger = s.ledger := rfl
@[simp] theorem State.mapTime_vault : (s.mapTime f).vault = s.vault := rfl
@[simp] theorem State.mapTime_pair : (s.mapTime f).pair = s.pair := rfl
@[simp] theorem State.mapTime_power : (s.mapTime f).power = s.power := rfl
@[simp] theorem State.mapTime_log : (s.mapTime f).log = s.log := rfl
@[simp] theorem State.mapTime_boot : (s.mapTime f).boot = s.boot := rfl
@[simp] theorem State.mapTime_tap : (s.mapTime f).tap = s.tap := rfl
@[simp] theorem State.mapTime_dict : (s.mapTime f).dict = s.dict := rfl
@[simp] theorem State.mapTime_engines : (s.mapTime f).engines = s.engines := rfl
@[simp] theorem State.mapTime_net : (s.mapTime f).net = s.net := rfl
@[simp] theorem State.mapTime_syncOut : (s.mapTime f).syncOut = s.syncOut := rfl
@[simp] theorem State.mapTime_lines : (s.mapTime f).lines = s.lines := rfl
@[simp] theorem State.mapTime_rxs : (s.mapTime f).rxs = s.rxs := rfl
@[simp] theorem State.mapTime_spSites : (s.mapTime f).spSites = s.spSites := rfl
@[simp] theorem State.mapTime_inbox : (s.mapTime f).inbox = s.inbox := rfl
@[simp] theorem State.mapTime_ctl : (s.mapTime f).ctl = s.ctl := rfl
@[simp] theorem State.mapTime_freeCtr : (s.mapTime f).freeCtr = s.freeCtr := rfl

end

/-! ### mapTowers -/

section
variable (s : State) (f : List Tower → List Tower)

@[simp] theorem State.mapTowers_pending : (s.mapTowers f).pending = s.pending := rfl
@[simp] theorem State.mapTowers_ident : (s.mapTowers f).ident = s.ident := rfl
@[simp] theorem State.mapTowers_time : (s.mapTowers f).time = s.time := rfl
@[simp] theorem State.mapTowers_towers : (s.mapTowers f).towers = f s.towers := rfl
@[simp] theorem State.mapTowers_base : (s.mapTowers f).base = s.base := rfl
@[simp] theorem State.mapTowers_mem : (s.mapTowers f).mem = s.mem := rfl
@[simp] theorem State.mapTowers_groups : (s.mapTowers f).groups = s.groups := rfl
@[simp] theorem State.mapTowers_pkgs : (s.mapTowers f).pkgs = s.pkgs := rfl
@[simp] theorem State.mapTowers_roles : (s.mapTowers f).roles = s.roles := rfl
@[simp] theorem State.mapTowers_groupWas : (s.mapTowers f).groupWas = s.groupWas := rfl
@[simp] theorem State.mapTowers_loadStatus : (s.mapTowers f).loadStatus = s.loadStatus := rfl
@[simp] theorem State.mapTowers_load : (s.mapTowers f).load = s.load := rfl
@[simp] theorem State.mapTowers_ports : (s.mapTowers f).ports = s.ports := rfl
@[simp] theorem State.mapTowers_ledger : (s.mapTowers f).ledger = s.ledger := rfl
@[simp] theorem State.mapTowers_vault : (s.mapTowers f).vault = s.vault := rfl
@[simp] theorem State.mapTowers_pair : (s.mapTowers f).pair = s.pair := rfl
@[simp] theorem State.mapTowers_power : (s.mapTowers f).power = s.power := rfl
@[simp] theorem State.mapTowers_log : (s.mapTowers f).log = s.log := rfl
@[simp] theorem State.mapTowers_boot : (s.mapTowers f).boot = s.boot := rfl
@[simp] theorem State.mapTowers_tap : (s.mapTowers f).tap = s.tap := rfl
@[simp] theorem State.mapTowers_dict : (s.mapTowers f).dict = s.dict := rfl
@[simp] theorem State.mapTowers_engines : (s.mapTowers f).engines = s.engines := rfl
@[simp] theorem State.mapTowers_net : (s.mapTowers f).net = s.net := rfl
@[simp] theorem State.mapTowers_syncOut : (s.mapTowers f).syncOut = s.syncOut := rfl
@[simp] theorem State.mapTowers_lines : (s.mapTowers f).lines = s.lines := rfl
@[simp] theorem State.mapTowers_rxs : (s.mapTowers f).rxs = s.rxs := rfl
@[simp] theorem State.mapTowers_spSites : (s.mapTowers f).spSites = s.spSites := rfl
@[simp] theorem State.mapTowers_inbox : (s.mapTowers f).inbox = s.inbox := rfl
@[simp] theorem State.mapTowers_ctl : (s.mapTowers f).ctl = s.ctl := rfl
@[simp] theorem State.mapTowers_freeCtr : (s.mapTowers f).freeCtr = s.freeCtr := rfl
@[simp] theorem State.mapTowers_now : (s.mapTowers f).now = s.now := rfl

end

/-! ### mapBase -/

section
variable (s : State) (f : BaseSt → BaseSt)

@[simp] theorem State.mapBase_pending : (s.mapBase f).pending = s.pending := rfl
@[simp] theorem State.mapBase_ident : (s.mapBase f).ident = s.ident := rfl
@[simp] theorem State.mapBase_time : (s.mapBase f).time = s.time := rfl
@[simp] theorem State.mapBase_towers : (s.mapBase f).towers = s.towers := rfl
@[simp] theorem State.mapBase_base : (s.mapBase f).base = f s.base := rfl
@[simp] theorem State.mapBase_mem : (s.mapBase f).mem = s.mem := rfl
@[simp] theorem State.mapBase_groups : (s.mapBase f).groups = s.groups := rfl
@[simp] theorem State.mapBase_pkgs : (s.mapBase f).pkgs = s.pkgs := rfl
@[simp] theorem State.mapBase_roles : (s.mapBase f).roles = s.roles := rfl
@[simp] theorem State.mapBase_groupWas : (s.mapBase f).groupWas = s.groupWas := rfl
@[simp] theorem State.mapBase_loadStatus : (s.mapBase f).loadStatus = s.loadStatus := rfl
@[simp] theorem State.mapBase_load : (s.mapBase f).load = s.load := rfl
@[simp] theorem State.mapBase_ports : (s.mapBase f).ports = s.ports := rfl
@[simp] theorem State.mapBase_ledger : (s.mapBase f).ledger = s.ledger := rfl
@[simp] theorem State.mapBase_vault : (s.mapBase f).vault = s.vault := rfl
@[simp] theorem State.mapBase_pair : (s.mapBase f).pair = s.pair := rfl
@[simp] theorem State.mapBase_power : (s.mapBase f).power = s.power := rfl
@[simp] theorem State.mapBase_log : (s.mapBase f).log = s.log := rfl
@[simp] theorem State.mapBase_boot : (s.mapBase f).boot = s.boot := rfl
@[simp] theorem State.mapBase_tap : (s.mapBase f).tap = s.tap := rfl
@[simp] theorem State.mapBase_dict : (s.mapBase f).dict = s.dict := rfl
@[simp] theorem State.mapBase_engines : (s.mapBase f).engines = s.engines := rfl
@[simp] theorem State.mapBase_net : (s.mapBase f).net = s.net := rfl
@[simp] theorem State.mapBase_syncOut : (s.mapBase f).syncOut = s.syncOut := rfl
@[simp] theorem State.mapBase_lines : (s.mapBase f).lines = s.lines := rfl
@[simp] theorem State.mapBase_rxs : (s.mapBase f).rxs = s.rxs := rfl
@[simp] theorem State.mapBase_spSites : (s.mapBase f).spSites = s.spSites := rfl
@[simp] theorem State.mapBase_inbox : (s.mapBase f).inbox = s.inbox := rfl
@[simp] theorem State.mapBase_ctl : (s.mapBase f).ctl = s.ctl := rfl
@[simp] theorem State.mapBase_freeCtr : (s.mapBase f).freeCtr = s.freeCtr := rfl
@[simp] theorem State.mapBase_now : (s.mapBase f).now = s.now := rfl

end

/-! ### mapMem -/

section
variable (s : State) (f : MemSt → MemSt)

@[simp] theorem State.mapMem_pending : (s.mapMem f).pending = s.pending := rfl
@[simp] theorem State.mapMem_ident : (s.mapMem f).ident = s.ident := rfl
@[simp] theorem State.mapMem_time : (s.mapMem f).time = s.time := rfl
@[simp] theorem State.mapMem_towers : (s.mapMem f).towers = s.towers := rfl
@[simp] theorem State.mapMem_base : (s.mapMem f).base = s.base := rfl
@[simp] theorem State.mapMem_mem : (s.mapMem f).mem = f s.mem := rfl
@[simp] theorem State.mapMem_groups : (s.mapMem f).groups = s.groups := rfl
@[simp] theorem State.mapMem_pkgs : (s.mapMem f).pkgs = s.pkgs := rfl
@[simp] theorem State.mapMem_roles : (s.mapMem f).roles = s.roles := rfl
@[simp] theorem State.mapMem_groupWas : (s.mapMem f).groupWas = s.groupWas := rfl
@[simp] theorem State.mapMem_loadStatus : (s.mapMem f).loadStatus = s.loadStatus := rfl
@[simp] theorem State.mapMem_load : (s.mapMem f).load = s.load := rfl
@[simp] theorem State.mapMem_ports : (s.mapMem f).ports = s.ports := rfl
@[simp] theorem State.mapMem_ledger : (s.mapMem f).ledger = s.ledger := rfl
@[simp] theorem State.mapMem_vault : (s.mapMem f).vault = s.vault := rfl
@[simp] theorem State.mapMem_pair : (s.mapMem f).pair = s.pair := rfl
@[simp] theorem State.mapMem_power : (s.mapMem f).power = s.power := rfl
@[simp] theorem State.mapMem_log : (s.mapMem f).log = s.log := rfl
@[simp] theorem State.mapMem_boot : (s.mapMem f).boot = s.boot := rfl
@[simp] theorem State.mapMem_tap : (s.mapMem f).tap = s.tap := rfl
@[simp] theorem State.mapMem_dict : (s.mapMem f).dict = s.dict := rfl
@[simp] theorem State.mapMem_engines : (s.mapMem f).engines = s.engines := rfl
@[simp] theorem State.mapMem_net : (s.mapMem f).net = s.net := rfl
@[simp] theorem State.mapMem_syncOut : (s.mapMem f).syncOut = s.syncOut := rfl
@[simp] theorem State.mapMem_lines : (s.mapMem f).lines = s.lines := rfl
@[simp] theorem State.mapMem_rxs : (s.mapMem f).rxs = s.rxs := rfl
@[simp] theorem State.mapMem_spSites : (s.mapMem f).spSites = s.spSites := rfl
@[simp] theorem State.mapMem_inbox : (s.mapMem f).inbox = s.inbox := rfl
@[simp] theorem State.mapMem_ctl : (s.mapMem f).ctl = s.ctl := rfl
@[simp] theorem State.mapMem_freeCtr : (s.mapMem f).freeCtr = s.freeCtr := rfl
@[simp] theorem State.mapMem_now : (s.mapMem f).now = s.now := rfl

end

/-! ### mapGroups -/

section
variable (s : State) (f : List Group → List Group)

@[simp] theorem State.mapGroups_pending : (s.mapGroups f).pending = s.pending := rfl
@[simp] theorem State.mapGroups_ident : (s.mapGroups f).ident = s.ident := rfl
@[simp] theorem State.mapGroups_time : (s.mapGroups f).time = s.time := rfl
@[simp] theorem State.mapGroups_towers : (s.mapGroups f).towers = s.towers := rfl
@[simp] theorem State.mapGroups_base : (s.mapGroups f).base = s.base := rfl
@[simp] theorem State.mapGroups_mem : (s.mapGroups f).mem = s.mem := rfl
@[simp] theorem State.mapGroups_groups : (s.mapGroups f).groups = f s.groups := rfl
@[simp] theorem State.mapGroups_pkgs : (s.mapGroups f).pkgs = s.pkgs := rfl
@[simp] theorem State.mapGroups_roles : (s.mapGroups f).roles = s.roles := rfl
@[simp] theorem State.mapGroups_groupWas : (s.mapGroups f).groupWas = s.groupWas := rfl
@[simp] theorem State.mapGroups_loadStatus : (s.mapGroups f).loadStatus = s.loadStatus := rfl
@[simp] theorem State.mapGroups_load : (s.mapGroups f).load = s.load := rfl
@[simp] theorem State.mapGroups_ports : (s.mapGroups f).ports = s.ports := rfl
@[simp] theorem State.mapGroups_ledger : (s.mapGroups f).ledger = s.ledger := rfl
@[simp] theorem State.mapGroups_vault : (s.mapGroups f).vault = s.vault := rfl
@[simp] theorem State.mapGroups_pair : (s.mapGroups f).pair = s.pair := rfl
@[simp] theorem State.mapGroups_power : (s.mapGroups f).power = s.power := rfl
@[simp] theorem State.mapGroups_log : (s.mapGroups f).log = s.log := rfl
@[simp] theorem State.mapGroups_boot : (s.mapGroups f).boot = s.boot := rfl
@[simp] theorem State.mapGroups_tap : (s.mapGroups f).tap = s.tap := rfl
@[simp] theorem State.mapGroups_dict : (s.mapGroups f).dict = s.dict := rfl
@[simp] theorem State.mapGroups_engines : (s.mapGroups f).engines = s.engines := rfl
@[simp] theorem State.mapGroups_net : (s.mapGroups f).net = s.net := rfl
@[simp] theorem State.mapGroups_syncOut : (s.mapGroups f).syncOut = s.syncOut := rfl
@[simp] theorem State.mapGroups_lines : (s.mapGroups f).lines = s.lines := rfl
@[simp] theorem State.mapGroups_rxs : (s.mapGroups f).rxs = s.rxs := rfl
@[simp] theorem State.mapGroups_spSites : (s.mapGroups f).spSites = s.spSites := rfl
@[simp] theorem State.mapGroups_inbox : (s.mapGroups f).inbox = s.inbox := rfl
@[simp] theorem State.mapGroups_ctl : (s.mapGroups f).ctl = s.ctl := rfl
@[simp] theorem State.mapGroups_freeCtr : (s.mapGroups f).freeCtr = s.freeCtr := rfl
@[simp] theorem State.mapGroups_now : (s.mapGroups f).now = s.now := rfl

end

/-! ### mapPkgs -/

section
variable (s : State) (f : List Pkg → List Pkg)

@[simp] theorem State.mapPkgs_pending : (s.mapPkgs f).pending = s.pending := rfl
@[simp] theorem State.mapPkgs_ident : (s.mapPkgs f).ident = s.ident := rfl
@[simp] theorem State.mapPkgs_time : (s.mapPkgs f).time = s.time := rfl
@[simp] theorem State.mapPkgs_towers : (s.mapPkgs f).towers = s.towers := rfl
@[simp] theorem State.mapPkgs_base : (s.mapPkgs f).base = s.base := rfl
@[simp] theorem State.mapPkgs_mem : (s.mapPkgs f).mem = s.mem := rfl
@[simp] theorem State.mapPkgs_groups : (s.mapPkgs f).groups = s.groups := rfl
@[simp] theorem State.mapPkgs_pkgs : (s.mapPkgs f).pkgs = f s.pkgs := rfl
@[simp] theorem State.mapPkgs_roles : (s.mapPkgs f).roles = s.roles := rfl
@[simp] theorem State.mapPkgs_groupWas : (s.mapPkgs f).groupWas = s.groupWas := rfl
@[simp] theorem State.mapPkgs_loadStatus : (s.mapPkgs f).loadStatus = s.loadStatus := rfl
@[simp] theorem State.mapPkgs_load : (s.mapPkgs f).load = s.load := rfl
@[simp] theorem State.mapPkgs_ports : (s.mapPkgs f).ports = s.ports := rfl
@[simp] theorem State.mapPkgs_ledger : (s.mapPkgs f).ledger = s.ledger := rfl
@[simp] theorem State.mapPkgs_vault : (s.mapPkgs f).vault = s.vault := rfl
@[simp] theorem State.mapPkgs_pair : (s.mapPkgs f).pair = s.pair := rfl
@[simp] theorem State.mapPkgs_power : (s.mapPkgs f).power = s.power := rfl
@[simp] theorem State.mapPkgs_log : (s.mapPkgs f).log = s.log := rfl
@[simp] theorem State.mapPkgs_boot : (s.mapPkgs f).boot = s.boot := rfl
@[simp] theorem State.mapPkgs_tap : (s.mapPkgs f).tap = s.tap := rfl
@[simp] theorem State.mapPkgs_dict : (s.mapPkgs f).dict = s.dict := rfl
@[simp] theorem State.mapPkgs_engines : (s.mapPkgs f).engines = s.engines := rfl
@[simp] theorem State.mapPkgs_net : (s.mapPkgs f).net = s.net := rfl
@[simp] theorem State.mapPkgs_syncOut : (s.mapPkgs f).syncOut = s.syncOut := rfl
@[simp] theorem State.mapPkgs_lines : (s.mapPkgs f).lines = s.lines := rfl
@[simp] theorem State.mapPkgs_rxs : (s.mapPkgs f).rxs = s.rxs := rfl
@[simp] theorem State.mapPkgs_spSites : (s.mapPkgs f).spSites = s.spSites := rfl
@[simp] theorem State.mapPkgs_inbox : (s.mapPkgs f).inbox = s.inbox := rfl
@[simp] theorem State.mapPkgs_ctl : (s.mapPkgs f).ctl = s.ctl := rfl
@[simp] theorem State.mapPkgs_freeCtr : (s.mapPkgs f).freeCtr = s.freeCtr := rfl
@[simp] theorem State.mapPkgs_now : (s.mapPkgs f).now = s.now := rfl

end

/-! ### mapLoad -/

section
variable (s : State) (f : LoadSt → LoadSt)

@[simp] theorem State.mapLoad_pending : (s.mapLoad f).pending = s.pending := rfl
@[simp] theorem State.mapLoad_ident : (s.mapLoad f).ident = s.ident := rfl
@[simp] theorem State.mapLoad_time : (s.mapLoad f).time = s.time := rfl
@[simp] theorem State.mapLoad_towers : (s.mapLoad f).towers = s.towers := rfl
@[simp] theorem State.mapLoad_base : (s.mapLoad f).base = s.base := rfl
@[simp] theorem State.mapLoad_mem : (s.mapLoad f).mem = s.mem := rfl
@[simp] theorem State.mapLoad_groups : (s.mapLoad f).groups = s.groups := rfl
@[simp] theorem State.mapLoad_pkgs : (s.mapLoad f).pkgs = s.pkgs := rfl
@[simp] theorem State.mapLoad_roles : (s.mapLoad f).roles = s.roles := rfl
@[simp] theorem State.mapLoad_groupWas : (s.mapLoad f).groupWas = s.groupWas := rfl
@[simp] theorem State.mapLoad_loadStatus : (s.mapLoad f).loadStatus = s.loadStatus := rfl
@[simp] theorem State.mapLoad_load : (s.mapLoad f).load = f s.load := rfl
@[simp] theorem State.mapLoad_ports : (s.mapLoad f).ports = s.ports := rfl
@[simp] theorem State.mapLoad_ledger : (s.mapLoad f).ledger = s.ledger := rfl
@[simp] theorem State.mapLoad_vault : (s.mapLoad f).vault = s.vault := rfl
@[simp] theorem State.mapLoad_pair : (s.mapLoad f).pair = s.pair := rfl
@[simp] theorem State.mapLoad_power : (s.mapLoad f).power = s.power := rfl
@[simp] theorem State.mapLoad_log : (s.mapLoad f).log = s.log := rfl
@[simp] theorem State.mapLoad_boot : (s.mapLoad f).boot = s.boot := rfl
@[simp] theorem State.mapLoad_tap : (s.mapLoad f).tap = s.tap := rfl
@[simp] theorem State.mapLoad_dict : (s.mapLoad f).dict = s.dict := rfl
@[simp] theorem State.mapLoad_engines : (s.mapLoad f).engines = s.engines := rfl
@[simp] theorem State.mapLoad_net : (s.mapLoad f).net = s.net := rfl
@[simp] theorem State.mapLoad_syncOut : (s.mapLoad f).syncOut = s.syncOut := rfl
@[simp] theorem State.mapLoad_lines : (s.mapLoad f).lines = s.lines := rfl
@[simp] theorem State.mapLoad_rxs : (s.mapLoad f).rxs = s.rxs := rfl
@[simp] theorem State.mapLoad_spSites : (s.mapLoad f).spSites = s.spSites := rfl
@[simp] theorem State.mapLoad_inbox : (s.mapLoad f).inbox = s.inbox := rfl
@[simp] theorem State.mapLoad_ctl : (s.mapLoad f).ctl = s.ctl := rfl
@[simp] theorem State.mapLoad_freeCtr : (s.mapLoad f).freeCtr = s.freeCtr := rfl
@[simp] theorem State.mapLoad_now : (s.mapLoad f).now = s.now := rfl

end

/-! ### mapPorts -/

section
variable (s : State) (f : List Port → List Port)

@[simp] theorem State.mapPorts_pending : (s.mapPorts f).pending = s.pending := rfl
@[simp] theorem State.mapPorts_ident : (s.mapPorts f).ident = s.ident := rfl
@[simp] theorem State.mapPorts_time : (s.mapPorts f).time = s.time := rfl
@[simp] theorem State.mapPorts_towers : (s.mapPorts f).towers = s.towers := rfl
@[simp] theorem State.mapPorts_base : (s.mapPorts f).base = s.base := rfl
@[simp] theorem State.mapPorts_mem : (s.mapPorts f).mem = s.mem := rfl
@[simp] theorem State.mapPorts_groups : (s.mapPorts f).groups = s.groups := rfl
@[simp] theorem State.mapPorts_pkgs : (s.mapPorts f).pkgs = s.pkgs := rfl
@[simp] theorem State.mapPorts_roles : (s.mapPorts f).roles = s.roles := rfl
@[simp] theorem State.mapPorts_groupWas : (s.mapPorts f).groupWas = s.groupWas := rfl
@[simp] theorem State.mapPorts_loadStatus : (s.mapPorts f).loadStatus = s.loadStatus := rfl
@[simp] theorem State.mapPorts_load : (s.mapPorts f).load = s.load := rfl
@[simp] theorem State.mapPorts_ports : (s.mapPorts f).ports = f s.ports := rfl
@[simp] theorem State.mapPorts_ledger : (s.mapPorts f).ledger = s.ledger := rfl
@[simp] theorem State.mapPorts_vault : (s.mapPorts f).vault = s.vault := rfl
@[simp] theorem State.mapPorts_pair : (s.mapPorts f).pair = s.pair := rfl
@[simp] theorem State.mapPorts_power : (s.mapPorts f).power = s.power := rfl
@[simp] theorem State.mapPorts_log : (s.mapPorts f).log = s.log := rfl
@[simp] theorem State.mapPorts_boot : (s.mapPorts f).boot = s.boot := rfl
@[simp] theorem State.mapPorts_tap : (s.mapPorts f).tap = s.tap := rfl
@[simp] theorem State.mapPorts_dict : (s.mapPorts f).dict = s.dict := rfl
@[simp] theorem State.mapPorts_engines : (s.mapPorts f).engines = s.engines := rfl
@[simp] theorem State.mapPorts_net : (s.mapPorts f).net = s.net := rfl
@[simp] theorem State.mapPorts_syncOut : (s.mapPorts f).syncOut = s.syncOut := rfl
@[simp] theorem State.mapPorts_lines : (s.mapPorts f).lines = s.lines := rfl
@[simp] theorem State.mapPorts_rxs : (s.mapPorts f).rxs = s.rxs := rfl
@[simp] theorem State.mapPorts_spSites : (s.mapPorts f).spSites = s.spSites := rfl
@[simp] theorem State.mapPorts_inbox : (s.mapPorts f).inbox = s.inbox := rfl
@[simp] theorem State.mapPorts_ctl : (s.mapPorts f).ctl = s.ctl := rfl
@[simp] theorem State.mapPorts_freeCtr : (s.mapPorts f).freeCtr = s.freeCtr := rfl
@[simp] theorem State.mapPorts_now : (s.mapPorts f).now = s.now := rfl

end

/-! ### mapLedger -/

section
variable (s : State) (f : LedgerSt → LedgerSt)

@[simp] theorem State.mapLedger_pending : (s.mapLedger f).pending = s.pending := rfl
@[simp] theorem State.mapLedger_ident : (s.mapLedger f).ident = s.ident := rfl
@[simp] theorem State.mapLedger_time : (s.mapLedger f).time = s.time := rfl
@[simp] theorem State.mapLedger_towers : (s.mapLedger f).towers = s.towers := rfl
@[simp] theorem State.mapLedger_base : (s.mapLedger f).base = s.base := rfl
@[simp] theorem State.mapLedger_mem : (s.mapLedger f).mem = s.mem := rfl
@[simp] theorem State.mapLedger_groups : (s.mapLedger f).groups = s.groups := rfl
@[simp] theorem State.mapLedger_pkgs : (s.mapLedger f).pkgs = s.pkgs := rfl
@[simp] theorem State.mapLedger_roles : (s.mapLedger f).roles = s.roles := rfl
@[simp] theorem State.mapLedger_groupWas : (s.mapLedger f).groupWas = s.groupWas := rfl
@[simp] theorem State.mapLedger_loadStatus : (s.mapLedger f).loadStatus = s.loadStatus := rfl
@[simp] theorem State.mapLedger_load : (s.mapLedger f).load = s.load := rfl
@[simp] theorem State.mapLedger_ports : (s.mapLedger f).ports = s.ports := rfl
@[simp] theorem State.mapLedger_ledger : (s.mapLedger f).ledger = f s.ledger := rfl
@[simp] theorem State.mapLedger_vault : (s.mapLedger f).vault = s.vault := rfl
@[simp] theorem State.mapLedger_pair : (s.mapLedger f).pair = s.pair := rfl
@[simp] theorem State.mapLedger_power : (s.mapLedger f).power = s.power := rfl
@[simp] theorem State.mapLedger_log : (s.mapLedger f).log = s.log := rfl
@[simp] theorem State.mapLedger_boot : (s.mapLedger f).boot = s.boot := rfl
@[simp] theorem State.mapLedger_tap : (s.mapLedger f).tap = s.tap := rfl
@[simp] theorem State.mapLedger_dict : (s.mapLedger f).dict = s.dict := rfl
@[simp] theorem State.mapLedger_engines : (s.mapLedger f).engines = s.engines := rfl
@[simp] theorem State.mapLedger_net : (s.mapLedger f).net = s.net := rfl
@[simp] theorem State.mapLedger_syncOut : (s.mapLedger f).syncOut = s.syncOut := rfl
@[simp] theorem State.mapLedger_lines : (s.mapLedger f).lines = s.lines := rfl
@[simp] theorem State.mapLedger_rxs : (s.mapLedger f).rxs = s.rxs := rfl
@[simp] theorem State.mapLedger_spSites : (s.mapLedger f).spSites = s.spSites := rfl
@[simp] theorem State.mapLedger_inbox : (s.mapLedger f).inbox = s.inbox := rfl
@[simp] theorem State.mapLedger_ctl : (s.mapLedger f).ctl = s.ctl := rfl
@[simp] theorem State.mapLedger_freeCtr : (s.mapLedger f).freeCtr = s.freeCtr := rfl
@[simp] theorem State.mapLedger_now : (s.mapLedger f).now = s.now := rfl

end

/-! ### mapVault -/

section
variable (s : State) (f : VaultSt → VaultSt)

@[simp] theorem State.mapVault_pending : (s.mapVault f).pending = s.pending := rfl
@[simp] theorem State.mapVault_ident : (s.mapVault f).ident = s.ident := rfl
@[simp] theorem State.mapVault_time : (s.mapVault f).time = s.time := rfl
@[simp] theorem State.mapVault_towers : (s.mapVault f).towers = s.towers := rfl
@[simp] theorem State.mapVault_base : (s.mapVault f).base = s.base := rfl
@[simp] theorem State.mapVault_mem : (s.mapVault f).mem = s.mem := rfl
@[simp] theorem State.mapVault_groups : (s.mapVault f).groups = s.groups := rfl
@[simp] theorem State.mapVault_pkgs : (s.mapVault f).pkgs = s.pkgs := rfl
@[simp] theorem State.mapVault_roles : (s.mapVault f).roles = s.roles := rfl
@[simp] theorem State.mapVault_groupWas : (s.mapVault f).groupWas = s.groupWas := rfl
@[simp] theorem State.mapVault_loadStatus : (s.mapVault f).loadStatus = s.loadStatus := rfl
@[simp] theorem State.mapVault_load : (s.mapVault f).load = s.load := rfl
@[simp] theorem State.mapVault_ports : (s.mapVault f).ports = s.ports := rfl
@[simp] theorem State.mapVault_ledger : (s.mapVault f).ledger = s.ledger := rfl
@[simp] theorem State.mapVault_vault : (s.mapVault f).vault = f s.vault := rfl
@[simp] theorem State.mapVault_pair : (s.mapVault f).pair = s.pair := rfl
@[simp] theorem State.mapVault_power : (s.mapVault f).power = s.power := rfl
@[simp] theorem State.mapVault_log : (s.mapVault f).log = s.log := rfl
@[simp] theorem State.mapVault_boot : (s.mapVault f).boot = s.boot := rfl
@[simp] theorem State.mapVault_tap : (s.mapVault f).tap = s.tap := rfl
@[simp] theorem State.mapVault_dict : (s.mapVault f).dict = s.dict := rfl
@[simp] theorem State.mapVault_engines : (s.mapVault f).engines = s.engines := rfl
@[simp] theorem State.mapVault_net : (s.mapVault f).net = s.net := rfl
@[simp] theorem State.mapVault_syncOut : (s.mapVault f).syncOut = s.syncOut := rfl
@[simp] theorem State.mapVault_lines : (s.mapVault f).lines = s.lines := rfl
@[simp] theorem State.mapVault_rxs : (s.mapVault f).rxs = s.rxs := rfl
@[simp] theorem State.mapVault_spSites : (s.mapVault f).spSites = s.spSites := rfl
@[simp] theorem State.mapVault_inbox : (s.mapVault f).inbox = s.inbox := rfl
@[simp] theorem State.mapVault_ctl : (s.mapVault f).ctl = s.ctl := rfl
@[simp] theorem State.mapVault_freeCtr : (s.mapVault f).freeCtr = s.freeCtr := rfl
@[simp] theorem State.mapVault_now : (s.mapVault f).now = s.now := rfl

end

/-! ### mapPair -/

section
variable (s : State) (f : PairSt → PairSt)

@[simp] theorem State.mapPair_pending : (s.mapPair f).pending = s.pending := rfl
@[simp] theorem State.mapPair_ident : (s.mapPair f).ident = s.ident := rfl
@[simp] theorem State.mapPair_time : (s.mapPair f).time = s.time := rfl
@[simp] theorem State.mapPair_towers : (s.mapPair f).towers = s.towers := rfl
@[simp] theorem State.mapPair_base : (s.mapPair f).base = s.base := rfl
@[simp] theorem State.mapPair_mem : (s.mapPair f).mem = s.mem := rfl
@[simp] theorem State.mapPair_groups : (s.mapPair f).groups = s.groups := rfl
@[simp] theorem State.mapPair_pkgs : (s.mapPair f).pkgs = s.pkgs := rfl
@[simp] theorem State.mapPair_roles : (s.mapPair f).roles = s.roles := rfl
@[simp] theorem State.mapPair_groupWas : (s.mapPair f).groupWas = s.groupWas := rfl
@[simp] theorem State.mapPair_loadStatus : (s.mapPair f).loadStatus = s.loadStatus := rfl
@[simp] theorem State.mapPair_load : (s.mapPair f).load = s.load := rfl
@[simp] theorem State.mapPair_ports : (s.mapPair f).ports = s.ports := rfl
@[simp] theorem State.mapPair_ledger : (s.mapPair f).ledger = s.ledger := rfl
@[simp] theorem State.mapPair_vault : (s.mapPair f).vault = s.vault := rfl
@[simp] theorem State.mapPair_pair : (s.mapPair f).pair = f s.pair := rfl
@[simp] theorem State.mapPair_power : (s.mapPair f).power = s.power := rfl
@[simp] theorem State.mapPair_log : (s.mapPair f).log = s.log := rfl
@[simp] theorem State.mapPair_boot : (s.mapPair f).boot = s.boot := rfl
@[simp] theorem State.mapPair_tap : (s.mapPair f).tap = s.tap := rfl
@[simp] theorem State.mapPair_dict : (s.mapPair f).dict = s.dict := rfl
@[simp] theorem State.mapPair_engines : (s.mapPair f).engines = s.engines := rfl
@[simp] theorem State.mapPair_net : (s.mapPair f).net = s.net := rfl
@[simp] theorem State.mapPair_syncOut : (s.mapPair f).syncOut = s.syncOut := rfl
@[simp] theorem State.mapPair_lines : (s.mapPair f).lines = s.lines := rfl
@[simp] theorem State.mapPair_rxs : (s.mapPair f).rxs = s.rxs := rfl
@[simp] theorem State.mapPair_spSites : (s.mapPair f).spSites = s.spSites := rfl
@[simp] theorem State.mapPair_inbox : (s.mapPair f).inbox = s.inbox := rfl
@[simp] theorem State.mapPair_ctl : (s.mapPair f).ctl = s.ctl := rfl
@[simp] theorem State.mapPair_freeCtr : (s.mapPair f).freeCtr = s.freeCtr := rfl
@[simp] theorem State.mapPair_now : (s.mapPair f).now = s.now := rfl

end

/-! ### mapPower -/

section
variable (s : State) (f : PowerSt → PowerSt)

@[simp] theorem State.mapPower_pending : (s.mapPower f).pending = s.pending := rfl
@[simp] theorem State.mapPower_ident : (s.mapPower f).ident = s.ident := rfl
@[simp] theorem State.mapPower_time : (s.mapPower f).time = s.time := rfl
@[simp] theorem State.mapPower_towers : (s.mapPower f).towers = s.towers := rfl
@[simp] theorem State.mapPower_base : (s.mapPower f).base = s.base := rfl
@[simp] theorem State.mapPower_mem : (s.mapPower f).mem = s.mem := rfl
@[simp] theorem State.mapPower_groups : (s.mapPower f).groups = s.groups := rfl
@[simp] theorem State.mapPower_pkgs : (s.mapPower f).pkgs = s.pkgs := rfl
@[simp] theorem State.mapPower_roles : (s.mapPower f).roles = s.roles := rfl
@[simp] theorem State.mapPower_groupWas : (s.mapPower f).groupWas = s.groupWas := rfl
@[simp] theorem State.mapPower_loadStatus : (s.mapPower f).loadStatus = s.loadStatus := rfl
@[simp] theorem State.mapPower_load : (s.mapPower f).load = s.load := rfl
@[simp] theorem State.mapPower_ports : (s.mapPower f).ports = s.ports := rfl
@[simp] theorem State.mapPower_ledger : (s.mapPower f).ledger = s.ledger := rfl
@[simp] theorem State.mapPower_vault : (s.mapPower f).vault = s.vault := rfl
@[simp] theorem State.mapPower_pair : (s.mapPower f).pair = s.pair := rfl
@[simp] theorem State.mapPower_power : (s.mapPower f).power = f s.power := rfl
@[simp] theorem State.mapPower_log : (s.mapPower f).log = s.log := rfl
@[simp] theorem State.mapPower_boot : (s.mapPower f).boot = s.boot := rfl
@[simp] theorem State.mapPower_tap : (s.mapPower f).tap = s.tap := rfl
@[simp] theorem State.mapPower_dict : (s.mapPower f).dict = s.dict := rfl
@[simp] theorem State.mapPower_engines : (s.mapPower f).engines = s.engines := rfl
@[simp] theorem State.mapPower_net : (s.mapPower f).net = s.net := rfl
@[simp] theorem State.mapPower_syncOut : (s.mapPower f).syncOut = s.syncOut := rfl
@[simp] theorem State.mapPower_lines : (s.mapPower f).lines = s.lines := rfl
@[simp] theorem State.mapPower_rxs : (s.mapPower f).rxs = s.rxs := rfl
@[simp] theorem State.mapPower_spSites : (s.mapPower f).spSites = s.spSites := rfl
@[simp] theorem State.mapPower_inbox : (s.mapPower f).inbox = s.inbox := rfl
@[simp] theorem State.mapPower_ctl : (s.mapPower f).ctl = s.ctl := rfl
@[simp] theorem State.mapPower_freeCtr : (s.mapPower f).freeCtr = s.freeCtr := rfl
@[simp] theorem State.mapPower_now : (s.mapPower f).now = s.now := rfl

end

/-! ### mapLog -/

section
variable (s : State) (f : LogSt → LogSt)

@[simp] theorem State.mapLog_pending : (s.mapLog f).pending = s.pending := rfl
@[simp] theorem State.mapLog_ident : (s.mapLog f).ident = s.ident := rfl
@[simp] theorem State.mapLog_time : (s.mapLog f).time = s.time := rfl
@[simp] theorem State.mapLog_towers : (s.mapLog f).towers = s.towers := rfl
@[simp] theorem State.mapLog_base : (s.mapLog f).base = s.base := rfl
@[simp] theorem State.mapLog_mem : (s.mapLog f).mem = s.mem := rfl
@[simp] theorem State.mapLog_groups : (s.mapLog f).groups = s.groups := rfl
@[simp] theorem State.mapLog_pkgs : (s.mapLog f).pkgs = s.pkgs := rfl
@[simp] theorem State.mapLog_roles : (s.mapLog f).roles = s.roles := rfl
@[simp] theorem State.mapLog_groupWas : (s.mapLog f).groupWas = s.groupWas := rfl
@[simp] theorem State.mapLog_loadStatus : (s.mapLog f).loadStatus = s.loadStatus := rfl
@[simp] theorem State.mapLog_load : (s.mapLog f).load = s.load := rfl
@[simp] theorem State.mapLog_ports : (s.mapLog f).ports = s.ports := rfl
@[simp] theorem State.mapLog_ledger : (s.mapLog f).ledger = s.ledger := rfl
@[simp] theorem State.mapLog_vault : (s.mapLog f).vault = s.vault := rfl
@[simp] theorem State.mapLog_pair : (s.mapLog f).pair = s.pair := rfl
@[simp] theorem State.mapLog_power : (s.mapLog f).power = s.power := rfl
@[simp] theorem State.mapLog_log : (s.mapLog f).log = f s.log := rfl
@[simp] theorem State.mapLog_boot : (s.mapLog f).boot = s.boot := rfl
@[simp] theorem State.mapLog_tap : (s.mapLog f).tap = s.tap := rfl
@[simp] theorem State.mapLog_dict : (s.mapLog f).dict = s.dict := rfl
@[simp] theorem State.mapLog_engines : (s.mapLog f).engines = s.engines := rfl
@[simp] theorem State.mapLog_net : (s.mapLog f).net = s.net := rfl
@[simp] theorem State.mapLog_syncOut : (s.mapLog f).syncOut = s.syncOut := rfl
@[simp] theorem State.mapLog_lines : (s.mapLog f).lines = s.lines := rfl
@[simp] theorem State.mapLog_rxs : (s.mapLog f).rxs = s.rxs := rfl
@[simp] theorem State.mapLog_spSites : (s.mapLog f).spSites = s.spSites := rfl
@[simp] theorem State.mapLog_inbox : (s.mapLog f).inbox = s.inbox := rfl
@[simp] theorem State.mapLog_ctl : (s.mapLog f).ctl = s.ctl := rfl
@[simp] theorem State.mapLog_freeCtr : (s.mapLog f).freeCtr = s.freeCtr := rfl
@[simp] theorem State.mapLog_now : (s.mapLog f).now = s.now := rfl

end

/-! ### mapBoot -/

section
variable (s : State) (f : BootSt → BootSt)

@[simp] theorem State.mapBoot_pending : (s.mapBoot f).pending = s.pending := rfl
@[simp] theorem State.mapBoot_ident : (s.mapBoot f).ident = s.ident := rfl
@[simp] theorem State.mapBoot_time : (s.mapBoot f).time = s.time := rfl
@[simp] theorem State.mapBoot_towers : (s.mapBoot f).towers = s.towers := rfl
@[simp] theorem State.mapBoot_base : (s.mapBoot f).base = s.base := rfl
@[simp] theorem State.mapBoot_mem : (s.mapBoot f).mem = s.mem := rfl
@[simp] theorem State.mapBoot_groups : (s.mapBoot f).groups = s.groups := rfl
@[simp] theorem State.mapBoot_pkgs : (s.mapBoot f).pkgs = s.pkgs := rfl
@[simp] theorem State.mapBoot_roles : (s.mapBoot f).roles = s.roles := rfl
@[simp] theorem State.mapBoot_groupWas : (s.mapBoot f).groupWas = s.groupWas := rfl
@[simp] theorem State.mapBoot_loadStatus : (s.mapBoot f).loadStatus = s.loadStatus := rfl
@[simp] theorem State.mapBoot_load : (s.mapBoot f).load = s.load := rfl
@[simp] theorem State.mapBoot_ports : (s.mapBoot f).ports = s.ports := rfl
@[simp] theorem State.mapBoot_ledger : (s.mapBoot f).ledger = s.ledger := rfl
@[simp] theorem State.mapBoot_vault : (s.mapBoot f).vault = s.vault := rfl
@[simp] theorem State.mapBoot_pair : (s.mapBoot f).pair = s.pair := rfl
@[simp] theorem State.mapBoot_power : (s.mapBoot f).power = s.power := rfl
@[simp] theorem State.mapBoot_log : (s.mapBoot f).log = s.log := rfl
@[simp] theorem State.mapBoot_boot : (s.mapBoot f).boot = f s.boot := rfl
@[simp] theorem State.mapBoot_tap : (s.mapBoot f).tap = s.tap := rfl
@[simp] theorem State.mapBoot_dict : (s.mapBoot f).dict = s.dict := rfl
@[simp] theorem State.mapBoot_engines : (s.mapBoot f).engines = s.engines := rfl
@[simp] theorem State.mapBoot_net : (s.mapBoot f).net = s.net := rfl
@[simp] theorem State.mapBoot_syncOut : (s.mapBoot f).syncOut = s.syncOut := rfl
@[simp] theorem State.mapBoot_lines : (s.mapBoot f).lines = s.lines := rfl
@[simp] theorem State.mapBoot_rxs : (s.mapBoot f).rxs = s.rxs := rfl
@[simp] theorem State.mapBoot_spSites : (s.mapBoot f).spSites = s.spSites := rfl
@[simp] theorem State.mapBoot_inbox : (s.mapBoot f).inbox = s.inbox := rfl
@[simp] theorem State.mapBoot_ctl : (s.mapBoot f).ctl = s.ctl := rfl
@[simp] theorem State.mapBoot_freeCtr : (s.mapBoot f).freeCtr = s.freeCtr := rfl
@[simp] theorem State.mapBoot_now : (s.mapBoot f).now = s.now := rfl

end

/-! ### mapTap -/

section
variable (s : State) (f : TapSt → TapSt)

@[simp] theorem State.mapTap_pending : (s.mapTap f).pending = s.pending := rfl
@[simp] theorem State.mapTap_ident : (s.mapTap f).ident = s.ident := rfl
@[simp] theorem State.mapTap_time : (s.mapTap f).time = s.time := rfl
@[simp] theorem State.mapTap_towers : (s.mapTap f).towers = s.towers := rfl
@[simp] theorem State.mapTap_base : (s.mapTap f).base = s.base := rfl
@[simp] theorem State.mapTap_mem : (s.mapTap f).mem = s.mem := rfl
@[simp] theorem State.mapTap_groups : (s.mapTap f).groups = s.groups := rfl
@[simp] theorem State.mapTap_pkgs : (s.mapTap f).pkgs = s.pkgs := rfl
@[simp] theorem State.mapTap_roles : (s.mapTap f).roles = s.roles := rfl
@[simp] theorem State.mapTap_groupWas : (s.mapTap f).groupWas = s.groupWas := rfl
@[simp] theorem State.mapTap_loadStatus : (s.mapTap f).loadStatus = s.loadStatus := rfl
@[simp] theorem State.mapTap_load : (s.mapTap f).load = s.load := rfl
@[simp] theorem State.mapTap_ports : (s.mapTap f).ports = s.ports := rfl
@[simp] theorem State.mapTap_ledger : (s.mapTap f).ledger = s.ledger := rfl
@[simp] theorem State.mapTap_vault : (s.mapTap f).vault = s.vault := rfl
@[simp] theorem State.mapTap_pair : (s.mapTap f).pair = s.pair := rfl
@[simp] theorem State.mapTap_power : (s.mapTap f).power = s.power := rfl
@[simp] theorem State.mapTap_log : (s.mapTap f).log = s.log := rfl
@[simp] theorem State.mapTap_boot : (s.mapTap f).boot = s.boot := rfl
@[simp] theorem State.mapTap_tap : (s.mapTap f).tap = f s.tap := rfl
@[simp] theorem State.mapTap_dict : (s.mapTap f).dict = s.dict := rfl
@[simp] theorem State.mapTap_engines : (s.mapTap f).engines = s.engines := rfl
@[simp] theorem State.mapTap_net : (s.mapTap f).net = s.net := rfl
@[simp] theorem State.mapTap_syncOut : (s.mapTap f).syncOut = s.syncOut := rfl
@[simp] theorem State.mapTap_lines : (s.mapTap f).lines = s.lines := rfl
@[simp] theorem State.mapTap_rxs : (s.mapTap f).rxs = s.rxs := rfl
@[simp] theorem State.mapTap_spSites : (s.mapTap f).spSites = s.spSites := rfl
@[simp] theorem State.mapTap_inbox : (s.mapTap f).inbox = s.inbox := rfl
@[simp] theorem State.mapTap_ctl : (s.mapTap f).ctl = s.ctl := rfl
@[simp] theorem State.mapTap_freeCtr : (s.mapTap f).freeCtr = s.freeCtr := rfl
@[simp] theorem State.mapTap_now : (s.mapTap f).now = s.now := rfl

end

/-! ### mapDict -/

section
variable (s : State) (f : DictSt → DictSt)

@[simp] theorem State.mapDict_pending : (s.mapDict f).pending = s.pending := rfl
@[simp] theorem State.mapDict_ident : (s.mapDict f).ident = s.ident := rfl
@[simp] theorem State.mapDict_time : (s.mapDict f).time = s.time := rfl
@[simp] theorem State.mapDict_towers : (s.mapDict f).towers = s.towers := rfl
@[simp] theorem State.mapDict_base : (s.mapDict f).base = s.base := rfl
@[simp] theorem State.mapDict_mem : (s.mapDict f).mem = s.mem := rfl
@[simp] theorem State.mapDict_groups : (s.mapDict f).groups = s.groups := rfl
@[simp] theorem State.mapDict_pkgs : (s.mapDict f).pkgs = s.pkgs := rfl
@[simp] theorem State.mapDict_roles : (s.mapDict f).roles = s.roles := rfl
@[simp] theorem State.mapDict_groupWas : (s.mapDict f).groupWas = s.groupWas := rfl
@[simp] theorem State.mapDict_loadStatus : (s.mapDict f).loadStatus = s.loadStatus := rfl
@[simp] theorem State.mapDict_load : (s.mapDict f).load = s.load := rfl
@[simp] theorem State.mapDict_ports : (s.mapDict f).ports = s.ports := rfl
@[simp] theorem State.mapDict_ledger : (s.mapDict f).ledger = s.ledger := rfl
@[simp] theorem State.mapDict_vault : (s.mapDict f).vault = s.vault := rfl
@[simp] theorem State.mapDict_pair : (s.mapDict f).pair = s.pair := rfl
@[simp] theorem State.mapDict_power : (s.mapDict f).power = s.power := rfl
@[simp] theorem State.mapDict_log : (s.mapDict f).log = s.log := rfl
@[simp] theorem State.mapDict_boot : (s.mapDict f).boot = s.boot := rfl
@[simp] theorem State.mapDict_tap : (s.mapDict f).tap = s.tap := rfl
@[simp] theorem State.mapDict_dict : (s.mapDict f).dict = f s.dict := rfl
@[simp] theorem State.mapDict_engines : (s.mapDict f).engines = s.engines := rfl
@[simp] theorem State.mapDict_net : (s.mapDict f).net = s.net := rfl
@[simp] theorem State.mapDict_syncOut : (s.mapDict f).syncOut = s.syncOut := rfl
@[simp] theorem State.mapDict_lines : (s.mapDict f).lines = s.lines := rfl
@[simp] theorem State.mapDict_rxs : (s.mapDict f).rxs = s.rxs := rfl
@[simp] theorem State.mapDict_spSites : (s.mapDict f).spSites = s.spSites := rfl
@[simp] theorem State.mapDict_inbox : (s.mapDict f).inbox = s.inbox := rfl
@[simp] theorem State.mapDict_ctl : (s.mapDict f).ctl = s.ctl := rfl
@[simp] theorem State.mapDict_freeCtr : (s.mapDict f).freeCtr = s.freeCtr := rfl
@[simp] theorem State.mapDict_now : (s.mapDict f).now = s.now := rfl

end

/-! ### mapEngines -/

section
variable (s : State) (f : KV LaneSt → KV LaneSt)

@[simp] theorem State.mapEngines_pending : (s.mapEngines f).pending = s.pending := rfl
@[simp] theorem State.mapEngines_ident : (s.mapEngines f).ident = s.ident := rfl
@[simp] theorem State.mapEngines_time : (s.mapEngines f).time = s.time := rfl
@[simp] theorem State.mapEngines_towers : (s.mapEngines f).towers = s.towers := rfl
@[simp] theorem State.mapEngines_base : (s.mapEngines f).base = s.base := rfl
@[simp] theorem State.mapEngines_mem : (s.mapEngines f).mem = s.mem := rfl
@[simp] theorem State.mapEngines_groups : (s.mapEngines f).groups = s.groups := rfl
@[simp] theorem State.mapEngines_pkgs : (s.mapEngines f).pkgs = s.pkgs := rfl
@[simp] theorem State.mapEngines_roles : (s.mapEngines f).roles = s.roles := rfl
@[simp] theorem State.mapEngines_groupWas : (s.mapEngines f).groupWas = s.groupWas := rfl
@[simp] theorem State.mapEngines_loadStatus : (s.mapEngines f).loadStatus = s.loadStatus := rfl
@[simp] theorem State.mapEngines_load : (s.mapEngines f).load = s.load := rfl
@[simp] theorem State.mapEngines_ports : (s.mapEngines f).ports = s.ports := rfl
@[simp] theorem State.mapEngines_ledger : (s.mapEngines f).ledger = s.ledger := rfl
@[simp] theorem State.mapEngines_vault : (s.mapEngines f).vault = s.vault := rfl
@[simp] theorem State.mapEngines_pair : (s.mapEngines f).pair = s.pair := rfl
@[simp] theorem State.mapEngines_power : (s.mapEngines f).power = s.power := rfl
@[simp] theorem State.mapEngines_log : (s.mapEngines f).log = s.log := rfl
@[simp] theorem State.mapEngines_boot : (s.mapEngines f).boot = s.boot := rfl
@[simp] theorem State.mapEngines_tap : (s.mapEngines f).tap = s.tap := rfl
@[simp] theorem State.mapEngines_dict : (s.mapEngines f).dict = s.dict := rfl
@[simp] theorem State.mapEngines_engines : (s.mapEngines f).engines = f s.engines := rfl
@[simp] theorem State.mapEngines_net : (s.mapEngines f).net = s.net := rfl
@[simp] theorem State.mapEngines_syncOut : (s.mapEngines f).syncOut = s.syncOut := rfl
@[simp] theorem State.mapEngines_lines : (s.mapEngines f).lines = s.lines := rfl
@[simp] theorem State.mapEngines_rxs : (s.mapEngines f).rxs = s.rxs := rfl
@[simp] theorem State.mapEngines_spSites : (s.mapEngines f).spSites = s.spSites := rfl
@[simp] theorem State.mapEngines_inbox : (s.mapEngines f).inbox = s.inbox := rfl
@[simp] theorem State.mapEngines_ctl : (s.mapEngines f).ctl = s.ctl := rfl
@[simp] theorem State.mapEngines_freeCtr : (s.mapEngines f).freeCtr = s.freeCtr := rfl
@[simp] theorem State.mapEngines_now : (s.mapEngines f).now = s.now := rfl

end

/-! ### mapLines -/

section
variable (s : State) (f : KV Line → KV Line)

@[simp] theorem State.mapLines_pending : (s.mapLines f).pending = s.pending := rfl
@[simp] theorem State.mapLines_ident : (s.mapLines f).ident = s.ident := rfl
@[simp] theorem State.mapLines_time : (s.mapLines f).time = s.time := rfl
@[simp] theorem State.mapLines_towers : (s.mapLines f).towers = s.towers := rfl
@[simp] theorem State.mapLines_base : (s.mapLines f).base = s.base := rfl
@[simp] theorem State.mapLines_mem : (s.mapLines f).mem = s.mem := rfl
@[simp] theorem State.mapLines_groups : (s.mapLines f).groups = s.groups := rfl
@[simp] theorem State.mapLines_pkgs : (s.mapLines f).pkgs = s.pkgs := rfl
@[simp] theorem State.mapLines_roles : (s.mapLines f).roles = s.roles := rfl
@[simp] theorem State.mapLines_groupWas : (s.mapLines f).groupWas = s.groupWas := rfl
@[simp] theorem State.mapLines_loadStatus : (s.mapLines f).loadStatus = s.loadStatus := rfl
@[simp] theorem State.mapLines_load : (s.mapLines f).load = s.load := rfl
@[simp] theorem State.mapLines_ports : (s.mapLines f).ports = s.ports := rfl
@[simp] theorem State.mapLines_ledger : (s.mapLines f).ledger = s.ledger := rfl
@[simp] theorem State.mapLines_vault : (s.mapLines f).vault = s.vault := rfl
@[simp] theorem State.mapLines_pair : (s.mapLines f).pair = s.pair := rfl
@[simp] theorem State.mapLines_power : (s.mapLines f).power = s.power := rfl
@[simp] theorem State.mapLines_log : (s.mapLines f).log = s.log := rfl
@[simp] theorem State.mapLines_boot : (s.mapLines f).boot = s.boot := rfl
@[simp] theorem State.mapLines_tap : (s.mapLines f).tap = s.tap := rfl
@[simp] theorem State.mapLines_dict : (s.mapLines f).dict = s.dict := rfl
@[simp] theorem State.mapLines_engines : (s.mapLines f).engines = s.engines := rfl
@[simp] theorem State.mapLines_net : (s.mapLines f).net = s.net := rfl
@[simp] theorem State.mapLines_syncOut : (s.mapLines f).syncOut = s.syncOut := rfl
@[simp] theorem State.mapLines_lines : (s.mapLines f).lines = f s.lines := rfl
@[simp] theorem State.mapLines_rxs : (s.mapLines f).rxs = s.rxs := rfl
@[simp] theorem State.mapLines_spSites : (s.mapLines f).spSites = s.spSites := rfl
@[simp] theorem State.mapLines_inbox : (s.mapLines f).inbox = s.inbox := rfl
@[simp] theorem State.mapLines_ctl : (s.mapLines f).ctl = s.ctl := rfl
@[simp] theorem State.mapLines_freeCtr : (s.mapLines f).freeCtr = s.freeCtr := rfl
@[simp] theorem State.mapLines_now : (s.mapLines f).now = s.now := rfl

end

/-! ### mapTower -/

section
variable (s : State) (t : Nat) (f : Tower → Tower)

@[simp] theorem State.mapTower_pending : (s.mapTower t f).pending = s.pending := rfl
@[simp] theorem State.mapTower_ident : (s.mapTower t f).ident = s.ident := rfl
@[simp] theorem State.mapTower_time : (s.mapTower t f).time = s.time := rfl
@[simp] theorem State.mapTower_towers : (s.mapTower t f).towers = modAt s.towers t f := rfl
@[simp] theorem State.mapTower_base : (s.mapTower t f).base = s.base := rfl
@[simp] theorem State.mapTower_mem : (s.mapTower t f).mem = s.mem := rfl
@[simp] theorem State.mapTower_groups : (s.mapTower t f).groups = s.groups := rfl
@[simp] theorem State.mapTower_pkgs : (s.mapTower t f).pkgs = s.pkgs := rfl
@[simp] theorem State.mapTower_roles : (s.mapTower t f).roles = s.roles := rfl
@[simp] theorem State.mapTower_groupWas : (s.mapTower t f).groupWas = s.groupWas := rfl
@[simp] theorem State.mapTower_loadStatus : (s.mapTower t f).loadStatus = s.loadStatus := rfl
@[simp] theorem State.mapTower_load : (s.mapTower t f).load = s.load := rfl
@[simp] theorem State.mapTower_ports : (s.mapTower t f).ports = s.ports := rfl
@[simp] theorem State.mapTower_ledger : (s.mapTower t f).ledger = s.ledger := rfl
@[simp] theorem State.mapTower_vault : (s.mapTower t f).vault = s.vault := rfl
@[simp] theorem State.mapTower_pair : (s.mapTower t f).pair = s.pair := rfl
@[simp] theorem State.mapTower_power : (s.mapTower t f).power = s.power := rfl
@[simp] theorem State.mapTower_log : (s.mapTower t f).log = s.log := rfl
@[simp] theorem State.mapTower_boot : (s.mapTower t f).boot = s.boot := rfl
@[simp] theorem State.mapTower_tap : (s.mapTower t f).tap = s.tap := rfl
@[simp] theorem State.mapTower_dict : (s.mapTower t f).dict = s.dict := rfl
@[simp] theorem State.mapTower_engines : (s.mapTower t f).engines = s.engines := rfl
@[simp] theorem State.mapTower_net : (s.mapTower t f).net = s.net := rfl
@[simp] theorem State.mapTower_syncOut : (s.mapTower t f).syncOut = s.syncOut := rfl
@[simp] theorem State.mapTower_lines : (s.mapTower t f).lines = s.lines := rfl
@[simp] theorem State.mapTower_rxs : (s.mapTower t f).rxs = s.rxs := rfl
@[simp] theorem State.mapTower_spSites : (s.mapTower t f).spSites = s.spSites := rfl
@[simp] theorem State.mapTower_inbox : (s.mapTower t f).inbox = s.inbox := rfl
@[simp] theorem State.mapTower_ctl : (s.mapTower t f).ctl = s.ctl := rfl
@[simp] theorem State.mapTower_freeCtr : (s.mapTower t f).freeCtr = s.freeCtr := rfl
@[simp] theorem State.mapTower_now : (s.mapTower t f).now = s.now := rfl

end

/-! ### mapPort -/

section
variable (s : State) (x : Nat) (f : Port → Port)

@[simp] theorem State.mapPort_pending : (s.mapPort x f).pending = s.pending := rfl
@[simp] theorem State.mapPort_ident : (s.mapPort x f).ident = s.ident := rfl
@[simp] theorem State.mapPort_time : (s.mapPort x f).time = s.time := rfl
@[simp] theorem State.mapPort_towers : (s.mapPort x f).towers = s.towers := rfl
@[simp] theorem State.mapPort_base : (s.mapPort x f).base = s.base := rfl
@[simp] theorem State.mapPort_mem : (s.mapPort x f).mem = s.mem := rfl
@[simp] theorem State.mapPort_groups : (s.mapPort x f).groups = s.groups := rfl
@[simp] theorem State.mapPort_pkgs : (s.mapPort x f).pkgs = s.pkgs := rfl
@[simp] theorem State.mapPort_roles : (s.mapPort x f).roles = s.roles := rfl
@[simp] theorem State.mapPort_groupWas : (s.mapPort x f).groupWas = s.groupWas := rfl
@[simp] theorem State.mapPort_loadStatus : (s.mapPort x f).loadStatus = s.loadStatus := rfl
@[simp] theorem State.mapPort_load : (s.mapPort x f).load = s.load := rfl
@[simp] theorem State.mapPort_ports : (s.mapPort x f).ports = modAt s.ports x f := rfl
@[simp] theorem State.mapPort_ledger : (s.mapPort x f).ledger = s.ledger := rfl
@[simp] theorem State.mapPort_vault : (s.mapPort x f).vault = s.vault := rfl
@[simp] theorem State.mapPort_pair : (s.mapPort x f).pair = s.pair := rfl
@[simp] theorem State.mapPort_power : (s.mapPort x f).power = s.power := rfl
@[simp] theorem State.mapPort_log : (s.mapPort x f).log = s.log := rfl
@[simp] theorem State.mapPort_boot : (s.mapPort x f).boot = s.boot := rfl
@[simp] theorem State.mapPort_tap : (s.mapPort x f).tap = s.tap := rfl
@[simp] theorem State.mapPort_dict : (s.mapPort x f).dict = s.dict := rfl
@[simp] theorem State.mapPort_engines : (s.mapPort x f).engines = s.engines := rfl
@[simp] theorem State.mapPort_net : (s.mapPort x f).net = s.net := rfl
@[simp] theorem State.mapPort_syncOut : (s.mapPort x f).syncOut = s.syncOut := rfl
@[simp] theorem State.mapPort_lines : (s.mapPort x f).lines = s.lines := rfl
@[simp] theorem State.mapPort_rxs : (s.mapPort x f).rxs = s.rxs := rfl
@[simp] theorem State.mapPort_spSites : (s.mapPort x f).spSites = s.spSites := rfl
@[simp] theorem State.mapPort_inbox : (s.mapPort x f).inbox = s.inbox := rfl
@[simp] theorem State.mapPort_ctl : (s.mapPort x f).ctl = s.ctl := rfl
@[simp] theorem State.mapPort_freeCtr : (s.mapPort x f).freeCtr = s.freeCtr := rfl
@[simp] theorem State.mapPort_now : (s.mapPort x f).now = s.now := rfl

end

/-! ### sendPacket, sendBulk and sendSync -/

section
variable (s : State) (site : Nat) (dst : Option Nat) (p : Packet) (m : BitVec 128)

@[simp] theorem State.sendPacket_pending : (s.sendPacket p).pending = s.pending := rfl
@[simp] theorem State.sendPacket_ident : (s.sendPacket p).ident = s.ident := rfl
@[simp] theorem State.sendPacket_time : (s.sendPacket p).time = s.time := rfl
@[simp] theorem State.sendPacket_towers : (s.sendPacket p).towers = s.towers := rfl
@[simp] theorem State.sendPacket_base : (s.sendPacket p).base = s.base := rfl
@[simp] theorem State.sendPacket_mem : (s.sendPacket p).mem = s.mem := rfl
@[simp] theorem State.sendPacket_groups : (s.sendPacket p).groups = s.groups := rfl
@[simp] theorem State.sendPacket_pkgs : (s.sendPacket p).pkgs = s.pkgs := rfl
@[simp] theorem State.sendPacket_roles : (s.sendPacket p).roles = s.roles := rfl
@[simp] theorem State.sendPacket_groupWas : (s.sendPacket p).groupWas = s.groupWas := rfl
@[simp] theorem State.sendPacket_loadStatus : (s.sendPacket p).loadStatus = s.loadStatus := rfl
@[simp] theorem State.sendPacket_load : (s.sendPacket p).load = s.load := rfl
@[simp] theorem State.sendPacket_ports : (s.sendPacket p).ports = s.ports := rfl
@[simp] theorem State.sendPacket_ledger : (s.sendPacket p).ledger = s.ledger := rfl
@[simp] theorem State.sendPacket_vault : (s.sendPacket p).vault = s.vault := rfl
@[simp] theorem State.sendPacket_pair : (s.sendPacket p).pair = s.pair := rfl
@[simp] theorem State.sendPacket_power : (s.sendPacket p).power = s.power := rfl
@[simp] theorem State.sendPacket_log : (s.sendPacket p).log = s.log := rfl
@[simp] theorem State.sendPacket_boot : (s.sendPacket p).boot = s.boot := rfl
@[simp] theorem State.sendPacket_tap : (s.sendPacket p).tap = s.tap := rfl
@[simp] theorem State.sendPacket_dict : (s.sendPacket p).dict = s.dict := rfl
@[simp] theorem State.sendPacket_engines : (s.sendPacket p).engines = s.engines := rfl
@[simp] theorem State.sendPacket_net : (s.sendPacket p).net = s.net ++ [p] := rfl
@[simp] theorem State.sendPacket_syncOut : (s.sendPacket p).syncOut = s.syncOut := rfl
@[simp] theorem State.sendPacket_lines : (s.sendPacket p).lines = s.lines := rfl
@[simp] theorem State.sendPacket_rxs : (s.sendPacket p).rxs = s.rxs := rfl
@[simp] theorem State.sendPacket_spSites : (s.sendPacket p).spSites = s.spSites := rfl
@[simp] theorem State.sendPacket_inbox : (s.sendPacket p).inbox = s.inbox := rfl
@[simp] theorem State.sendPacket_ctl : (s.sendPacket p).ctl = s.ctl := rfl
@[simp] theorem State.sendPacket_freeCtr : (s.sendPacket p).freeCtr = s.freeCtr := rfl
@[simp] theorem State.sendBulk_pending : (s.sendBulk site dst p).pending = s.pending := rfl
@[simp] theorem State.sendBulk_ident : (s.sendBulk site dst p).ident = s.ident := rfl
@[simp] theorem State.sendBulk_time : (s.sendBulk site dst p).time = s.time := rfl
@[simp] theorem State.sendBulk_towers : (s.sendBulk site dst p).towers = s.towers := rfl
@[simp] theorem State.sendBulk_base : (s.sendBulk site dst p).base = s.base := rfl
@[simp] theorem State.sendBulk_mem : (s.sendBulk site dst p).mem = s.mem := rfl
@[simp] theorem State.sendBulk_groups : (s.sendBulk site dst p).groups = s.groups := rfl
@[simp] theorem State.sendBulk_pkgs : (s.sendBulk site dst p).pkgs = s.pkgs := rfl
@[simp] theorem State.sendBulk_roles : (s.sendBulk site dst p).roles = s.roles := rfl
@[simp] theorem State.sendBulk_groupWas : (s.sendBulk site dst p).groupWas = s.groupWas := rfl
@[simp] theorem State.sendBulk_loadStatus : (s.sendBulk site dst p).loadStatus = s.loadStatus := rfl
@[simp] theorem State.sendBulk_load : (s.sendBulk site dst p).load = s.load := rfl
@[simp] theorem State.sendBulk_ports : (s.sendBulk site dst p).ports = s.ports := rfl
@[simp] theorem State.sendBulk_ledger : (s.sendBulk site dst p).ledger = s.ledger := rfl
@[simp] theorem State.sendBulk_vault : (s.sendBulk site dst p).vault = s.vault := rfl
@[simp] theorem State.sendBulk_pair : (s.sendBulk site dst p).pair = s.pair := rfl
@[simp] theorem State.sendBulk_power : (s.sendBulk site dst p).power = s.power := rfl
@[simp] theorem State.sendBulk_log : (s.sendBulk site dst p).log = s.log := rfl
@[simp] theorem State.sendBulk_boot : (s.sendBulk site dst p).boot = s.boot := rfl
@[simp] theorem State.sendBulk_tap : (s.sendBulk site dst p).tap = s.tap := rfl
@[simp] theorem State.sendBulk_dict : (s.sendBulk site dst p).dict = s.dict := rfl
@[simp] theorem State.sendBulk_engines : (s.sendBulk site dst p).engines = s.engines := rfl
@[simp] theorem State.sendBulk_net : (s.sendBulk site dst p).net = s.net ++ [p] := rfl
@[simp] theorem State.sendBulk_syncOut : (s.sendBulk site dst p).syncOut = s.syncOut := rfl
@[simp] theorem State.sendBulk_rxs : (s.sendBulk site dst p).rxs = s.rxs := rfl
@[simp] theorem State.sendBulk_spSites : (s.sendBulk site dst p).spSites = s.spSites := rfl
@[simp] theorem State.sendBulk_inbox : (s.sendBulk site dst p).inbox = s.inbox := rfl
@[simp] theorem State.sendBulk_ctl : (s.sendBulk site dst p).ctl = s.ctl := rfl
@[simp] theorem State.sendBulk_freeCtr : (s.sendBulk site dst p).freeCtr = s.freeCtr := rfl
@[simp] theorem State.sendSync_pending : (s.sendSync m).pending = s.pending := rfl
@[simp] theorem State.sendSync_ident : (s.sendSync m).ident = s.ident := rfl
@[simp] theorem State.sendSync_time : (s.sendSync m).time = s.time := rfl
@[simp] theorem State.sendSync_towers : (s.sendSync m).towers = s.towers := rfl
@[simp] theorem State.sendSync_base : (s.sendSync m).base = s.base := rfl
@[simp] theorem State.sendSync_mem : (s.sendSync m).mem = s.mem := rfl
@[simp] theorem State.sendSync_groups : (s.sendSync m).groups = s.groups := rfl
@[simp] theorem State.sendSync_pkgs : (s.sendSync m).pkgs = s.pkgs := rfl
@[simp] theorem State.sendSync_roles : (s.sendSync m).roles = s.roles := rfl
@[simp] theorem State.sendSync_groupWas : (s.sendSync m).groupWas = s.groupWas := rfl
@[simp] theorem State.sendSync_loadStatus : (s.sendSync m).loadStatus = s.loadStatus := rfl
@[simp] theorem State.sendSync_load : (s.sendSync m).load = s.load := rfl
@[simp] theorem State.sendSync_ports : (s.sendSync m).ports = s.ports := rfl
@[simp] theorem State.sendSync_ledger : (s.sendSync m).ledger = s.ledger := rfl
@[simp] theorem State.sendSync_vault : (s.sendSync m).vault = s.vault := rfl
@[simp] theorem State.sendSync_pair : (s.sendSync m).pair = s.pair := rfl
@[simp] theorem State.sendSync_power : (s.sendSync m).power = s.power := rfl
@[simp] theorem State.sendSync_log : (s.sendSync m).log = s.log := rfl
@[simp] theorem State.sendSync_boot : (s.sendSync m).boot = s.boot := rfl
@[simp] theorem State.sendSync_tap : (s.sendSync m).tap = s.tap := rfl
@[simp] theorem State.sendSync_dict : (s.sendSync m).dict = s.dict := rfl
@[simp] theorem State.sendSync_engines : (s.sendSync m).engines = s.engines := rfl
@[simp] theorem State.sendSync_net : (s.sendSync m).net = s.net := rfl
@[simp] theorem State.sendSync_syncOut : (s.sendSync m).syncOut = (if s.siteFenced (msgSrc m) && !fencePasses m then s.syncOut else s.syncOut ++ [m]) := rfl
@[simp] theorem State.sendSync_rxs : (s.sendSync m).rxs = s.rxs := rfl
@[simp] theorem State.sendSync_inbox : (s.sendSync m).inbox = s.inbox := rfl
@[simp] theorem State.sendSync_ctl : (s.sendSync m).ctl = s.ctl := rfl
@[simp] theorem State.sendSync_freeCtr : (s.sendSync m).freeCtr = s.freeCtr := rfl
@[simp] theorem State.sendBulk_now : (s.sendBulk site dst p).now = s.now := rfl
@[simp] theorem State.sendSync_now : (s.sendSync m).now = s.now := rfl

end

/-! ### logEv, raiseVector, raiseEvent: only the log -/

section
variable (s : State) (code sev unit loc arg0 arg1 v : Nat)

@[simp] theorem State.logEv_pending : (s.logEv code sev unit loc arg0 arg1).pending = s.pending := rfl
@[simp] theorem State.raiseVector_pending : (s.raiseVector v).pending = s.pending := rfl
@[simp] theorem State.raiseEvent_pending : (s.raiseEvent v).pending = s.pending := rfl
@[simp] theorem State.logEv_ident : (s.logEv code sev unit loc arg0 arg1).ident = s.ident := rfl
@[simp] theorem State.raiseVector_ident : (s.raiseVector v).ident = s.ident := rfl
@[simp] theorem State.raiseEvent_ident : (s.raiseEvent v).ident = s.ident := rfl
@[simp] theorem State.logEv_time : (s.logEv code sev unit loc arg0 arg1).time = s.time := rfl
@[simp] theorem State.raiseVector_time : (s.raiseVector v).time = s.time := rfl
@[simp] theorem State.raiseEvent_time : (s.raiseEvent v).time = s.time := rfl
@[simp] theorem State.logEv_towers : (s.logEv code sev unit loc arg0 arg1).towers = s.towers := rfl
@[simp] theorem State.raiseVector_towers : (s.raiseVector v).towers = s.towers := rfl
@[simp] theorem State.raiseEvent_towers : (s.raiseEvent v).towers = s.towers := rfl
@[simp] theorem State.logEv_base : (s.logEv code sev unit loc arg0 arg1).base = s.base := rfl
@[simp] theorem State.raiseVector_base : (s.raiseVector v).base = s.base := rfl
@[simp] theorem State.raiseEvent_base : (s.raiseEvent v).base = s.base := rfl
@[simp] theorem State.logEv_mem : (s.logEv code sev unit loc arg0 arg1).mem = s.mem := rfl
@[simp] theorem State.raiseVector_mem : (s.raiseVector v).mem = s.mem := rfl
@[simp] theorem State.raiseEvent_mem : (s.raiseEvent v).mem = s.mem := rfl
@[simp] theorem State.logEv_groups : (s.logEv code sev unit loc arg0 arg1).groups = s.groups := rfl
@[simp] theorem State.raiseVector_groups : (s.raiseVector v).groups = s.groups := rfl
@[simp] theorem State.raiseEvent_groups : (s.raiseEvent v).groups = s.groups := rfl
@[simp] theorem State.logEv_pkgs : (s.logEv code sev unit loc arg0 arg1).pkgs = s.pkgs := rfl
@[simp] theorem State.raiseVector_pkgs : (s.raiseVector v).pkgs = s.pkgs := rfl
@[simp] theorem State.raiseEvent_pkgs : (s.raiseEvent v).pkgs = s.pkgs := rfl
@[simp] theorem State.logEv_roles : (s.logEv code sev unit loc arg0 arg1).roles = s.roles := rfl
@[simp] theorem State.raiseVector_roles : (s.raiseVector v).roles = s.roles := rfl
@[simp] theorem State.raiseEvent_roles : (s.raiseEvent v).roles = s.roles := rfl
@[simp] theorem State.logEv_groupWas : (s.logEv code sev unit loc arg0 arg1).groupWas = s.groupWas := rfl
@[simp] theorem State.raiseVector_groupWas : (s.raiseVector v).groupWas = s.groupWas := rfl
@[simp] theorem State.raiseEvent_groupWas : (s.raiseEvent v).groupWas = s.groupWas := rfl
@[simp] theorem State.logEv_loadStatus : (s.logEv code sev unit loc arg0 arg1).loadStatus = s.loadStatus := rfl
@[simp] theorem State.raiseVector_loadStatus : (s.raiseVector v).loadStatus = s.loadStatus := rfl
@[simp] theorem State.raiseEvent_loadStatus : (s.raiseEvent v).loadStatus = s.loadStatus := rfl
@[simp] theorem State.logEv_load : (s.logEv code sev unit loc arg0 arg1).load = s.load := rfl
@[simp] theorem State.raiseVector_load : (s.raiseVector v).load = s.load := rfl
@[simp] theorem State.raiseEvent_load : (s.raiseEvent v).load = s.load := rfl
@[simp] theorem State.logEv_ports : (s.logEv code sev unit loc arg0 arg1).ports = s.ports := rfl
@[simp] theorem State.raiseVector_ports : (s.raiseVector v).ports = s.ports := rfl
@[simp] theorem State.raiseEvent_ports : (s.raiseEvent v).ports = s.ports := rfl
@[simp] theorem State.logEv_ledger : (s.logEv code sev unit loc arg0 arg1).ledger = s.ledger := rfl
@[simp] theorem State.raiseVector_ledger : (s.raiseVector v).ledger = s.ledger := rfl
@[simp] theorem State.raiseEvent_ledger : (s.raiseEvent v).ledger = s.ledger := rfl
@[simp] theorem State.logEv_vault : (s.logEv code sev unit loc arg0 arg1).vault = s.vault := rfl
@[simp] theorem State.raiseVector_vault : (s.raiseVector v).vault = s.vault := rfl
@[simp] theorem State.raiseEvent_vault : (s.raiseEvent v).vault = s.vault := rfl
@[simp] theorem State.logEv_pair : (s.logEv code sev unit loc arg0 arg1).pair = s.pair := rfl
@[simp] theorem State.raiseVector_pair : (s.raiseVector v).pair = s.pair := rfl
@[simp] theorem State.raiseEvent_pair : (s.raiseEvent v).pair = s.pair := rfl
@[simp] theorem State.logEv_power : (s.logEv code sev unit loc arg0 arg1).power = s.power := rfl
@[simp] theorem State.raiseVector_power : (s.raiseVector v).power = s.power := rfl
@[simp] theorem State.raiseEvent_power : (s.raiseEvent v).power = s.power := rfl
@[simp] theorem State.logEv_boot : (s.logEv code sev unit loc arg0 arg1).boot = s.boot := rfl
@[simp] theorem State.raiseVector_boot : (s.raiseVector v).boot = s.boot := rfl
@[simp] theorem State.raiseEvent_boot : (s.raiseEvent v).boot = s.boot := rfl
@[simp] theorem State.logEv_tap : (s.logEv code sev unit loc arg0 arg1).tap = s.tap := rfl
@[simp] theorem State.raiseVector_tap : (s.raiseVector v).tap = s.tap := rfl
@[simp] theorem State.raiseEvent_tap : (s.raiseEvent v).tap = s.tap := rfl
@[simp] theorem State.logEv_dict : (s.logEv code sev unit loc arg0 arg1).dict = s.dict := rfl
@[simp] theorem State.raiseVector_dict : (s.raiseVector v).dict = s.dict := rfl
@[simp] theorem State.raiseEvent_dict : (s.raiseEvent v).dict = s.dict := rfl
@[simp] theorem State.logEv_engines : (s.logEv code sev unit loc arg0 arg1).engines = s.engines := rfl
@[simp] theorem State.raiseVector_engines : (s.raiseVector v).engines = s.engines := rfl
@[simp] theorem State.raiseEvent_engines : (s.raiseEvent v).engines = s.engines := rfl
@[simp] theorem State.logEv_net : (s.logEv code sev unit loc arg0 arg1).net = s.net := rfl
@[simp] theorem State.raiseVector_net : (s.raiseVector v).net = s.net := rfl
@[simp] theorem State.raiseEvent_net : (s.raiseEvent v).net = s.net := rfl
@[simp] theorem State.logEv_syncOut : (s.logEv code sev unit loc arg0 arg1).syncOut = s.syncOut := rfl
@[simp] theorem State.raiseVector_syncOut : (s.raiseVector v).syncOut = s.syncOut := rfl
@[simp] theorem State.raiseEvent_syncOut : (s.raiseEvent v).syncOut = s.syncOut := rfl
@[simp] theorem State.logEv_lines : (s.logEv code sev unit loc arg0 arg1).lines = s.lines := rfl
@[simp] theorem State.raiseVector_lines : (s.raiseVector v).lines = s.lines := rfl
@[simp] theorem State.raiseEvent_lines : (s.raiseEvent v).lines = s.lines := rfl
@[simp] theorem State.logEv_rxs : (s.logEv code sev unit loc arg0 arg1).rxs = s.rxs := rfl
@[simp] theorem State.raiseVector_rxs : (s.raiseVector v).rxs = s.rxs := rfl
@[simp] theorem State.raiseEvent_rxs : (s.raiseEvent v).rxs = s.rxs := rfl
@[simp] theorem State.logEv_spSites : (s.logEv code sev unit loc arg0 arg1).spSites = s.spSites := rfl
@[simp] theorem State.raiseVector_spSites : (s.raiseVector v).spSites = s.spSites := rfl
@[simp] theorem State.raiseEvent_spSites : (s.raiseEvent v).spSites = s.spSites := rfl
@[simp] theorem State.logEv_inbox : (s.logEv code sev unit loc arg0 arg1).inbox = s.inbox := rfl
@[simp] theorem State.raiseVector_inbox : (s.raiseVector v).inbox = s.inbox := rfl
@[simp] theorem State.raiseEvent_inbox : (s.raiseEvent v).inbox = s.inbox := rfl
@[simp] theorem State.logEv_ctl : (s.logEv code sev unit loc arg0 arg1).ctl = s.ctl := rfl
@[simp] theorem State.raiseVector_ctl : (s.raiseVector v).ctl = s.ctl := rfl
@[simp] theorem State.raiseEvent_ctl : (s.raiseEvent v).ctl = s.ctl := rfl
@[simp] theorem State.logEv_freeCtr : (s.logEv code sev unit loc arg0 arg1).freeCtr = s.freeCtr := rfl
@[simp] theorem State.raiseVector_freeCtr : (s.raiseVector v).freeCtr = s.freeCtr := rfl
@[simp] theorem State.raiseEvent_freeCtr : (s.raiseEvent v).freeCtr = s.freeCtr := rfl
@[simp] theorem State.logEv_now : (s.logEv code sev unit loc arg0 arg1).now = s.now := rfl
@[simp] theorem State.raiseVector_now : (s.raiseVector v).now = s.now := rfl
@[simp] theorem State.raiseEvent_now : (s.raiseEvent v).now = s.now := rfl

end

/-! ### endAccess: only the dictionary -/

section
variable (s : State) (i3c : Bool) (index sub code arg : Nat)

@[simp] theorem State.endAccess_pending : (s.endAccess i3c index sub code arg).pending = s.pending := rfl
@[simp] theorem State.endAccess_ident : (s.endAccess i3c index sub code arg).ident = s.ident := rfl
@[simp] theorem State.endAccess_time : (s.endAccess i3c index sub code arg).time = s.time := rfl
@[simp] theorem State.endAccess_towers : (s.endAccess i3c index sub code arg).towers = s.towers := rfl
@[simp] theorem State.endAccess_base : (s.endAccess i3c index sub code arg).base = s.base := rfl
@[simp] theorem State.endAccess_mem : (s.endAccess i3c index sub code arg).mem = s.mem := rfl
@[simp] theorem State.endAccess_groups : (s.endAccess i3c index sub code arg).groups = s.groups := rfl
@[simp] theorem State.endAccess_pkgs : (s.endAccess i3c index sub code arg).pkgs = s.pkgs := rfl
@[simp] theorem State.endAccess_roles : (s.endAccess i3c index sub code arg).roles = s.roles := rfl
@[simp] theorem State.endAccess_groupWas : (s.endAccess i3c index sub code arg).groupWas = s.groupWas := rfl
@[simp] theorem State.endAccess_loadStatus : (s.endAccess i3c index sub code arg).loadStatus = s.loadStatus := rfl
@[simp] theorem State.endAccess_load : (s.endAccess i3c index sub code arg).load = s.load := rfl
@[simp] theorem State.endAccess_ports : (s.endAccess i3c index sub code arg).ports = s.ports := rfl
@[simp] theorem State.endAccess_ledger : (s.endAccess i3c index sub code arg).ledger = s.ledger := rfl
@[simp] theorem State.endAccess_vault : (s.endAccess i3c index sub code arg).vault = s.vault := rfl
@[simp] theorem State.endAccess_pair : (s.endAccess i3c index sub code arg).pair = s.pair := rfl
@[simp] theorem State.endAccess_power : (s.endAccess i3c index sub code arg).power = s.power := rfl
@[simp] theorem State.endAccess_log : (s.endAccess i3c index sub code arg).log = s.log := rfl
@[simp] theorem State.endAccess_boot : (s.endAccess i3c index sub code arg).boot = s.boot := rfl
@[simp] theorem State.endAccess_tap : (s.endAccess i3c index sub code arg).tap = s.tap := rfl
@[simp] theorem State.endAccess_engines : (s.endAccess i3c index sub code arg).engines = s.engines := rfl
@[simp] theorem State.endAccess_net : (s.endAccess i3c index sub code arg).net = s.net := rfl
@[simp] theorem State.endAccess_syncOut : (s.endAccess i3c index sub code arg).syncOut = s.syncOut := rfl
@[simp] theorem State.endAccess_lines : (s.endAccess i3c index sub code arg).lines = s.lines := rfl
@[simp] theorem State.endAccess_rxs : (s.endAccess i3c index sub code arg).rxs = s.rxs := rfl
@[simp] theorem State.endAccess_spSites : (s.endAccess i3c index sub code arg).spSites = s.spSites := rfl
@[simp] theorem State.endAccess_inbox : (s.endAccess i3c index sub code arg).inbox = s.inbox := rfl
@[simp] theorem State.endAccess_ctl : (s.endAccess i3c index sub code arg).ctl = s.ctl := rfl
@[simp] theorem State.endAccess_freeCtr : (s.endAccess i3c index sub code arg).freeCtr = s.freeCtr := rfl
@[simp] theorem State.endAccess_now : (s.endAccess i3c index sub code arg).now = s.now := rfl

end

/-! ### advance: only the time -/

section
variable (s : State) (a : Nat)

@[simp] theorem State.advance_pending : (s.advance a).pending = s.pending := by unfold State.advance; split <;> rfl
@[simp] theorem State.advance_ident : (s.advance a).ident = s.ident := by unfold State.advance; split <;> rfl
@[simp] theorem State.advance_towers : (s.advance a).towers = s.towers := by unfold State.advance; split <;> rfl
@[simp] theorem State.advance_base : (s.advance a).base = s.base := by unfold State.advance; split <;> rfl
@[simp] theorem State.advance_mem : (s.advance a).mem = s.mem := by unfold State.advance; split <;> rfl
@[simp] theorem State.advance_groups : (s.advance a).groups = s.groups := by unfold State.advance; split <;> rfl
@[simp] theorem State.advance_pkgs : (s.advance a).pkgs = s.pkgs := by unfold State.advance; split <;> rfl
@[simp] theorem State.advance_roles : (s.advance a).roles = s.roles := by unfold State.advance; split <;> rfl
@[simp] theorem State.advance_groupWas : (s.advance a).groupWas = s.groupWas := by unfold State.advance; split <;> rfl
@[simp] theorem State.advance_loadStatus : (s.advance a).loadStatus = s.loadStatus := by unfold State.advance; split <;> rfl
@[simp] theorem State.advance_load : (s.advance a).load = s.load := by unfold State.advance; split <;> rfl
@[simp] theorem State.advance_ports : (s.advance a).ports = s.ports := by unfold State.advance; split <;> rfl
@[simp] theorem State.advance_ledger : (s.advance a).ledger = s.ledger := by unfold State.advance; split <;> rfl
@[simp] theorem State.advance_vault : (s.advance a).vault = s.vault := by unfold State.advance; split <;> rfl
@[simp] theorem State.advance_pair : (s.advance a).pair = s.pair := by unfold State.advance; split <;> rfl
@[simp] theorem State.advance_power : (s.advance a).power = s.power := by unfold State.advance; split <;> rfl
@[simp] theorem State.advance_log : (s.advance a).log = s.log := by unfold State.advance; split <;> rfl
@[simp] theorem State.advance_boot : (s.advance a).boot = s.boot := by unfold State.advance; split <;> rfl
@[simp] theorem State.advance_tap : (s.advance a).tap = s.tap := by unfold State.advance; split <;> rfl
@[simp] theorem State.advance_dict : (s.advance a).dict = s.dict := by unfold State.advance; split <;> rfl
@[simp] theorem State.advance_engines : (s.advance a).engines = s.engines := by unfold State.advance; split <;> rfl
@[simp] theorem State.advance_net : (s.advance a).net = s.net := by unfold State.advance; split <;> rfl
@[simp] theorem State.advance_syncOut : (s.advance a).syncOut = s.syncOut := by unfold State.advance; split <;> rfl
@[simp] theorem State.advance_lines : (s.advance a).lines = s.lines := by unfold State.advance; split <;> rfl
@[simp] theorem State.advance_rxs : (s.advance a).rxs = s.rxs := by unfold State.advance; split <;> rfl
@[simp] theorem State.advance_spSites : (s.advance a).spSites = s.spSites := by unfold State.advance; split <;> rfl
@[simp] theorem State.advance_inbox : (s.advance a).inbox = s.inbox := by unfold State.advance; split <;> rfl
@[simp] theorem State.advance_ctl : (s.advance a).ctl = s.ctl := by unfold State.advance; split <;> rfl
@[simp] theorem State.advance_freeCtr : (s.advance a).freeCtr = s.freeCtr := by unfold State.advance; split <;> rfl

end

end Sys2Proof.Machine
end

