-- ==== Sys2Proof/Laws/Access.lean ====
section
/-! SUPPORT. What a served access over the PCIe window does (R544, R549), once for every row that is a write of an object. -/
namespace Sys2Proof.Machine

open Sys2Proof


@[simp] theorem State.gate_mapDict (s : State) (f : DictSt → DictSt) (i : Nat) : (s.mapDict f).gate i = s.gate i := rfl

/-- A served access runs its procedure once and records its answer. -/
theorem State.pcieWrite_served {s : State} {index : Nat} (sub : Nat) (proc : State → Nat × State) (h : s.Serves index) :
    s.pcieWrite index sub proc =
      (proc (s.mapDict (fun d => d.begin_ false s.now index sub))).2.endAccess false index sub
        (proc (s.mapDict (fun d => d.begin_ false s.now index sub))).1 := by
  obtain ⟨h1, h2, h3⟩ := h
  simp [State.pcieWrite, h1, h2, h3]

/-- An access that is not served by the window changes nothing at all (R484, R578). -/
theorem State.pcieWrite_down {s : State} (index sub : Nat) (proc : State → Nat × State)
    (h : s.dead = true ∨ s.dict.pcieUp = false) : s.pcieWrite index sub proc = s := by
  obtain h | h := h <;> simp [State.pcieWrite, h]

theorem State.endAccess_done (s : State) (index sub : Nat) : (s.endAccess false index sub 0).AccessDone := by
  simp [State.AccessDone, State.endAccess, State.mapDict, DictSt.end_, DictSt.mapTransport]

theorem State.endAccess_aborted (s : State) (index sub code arg : Nat) (h : code ≠ 0) :
    (s.endAccess false index sub code arg).AccessAborted code := by
  simp [State.AccessAborted, State.endAccess, State.mapDict, DictSt.end_, DictSt.mapTransport, h]

/-- Checks that all pass let the effect happen; the first that fails answers its code and nothing changes (R544). -/
theorem checked_pass {l : List (Bool × Nat)} {f : State → State} {s : State} (h : firstAbort l = 0) :
    checked l f s = (0, f s) := by simp [checked, h]

theorem checked_fail {l : List (Bool × Nat)} {f : State → State} {s : State} (h : firstAbort l ≠ 0) :
    checked l f s = (firstAbort l, s) := by simp [checked, h]

@[simp] theorem firstAbort_nil : firstAbort [] = 0 := rfl
@[simp] theorem firstAbort_pass (c : Nat) (l : List (Bool × Nat)) : firstAbort ((false, c) :: l) = firstAbort l := rfl
@[simp] theorem firstAbort_fail (c : Nat) (l : List (Bool × Nat)) : firstAbort ((true, c) :: l) = c := rfl

end Sys2Proof.Machine
end

