-- ==== Sys2Proof/Laws/Lists.lean ====
section
/-! SUPPORT. The small lemmas of maps and lists: what a key reads after it is set, what an element is after one is changed. -/
namespace Sys2Proof.Machine

open Sys2Proof

theorem kvGet_kvSet {α : Type} (m : KV α) (k j : Nat) (v d : α) :
    kvGet (kvSet m k v) j d = if j = k then v else kvGet m j d := by
  induction m with
  | nil => by_cases h : j = k
           · simp [kvSet, kvGet, h]
           · simp [kvSet, kvGet, h, Ne.symm h]
  | cons a r ih =>
    obtain ⟨k', v'⟩ := a
    simp only [kvSet]
    split
    · by_cases h : j = k
      · simp [kvGet, h]
      · simp [kvGet, h, Ne.symm h]
    · split
      · subst_vars
        by_cases h : j = k'
        · simp [kvGet, h]
        · simp [kvGet, h, Ne.symm h]
      · simp only [kvGet, ih]
        by_cases h : k' = j
        · subst h
          have : k' ≠ k := by omega
          simp [this]
        · simp [h]

theorem kvGet_kvMod {α : Type} (m : KV α) (k j : Nat) (d : α) (f : α → α) :
    kvGet (kvMod m k d f) j d = if j = k then f (kvGet m k d) else kvGet m j d := by
  simp [kvMod, kvGet_kvSet]

@[simp] theorem modAt_getElem? {α : Type} (l : List α) (i : Nat) (f : α → α) (k : Nat) :
    (modAt l i f)[k]? = if k = i then (l[k]?).map f else l[k]? := by
  induction l generalizing i k with
  | nil => simp [modAt]
  | cons a r ih => cases i <;> cases k <;> simp [modAt, ih]

@[simp] theorem modAt_length {α : Type} (l : List α) (i : Nat) (f : α → α) : (modAt l i f).length = l.length := by
  induction l generalizing i with
  | nil => simp [modAt]
  | cons a r ih => cases i <;> simp [modAt, ih]

/-- What a fold keeps, each of its steps keeps. -/
theorem foldl_keeps {α β : Type} (P : β → Prop) (f : β → α → β) (l : List α) (b : β) (h : P b)
    (hf : ∀ b, ∀ a ∈ l, P b → P (f b a)) : P (l.foldl f b) := by
  induction l generalizing b with
  | nil => exact h
  | cons a r ih => exact ih _ (hf _ _ (by simp) h) (fun b a' ha' => hf b a' (by simp [ha']))

/-- The tower that a change names is changed; every other is as before. -/
theorem State.tower_mapTower (s : State) (t k : Nat) (f : Tower → Tower) (h : t < s.towers.length) :
    (s.mapTower t f).tower k = if k = t then f (s.tower t) else s.tower k := by
  simp only [State.mapTower, State.mapTowers, State.tower, List.getD_eq_getElem?_getD, modAt_getElem?]
  by_cases hk : k = t
  · subst hk; simp [List.getElem?_eq_getElem h]
  · simp [hk]

@[simp] theorem State.towers_mapTower (s : State) (t : Nat) (f : Tower → Tower) :
    (s.mapTower t f).towers = modAt s.towers t f := rfl

/-- A change of tower `t` that `p` does not see leaves what `p` sees of every tower. -/
theorem State.tower_mapTower_proj {β : Type} (s : State) (t k : Nat) (f : Tower → Tower) (p : Tower → β)
    (hp : ∀ x, p (f x) = p x) : p ((s.mapTower t f).tower k) = p (s.tower k) := by
  by_cases h : t < s.towers.length
  · rw [State.tower_mapTower _ _ _ _ h]; split
    · subst_vars; exact hp _
    · rfl
  · have : (s.mapTower t f).towers = s.towers := by
      apply List.ext_getElem?
      intro i
      simp only [State.towers_mapTower, modAt_getElem?]
      split
      · subst_vars; simp [List.getElem?_eq_none (Nat.le_of_not_lt h)]
      · rfl
    simp only [State.tower]; rw [this]

end Sys2Proof.Machine
end

