-- ==== Sys2Proof/Laws/Memory.lean ====
section
/-!
SUPPORT. The laws of memory: a byte reads what was last written there, a write leaves every other byte alone, and every operation keeps
the canonical form, which memory has at reset (R319).
-/
namespace Sys2Proof.Machine

open Sys2Proof

theorem cellGet_cellPut (m : List Host.Cell) (a k : Nat) (b : Byte) :
    cellGet (cellPut m a b) k = if k = a then b else cellGet m k := by
  induction m with
  | nil => simp [cellPut, cellGet, eq_comm]
  | cons c r ih =>
    obtain ⟨x, y⟩ := c
    simp only [cellPut]
    split
    · simp [cellGet, eq_comm]
    · split
      · subst_vars
        by_cases h : k = x
        · simp [cellGet, h]
        · simp [cellGet, h, Ne.symm h]
      · simp only [cellGet, ih]
        by_cases h : x = k
        · subst h; simp; intro h'; omega
        · simp [h]

theorem cellGet_filter (m : List Host.Cell) (p : Nat → Bool) (k : Nat) :
    cellGet (m.filter (fun c => p c.1)) k = if p k then cellGet m k else 0 := by
  induction m with
  | nil => simp [cellGet]
  | cons c r ih =>
    obtain ⟨x, y⟩ := c
    simp only [List.filter_cons]
    by_cases h : x = k
    · subst h
      cases hp : p x <;> simp_all [cellGet]
    · cases hp : p x <;> simp_all [cellGet]

theorem cellGet_cellDel (m : List Host.Cell) (a k : Nat) : cellGet (cellDel m a) k = if k = a then 0 else cellGet m k := by
  unfold cellDel
  rw [cellGet_filter m (fun x => x != a)]
  by_cases h : k = a <;> simp [h]

/-- Read after write of one byte. -/
theorem cellGet_cellSet (m : List Host.Cell) (a k : Nat) (b : Byte) :
    cellGet (cellSet m a b) k = if k = a then b else cellGet m k := by
  unfold cellSet
  split
  · subst_vars; exact cellGet_cellDel m a k
  · exact cellGet_cellPut m a k b

/-- Read after write of a run of bytes. -/
theorem cellGet_cellWrite (m : List Host.Cell) (a k : Nat) (bs : List Byte) :
    cellGet (cellWrite m a bs) k = if a ≤ k ∧ k < a + bs.length then bs.getD (k - a) 0 else cellGet m k := by
  induction bs generalizing m a with
  | nil => simp [cellWrite] <;> (intro h h'; omega)
  | cons b r ih =>
    simp only [cellWrite, ih, cellGet_cellSet, List.length_cons]
    by_cases h : k = a
    · subst h
      have : ¬(k + 1 ≤ k ∧ k < k + 1 + r.length) := by omega
      simp [this]
    · by_cases h' : a + 1 ≤ k ∧ k < a + 1 + r.length
      · have : a ≤ k ∧ k < a + (r.length + 1) := by omega
        have e : k - a = (k - (a + 1)) + 1 := by omega
        simp [h', this, e]
      · have : ¬(a ≤ k ∧ k < a + (r.length + 1)) := by omega
        simp only [h, h', this, if_false]

theorem cellGet_cellClear (m : List Host.Cell) (lo hi k : Nat) :
    cellGet (cellClear m lo hi) k = if lo ≤ k ∧ k < hi then 0 else cellGet m k := by
  unfold cellClear
  rw [cellGet_filter m (fun x => decide (x < lo) || decide (hi ≤ x))]
  by_cases h : lo ≤ k ∧ k < hi
  · have h1 : ¬ k < lo := by omega
    have h2 : ¬ hi ≤ k := by omega
    simp [h, h1, h2]
  · have : k < lo ∨ hi ≤ k := by omega
    simp [h, this]

/-! ## The canonical form -/

theorem cellPut_keys (m : List Host.Cell) (a : Nat) (b : Byte) : ∀ c ∈ cellPut m a b, c = (a, b) ∨ c ∈ m := by
  induction m with
  | nil => simp [cellPut]
  | cons d r ih =>
    obtain ⟨x, y⟩ := d
    intro c hc
    simp only [cellPut] at hc
    split at hc
    · simpa using hc
    · split at hc
      · simp only [List.mem_cons] at hc ⊢
        rcases hc with rfl | h
        · exact .inl rfl
        · exact .inr (.inr h)
      · simp only [List.mem_cons] at hc ⊢
        rcases hc with h | h
        · exact .inr (.inl h)
        · exact (ih c h).imp id .inr

theorem wf_cellPut {m : List Host.Cell} (a : Nat) {b : Byte} (hb : b ≠ 0) (h : Memory.wf m) : Memory.wf (cellPut m a b) := by
  constructor
  · induction m with
    | nil => simp [cellPut]
    | cons d r ih =>
      obtain ⟨x, y⟩ := d
      obtain ⟨hs, hz⟩ := h
      rw [List.pairwise_cons] at hs
      simp only [cellPut]
      split
      · rename_i hlt
        refine List.pairwise_cons.mpr ⟨?_, List.pairwise_cons.mpr hs⟩
        intro c hc
        rcases List.mem_cons.mp hc with rfl | hc
        · exact hlt
        · exact Nat.lt_trans hlt (hs.1 c hc)
      · split
        · subst_vars
          exact List.pairwise_cons.mpr ⟨fun c hc => hs.1 c hc, hs.2⟩
        · refine List.pairwise_cons.mpr ⟨?_, ih ⟨hs.2, fun c hc => hz c (List.mem_cons_of_mem _ hc)⟩⟩
          intro c hc
          rcases cellPut_keys r a b c hc with rfl | hc
          · simp; omega
          · exact hs.1 c hc
  · intro c hc
    rcases cellPut_keys m a b c hc with rfl | hc
    · exact hb
    · exact h.2 c hc

theorem wf_filter {m : List Host.Cell} (p : Host.Cell → Bool) (h : Memory.wf m) : Memory.wf (m.filter p) :=
  ⟨h.1.filter p, fun c hc => h.2 c (List.mem_filter.mp hc).1⟩

theorem wf_cellSet {m : List Host.Cell} (a : Nat) (b : Byte) (h : Memory.wf m) : Memory.wf (cellSet m a b) := by
  unfold cellSet
  split
  · exact wf_filter _ h
  · exact wf_cellPut a ‹_› h

theorem wf_cellWrite {m : List Host.Cell} (a : Nat) (bs : List Byte) (h : Memory.wf m) : Memory.wf (cellWrite m a bs) := by
  induction bs generalizing m a with
  | nil => exact h
  | cons b r ih => exact ih _ (wf_cellSet a b h)

theorem wf_cellClear {m : List Host.Cell} (lo hi : Nat) (h : Memory.wf m) : Memory.wf (cellClear m lo hi) := wf_filter _ h

theorem MemSt.write_wf {m : MemSt} (key : Nat) (bs : List Byte) (h : Memory.wf m.cells) : Memory.wf (m.write key bs).cells :=
  wf_cellWrite key bs h

theorem MemSt.clear_wf {m : MemSt} (lo hi : Nat) (h : Memory.wf m.cells) : Memory.wf (m.clear lo hi).cells := wf_cellClear lo hi h

theorem reset_memory_wf : Memory.wf State.reset.mem.cells := ⟨List.Pairwise.nil, by simp [State.reset, MemSt.fresh]⟩

/-- A canonical memory is its bytes: two that read alike everywhere are equal. -/
theorem wf_get_ne_zero {m : List Host.Cell} (h : Memory.wf m) {c : Host.Cell} (hc : c ∈ m) : cellGet m c.1 = c.2 := by
  induction m with
  | nil => simp at hc
  | cons d r ih =>
    obtain ⟨x, y⟩ := d
    have hs := List.pairwise_cons.mp h.1
    rcases List.mem_cons.mp hc with rfl | hc
    · simp [cellGet]
    · have : x ≠ c.1 := Nat.ne_of_lt (hs.1 c hc)
      simp only [cellGet, this, if_false]
      exact ih ⟨hs.2, fun c hc => h.2 c (List.mem_cons_of_mem _ hc)⟩ hc

/-! ## Whole states -/

theorem State.memByte_writeMem (s : State) (key k : Nat) (bs : List Byte) :
    (s.writeMem key bs).memByte k = if key ≤ k ∧ k < key + bs.length then bs.getD (k - key) 0 else s.memByte k :=
  cellGet_cellWrite s.mem.cells key k bs

theorem State.wrote_writeMem (s : State) (key : Nat) (bs : List Byte) : Wrote s (s.writeMem key bs) key bs :=
  fun k => s.memByte_writeMem key k bs

/-- A change of memory that keeps its cells changes no byte. -/
theorem State.sameMemory_mapMem (s : State) (f : MemSt → MemSt) (h : ∀ m, (f m).cells = m.cells) : SameMemory s (s.mapMem f) := by
  intro k; simp [State.memByte, State.mapMem, h]

theorem SameMemory.of_mem {s t : State} (h : t.mem = s.mem) : SameMemory s t := by intro k; simp [State.memByte, h]
theorem SameMemory.of_cells {s t : State} (h : t.mem.cells = s.mem.cells) : SameMemory s t := by intro k; simp [State.memByte, h]
theorem SameMemory.refl (s : State) : SameMemory s s := fun _ => rfl
theorem SameMemory.trans {s t u : State} (h : SameMemory s t) (h' : SameMemory t u) : SameMemory s u := fun k => (h' k).trans (h k)

end Sys2Proof.Machine
end

