-- ==== Sys2Proof/Laws/Keeps.lean ====
section
/-!
SUPPORT. What the shared operations do to memory's form, the rings and the tally: `Keeps` is a preorder that every one of them is in, so
that a command's step is in it by following its calls.
-/
namespace Sys2Proof.Machine

open Sys2Proof

/-- From `s` to `t` memory stays canonical, the rings stay bounded and the tally does not fall. -/
structure Keeps (s t : State) : Prop where
  memory : s.MemoryCanonical → t.MemoryCanonical
  rings  : s.RingsBounded → t.RingsBounded
  tally  : s.now ≤ t.now

theorem Keeps.refl (s : State) : Keeps s s := ⟨id, id, Nat.le_refl _⟩

theorem Keeps.trans {s t u : State} (h : Keeps s t) (h' : Keeps t u) : Keeps s u :=
  ⟨h'.memory ∘ h.memory, h'.rings ∘ h.rings, Nat.le_trans h.tally h'.tally⟩

theorem Keeps.ite {s t u : State} {c : Prop} [Decidable c] (h : c → Keeps s t) (h' : ¬c → Keeps s u) :
    Keeps s (if c then t else u) := by split <;> simp_all

theorem Keeps.foldl {α : Type} {s : State} (f : State → α → State) (l : List α) (h : ∀ t, ∀ a ∈ l, Keeps t (f t a)) :
    Keeps s (l.foldl f s) :=
  foldl_keeps (Keeps s) f l s (Keeps.refl s) (fun t a ha h' => h'.trans (h t a ha))

/-- A change that leaves the parts alone that `Keeps` looks at. -/
theorem Keeps.of_same {s t : State} (hm : t.mem = s.mem) (hl : t.log = s.log) (hd : t.dict = s.dict) (ht : t.time = s.time) :
    Keeps s t := by
  refine ⟨?_, ?_, ?_⟩
  · simp only [State.MemoryCanonical, hm]; exact id
  · simp only [State.RingsBounded, hm, hl, hd]; exact id
  · simp [State.now, ht]

theorem Keeps.mapTowers (s : State) (f : List Tower → List Tower) : Keeps s (s.mapTowers f) := .of_same rfl rfl rfl rfl
theorem Keeps.mapTower (s : State) (t : Nat) (f : Tower → Tower) : Keeps s (s.mapTower t f) := .of_same rfl rfl rfl rfl
theorem Keeps.mapBase (s : State) (f : BaseSt → BaseSt) : Keeps s (s.mapBase f) := .of_same rfl rfl rfl rfl
theorem Keeps.mapLedger (s : State) (f : LedgerSt → LedgerSt) : Keeps s (s.mapLedger f) := .of_same rfl rfl rfl rfl
theorem Keeps.mapVault (s : State) (f : VaultSt → VaultSt) : Keeps s (s.mapVault f) := .of_same rfl rfl rfl rfl
theorem Keeps.mapPair (s : State) (f : PairSt → PairSt) : Keeps s (s.mapPair f) := .of_same rfl rfl rfl rfl
theorem Keeps.mapPower (s : State) (f : PowerSt → PowerSt) : Keeps s (s.mapPower f) := .of_same rfl rfl rfl rfl
theorem Keeps.mapBoot (s : State) (f : BootSt → BootSt) : Keeps s (s.mapBoot f) := .of_same rfl rfl rfl rfl
theorem Keeps.mapTap (s : State) (f : TapSt → TapSt) : Keeps s (s.mapTap f) := .of_same rfl rfl rfl rfl
theorem Keeps.mapLoad (s : State) (f : LoadSt → LoadSt) : Keeps s (s.mapLoad f) := .of_same rfl rfl rfl rfl
theorem Keeps.drawFree (s : State) : Keeps s s.drawFree.2 := .of_same rfl rfl rfl rfl

theorem Keeps.mapTime (s : State) (f : TimeSt → TimeSt) (h : s.time.tally ≤ (f s.time).tally) : Keeps s (s.mapTime f) :=
  ⟨id, id, h⟩

/-- A change of memory that keeps the cells' form and the error log's bound. -/
theorem Keeps.mapMem (s : State) (f : MemSt → MemSt) (h : Memory.wf s.mem.cells → Memory.wf (f s.mem).cells)
    (h' : s.mem.log.length ≤ 1024 → (f s.mem).log.length ≤ 1024) : Keeps s (s.mapMem f) :=
  ⟨h, fun r => ⟨r.1, h' r.2.1, r.2.2⟩, Nat.le_refl _⟩

theorem Keeps.writeMem (s : State) (key : Nat) (bs : List Byte) : Keeps s (s.writeMem key bs) :=
  .mapMem s _ (MemSt.write_wf key bs) id

theorem Keeps.clearMem (s : State) (lo hi : Nat) : Keeps s (s.mapMem (fun m => m.clear lo hi)) :=
  .mapMem s _ (MemSt.clear_wf lo hi) id

theorem Keeps.writeKeys (s : State) (l : List (Nat × Byte)) : Keeps s (s.writeKeys l) :=
  (Keeps.foldl _ l (fun t p _ => .writeMem t p.1 [p.2])).trans (.mapMem _ _ id id)

/-- A change of the log that keeps its ring's bound. -/
theorem Keeps.mapLog (s : State) (f : LogSt → LogSt) (h : s.log.recs.length ≤ 4096 → (f s.log).recs.length ≤ 4096) :
    Keeps s (s.mapLog f) := ⟨id, fun r => ⟨h r.1, r.2⟩, Nat.le_refl _⟩

@[simp] theorem LogSt.raise_recs (l : LogSt) (v t : Nat) (up : Bool) : (l.raise v t up).recs = l.recs := rfl
@[simp] theorem LogSt.raiseClass_recs (l : LogSt) (c sev t : Nat) (up : Bool) : (l.raiseClass c sev t up).recs = l.recs := by
  unfold LogSt.raiseClass; split <;> rfl

/-- The event log never holds more than its ring (R515). -/
theorem LogSt.record_length (l : LogSt) (r : EvRec) : (l.record r).recs.length ≤ 4096 := by
  simp only [LogSt.record, List.length_take]; exact Nat.min_le_left _ _

theorem Keeps.logEv (s : State) (code sev unit loc arg0 arg1 : Nat) : Keeps s (s.logEv code sev unit loc arg0 arg1) :=
  .mapLog s _ (fun _ => by simp only [LogSt.raiseClass_recs]; exact LogSt.record_length _ _)

theorem Keeps.raiseVector (s : State) (v : Nat) : Keeps s (s.raiseVector v) := .mapLog s _ (by simp)
theorem Keeps.raiseEvent (s : State) (c : Nat) : Keeps s (s.raiseEvent c) := .mapLog s _ (by simp)

/-- A change of the dictionary that keeps the abort log's bound. -/
theorem Keeps.mapDict (s : State) (f : DictSt → DictSt) (h : s.dict.aborts.length ≤ 64 → (f s.dict).aborts.length ≤ 64) :
    Keeps s (s.mapDict f) := ⟨id, fun r => ⟨r.1, r.2.1, h r.2.2⟩, Nat.le_refl _⟩

@[simp] theorem DictSt.mapTransport_aborts (d : DictSt) (i3c : Bool) (f : Transport → Transport) :
    (d.mapTransport i3c f).aborts = d.aborts := by cases i3c <;> rfl

theorem DictSt.abortRecord_length (d : DictSt) (r : AbortRec) : (d.abortRecord r).aborts.length ≤ 64 := by
  simp only [DictSt.abortRecord, List.length_take]; exact Nat.min_le_left _ _

theorem DictSt.abandon_length (d : DictSt) (i3c : Bool) (t : Nat) (h : d.aborts.length ≤ 64) : (d.abandon i3c t).aborts.length ≤ 64 := by
  unfold DictSt.abandon
  split
  · exact h
  · simp only [DictSt.mapTransport_aborts]; exact DictSt.abortRecord_length _ _

theorem DictSt.begin_length (d : DictSt) (i3c : Bool) (t index sub : Nat) (h : d.aborts.length ≤ 64) :
    (d.begin_ i3c t index sub).aborts.length ≤ 64 := by
  simp only [DictSt.begin_, DictSt.mapTransport_aborts]
  split
  · split
    · exact h
    · exact DictSt.abandon_length d i3c t h
  · exact h

theorem DictSt.end_length (d : DictSt) (i3c : Bool) (t index sub code arg : Nat) (h : d.aborts.length ≤ 64) :
    (d.end_ i3c t index sub code arg).aborts.length ≤ 64 := by
  simp only [DictSt.end_, DictSt.mapTransport_aborts]
  split
  · exact h
  · exact DictSt.abortRecord_length _ _

theorem Keeps.begin_ (s : State) (i3c : Bool) (index sub : Nat) : Keeps s (s.mapDict (fun d => d.begin_ i3c s.now index sub)) :=
  .mapDict s _ (DictSt.begin_length _ _ _ _ _)

theorem Keeps.endAccess (s : State) (i3c : Bool) (index sub code arg : Nat) : Keeps s (s.endAccess i3c index sub code arg) :=
  .mapDict s _ (DictSt.end_length _ _ _ _ _ _ _)

/-- A checked procedure keeps what its effect keeps. -/
theorem Keeps.checked (l : List (Bool × Nat)) (f : State → State) (s : State) (h : Keeps s (f s)) : Keeps s (checked l f s).2 := by
  unfold Machine.checked; split
  · exact h
  · exact .refl s

/-- An access over the window keeps what its procedure keeps. -/
theorem Keeps.pcieWrite (s : State) (index sub : Nat) (proc : State → Nat × State) (h : ∀ t, Keeps t (proc t).2) :
    Keeps s (s.pcieWrite index sub proc) := by
  unfold State.pcieWrite
  split
  · exact .refl s
  · dsimp only
    split
    · exact ((Keeps.begin_ s false index sub).trans (h _)).trans (.endAccess _ _ _ _ _ _)
    · exact (Keeps.begin_ s false index sub).trans (.endAccess _ _ _ _ _ _)

/-- Sampling a command at its tick (R48). -/
theorem Keeps.advance (s : State) (at_ : Nat) : Keeps s (s.advance at_) := by
  unfold State.advance
  split
  · exact .mapTime s _ (Nat.le_max_left _ _)
  · exact .refl s

end Sys2Proof.Machine
end

