-- ==== Sys2Proof/Laws/Lanes.lean ====
section
/-!
SUPPORT. What the two shapes of a lane instruction do, once: an instruction that writes lanes of VD, and one that writes a predicate
(R180, R182).
-/
namespace Sys2Proof.Machine

open Sys2Proof

theorem State.engine_onEngine (s : State) (eng k : Nat) (h : LaneSt → LaneSt) :
    (s.onEngine eng h).engine k = if k = eng then beats eng (s.engine eng) (h (s.engine eng)) else s.engine k := by
  simp [State.engine, State.onEngine, kvGet_kvMod]

theorem LaneSt.bin_each (l : LaneSt) (o : LaneOp) (f : Word → Word → Word × BitVec 8) :
    l.bin o f = l.each o 1 (fun i => f (l.lane o.va i) (l.lane o.vb i)) := rfl

theorem LaneSt.un_each (l : LaneSt) (o : LaneOp) (c : Nat) (f : Word → Word × BitVec 8) :
    l.un o c f = l.each o c (fun i => f (l.lane o.va i)) := rfl

/-- The flags of the active lanes are those of the lane function, lane by lane. -/
theorem LaneSt.laneFlags_congr (l : LaneSt) (act : BitVec 128) {f g : Nat → BitVec 8} (h : ∀ i, i < 128 → f i = g i) :
    l.laneFlags act f = l.laneFlags act g := by
  have key : ∀ (r : List Nat) (a : BitVec 8), (∀ i ∈ r, i < 128) →
      r.foldl (fun acc i => if (act &&& l.elems).getLsbD i then acc ||| f i else acc) a
        = r.foldl (fun acc i => if (act &&& l.elems).getLsbD i then acc ||| g i else acc) a := by
    intro r
    induction r with
    | nil => intro a _; rfl
    | cons x r ih =>
      intro a hr
      simp only [List.foldl_cons, h x (hr x (by simp))]
      exact ih _ (fun i hi => hr i (by simp [hi]))
  exact key _ _ (fun i hi => List.mem_range.mp hi)

/-- An instruction whose engine writes each active lane, and changes beside it at most the count of random draws. -/
theorem writesLanes_of_each {c : Instr} {eng : Nat} {o : LaneOp} {cost : Nat} {f g : LaneSt → Nat → Word × BitVec 8}
    {h : LaneSt → LaneSt} (hc : ∀ s, exec c s = .next (s.onEngine eng h))
    (hh : ∀ l, h l = l.each o cost (g l) ∨ ∃ d, h l = { l.each o cost (g l) with draws := d })
    (hf : ∀ l i, i < 128 → g l i = f l i) : WritesLanes c eng o cost f := by
  intro s l hl
  refine ⟨_, hc s, ?_⟩
  obtain ⟨l', h1, h2, hfl, h3, h4, h5⟩ : ∃ l', h l = l' ∧ l'.v = (l.each o cost (g l)).v
      ∧ l'.flags = (l.each o cost (g l)).flags ∧ l'.p = l.p ∧ l'.pool = l.pool ∧ l'.cycles = l.cycles + cost := by
    refine ⟨_, rfl, ?_⟩
    obtain h | ⟨d, h⟩ := hh l <;> rw [h] <;> exact ⟨rfl, rfl, rfl, rfl, rfl⟩
  subst hl
  simp only [State.engine_onEngine, if_true, h1]
  refine ⟨?_, ?_, ?_, h3, h4, by simp [beats, h5], ?_, rfl⟩
  · intro i hi
    simp only [beats, LaneSt.lane, LaneSt.reg, h2, LaneSt.each]
    simp [hi, hf _ _ hi, Vector.getD]
  · show _ = _
    simp only [beats, hfl]
    simp only [LaneSt.each]
    rw [LaneSt.laneFlags_congr _ _ (fun i hi => by rw [hf _ _ hi])]
  · intro r hr
    have : o.vd.toNat ≠ r.toNat := fun h => hr (BitVec.eq_of_toNat_eq h.symm)
    simp [beats, LaneSt.reg, h2, LaneSt.each, this]
  · intro k hk; rw [if_neg hk]

theorem maskOf_getLsbD (f : Nat → Bool) (i : Nat) (hi : i < 128) : (maskOf f).getLsbD i = f i := by
  have key : ∀ n, n ≤ 128 → ∀ i, i < 128 →
      ((List.range n).foldl (fun acc i => if f i then acc ||| (1#128 <<< i) else acc) (0#128)).getLsbD i = (decide (i < n) && f i) := by
    intro n
    induction n with
    | zero => simp
    | succ n ih =>
      intro hn i hi
      rw [List.range_succ, List.foldl_append]
      simp only [List.foldl_cons, List.foldl_nil]
      split
      · simp only [BitVec.getLsbD_or, ih (by omega) i hi]
        by_cases h : i = n
        · subst h; simp [*]
        · have : (1#128 <<< n).getLsbD i = false := by
            simp [hi]; intro _; omega
          rw [this]; simp; congr 1; simp; omega
      · rw [ih (by omega) i hi]
        by_cases h : i = n
        · subst h; simp_all
        · congr 1; simp; omega
  have := key 128 (Nat.le_refl _) i hi
  simp only [hi, decide_true, Bool.true_and] at this
  exact this

/-- An instruction whose engine writes each active bit of a predicate. -/
theorem writesPredicate_of_eachPred {c : Instr} {eng : Nat} {o : LaneOp} {f : LaneSt → Nat → Bool} {g : LaneSt → Nat → Bool × BitVec 8}
    (hc : ∀ s, exec c s = .next (s.onEngine eng (fun l => l.eachPred o (g l)))) (hf : ∀ l i, i < 128 → (g l i).1 = f l i) :
    WritesPredicate c eng o f := by
  intro s l hl
  refine ⟨_, hc s, ?_⟩
  simp only [State.engine_onEngine, if_true, ← hl]
  refine ⟨?_, ?_, rfl, by simp [beats, LaneSt.eachPred], ?_, rfl⟩
  · intro i hi
    by_cases h : predOf o.vd = 0#3
    · simp only [h, LaneSt.pred]; exact BitVec.getLsbD_allOnes.trans (by simp [hi])
    · have hm : (maskOf (fun i => (g l i).1))[i] = f l i := by
        rw [← BitVec.getLsbD_eq_getElem, maskOf_getLsbD _ i hi, hf l i hi]
      simp only [beats, LaneSt.eachPred, LaneSt.pred]
      simp [hi, h, hm]
      cases (l.active o)[i] <;> simp
  · intro r hr
    by_cases h : predOf o.vd = 0#3
    · simp [h, beats, LaneSt.pred, LaneSt.eachPred]
    · have : (predOf o.vd).toNat ≠ r.toNat := fun h => hr (BitVec.eq_of_toNat_eq h.symm)
      by_cases hz : r = 0#3
      · simp [LaneSt.pred, hz]
      · simp [beats, LaneSt.pred, LaneSt.eachPred, h, hz, this]
  · intro k hk; simp [hk]

end Sys2Proof.Machine
end

