-- ==== Sys2Proof/Laws/Replica.lean ====
section
/-! SUPPORT. The replicas of the tally (R46): each lies within one tick of the hub's, whatever the free skew is. -/
namespace Sys2Proof.Machine

open Sys2Proof

/-- A die's replica and the hub's tally differ by at most one tick (R46). -/
theorem State.replica_near (s : State) (d : Nat) : s.now ≤ s.replica d + 1 ∧ s.replica d ≤ s.now + 1 := by
  have h := Bool.toNat_le (Config.replicaSkew d s.now)
  unfold State.replica
  split <;> omega

/-- What the hub's tally passed a tick ago every die's replica has reached. -/
theorem State.le_replica (s : State) (d n : Nat) (h : n + 1 ≤ s.now) : n ≤ s.replica d := by
  have := s.replica_near d
  omega

/-- Away from a slot boundary every die has the same slot closed. -/
theorem State.slotClosed_within (s : State) (d n : Nat) (h : 1024 * (n + 1) ≤ s.now) (k : s.now + 2 < 1024 * (n + 2)) :
    s.slotClosed d = n := by
  have := s.replica_near d
  unfold State.slotClosed
  omega

end Sys2Proof.Machine
end

