-- ==== Sys2Proof/Laws/Twin.lean ====
section
/-! SUPPORT. What a message to the twin, and a command that is told to it, can do: the two counters of what was sent, and nothing
else. -/
namespace Sys2Proof.Machine

open Sys2Proof

/-- `t` is `s` but for the messages sent to the twin and their numbers. -/
def SentOnly (s t : State) : Prop :=
  t = { s with pair := { s.pair with sent := t.pair.sent, sSeqOut := t.pair.sSeqOut } }

theorem SentOnly.refl (s : State) : SentOnly s s := rfl

theorem SentOnly.trans {s t u : State} (h : SentOnly s t) (h' : SentOnly t u) : SentOnly s u := by
  unfold SentOnly at *
  rw [h', h]

theorem State.sendTwin_only (s : State) (m : TwinMsg) : SentOnly s (s.sendTwin m) := by
  unfold State.sendTwin
  split
  · split <;> rfl
  · rfl

theorem State.sendStatus_only (s : State) : SentOnly s s.sendStatus := by
  unfold State.sendStatus
  split
  · exact s.sendTwin_only _
  · rfl

theorem State.sendConfig_only (s : State) : SentOnly s s.sendConfig := by
  unfold State.sendConfig
  split
  · exact s.sendTwin_only _
  · rfl

/-- A command that is told to the twin does what it does, and sends. -/
theorem State.telling_only (s : State) (f : State → State) : SentOnly (f s) (s.telling f) := by
  unfold State.telling
  simp only
  split
  · split <;> split
    · rfl
    · exact State.sendConfig_only _
    · exact State.sendStatus_only _
    · exact (State.sendStatus_only _).trans (State.sendConfig_only _)
  · rfl

theorem SentOnly.keeps {s t : State} (h : SentOnly s t) : Keeps s t := by
  rw [h]; exact .of_same rfl rfl rfl rfl

theorem Keeps.telling (s : State) (f : State → State) (h : Keeps s (f s)) : Keeps s (s.telling f) :=
  h.trans (s.telling_only f).keeps

/-- What is done under another bank does what it does to all but the bank. -/
theorem Keeps.underBank (s : State) (b : Bool) (f : State → State) (h : ∀ t, Keeps t (f t)) : Keeps s (s.underBank b f) :=
  ((Keeps.mapBase s _).trans (h _)).trans (.mapBase _ _)

end Sys2Proof.Machine
end

