-- ==== Sys2Proof/Tests/Slice0.lean ====
section
/-!
SUPPORT. Own tests: ill-formed commands refused check by check, the spec's worked examples, and for every clause of every statement that
has hypotheses one state and operands that meet them together (`witness_<clause>`).
-/
namespace Sys2Proof.Tests

set_option Elab.async false

open Sys2Proof Sys2Proof.Machine

/-! ## Well-formedness: one ill-formed command for each check -/

theorem test_wf_refuses_tower : Instr.wf (.ballastPauseEnd 0 20) = false := by decide
theorem test_wf_refuses_region : Instr.wf (.clockStretch 0 0 16 ⟨true, 833⟩) = false := by decide
theorem test_wf_refuses_tile : Instr.wf (.tileFault 0 0 0 17) = false := by decide
theorem test_wf_refuses_slot : Instr.wf (.endNotice 0 0 256) = false := by decide
theorem test_wf_refuses_port : Instr.wf (.holdLimit 0 5) = false := by decide
theorem test_wf_refuses_layer : Instr.wf (.bandChange 0 0 5 0) = false := by decide
theorem test_wf_refuses_layer_zero : Instr.wf (.bandChange 0 0 0 0) = false := by decide
theorem test_wf_refuses_channel : Instr.wf (.bandChange 0 0 1 32) = false := by decide
theorem test_wf_refuses_wire : Instr.wf (.wireFailure 0 0 1 0 1056 true) = false := by decide
theorem test_wf_refuses_plane : Instr.wf (.lockLoss 0 1 2 6) = false := by decide
theorem test_wf_refuses_site : Instr.wf (.lockLoss 0 1 23 0) = false := by decide
theorem test_wf_refuses_bus : Instr.wf (.spBusLoss 0 0 2) = false := by decide
theorem test_wf_refuses_laser : Instr.wf (.fadeLevelC 0 18) = false := by decide
theorem test_wf_refuses_feed : Instr.wf (.weightCombSwitch 0 8 false) = false := by decide
theorem test_wf_refuses_field : Instr.wf (.heaterRamp 0 16) = false := by decide
theorem test_wf_refuses_stack : Instr.wf (.refresh 0 8) = false := by decide
theorem test_wf_refuses_guest : Instr.wf (.gready 0 2) = false := by decide
theorem test_wf_refuses_domain : Instr.wf (.domainFault 0 ⟨48, none⟩) = false := by decide
theorem test_wf_refuses_lane : Instr.wf (.xLaneLost 0 0 8) = false := by decide
theorem test_wf_refuses_converter : Instr.wf (.converterFailure 0 9) = false := by decide
theorem test_wf_refuses_thermal_unit : Instr.wf (.restartHold 0 23) = false := by decide
theorem test_wf_refuses_patrol_unit : Instr.wf (.patrolVisit 0 8 0 0 [] 0) = false := by decide
theorem test_wf_refuses_patrol_layer : Instr.wf (.patrolVisit 0 0 5 0 [] 0) = false := by decide
theorem test_wf_refuses_array : Instr.wf (.remap 0 0 34 0 ⟨0, .corrected⟩) = false := by decide
theorem test_wf_refuses_reload_unit : Instr.wf (.imageReloadMeasure 0 48 true) = false := by decide
theorem test_wf_refuses_firmware_layer : Instr.wf (.bootLayer 0 4 true true) = false := by decide
theorem test_wf_refuses_straps : Instr.wf (.domainSwitchOn 0 0 16) = false := by decide
theorem test_wf_refuses_byte : Instr.wf (.fieldReset 0 256) = false := by decide
theorem test_wf_refuses_u16 : Instr.wf (.packageRemovalComplete 0 65536) = false := by decide
theorem test_wf_refuses_u32 : Instr.wf (.syncAdd 0 4294967296) = false := by decide
theorem test_wf_refuses_u64 : Instr.wf (.commitArm 0 18446744073709551616) = false := by decide
theorem test_wf_refuses_packet : Instr.wf (.write 0 ⟨{ hdr := 0, data := List.replicate 257 0 }, []⟩) = false := by decide +kernel
theorem test_wf_refuses_credit_units : Instr.wf (.creditReturn 0 1 2 { plane := 0, header := 0, decodes := true, corrected := 0 } [0]) = false := by decide
theorem test_wf_refuses_frame : Instr.wf (.gFrame 0 { port := 5, hdr := 0 }) = false := by decide
theorem test_wf_accepts_last_units : Instr.wf (.clockStretch 0 19 15 ⟨false, 833⟩) = true ∧ Instr.wf (.refresh 0 7) = true := by decide

/-! ## Worked examples of the spec -/

/-- Table LP-9, word 0: FFMA v0, v1, v2, v3. -/
theorem test_lane_word_ffma : laneFields 0x0000000018820004 =
    (0x04, { pred := 0, pneg := false, vd := 0, va := 1, vb := 2, vc := 3, rnd := 0, sat := false, mode := 0, imm := 0 }) := by decide
/-- Table LP-9, word 2: MOVI v5, 0x3FC000, MODE 1. -/
theorem test_lane_word_movi : laneFields 0x3FC0001000005023 =
    (0x23, { pred := 0, pneg := false, vd := 5, va := 0, vb := 0, vc := 0, rnd := 0, sat := false, mode := 1, imm := 0x3FC000 }) := by decide
/-- Table LP-9, word 4: FCMP p2, v1, v4, EQ. -/
theorem test_lane_word_fcmp : laneFields 0x000000000102200E =
    (0x0E, { pred := 0, pneg := false, vd := 2, va := 1, vb := 4, vc := 0, rnd := 0, sat := false, mode := 0, imm := 0 }) := by decide
/-- Table LP-9, word 5: MOVI v0, 0xBF8000, MODE 1, PRED p2. -/
theorem test_lane_word_movi_predicated : laneFields 0xBF80001000000223 =
    (0x23, { pred := 2, pneg := false, vd := 0, va := 0, vb := 0, vc := 0, rnd := 0, sat := false, mode := 1, imm := 0xBF8000 }) := by decide
/-- Example under R115: 7.2, 5.0, 2.6, −1.25 and 0.2 as MXFP4; scale byte 0x7F, elements 6, 4, 3, −1 and 0, saturated and underflow. -/
theorem test_mxfp4_block :
    let b := mxBlock 0x0A rndNearest (fun _ => 0) ([0x40E66666, 0x40A00000, 0x40266666, 0xBFA00000, 0x3E4CCCCD].map fvOf)
    b.1 = 0x7F ∧ b.2.1 = [7, 6, 5, 10, 0] ∧ b.2.2 = (flSat ||| flUnder) := by decide +kernel
/-- Example under R551: the fence of T7 refused while a record is held. -/
theorem test_state_abort_t7 : stateAbort (towerIndex 7 6) 1 = 0x0531C601 := by decide
/-- Example under R223: the spare of the pair S03 to S17 is on DP0. -/
theorem test_spare_plane : sparePlane 3 17 = 0 ∧ (Pair.fresh 3 17).planes = [1, 2, 3, 4] := by decide
/-- Example under R292: the fields of 0x0101200010000000. -/
theorem test_address_fields :
    addrSpace 0x0101200010000000 = 1 ∧ addrEid 0x0101200010000000 = 0x0120 ∧ addrOff 0x0101200010000000 = 0x10000000 := by decide
/-- Example of chapter 16: the rule of D:7301.01 lets G0 write below 0x100000 of EID 0x0120 and nothing above. -/
theorem test_firewall_rule :
    ruleMatches 0x00001000000000000000012001200109 dirFrom { op := 3, space := 1, eid := 0x120, off := 0xFFF00, len := 256 } = true
    ∧ ruleMatches 0x00001000000000000000012001200109 dirFrom { op := 3, space := 1, eid := 0x120, off := 0x200000, len := 256 } = false := by decide

/-! ## Shared states -/

/-- A module whose tally has started and reads 5,000,000, LOCKED, with the PCIe link up. -/
def w0 : State :=
  { State.reset with
    time := { State.reset.time with tally := 5000000, started := true, refLost := false, goodGates := 10, mode := .locked, stepped := true }
    dict := { State.reset.dict with pcieUp := true, perst := true } }

/-- `w0` with tower `t` changed. -/
def wT (t : Nat) (f : Tower → Tower) : State := w0.mapTower t f

def wRec (slot : Nat) : ActRec :=
  { slot, tenant := 7, seq := 9, model := 1, bases := [], windows := [], slotMap := [], bank := false, booked := true, status := 0,
    code := 0, codeDesc := 0xFFFF, done := 0, total := 1, unacked := 0, reported := false, withdrawn := false, reqid := 1, stamps := [], spooled := [] }

/-- An operator of record 0, in the scoreboard and cut, with opcode `opc`. -/
def wOp (id opc : Nat) : OpInst :=
  { id, slot := 0, desc := 0, word := BitVec.ofNat 1024 opc, issue := 0, booked := true, win := 0, eligible := 0, closeTick := 6000000,
    entered := true, started := some 4000000, ranges := [], waits := [], cut := true, chunks := 1, arrived := 0, flags := 0, code := 0, unacked := 0, remote := false,
    tree := 0, stalled := false, fencedCopies := [], failed := false, keyCount := 0, pieces := [], offers := [], deliv := [] }

/-- A chunk of operator 1 that tile 0 of region 0 is running. -/
def wChunk (id : Nat) (kind : ChunkKind) : Chunk :=
  { id, op := 1, kind, box := [], part := 0, cost := 10, booked := true, closeTick := 6000000, issue := 0, place := some (0, 0),
    attempts := 0, poisoned := false, badWords := [], computed := false, staged := [], flags := 0, code := 0 }

/-- Tower 0 ACTIVE with record 0, operator 1 of opcode `opc` and its chunk 7 running. -/
def wRunF (opc : Nat) (x : Tower) : Tower :=
  { x with mode := .active, records := [wRec 0], ops := [wOp 1 opc], running := [wChunk 7 .normal] }
def wRun (opc : Nat) : State := wT 0 (wRunF opc)

def wCost : CostRec := { shape := 0, clg := true, clb := true, span := 2, tail := 100, recov := 0, wins := [], pairs := [] }

/-- A request of tenant 7 with sequence number 9 in a phase. -/
def wReq (phase : ReqPhase) : Req :=
  { tenant := 7, seq := 9, reqid := 1, model := 1, cls := 1, port := 0, kepoch := 1, deadline := 9000000, shape := 0, length := 0,
    arrival := 4000000, phase, bestEffort := false, prot := false, promised := 8000000, commit := 4000000, base := 4000, slotMap := [],
    bank := false, rec_ := wCost, sentRecords := true, here := true, buffered := true, payload := none, payloadTick := 0, payloadGood := true, words := [], retired := [],
    reason := 0, detail := 0, reasonSite := 0, endTick := 0, parts := [], framesLeft := 2, lastLeft := false, twinDelivered := false,
    byCompare := false, delta := [] }
def withReq (r : Req) (s : State) : State := s.mapLedger (fun l => { l with reqs := [r] })

namespace Time


/-! ### Obligations.TimeCommandsComplete -/

def wTimeLost : State := w0.mapTime (fun t => { t with refLost := true, goodGates := 9, gateNo := 49 })
def wTimePulse : State := w0.mapTime (fun t => { t with tally := 5000002, reference := some 5000000 })
def wTimeUnset : State := w0.mapTime (fun t => { t with mode := .unset })
def wTimeResidual : State := w0.mapTime (fun t => { t with residual := 3 })
def wTimeBound : State := { w0.mapTime (fun t => { t with epochCount := 5 }) with pair := { w0.pair with bound := true, mode := .active } }
theorem witness_TimeEdge :
    (4999968 + 32 ≤ 5000000) ∧
    ((w0.advance 5000000).time.refLost = false) ∧
    ((w0.advance 5000000).time.mode = TimeMode.locked) := by decide +kernel
theorem witness_TimeGate :
    ((-100000 : Int) ≤ 100000) ∧
    ((100000 : Int) ≤ 100000) ∧
    ((wTimeLost.advance 5000000).time.refLost = true) ∧
    ((wTimeLost.advance 5000000).time.goodGates = 9) ∧
    ((wTimeLost.advance 5000000).time.gateDue = true) ∧
    ((wTimeLost.advance 5000000).time.started = true → (wTimeLost.advance 5000000).time.gateNo + 1 = (wTimeLost.advance 5000000).time.gateAt) := by decide +kernel
theorem witness_TimePulse :
    ((wTimePulse.advance 5000002).time.started = true) ∧
    (4000 ≤ 4000) ∧
    ((wTimePulse.advance 5000002).time.mode = TimeMode.locked) ∧
    ((wTimePulse.advance 5000002).time.inWindow = true) ∧
    ((wTimePulse.advance 5000002).pair.bound = false) := by decide +kernel
theorem witness_TimeLoad :
    ((wTimeUnset.advance 5000000).Serves 4609) ∧
    ((wTimeUnset.advance 5000000).time.loadUsed = false) ∧
    (1 ≤ 6) ∧
    (6 ≤ 18446744000000) ∧
    ((wTimeUnset.advance 5000000).now < 6 * 1000000) := by decide +kernel
theorem witness_TimeSlew :
    ((wTimeResidual.advance 5000000).time.started = true) ∧
    ((wTimeResidual.advance 5000000).time.mode ≠ TimeMode.fault) ∧
    (0 < (wTimeResidual.advance 5000000).time.residual) ∧
    ((wTimeResidual.advance 5000000).time.lastSlew = none) := by decide +kernel
theorem witness_TimeTwin :
    ((wTimeBound.advance 5000000).pair.bound = true) ∧
    ((wTimeBound.advance 5000000).time.hasOwnCount = true) ∧
    (5 = (wTimeBound.advance 5000000).time.epochCount) := by decide +kernel
theorem witness_TimeReset :
    ((w0.advance 5000000).Serves 4614) ∧
    ((w0.advance 5000000).holdsWork = false) ∧
    ((w0.advance 5000000).time.mode ≠ TimeMode.unset) := by decide +kernel
theorem witness_TimeStretch :
    (2 < (w0.advance 5000000).towers.length) ∧
    (((w0.advance 5000000).tower 2).regions[3]? = some (Region.fresh 3)) := by decide +kernel
def wTimeMiss : State := w0.mapTime (fun t => { t with missRun := 2, tally := 8000110, reference := some 5000000 })
theorem witness_TimeMiss :
    ((wTimeMiss.advance 8000110).time.started = true) ∧
    ((wTimeMiss.advance 8000110).time.mode = TimeMode.locked) ∧
    ((wTimeMiss.advance 8000110).pair.bound = false) ∧
    ((wTimeMiss.advance 8000110).time.missRun = 2) ∧
    (0 < (wTimeMiss.advance 8000110).time.closedWindow) ∧
    (∀ (w : Nat), (wTimeMiss.advance 8000110).time.lastWindow = some w → w < (wTimeMiss.advance 8000110).time.closedWindow.toNat) ∧
    (∀ (w : Nat), (wTimeMiss.advance 8000110).time.lastClosed = some w → w < (wTimeMiss.advance 8000110).time.closedWindow.toNat) := by decide +kernel

end Time

namespace Towers


/-! ### Obligations.TowerFaultCommandsComplete -/

def wShort : Region := { Region.fresh 1 with short := 3, shortSlot := 4880, entered := some 4000 }
def wLostRegion : State := wT 2 (fun x => { x.mapRegion 1 (fun _ => wShort) with mode := .ready })
theorem witness_TileFault :
    ((((wRun 1).advance 5000000).tower 0).isCache = false) ∧
    (0 < ((wRun 1).advance 5000000).towers.length) ∧
    (0 < 16) ∧
    ((((wRun 1).advance 5000000).tower 0).regions[0]? = some (Region.fresh 0)) ∧
    ((Region.fresh 0).st = RegionState.inService) ∧
    ((Region.fresh 0).faulted.getLsbD 0 = false) ∧
    ((Region.fresh 0).subst = none) ∧
    (((wRun 1).advance 5000000).losesNow 0 0 (Region.fresh 0) = false) ∧
    (((wRun 1).advance 5000000).towerFalls 0 = false) := by decide +kernel
theorem witness_ChunkOverrun :
    (List.find? (fun k => k.id == 7) (((wRun 1).advance 5000000).tower 0).running = some (wChunk 7 ChunkKind.normal)) ∧
    ((wChunk 7 ChunkKind.normal).place = some (0, 0)) ∧
    (0 < 17) ∧
    (4 * (wChunk 7 ChunkKind.normal).cost < 41) := by decide +kernel
def wSelfTest : State := w0.mapTime (fun t => { t with tally := 100000001 })
theorem witness_SpareSelfTest :
    (((wSelfTest.advance 5000000).tower 3).isCache = false) ∧
    (3 < (wSelfTest.advance 5000000).towers.length) ∧
    (((wSelfTest.advance 5000000).tower 3).regions[15]? = some (Region.fresh 15)) ∧
    ((Region.fresh 15).st = RegionState.inService) ∧
    ((Region.fresh 15).selfTest + 100000000 ≤ (wSelfTest.advance 5000000).replica 3) :=
  ⟨by decide +kernel, by decide +kernel, by decide +kernel, by decide +kernel, State.le_replica _ _ _ (by decide +kernel)⟩
theorem witness_OscillatorStop :
    ((((wRun 1).advance 5000000).tower 0).isCache = false) ∧
    (0 < ((wRun 1).advance 5000000).towers.length) ∧
    ((((wRun 1).advance 5000000).tower 0).regions[0]? = some (Region.fresh 0)) ∧
    ((Region.fresh 0).st ≠ RegionState.lost) ∧
    (1 < (((wRun 1).advance 5000000).tower 0).activeRegions) ∧
    (((wRun 1).advance 5000000).towerFalls 0 = false) := by decide +kernel
theorem witness_SchedulerFault :
    (19 < 20) ∧
    (19 < (w0.advance 5000000).towers.length) ∧
    (((w0.advance 5000000).tower 19).mode ≠ TowerMode.failed) := by decide +kernel
def wEntered : Region := { Region.fresh 3 with entered := some 4000 }
def wCounts : State := wT 16 (fun x => { x.mapRegion 3 (fun _ => wEntered) with mode := .fenced })
theorem witness_Shortfall :
    (16 < (wCounts.advance 5000000).towers.length) ∧
    (((wCounts.advance 5000000).tower 16).regions[3]? = some wEntered) ∧
    (((wCounts.advance 5000000).tower 16).judges wEntered ((wCounts.advance 5000000).slotClosed 16) = true) ∧
    (1488 < 1489) ∧
    (wEntered.short = 0) :=
  ⟨by decide +kernel, by decide +kernel, by rw [State.slotClosed_within _ _ 4881 (by decide +kernel) (by decide +kernel)]; decide +kernel, by decide +kernel, by decide +kernel⟩
def wReady : State := wT 5 (fun x => { x with mode := .ready })
theorem witness_TowerFenceWrite :
    (5 < 20) ∧
    (5 < (wReady.advance 5000000).towers.length) ∧
    ((wReady.advance 5000000).Serves (towerIndex 5 8)) ∧
    (((wReady.advance 5000000).tower 5).fence = false) ∧
    ((wReady.advance 5000000).holdsBooked 5 = false) ∧
    (((wReady.advance 5000000).tower 5).group = none) := by decide +kernel
theorem witness_FourthShortfall :
    (2 < (wLostRegion.advance 5000000).towers.length) ∧
    (((wLostRegion.advance 5000000).tower 2).regions[1]? = some wShort) ∧
    (((wLostRegion.advance 5000000).tower 2).judges wShort ((wLostRegion.advance 5000000).slotClosed 2) = true) ∧
    (1488 < 1489) ∧
    (wShort.short = 3) ∧
    (wShort.follows ((wLostRegion.advance 5000000).slotClosed 2) = true) ∧
    ((wLostRegion.advance 5000000).towerFalls 2 = false) :=
  ⟨by decide +kernel, by decide +kernel, by rw [State.slotClosed_within _ _ 4881 (by decide +kernel) (by decide +kernel)]; decide +kernel, by decide +kernel, by decide +kernel, by rw [State.slotClosed_within _ _ 4881 (by decide +kernel) (by decide +kernel)]; decide +kernel, by decide +kernel⟩

/-! ### Obligations.RecordCommandsComplete -/

def wInflight : State := { wT 1 (fun x => { x with mode := .active }) with ledger := { w0.ledger with inflight := [(1, wRec 4)] } }
theorem witness_ActivationInstall :
    (1 < (wInflight.advance 5000000).towers.length) ∧
    (List.find? (fun i => i.fst == 1 && i.snd.slot == 4) (wInflight.advance 5000000).ledger.inflight = some (1, wRec 4)) ∧
    (((wInflight.advance 5000000).tower 1).mode = TowerMode.active) ∧
    (((wInflight.advance 5000000).tower 1).records.length < 256) ∧
    ((((wInflight.advance 5000000).tower 1).records.any fun q => q.slot == 4) = false) := by decide +kernel
def wWin : RecWindow := { win := 2, open_ := 4999999, close := 5100000, graph := 0, opened := false }
def wRecWin : ActRec := { wRec 4 with windows := [wWin] }
def wWindow : State := wT 1 (fun x => { x with mode := .active, records := [wRecWin] })
theorem witness_WindowOpen :
    (1 < (wWindow.advance 5000000).towers.length) ∧
    (((wWindow.advance 5000000).tower 1).record? 4 = some wRecWin) ∧
    (wWin ∈ wRecWin.windows) ∧
    (wWin.win = 2) ∧
    (wWin.open_ ≤ (wWindow.advance 5000000).replica 1) :=
  ⟨by decide +kernel, by decide +kernel, by decide +kernel, by decide +kernel, State.le_replica _ _ _ (by decide +kernel)⟩
def wRecDone : ActRec := { wRec 0 with done := 1 }
def wDue : State := withReq (wReq .accepted) (wT 0 (fun x => { x with mode := .active, records := [wRecDone] }))
theorem witness_CompletionWord :
    (0 < (wDue.advance 5000000).towers.length) ∧
    (((wDue.advance 5000000).tower 0).record? 0 = some wRecDone) ∧
    (wRecDone.due = true) ∧
    (wRecDone.code < 128) ∧
    ((wDue.advance 5000000).req? wRecDone.tenant wRecDone.seq = some (wReq ReqPhase.accepted)) := by decide +kernel
def wRecReported : ActRec := { wRec 0 with done := 1, reported := true }
def wNotice : State := withReq (wReq .accepted) (wT 0 (fun x =>
  { x with mode := .active, records := [wRecReported], sync := [(5, { SyncObj.fresh with value := 9 })] }))
theorem witness_EndNotice :
    (0 < (wNotice.advance 5000000).towers.length) ∧
    (((wNotice.advance 5000000).tower 0).record? 0 = some wRecReported) ∧
    ((wNotice.advance 5000000).req? wRecReported.tenant wRecReported.seq = some (wReq ReqPhase.accepted)) ∧
    (wRecReported.reported = true) ∧
    (∀ (k : Nat), k ∈ (wReq ReqPhase.accepted).towers → k ∈ (wReq ReqPhase.accepted).words) := by decide +kernel

/-! ### Obligations.SchedulerCommandsComplete -/

def wQueued : Chunk := { wChunk 7 .normal with place := none }
def wQueue : State := wT 0 (fun x => { x with mode := .active, records := [wRec 0], ops := [wOp 1 1], queue := [wQueued] })
theorem witness_ChunkIssue :
    (0 < (wQueue.advance 5000000).towers.length) ∧
    ((((wQueue.advance 5000000).schedule 0).tower 0).runs = true) ∧
    ((((wQueue.advance 5000000).schedule 0).tower 0).idle 15 15 = true) ∧
    ((((wQueue.advance 5000000).schedule 0).tower 0).regions[15]? = some (Region.fresh 15)) ∧
    ((Region.fresh 15).queue.length < 16) ∧
    (((wQueue.advance 5000000).schedule 0).nextChunk 0 = some wQueued) := by decide +kernel
def wComputed : Chunk := { wChunk 7 .normal with computed := true, staged := [(100, 5), (101, 6)] }
def wDone : State := wT 0 (fun x => { wRunF 1 x with running := [wComputed] })
theorem witness_ChunkCommit :
    (0 < (wDone.advance 5000000).towers.length) ∧
    (List.find? (fun k => k.id == 7) ((wDone.advance 5000000).tower 0).running = some wComputed) ∧
    (List.find? (fun k => k.id == wComputed.op) ((wDone.advance 5000000).tower 0).ops = some (wOp 1 1)) ∧
    (wComputed.computed = true) ∧
    (wComputed.kind ≠ ChunkKind.copy) ∧
    (∀ (r : ActRec), ((wDone.advance 5000000).tower 0).record? (wOp 1 1).slot = some r → r.withdrawn = false) ∧
    (((wDone.advance 5000000).mapBase fun b =>
        { pairs := b.pairs, spDegraded := b.spDegraded, spResent := b.spResent, busOut := b.busOut, planeSt := b.planeSt, window := b.window, windowQueue := b.windowQueue, calSuspended := b.calSuspended, calBegan := b.calBegan, guestSiteFence := b.guestSiteFence, unroutable := b.unroutable, activeB := (wDone.advance 5000000).slotBank 0 (wOp 1 1).slot, bankA := b.bankA, bankB := b.bankB,
          switchTick := b.switchTick, switchSt := b.switchSt, lasers := b.lasers, linkMap := b.linkMap, feedMap := b.feedMap, linkSwitchDown := b.linkSwitchDown, bankSwitchDown := b.bankSwitchDown, bankSets := b.bankSets, cal := b.cal, engineTick := b.engineTick, commitTick := b.commitTick, commitSt := b.commitSt, commitKind := b.commitKind, commitIndex := b.commitIndex,
          commitChecks := b.commitChecks, appliedTick := b.appliedTick, relockPeriod := b.relockPeriod, bankPeriod := b.bankPeriod, stepsDone := b.stepsDone, stepsAbandoned := b.stepsAbandoned, restoresOk := b.restoresOk, restoresBad := b.restoresBad, feedFwd := b.feedFwd, lockTemp := b.lockTemp, heaterOff := b.heaterOff, fieldReset := b.fieldReset,
          fieldBankClean := b.fieldBankClean }).refusedWrites
    (wOp 1 1) wComputed =
  []) := by decide +kernel
theorem witness_ChunkCommitFault :
    (List.find? (fun k => k.id == 7) ((wDone.advance 5000000).tower 0).running = some wComputed) ∧
    (wComputed.place = some (0, 0)) ∧
    (0 < 17) := by decide +kernel
def wWaitOp : OpInst := { wOp 1 1 with cut := false, booked := false, waits := [(0, 3, 5, none)] }
def wWait : State := (wT 0 (fun x => { x with mode := .active, records := [wRec 0], ops := [wWaitOp] })).mapTime (fun t => { t with tally := 10000001 })
theorem witness_SyncWaitExpiry :
    (0 < (wWait.advance 10000001).towers.length) ∧
    (List.find? (fun k => k.id == 1) ((wWait.advance 10000001).tower 0).ops = some wWaitOp) ∧
    (wWaitOp.cut = false) ∧
    (wWaitOp.failed = false) ∧
    (∀ (c : Chunk), c ∈ ((wWait.advance 10000001).tower 0).running → c.op ≠ 1) ∧
    ((wWait.advance 10000001).waitsArrive 0 wWaitOp = false) ∧
    (wWaitOp.expiry ((wWait.advance 10000001).tower 0).syncLimit ≤ (wWait.advance 10000001).replica 0) ∧
    (wWaitOp.eligible ≤ (wWait.advance 10000001).replica 0) ∧
    (((wWait.advance 10000001).tower 0).record? wWaitOp.slot = some (wRec 0)) ∧
    ((wRec 0).withdrawn = false) :=
  ⟨by decide +kernel, by decide +kernel, by decide +kernel, by decide +kernel, by decide +kernel, by decide +kernel, State.le_replica _ _ _ (by decide +kernel), State.le_replica _ _ _ (by decide +kernel), by decide +kernel, by decide +kernel⟩

/-! ### Obligations.FloorCapacityCountsActiveRegions -/

def wCompute : Tower := Tower.fresh false
def wCache : Tower := Tower.fresh true
theorem witness_CapacityCompute :
    (wCompute.isCache = false) := by decide +kernel
theorem witness_CapacityCache :
    (wCache.isCache = true) := by decide +kernel

end Towers

namespace Operators


/-! ### Obligations.OperatorsStageTheirOutputs -/

/-- Tower 0 ACTIVE with an operator whose four slots stand in one window, on tensors of INT32 with two rows of two elements. -/
def wSlots : Nat := ((List.range 4).map (fun k => (mkAddr 1 0x20 (4096 * k)) * 2 ^ (128 + 128 * k))).sum
def wOpAt (opc : Nat) : OpInst := { wOp 1 0 with word := BitVec.ofNat 1024 (opc + wSlots) }
def wChunkAt : Chunk := { wChunk 7 .normal with box := [(0, 2), (0, 1)] }
def wTensor : BitVec 256 := BitVec.ofNat 256 (0x0D + 2 * 2 ^ 16 + 2 * 2 ^ 32 + 2 * 2 ^ 64 + 8 * 2 ^ 192)
def wPkg : Pkg :=
  { model := 1, version := 1, hash := 0, st := 2, kinds := [], shapes := [wCost]
    tables := [{ tower := 0, graphs := [], descs := [], tensors := [wTensor], lanes := [], persist := [] }], data := [], tick := 0 }
def wStage (opc : Nat) : State :=
  { wT 0 (fun x => { x with mode := .active, records := [wRec 0], ops := [wOpAt opc], running := [wChunkAt] }) with
    base := { w0.base with bankA := [(0x20, 1)] }, pkgs := [wPkg]
    mem := { w0.mem with windows := [{ eid := 0x20, space := 1, base := 0, len := 1, frames := 0, park := false, tower := 0 }] } }
def wStageV (opc : Nat) : State := ((wStage opc).advance 5000000).mapBase (fun b => { b with activeB := ((wStage opc).advance 5000000).chunkBank 0 7 })
theorem witness_StagesMatmul :
    (0 < ((wStage 1).advance 5000000).towers.length) ∧
    (List.find? (fun k => k.id == 7) (((wStage 1).advance 5000000).tower 0).running = some wChunkAt) ∧
    (List.find? (fun k => k.id == wChunkAt.op) (((wStage 1).advance 5000000).tower 0).ops = some (wOpAt 1)) ∧
    (dOpcode (wOpAt 1).word = 1) ∧
    (wChunkAt.computed = false) ∧
    ((opEnv (wStageV 1) 0 (wOpAt 1)).kvFault (wStageV 1) = false) ∧
    ((evalMatmul (wStageV 1) (opEnv (wStageV 1) 0 (wOpAt 1)) wChunkAt).bad = []) := by decide +kernel
theorem witness_StagesMatmulBatched :
    (0 < ((wStage 2).advance 5000000).towers.length) ∧
    (List.find? (fun k => k.id == 7) (((wStage 2).advance 5000000).tower 0).running = some wChunkAt) ∧
    (List.find? (fun k => k.id == wChunkAt.op) (((wStage 2).advance 5000000).tower 0).ops = some (wOpAt 2)) ∧
    (dOpcode (wOpAt 2).word = 2) ∧
    (wChunkAt.computed = false) ∧
    ((opEnv (wStageV 2) 0 (wOpAt 2)).kvFault (wStageV 2) = false) ∧
    ((evalMatmul (wStageV 2) (opEnv (wStageV 2) 0 (wOpAt 2)) wChunkAt).bad = []) := by decide +kernel
theorem witness_StagesMatmulGrouped :
    (0 < ((wStage 3).advance 5000000).towers.length) ∧
    (List.find? (fun k => k.id == 7) (((wStage 3).advance 5000000).tower 0).running = some wChunkAt) ∧
    (List.find? (fun k => k.id == wChunkAt.op) (((wStage 3).advance 5000000).tower 0).ops = some (wOpAt 3)) ∧
    (dOpcode (wOpAt 3).word = 3) ∧
    (wChunkAt.computed = false) ∧
    ((opEnv (wStageV 3) 0 (wOpAt 3)).kvFault (wStageV 3) = false) ∧
    ((evalGrouped (wStageV 3) (opEnv (wStageV 3) 0 (wOpAt 3)) wChunkAt).bad = []) := by decide +kernel
theorem witness_StagesMatmulRouted :
    (0 < ((wStage 4).advance 5000000).towers.length) ∧
    (List.find? (fun k => k.id == 7) (((wStage 4).advance 5000000).tower 0).running = some wChunkAt) ∧
    (List.find? (fun k => k.id == wChunkAt.op) (((wStage 4).advance 5000000).tower 0).ops = some (wOpAt 4)) ∧
    (dOpcode (wOpAt 4).word = 4) ∧
    (wChunkAt.computed = false) ∧
    ((opEnv (wStageV 4) 0 (wOpAt 4)).kvFault (wStageV 4) = false) ∧
    ((evalRouted (wStageV 4) (opEnv (wStageV 4) 0 (wOpAt 4)) wChunkAt).bad = []) := by decide +kernel
theorem witness_StagesConv :
    (0 < ((wStage 8).advance 5000000).towers.length) ∧
    (List.find? (fun k => k.id == 7) (((wStage 8).advance 5000000).tower 0).running = some wChunkAt) ∧
    (List.find? (fun k => k.id == wChunkAt.op) (((wStage 8).advance 5000000).tower 0).ops = some (wOpAt 8)) ∧
    (dOpcode (wOpAt 8).word = 8) ∧
    (wChunkAt.computed = false) ∧
    ((opEnv (wStageV 8) 0 (wOpAt 8)).kvFault (wStageV 8) = false) ∧
    ((evalConv (wStageV 8) (opEnv (wStageV 8) 0 (wOpAt 8)) wChunkAt).bad = []) := by decide +kernel
theorem witness_StagesAttn :
    (0 < ((wStage 65552).advance 5000000).towers.length) ∧
    (List.find? (fun k => k.id == 7) (((wStage 65552).advance 5000000).tower 0).running = some wChunkAt) ∧
    (List.find? (fun k => k.id == wChunkAt.op) (((wStage 65552).advance 5000000).tower 0).ops = some (wOpAt 65552)) ∧
    (dOpcode (wOpAt 65552).word = 16) ∧
    (wChunkAt.computed = false) ∧
    ((opEnv (wStageV 65552) 0 (wOpAt 65552)).kvFault (wStageV 65552) = false) ∧
    ((evalAttn (wStageV 65552) (opEnv (wStageV 65552) 0 (wOpAt 65552)) wChunkAt).bad = []) := by decide +kernel
theorem witness_StagesNorm :
    (0 < ((wStage 24).advance 5000000).towers.length) ∧
    (List.find? (fun k => k.id == 7) (((wStage 24).advance 5000000).tower 0).running = some wChunkAt) ∧
    (List.find? (fun k => k.id == wChunkAt.op) (((wStage 24).advance 5000000).tower 0).ops = some (wOpAt 24)) ∧
    (dOpcode (wOpAt 24).word = 24) ∧
    (wChunkAt.computed = false) ∧
    ((opEnv (wStageV 24) 0 (wOpAt 24)).kvFault (wStageV 24) = false) ∧
    ((evalNorm (wStageV 24) (opEnv (wStageV 24) 0 (wOpAt 24)) wChunkAt).bad = []) := by decide +kernel
theorem witness_StagesElementwise :
    (0 < ((wStage 32).advance 5000000).towers.length) ∧
    (List.find? (fun k => k.id == 7) (((wStage 32).advance 5000000).tower 0).running = some wChunkAt) ∧
    (List.find? (fun k => k.id == wChunkAt.op) (((wStage 32).advance 5000000).tower 0).ops = some (wOpAt 32)) ∧
    (dOpcode (wOpAt 32).word = 32) ∧
    (wChunkAt.computed = false) ∧
    ((opEnv (wStageV 32) 0 (wOpAt 32)).kvFault (wStageV 32) = false) ∧
    ((evalElementwise (wStageV 32) (opEnv (wStageV 32) 0 (wOpAt 32)) wChunkAt).bad = []) := by decide +kernel
theorem witness_StagesReduce :
    (0 < ((wStage 40).advance 5000000).towers.length) ∧
    (List.find? (fun k => k.id == 7) (((wStage 40).advance 5000000).tower 0).running = some wChunkAt) ∧
    (List.find? (fun k => k.id == wChunkAt.op) (((wStage 40).advance 5000000).tower 0).ops = some (wOpAt 40)) ∧
    (dOpcode (wOpAt 40).word = 40) ∧
    (wChunkAt.computed = false) ∧
    ((opEnv (wStageV 40) 0 (wOpAt 40)).kvFault (wStageV 40) = false) ∧
    ((evalReduce (wStageV 40) (opEnv (wStageV 40) 0 (wOpAt 40)) wChunkAt).bad = []) := by decide +kernel
theorem witness_StagesGather :
    (0 < ((wStage 48).advance 5000000).towers.length) ∧
    (List.find? (fun k => k.id == 7) (((wStage 48).advance 5000000).tower 0).running = some wChunkAt) ∧
    (List.find? (fun k => k.id == wChunkAt.op) (((wStage 48).advance 5000000).tower 0).ops = some (wOpAt 48)) ∧
    (dOpcode (wOpAt 48).word = 48) ∧
    (wChunkAt.computed = false) ∧
    ((opEnv (wStageV 48) 0 (wOpAt 48)).kvFault (wStageV 48) = false) ∧
    ((evalGather (wStageV 48) (opEnv (wStageV 48) 0 (wOpAt 48)) wChunkAt).bad = []) := by decide +kernel
theorem witness_StagesScatter :
    (0 < ((wStage 49).advance 5000000).towers.length) ∧
    (List.find? (fun k => k.id == 7) (((wStage 49).advance 5000000).tower 0).running = some wChunkAt) ∧
    (List.find? (fun k => k.id == wChunkAt.op) (((wStage 49).advance 5000000).tower 0).ops = some (wOpAt 49)) ∧
    (dOpcode (wOpAt 49).word = 49) ∧
    (wChunkAt.computed = false) ∧
    ((opEnv (wStageV 49) 0 (wOpAt 49)).kvFault (wStageV 49) = false) ∧
    ((evalScatter (wStageV 49) (opEnv (wStageV 49) 0 (wOpAt 49)) wChunkAt).bad = []) := by decide +kernel
theorem witness_StagesIndex :
    (0 < ((wStage 50).advance 5000000).towers.length) ∧
    (List.find? (fun k => k.id == 7) (((wStage 50).advance 5000000).tower 0).running = some wChunkAt) ∧
    (List.find? (fun k => k.id == wChunkAt.op) (((wStage 50).advance 5000000).tower 0).ops = some (wOpAt 50)) ∧
    (dOpcode (wOpAt 50).word = 50) ∧
    (wChunkAt.computed = false) ∧
    ((opEnv (wStageV 50) 0 (wOpAt 50)).kvFault (wStageV 50) = false) ∧
    ((evalIndex (wStageV 50) (opEnv (wStageV 50) 0 (wOpAt 50)) wChunkAt).bad = []) := by decide +kernel
theorem witness_StagesSort :
    (0 < ((wStage 56).advance 5000000).towers.length) ∧
    (List.find? (fun k => k.id == 7) (((wStage 56).advance 5000000).tower 0).running = some wChunkAt) ∧
    (List.find? (fun k => k.id == wChunkAt.op) (((wStage 56).advance 5000000).tower 0).ops = some (wOpAt 56)) ∧
    (dOpcode (wOpAt 56).word = 56) ∧
    (wChunkAt.computed = false) ∧
    ((opEnv (wStageV 56) 0 (wOpAt 56)).kvFault (wStageV 56) = false) ∧
    ((evalSort (wStageV 56) (opEnv (wStageV 56) 0 (wOpAt 56)) wChunkAt).bad = []) := by decide +kernel
theorem witness_StagesTopk :
    (0 < ((wStage 57).advance 5000000).towers.length) ∧
    (List.find? (fun k => k.id == 7) (((wStage 57).advance 5000000).tower 0).running = some wChunkAt) ∧
    (List.find? (fun k => k.id == wChunkAt.op) (((wStage 57).advance 5000000).tower 0).ops = some (wOpAt 57)) ∧
    (dOpcode (wOpAt 57).word = 57) ∧
    (wChunkAt.computed = false) ∧
    ((opEnv (wStageV 57) 0 (wOpAt 57)).kvFault (wStageV 57) = false) ∧
    ((evalTopk (wStageV 57) (opEnv (wStageV 57) 0 (wOpAt 57)) wChunkAt).bad = []) := by decide +kernel
theorem witness_StagesFft :
    (0 < ((wStage 64).advance 5000000).towers.length) ∧
    (List.find? (fun k => k.id == 7) (((wStage 64).advance 5000000).tower 0).running = some wChunkAt) ∧
    (List.find? (fun k => k.id == wChunkAt.op) (((wStage 64).advance 5000000).tower 0).ops = some (wOpAt 64)) ∧
    (dOpcode (wOpAt 64).word = 64) ∧
    (wChunkAt.computed = false) ∧
    ((opEnv (wStageV 64) 0 (wOpAt 64)).kvFault (wStageV 64) = false) ∧
    ((evalFft (wStageV 64) (opEnv (wStageV 64) 0 (wOpAt 64)) wChunkAt).bad = []) := by decide +kernel
theorem witness_StagesResample :
    (0 < ((wStage 72).advance 5000000).towers.length) ∧
    (List.find? (fun k => k.id == 7) (((wStage 72).advance 5000000).tower 0).running = some wChunkAt) ∧
    (List.find? (fun k => k.id == wChunkAt.op) (((wStage 72).advance 5000000).tower 0).ops = some (wOpAt 72)) ∧
    (dOpcode (wOpAt 72).word = 72) ∧
    (wChunkAt.computed = false) ∧
    ((opEnv (wStageV 72) 0 (wOpAt 72)).kvFault (wStageV 72) = false) ∧
    ((evalResample (wStageV 72) (opEnv (wStageV 72) 0 (wOpAt 72)) wChunkAt).bad = []) := by decide +kernel
theorem witness_StagesConvert :
    (0 < ((wStage 80).advance 5000000).towers.length) ∧
    (List.find? (fun k => k.id == 7) (((wStage 80).advance 5000000).tower 0).running = some wChunkAt) ∧
    (List.find? (fun k => k.id == wChunkAt.op) (((wStage 80).advance 5000000).tower 0).ops = some (wOpAt 80)) ∧
    (dOpcode (wOpAt 80).word = 80) ∧
    (wChunkAt.computed = false) ∧
    ((opEnv (wStageV 80) 0 (wOpAt 80)).kvFault (wStageV 80) = false) ∧
    ((evalConvert (wStageV 80) (opEnv (wStageV 80) 0 (wOpAt 80)) wChunkAt).bad = []) := by decide +kernel
theorem witness_StagesReduceTo :
    (0 < ((wStage 96).advance 5000000).towers.length) ∧
    (List.find? (fun k => k.id == 7) (((wStage 96).advance 5000000).tower 0).running = some wChunkAt) ∧
    (List.find? (fun k => k.id == wChunkAt.op) (((wStage 96).advance 5000000).tower 0).ops = some (wOpAt 96)) ∧
    (dOpcode (wOpAt 96).word = 96) ∧
    (wChunkAt.computed = false) ∧
    ((opEnv (wStageV 96) 0 (wOpAt 96)).kvFault (wStageV 96) = false) ∧
    ((evalCopy (wStageV 96) (opEnv (wStageV 96) 0 (wOpAt 96)) wChunkAt).bad = []) := by decide +kernel
theorem witness_StagesMulticast :
    (0 < ((wStage 97).advance 5000000).towers.length) ∧
    (List.find? (fun k => k.id == 7) (((wStage 97).advance 5000000).tower 0).running = some wChunkAt) ∧
    (List.find? (fun k => k.id == wChunkAt.op) (((wStage 97).advance 5000000).tower 0).ops = some (wOpAt 97)) ∧
    (dOpcode (wOpAt 97).word = 97) ∧
    (wChunkAt.computed = false) ∧
    ((opEnv (wStageV 97) 0 (wOpAt 97)).kvFault (wStageV 97) = false) ∧
    ((evalCopy (wStageV 97) (opEnv (wStageV 97) 0 (wOpAt 97)) wChunkAt).bad = []) := by decide +kernel
theorem witness_StagesAllreduce :
    (0 < ((wStage 98).advance 5000000).towers.length) ∧
    (List.find? (fun k => k.id == 7) (((wStage 98).advance 5000000).tower 0).running = some wChunkAt) ∧
    (List.find? (fun k => k.id == wChunkAt.op) (((wStage 98).advance 5000000).tower 0).ops = some (wOpAt 98)) ∧
    (dOpcode (wOpAt 98).word = 98) ∧
    (wChunkAt.computed = false) ∧
    ((opEnv (wStageV 98) 0 (wOpAt 98)).kvFault (wStageV 98) = false) ∧
    ((evalCopy (wStageV 98) (opEnv (wStageV 98) 0 (wOpAt 98)) wChunkAt).bad = []) := by decide +kernel
theorem witness_StagesKvWrite :
    (0 < ((wStage 104).advance 5000000).towers.length) ∧
    (List.find? (fun k => k.id == 7) (((wStage 104).advance 5000000).tower 0).running = some wChunkAt) ∧
    (List.find? (fun k => k.id == wChunkAt.op) (((wStage 104).advance 5000000).tower 0).ops = some (wOpAt 104)) ∧
    (dOpcode (wOpAt 104).word = 104) ∧
    (wChunkAt.computed = false) ∧
    ((opEnv (wStageV 104) 0 (wOpAt 104)).kvFault (wStageV 104) = false) ∧
    ((evalKv (wStageV 104) (opEnv (wStageV 104) 0 (wOpAt 104)) wChunkAt).bad = []) := by decide +kernel
theorem witness_StagesKvRead :
    (0 < ((wStage 105).advance 5000000).towers.length) ∧
    (List.find? (fun k => k.id == 7) (((wStage 105).advance 5000000).tower 0).running = some wChunkAt) ∧
    (List.find? (fun k => k.id == wChunkAt.op) (((wStage 105).advance 5000000).tower 0).ops = some (wOpAt 105)) ∧
    (dOpcode (wOpAt 105).word = 105) ∧
    (wChunkAt.computed = false) ∧
    ((opEnv (wStageV 105) 0 (wOpAt 105)).kvFault (wStageV 105) = false) ∧
    ((evalKv (wStageV 105) (opEnv (wStageV 105) 0 (wOpAt 105)) wChunkAt).bad = []) := by decide +kernel
theorem witness_StagesBackingCopy :
    (0 < ((wStage 112).advance 5000000).towers.length) ∧
    (List.find? (fun k => k.id == 7) (((wStage 112).advance 5000000).tower 0).running = some wChunkAt) ∧
    (List.find? (fun k => k.id == wChunkAt.op) (((wStage 112).advance 5000000).tower 0).ops = some (wOpAt 112)) ∧
    (dOpcode (wOpAt 112).word = 112) ∧
    (wChunkAt.computed = false) ∧
    ((opEnv (wStageV 112) 0 (wOpAt 112)).kvFault (wStageV 112) = false) ∧
    ((evalCopy (wStageV 112) (opEnv (wStageV 112) 0 (wOpAt 112)) wChunkAt).bad = []) := by decide +kernel
theorem witness_StagesDeliver :
    (0 < ((wStage 120).advance 5000000).towers.length) ∧
    (List.find? (fun k => k.id == 7) (((wStage 120).advance 5000000).tower 0).running = some wChunkAt) ∧
    (List.find? (fun k => k.id == wChunkAt.op) (((wStage 120).advance 5000000).tower 0).ops = some (wOpAt 120)) ∧
    (dOpcode (wOpAt 120).word = 120) ∧
    (wChunkAt.computed = false) ∧
    ((opEnv (wStageV 120) 0 (wOpAt 120)).kvFault (wStageV 120) = false) ∧
    ((evalDeliver (wStageV 120) (opEnv (wStageV 120) 0 (wOpAt 120)) wChunkAt).bad = []) := by decide +kernel


/-! ### Obligations.OpticalChunkLoadsAndStreams -/

def wOptical (k : ChunkKind) : Chunk := { wChunkAt with kind := k }
def wOptOp : Nat := 0x58 + 2 ^ 896
def wLoad (k : ChunkKind) : State := (wStage wOptOp).mapTower 0 (fun x => { x with running := [wOptical k] })
def wLoadV (k : ChunkKind) : State := ((wLoad k).advance 5000000).mapBase (fun b => { b with activeB := ((wLoad k).advance 5000000).chunkBank 0 7 })
theorem witness_OpticalLoad :
    (0 < ((wLoad ChunkKind.load).advance 5000000).towers.length) ∧
    (0 < ((wLoad ChunkKind.load).advance 5000000).base.bankSets.length) ∧
    (List.find? (fun k => k.id == 7) (((wLoad ChunkKind.load).advance 5000000).tower 0).running = some (wOptical ChunkKind.load)) ∧
    (List.find? (fun k => k.id == (wOptical ChunkKind.load).op) (((wLoad ChunkKind.load).advance 5000000).tower 0).ops = some (wOpAt wOptOp)) ∧
    (dOpcode (wOpAt wOptOp).word = 88) ∧
    ((wOptical ChunkKind.load).computed = false) ∧
    ((opEnv (wLoadV ChunkKind.load) 0 (wOpAt wOptOp)).kvFault (wLoadV ChunkKind.load) = false) ∧
    ((((wLoad ChunkKind.load).advance 5000000).bankSet 0).usable ((opEnv (wLoadV ChunkKind.load) 0 (wOpAt wOptOp)).param 907 896) ≠ []) ∧
    (∀ (b : Nat), b ∈ chunkBanks (((wLoad ChunkKind.load).advance 5000000).bankSet 0) (opEnv (wLoadV ChunkKind.load) 0 (wOpAt wOptOp)) (wOptical ChunkKind.load) → ¬b ∈ []) ∧
    ((wOptical ChunkKind.load).kind = ChunkKind.load) := by decide +kernel
theorem witness_OpticalStream :
    (0 < ((wLoad ChunkKind.stream).advance 5000000).towers.length) ∧
    (0 < ((wLoad ChunkKind.stream).advance 5000000).base.bankSets.length) ∧
    (List.find? (fun k => k.id == 7) (((wLoad ChunkKind.stream).advance 5000000).tower 0).running = some (wOptical ChunkKind.stream)) ∧
    (List.find? (fun k => k.id == (wOptical ChunkKind.stream).op) (((wLoad ChunkKind.stream).advance 5000000).tower 0).ops = some (wOpAt wOptOp)) ∧
    (dOpcode (wOpAt wOptOp).word = 88) ∧
    ((wOptical ChunkKind.stream).computed = false) ∧
    ((opEnv (wLoadV ChunkKind.stream) 0 (wOpAt wOptOp)).kvFault (wLoadV ChunkKind.stream) = false) ∧
    ((((wLoad ChunkKind.stream).advance 5000000).bankSet 0).usable ((opEnv (wLoadV ChunkKind.stream) 0 (wOpAt wOptOp)).param 907 896) ≠ []) ∧
    (∀ (b : Nat), b ∈ chunkBanks (((wLoad ChunkKind.stream).advance 5000000).bankSet 0) (opEnv (wLoadV ChunkKind.stream) 0 (wOpAt wOptOp)) (wOptical ChunkKind.stream) → ¬b ∈ []) ∧
    ((wOptical ChunkKind.stream).kind = ChunkKind.stream) ∧
    ((evalOptical (wLoadV ChunkKind.stream) (opEnv (wLoadV ChunkKind.stream) 0 (wOpAt wOptOp)) (wOptical ChunkKind.stream)).bad = []) := by decide +kernel
theorem witness_OpticalRetrim :
    (0 < ((wLoad ChunkKind.stream).advance 5000000).towers.length) ∧
    (0 < ((wLoad ChunkKind.stream).advance 5000000).base.bankSets.length) ∧
    (List.find? (fun k => k.id == 7) (((wLoad ChunkKind.stream).advance 5000000).tower 0).running = some (wOptical ChunkKind.stream)) ∧
    (List.find? (fun k => k.id == (wOptical ChunkKind.stream).op) (((wLoad ChunkKind.stream).advance 5000000).tower 0).ops = some (wOpAt wOptOp)) ∧
    (dOpcode (wOpAt wOptOp).word = 88) ∧
    ((wOptical ChunkKind.stream).computed = false) ∧
    ((opEnv (wLoadV ChunkKind.stream) 0 (wOpAt wOptOp)).kvFault (wLoadV ChunkKind.stream) = false) ∧
    ((((wLoad ChunkKind.stream).advance 5000000).bankSet 0).usable ((opEnv (wLoadV ChunkKind.stream) 0 (wOpAt wOptOp)).param 907 896) ≠ []) ∧
    (0 ∈ chunkBanks (((wLoad ChunkKind.stream).advance 5000000).bankSet 0) (opEnv (wLoadV ChunkKind.stream) 0 (wOpAt wOptOp)) (wOptical ChunkKind.stream)) ∧
    ([0] = [0]) ∧
    ((wOptical ChunkKind.stream).kind = ChunkKind.stream) ∧
    ((((wLoad ChunkKind.stream).advance 5000000).bankSet 0).banks[0]? = some Bank.fresh) ∧
    (Bank.fresh.retrims < 3) := by decide +kernel

/-! ### Obligations.ErroredChunksRunAgain -/

def wBad : Chunk := { wChunk 7 .normal with badWords := [3] }
def wBadWord : State := wT 0 (fun x => { wRunF 0x20 x with running := [wBad] })
theorem witness_WordRefetch :
    (0 < ((wRun 32).advance 5000000).towers.length) ∧
    (List.find? (fun k => k.id == 7) (((wRun 32).advance 5000000).tower 0).running = some (wChunk 7 ChunkKind.normal)) ∧
    (¬3 ∈ (wChunk 7 ChunkKind.normal).badWords) := by decide +kernel
theorem witness_WordTwice :
    (0 < (wBadWord.advance 5000000).towers.length) ∧
    (List.find? (fun k => k.id == 7) ((wBadWord.advance 5000000).tower 0).running = some wBad) ∧
    (3 ∈ wBad.badWords) ∧
    ((wBadWord.advance 5000000).tileFaultNow 0 wBad = false) ∧
    (∀ (r : ActRec), r ∈ ((wBadWord.advance 5000000).tower 0).records → r.withdrawn = false) := by decide +kernel
def wPoisonAt : PoisonIn := { chunk := 7, words := [] }
theorem witness_PoisonRerun :
    (0 < ((wRun 32).advance 5000000).towers.length) ∧
    (List.find? (fun k => k.id == wPoisonAt.chunk) (((wRun 32).advance 5000000).tower 0).running = some (wChunk 7 ChunkKind.normal)) ∧
    ((wChunk 7 ChunkKind.normal).attempts < 3) := by decide +kernel
def wThird : Chunk := { wChunk 7 .normal with attempts := 3 }
def wPoison3 : State := wT 0 (fun x => { wRunF 0x20 x with running := [wThird] })
theorem witness_PoisonFourth :
    (0 < (wPoison3.advance 5000000).towers.length) ∧
    (List.find? (fun k => k.id == wPoisonAt.chunk) ((wPoison3.advance 5000000).tower 0).running = some wThird) ∧
    (3 ≤ wThird.attempts) ∧
    (∀ (r : ActRec), r ∈ ((wPoison3.advance 5000000).tower 0).records → r.withdrawn = false) ∧
    (∀ (k : Chunk), k ∈ ((wPoison3.advance 5000000).tower 0).running → k.op = wThird.op → k.id = wPoisonAt.chunk) := by decide +kernel
theorem witness_IntegerReduction : groupSize 0x0B 0x0B = 0 := by decide
/-- A word all of whose bytes one commit writes, and a commit that writes none of it. -/
def wWhole : List (Nat × Byte) := (List.range 32).map (fun i => (i, 1))
def wPoisoned : State := w0.mapMem (fun m => { m with poison := [0] })
theorem witness_WholeWord : 0 ∈ wPoisoned.mem.poison ∧ 0 / 2 ^ 40 < 32 ∧ ∀ i, i < 32 → ∃ b, (0 + i, b) ∈ wWhole := by
  refine ⟨by decide +kernel, by decide, ?_⟩
  intro i hi
  exact ⟨1, List.mem_map.mpr ⟨i, List.mem_range.mpr hi, by simp⟩⟩
theorem witness_OtherWord : 0 ∈ wPoisoned.mem.poison ∧ 0 / 2 ^ 40 < 32 ∧ ∀ i, i < 32 → ∀ b, (0 + i, b) ∉ ([] : List (Nat × Byte)) :=
  ⟨by decide +kernel, by decide, by simp⟩

end Operators

namespace Lanes

/-- A LOOP of one word. -/
def wLoop : LaneOp := { pred := 0, pneg := false, vd := 0, va := 0, vb := 0, vc := 0, rnd := 0, sat := false, mode := 0, imm := 0x010004 }
theorem witness_LaneLoop : loopBody wLoop = 1 ∧ loopCount wLoop = 5 := by decide

end Lanes

namespace Networks


/-! ### Obligations.BulkReadsAndWrites -/

/-- EID 0x20 reaches memory of tower 0, 0x21 site 1, and 0x22 sites 2 and 3. -/
def wNet : State :=
  { w0 with
    base := { w0.base with bankA := [(0x20, 1), (0x21, 5), (0x22, 0xC02)] }
    mem := { w0.mem with windows := [{ eid := 0x20, space := 1, base := 0, len := 1, frames := 0, park := false, tower := 0 }] } }
def wNetPoison : State := wNet.mapMem (fun m => { m with poison := [0] })
def wPkt (type src dst : Nat) : Packet :=
  mkPacket false { type, src, dst, addr := mkAddr 1 0x20 0, tag := 1, ccount := 1, redid := 9, slot := some 0 } (List.replicate 64 5)
def wVia (s : State) (p : Packet) : State := s.forPacket 5000000 p
def wNetValid : State := wNet.mapMem (fun m => { m with valid := markValid m.valid 0 64 })
theorem witness_ReadReaches :
    (Crosses (wVia wNet (wPkt 1 33 32)) none (wPkt 1 33 32)) ∧
    (ReachesMemory (wVia wNet (wPkt 1 33 32)) (wPkt 1 33 32) 0) ∧
    ((wNet.landed 5000000 none (wPkt 1 33 32)).mem.poisoned 0 (64 * (wPkt 1 33 32).len) = false) := by decide +kernel
theorem witness_ReadFinds :
    (Crosses (wVia wNetPoison (wPkt 1 33 32)) none (wPkt 1 33 32)) ∧
    (ReachesMemory (wVia wNetPoison (wPkt 1 33 32)) (wPkt 1 33 32) 0) := by decide +kernel
theorem witness_ReadUncorrectable :
    (Crosses (wVia wNetValid (wPkt 1 33 32)) none (wPkt 1 33 32)) ∧
    (ReachesMemory (wVia wNetValid (wPkt 1 33 32)) (wPkt 1 33 32) 0) ∧
    (5 < 64 * (wPkt 1 33 32).len) ∧
    (3 ≤ 3) ∧
    ((wNetValid.landed 5000000 none (wPkt 1 33 32)).mem.isValid (0 + 5) = true) := by decide +kernel
theorem witness_WriteReaches :
    (Crosses (wVia wNet (wPkt 3 33 32)) none (wPkt 3 33 32)) ∧
    (ReachesMemory (wVia wNet (wPkt 3 33 32)) (wPkt 3 33 32) 0) := by decide +kernel
theorem witness_WriteFinds :
    (Crosses (wVia wNet (wPkt 3 33 32)) none (wPkt 3 33 32)) ∧
    (ReachesMemory (wVia wNet (wPkt 3 33 32)) (wPkt 3 33 32) 0) := by decide +kernel
theorem witness_ResponseReaches :
    (Crosses (wVia wNet (wPkt 2 32 33)) none (wPkt 2 32 33)) ∧
    ((wVia wNet (wPkt 2 32 33)).eidSite (wPkt 2 32 33).dst = some 1) ∧
    ((wVia wNet (wPkt 2 32 33)).siteFenced 1 = false) := by decide +kernel
def wNetFenced : State := wNet.mapTower 1 (fun x => { x with fence := true })
theorem witness_FencedSite :
    (Crosses (wVia wNetFenced (wPkt 3 32 33)) none (wPkt 3 32 33)) ∧
    (∀ (k : Nat), k ∈ (wVia wNetFenced (wPkt 3 32 33)).eidSite (wPkt 3 32 33).dst → (wVia wNetFenced (wPkt 3 32 33)).siteFenced k = true ∧ (wPkt 3 32 33).mgmt k = false) := by decide +kernel
theorem witness_UnusedEid :
    (Crosses (wVia wNet (wPkt 3 33 48)) none (wPkt 3 33 48)) ∧
    (∀ (k : Nat), k ∈ (wVia wNet (wPkt 3 33 48)).eidSite (wPkt 3 33 48).dst → (wVia wNet (wPkt 3 33 48)).siteFenced k = true ∧ (wPkt 3 33 48).mgmt k = false) := by decide +kernel

/-! ### Obligations.AcknowledgementsReductionsAndCopies -/

/-- Tower 1 with an operator of id 1 that still awaits two acknowledgements, and reductions. -/
def wAckOp : OpInst := { wOp 1 0x61 with unacked := 2, chunks := 0 }
def wAck : State := wNet.mapTower 1 (fun x => { x with mode := .active, records := [wRec 0], ops := [wAckOp] })
theorem witness_WriteAck :
    (Crosses (wVia wAck (wPkt 4 32 33)) none (wPkt 4 32 33)) ∧
    ((wVia wAck (wPkt 4 32 33)).eidSite (wPkt 4 32 33).dst = some 1) ∧
    (1 < (wAck.landed 5000000 none (wPkt 4 32 33)).towers.length) ∧
    ((wPkt 4 32 33).tag < 32768) ∧
    (((wAck.landed 5000000 none (wPkt 4 32 33)).tower 1).tagged (wPkt 4 32 33).tag = some wAckOp) ∧
    (1 < wAckOp.unacked) ∧
    (∀ (r : ActRec), ((wAck.landed 5000000 none (wPkt 4 32 33)).tower 1).record? wAckOp.slot = some r → r.withdrawn = false) := by decide +kernel
theorem witness_FencedAck :
    (Crosses (wVia wAck (wPkt 8 32 33)) none (wPkt 8 32 33)) ∧
    ((wVia wAck (wPkt 8 32 33)).eidSite (wPkt 8 32 33).dst = some 1) ∧
    (1 < (wAck.landed 5000000 none (wPkt 8 32 33)).towers.length) ∧
    ((wPkt 8 32 33).tag < 32768) ∧
    (((wAck.landed 5000000 none (wPkt 8 32 33)).tower 1).tagged (wPkt 8 32 33).tag = some wAckOp) ∧
    (1 < wAckOp.unacked) ∧
    (∀ (r : ActRec), ((wAck.landed 5000000 none (wPkt 8 32 33)).tower 1).record? wAckOp.slot = some r → r.withdrawn = false) ∧
    ((wVia wAck (wPkt 8 32 33)).readRefused 1 wAckOp (wPkt 8 32 33).addr = false) := by decide +kernel
def wRedn : Reduction :=
  { redid := 9, slot := 0, granules := 2, rfmt := 0, rop := 0, expected := 2, entries := [], no := 0, written := 0, sources := [0], group := 0, copies := 0, bank := false, ended := false }
def wEntry : Nat × List Byte := (0, [])
def wReduce : State := wNet.mapTower 1 (fun x => { x with reductions := [wRedn] })
theorem witness_FirstContribution :
    (Crosses (wVia wReduce (wPkt 5 32 33)) none (wPkt 5 32 33)) ∧
    ((wVia wReduce (wPkt 5 32 33)).eidSite (wPkt 5 32 33).dst = some 1) ∧
    (1 < 16) ∧
    (1 < (wReduce.landed 5000000 none (wPkt 5 32 33)).towers.length) ∧
    ((wVia wReduce (wPkt 5 32 33)).siteFenced 1 = false) ∧
    (packetSpace (wPkt 5 32 33).addr = true) ∧
    ((((wVia wReduce (wPkt 5 32 33)).eidSites wRedn.group).any fun g => (wVia wReduce (wPkt 5 32 33)).siteFenced g) = false) ∧
    (((wReduce.landed 5000000 none (wPkt 5 32 33)).tower 1).reduction? (wPkt 5 32 33).redid (wPkt 5 32 33).slot = some wRedn) ∧
    (wEntry = kvGet wRedn.entries (wPkt 5 32 33).addr (0, [])) ∧
    (wEntry.fst + (wPkt 5 32 33).ccount < wRedn.expected) := by decide +kernel
def wBusyRedn : State := wNet.mapTower 1 (fun x => { x with reductions := List.replicate 64 { wRedn with slot := 3, redid := 8 } })
theorem witness_ReducerBusy :
    (Crosses (wVia wBusyRedn (wPkt 5 32 33)) none (wPkt 5 32 33)) ∧
    ((wVia wBusyRedn (wPkt 5 32 33)).eidSite (wPkt 5 32 33).dst = some 1) ∧
    (1 < 16) ∧
    ((wVia wBusyRedn (wPkt 5 32 33)).siteFenced 1 = false) ∧
    (packetSpace (wPkt 5 32 33).addr = true) ∧
    (((wBusyRedn.landed 5000000 none (wPkt 5 32 33)).tower 1).reduction? (wPkt 5 32 33).redid (wPkt 5 32 33).slot = none) ∧
    ((wVia wBusyRedn (wPkt 5 32 33)).reducerRoom 1 (wPkt 5 32 33).slot ≤ ((wBusyRedn.landed 5000000 none (wPkt 5 32 33)).tower 1).openReductions.length) := by decide +kernel
theorem witness_MemberCopy :
    (Crosses (wVia wNet (wPkt 6 33 34)) (some 0) (wPkt 6 33 34)) ∧
    ((wVia wNet (wPkt 6 33 34)).eidSite (wPkt 6 33 34).src ≠ some 0) ∧
    ((wVia wNet (wPkt 6 33 34)).siteFenced 0 = false) ∧
    (packetSpace (wPkt 6 33 34).addr = true) ∧
    (∀ (w : Window), w ∈ (wVia wNet (wPkt 6 33 34)).memberWindow? 0 (wPkt 6 33 34).addr → w.park = false ∧ w.kvRefuses (wPkt 6 33 34) = false) ∧
    ((wVia wNet (wPkt 6 33 34)).memberLoc 0 (wPkt 6 33 34).addr = Loc.key 0) := by decide +kernel
theorem witness_BranchCopy :
    ((wVia wNet (wPkt 6 33 34)).eidSite (wPkt 6 33 34).src = some 1) ∧
    (1 < (wNet.landed 5000000 (some 1) (wPkt 6 33 34)).towers.length) ∧
    (¬1 ∈ (wVia wNet (wPkt 6 33 34)).eidSites (wPkt 6 33 34).dst) ∧
    (((wNet.landed 5000000 (some 1) (wPkt 6 33 34)).tower 1).mcast.store = []) ∧
    (((wNet.landed 5000000 (some 1) (wPkt 6 33 34)).tower 1).mcast.wait = []) ∧
    (((wNet.landed 5000000 (some 1) (wPkt 6 33 34)).tower 1).mcast.queues = []) := by decide +kernel
def wOwn : State := { wNet with base := { wNet.base with bankA := [(0x20, 1), (0x21, 5), (0x22, 0x502)] } }
theorem witness_DieCopy :
    ((wVia wOwn (wPkt 6 32 34)).eidSite (wPkt 6 32 34).src = some 0) ∧
    (0 < (wOwn.landed 5000000 (some 0) (wPkt 6 32 34)).towers.length) ∧
    (0 ∈ (wVia wOwn (wPkt 6 32 34)).eidSites (wPkt 6 32 34).dst) ∧
    (((wOwn.landed 5000000 (some 0) (wPkt 6 32 34)).tower 0).dieMcast.store = []) ∧
    (((wOwn.landed 5000000 (some 0) (wPkt 6 32 34)).tower 0).dieMcast.wait = []) ∧
    (((wOwn.landed 5000000 (some 0) (wPkt 6 32 34)).tower 0).dieMcast.queues = []) := by decide +kernel
def wBranch : State := wNet.mapTower 1 (fun x => { x with mcast := { x.mcast with queues := [(2, [wPkt 6 0x21 0x22])] } })
theorem witness_BranchSend :
    (1 < (wBranch.advance 5000000).towers.length) ∧
    (2 ≠ 1) ∧
    (2 ≠ branchOn) ∧
    (kvGet ((wBranch.advance 5000000).tower 1).mcast.queues 2 [] = [wPkt 6 33 34]) ∧
    (((wBranch.advance 5000000).tower 1).mcast.store = []) ∧
    (((wBranch.advance 5000000).tower 1).mcast.wait = []) ∧
    ((wBranch.advance 5000000).siteFenced 1 = false) := by decide +kernel
def wDieOn : State := wOwn.mapTower 0 (fun x => { x with dieMcast := { x.dieMcast with queues := [(0, [wPkt 6 0x20 0x22]), (0x1F, [wPkt 6 0x20 0x22])] } })
theorem witness_DieOn :
    (0 < (wDieOn.advance 5000000).towers.length) ∧
    (kvGet ((wDieOn.advance 5000000).tower 0).dieMcast.queues branchOn [] = [wPkt 6 32 34]) ∧
    (((wDieOn.advance 5000000).tower 0).dieMcast.store = []) ∧
    (((wDieOn.advance 5000000).tower 0).dieMcast.wait = []) ∧
    (((wDieOn.advance 5000000).tower 0).mcast.store = []) ∧
    (((wDieOn.advance 5000000).tower 0).mcast.wait = []) ∧
    (((wDieOn.advance 5000000).tower 0).mcast.queues = []) := by decide +kernel
theorem witness_DieOwn :
    (0 < (wDieOn.advance 5000000).towers.length) ∧
    (0 ≠ branchOn) ∧
    (kvGet ((wDieOn.advance 5000000).tower 0).dieMcast.queues 0 [] = [wPkt 6 32 34]) ∧
    (((wDieOn.advance 5000000).tower 0).dieMcast.store = []) ∧
    (((wDieOn.advance 5000000).tower 0).dieMcast.wait = []) ∧
    (packetSpace (wPkt 6 32 34).addr = true) ∧
    (∀ (w : Window), w ∈ (wVia wDieOn (wPkt 6 32 34)).memberWindow? 0 (wPkt 6 32 34).addr → w.park = false ∧ w.kvRefuses (wPkt 6 32 34) = false) ∧
    ((wVia wDieOn (wPkt 6 32 34)).memberLoc 0 (wPkt 6 32 34).addr = Loc.key 0) := by decide +kernel

/-! ### Obligations.ControlPacketsAndTreeComplete -/

def wCtl (type : Nat) : CtlPacket := { hdr := BitVec.ofNat 64 type, arg := 0 }
theorem witness_CtlIssue :
    (w0.ctlOf 3 2 (wCtl 2) = true) := by decide +kernel
theorem witness_CtlPoison :
    (w0.ctlOf 3 5 (wCtl 5) = true) := by decide +kernel
theorem witness_CtlFence :
    (w0.ctlOf 3 4 (wCtl 4) = true) := by decide +kernel
def wCtlLog : State := w0.mapLog (fun l => { l with mask := 4 })
theorem witness_CtlEvent :
    (wCtlLog.ctlOf 3 9 (wCtl 9) = true) ∧
    ((wCtlLog.advance 5000000).log.mask.getLsbD 2 = true) ∧
    ((wCtlLog.advance 5000000).log.minSev ≤ 2) := by decide +kernel
def wArrOp : OpInst := { wOp 1 0x20 with chunks := 4 }
def wArr : State := wT 3 (fun x => { x with ops := [wArrOp] })
def wArrMsg : BitVec 64 := BitVec.ofNat 64 (1 + 2 * 2 ^ 32 + 5 * 2 ^ 48)
def wTree : State := wT 3 (fun x => { x with ops := [wArrOp], tree := [arrivalMsg 0 0 5, arrivalMsg 0 0 5, arrivalMsg 1 0 5] })
theorem witness_TreeArrival :
    (3 < 16) ∧
    (3 < (wTree.advance 5000000).towers.length) ∧
    (field wArrMsg.toNat 1 0 = 1) ∧
    (2 = field wArrMsg.toNat 47 32) ∧
    (1 ≤ 2) ∧
    (takeMatching (sameArrival wArrMsg) 2 [arrivalMsg 0 0 5, arrivalMsg 0 0 5, arrivalMsg 1 0 5] = takeMatching (sameArrival wArrMsg) 2 ((wTree.advance 5000000).tower 3).tree) ∧
    ((takeMatching (sameArrival wArrMsg) 2 [arrivalMsg 0 0 5, arrivalMsg 0 0 5, arrivalMsg 1 0 5]).fst.length = 2) ∧
    (List.find? (fun o => o.slot == field wArrMsg.toNat 15 8 && o.desc == field wArrMsg.toNat 31 16) ((wTree.advance 5000000).tower 3).ops = some wArrOp) ∧
    (List.find? (fun k => k.id == wArrOp.id) ((wTree.advance 5000000).tower 3).ops = some wArrOp) ∧
    (∀ (r : ActRec), r ∈ ((wTree.advance 5000000).tower 3).records → r.withdrawn = false) ∧
    (wArrOp.tree + 2 < wArrOp.chunks) ∧
    (wArrOp.cut = true) := by decide +kernel
def wArrOne : BitVec 64 := arrivalMsg 0 0 5
def wArrPkt : CtlPacket := { hdr := BitVec.ofNat 64 (0xA + 16), arg := wArrOne }
def wTree16 : State := wT 16 (fun x => { x with ops := [wArrOp], tree := [arrivalMsg 0 0 5, arrivalMsg 1 0 5] })
theorem witness_ControlArrival :
    (16 ≤ 16) ∧
    (16 < (wTree16.advance 5000000).towers.length) ∧
    ((wTree16.advance 5000000).ctlOf 16 10 wArrPkt = true) ∧
    (wArrOne = wArrPkt.arg) ∧
    (1 = 1) ∧
    (field wArrOne.toNat 1 0 = 1) ∧
    (1 = field wArrOne.toNat 47 32) ∧
    (takeMatching (sameArrival wArrOne) 1 [arrivalMsg 0 0 5, arrivalMsg 1 0 5] = takeMatching (sameArrival wArrOne) 1 ((wTree16.advance 5000000).tower 16).tree) ∧
    ((takeMatching (sameArrival wArrOne) 1 [arrivalMsg 0 0 5, arrivalMsg 1 0 5]).fst.length = 1) ∧
    (List.find? (fun o => o.slot == field wArrOne.toNat 15 8 && o.desc == field wArrOne.toNat 31 16) ((wTree16.advance 5000000).tower 16).ops = some wArrOp) ∧
    (List.find? (fun k => k.id == wArrOp.id) ((wTree16.advance 5000000).tower 16).ops = some wArrOp) ∧
    (∀ (r : ActRec), r ∈ ((wTree16.advance 5000000).tower 16).records → r.withdrawn = false) ∧
    (wArrOp.tree + 1 < wArrOp.chunks) ∧
    (wArrOp.cut = true) := by decide +kernel
theorem witness_BarrierArrival :
    (3 < 16) ∧
    (3 < (w0.advance 5000000).towers.length) ∧
    (((w0.advance 5000000).tower 3).barrier.fst = 0) ∧
    (2 < ((w0.advance 5000000).tower 3).regions.length) ∧
    (∀ (g : Region), ((w0.advance 5000000).tower 3).regions[2]? = some g → g.st ≠ RegionState.lost) ∧
    (2 ≠ 1) ∧
    (¬2 ∈ ((w0.advance 5000000).tower 3).barrier.snd) := by decide +kernel
theorem witness_LinkRetry :
    (3 < (w0.advance 5000000).towers.length) ∧
    (¬260 ∈ ((w0.advance 5000000).tower 3).linksOut) ∧
    (linkExists ((w0.advance 5000000).tower 3).isCache 260 = true) := by decide +kernel
def wLinkBad : State := wT 3 (fun x => { x with linkFails := [(260, 3)] })
theorem witness_LinkOut :
    (3 < (wLinkBad.advance 5000000).towers.length) ∧
    (256 ≤ 260) ∧
    (¬260 ∈ ((wLinkBad.advance 5000000).tower 3).linksOut) ∧
    (linkExists ((wLinkBad.advance 5000000).tower 3).isCache 260 = true) ∧
    (kvGet ((wLinkBad.advance 5000000).tower 3).linkFails 260 0 = 3) := by decide +kernel

/-! ### Obligations.BarrierCompletesWithLastRegion -/

def wBarrier : State := wT 3 (fun x => { x with barrier := (4, List.range 15) })
theorem witness_BarrierLast :
    (3 < 16) ∧
    (3 < (wBarrier.advance 5000000).towers.length) ∧
    (((wBarrier.advance 5000000).tower 3).barrier.fst = 4) ∧
    (∀ (q : Nat), q < ((wBarrier.advance 5000000).tower 3).regions.length → q = 15 ∨ q ∈ ((wBarrier.advance 5000000).tower 3).barrier.snd ∨ ∀ (g : Region), g ∈ ((wBarrier.advance 5000000).tower 3).regions[q]? → g.st = RegionState.lost) := by decide +kernel

/-! ### Obligations.SyncCommandsComplete -/

def wMsg (type index : Nat) : BitVec 128 := syncMsg type 2 3 index 0 5 0
def wSync : State := wT 3 (fun x => { x with mode := .active })
theorem witness_SyncSignal :
    (3 = msgDst (wMsg 1 40)) ∧
    (3 < 16) ∧
    (3 < (wSync.advance 5000000).towers.length) ∧
    ((wSync.advance 5000000).siteFenced 3 = false) ∧
    (msgSrc (wMsg 1 40) < 21) ∧
    ((((wSync.advance 5000000).tower 3).syncObj (msgIndex (wMsg 1 40))).tick = some (wSync.advance 5000000).now →
  (((wSync.advance 5000000).tower 3).syncObj (msgIndex (wMsg 1 40))).hostWrote = false ∧ (((wSync.advance 5000000).tower 3).syncObj (msgIndex (wMsg 1 40))).value = min 4294967295 ((((wSync.advance 5000000).tower 3).syncObj (msgIndex (wMsg 1 40))).base + (((wSync.advance 5000000).tower 3).syncObj (msgIndex (wMsg 1 40))).sum)) ∧
    ((wSync.advance 5000000).zeroesNow 3 (msgIndex (wMsg 1 40)) = false) := by decide +kernel
def wAckRec : ActRec := { wRec 0 with unacked := 2 }
def wSyncAck : State := wT 3 (fun x => { x with mode := .active, records := [wAckRec], signalsOut := [(2, 7000, 0)] })
theorem witness_SyncAck :
    (3 = msgDst (wMsg 2 7000)) ∧
    (3 < (wSyncAck.advance 5000000).towers.length) ∧
    (((wSyncAck.advance 5000000).tower 3).awaits (msgSrc (wMsg 2 7000)) (msgIndex (wMsg 2 7000)) = some 0) ∧
    (((wSyncAck.advance 5000000).tower 3).record? 0 = some wAckRec) := by decide +kernel
theorem witness_SyncWatch :
    (3 = msgDst (wMsg 3 40)) ∧
    (3 < 16) ∧
    (3 < (wSync.advance 5000000).towers.length) ∧
    ((wSync.advance 5000000).siteFenced 3 = false) ∧
    (msgSrc (wMsg 3 40) < 21) := by decide +kernel
def wWaits : OpInst := { wOp 1 0x20 with waits := [(2, 40, 5, none)] }
def wNotice : State := wT 3 (fun x => { x with mode := .active, records := [wRec 0], ops := [wWaits] })
theorem witness_SyncNotice :
    (3 = msgDst (wMsg 4 40)) ∧
    (3 < 20) ∧
    (3 < (wNotice.advance 5000000).towers.length) ∧
    (3 ≠ msgSrc (wMsg 4 40)) ∧
    (((wNotice.advance 5000000).tower 3).ops = [wWaits]) ∧
    (wWaits.entered = true) ∧
    (wWaits.waits = [(msgSrc (wMsg 4 40), msgIndex (wMsg 4 40), 5, none)]) ∧
    (5 ≤ msgValue (wMsg 4 40)) := by decide +kernel
theorem witness_SyncDone :
    (3 = msgDst (wMsg 5 40)) ∧
    (3 < 16) ∧
    (3 < (wSync.advance 5000000).towers.length) := by decide +kernel
theorem witness_SyncClosed :
    (3 = msgDst (wMsg 6 40)) ∧
    (3 < 16) ∧
    (3 < (wSync.advance 5000000).towers.length) := by decide +kernel
theorem witness_SyncBusy :
    (3 = msgDst (wMsg 7 40)) ∧
    (3 < (wSync.advance 5000000).towers.length) := by decide +kernel
def wSyncSel : State := w0.mapDict (fun d => { d with pcie := { d.pcie with sels := [(0x410002, 8191)] } })
theorem witness_SyncSet :
    ((wSyncSel.advance 5000000).Serves 16640) ∧
    ((0, 8191) = (wSyncSel.advance 5000000).syncWindow) ∧
    ((0, 8191).fst < (wSyncSel.advance 5000000).towers.length) ∧
    (persistentBase ≤ (0, 8191).snd) ∧
    (4294967295 ≤ 4294967295) := by decide +kernel
theorem witness_SyncHostAdd :
    ((wSyncSel.advance 5000000).Serves 16640) ∧
    ((0, 8191) = (wSyncSel.advance 5000000).syncWindow) ∧
    ((0, 8191).fst < (wSyncSel.advance 5000000).towers.length) ∧
    (persistentBase ≤ (0, 8191).snd) ∧
    (1 ≤ 1) ∧
    (1 ≤ 4294967295) ∧
    ((((wSyncSel.advance 5000000).tower (0, 8191).fst).syncObj (0, 8191).snd).tick = some (wSyncSel.advance 5000000).now →
  (((wSyncSel.advance 5000000).tower (0, 8191).fst).syncObj (0, 8191).snd).hostWrote = false ∧ (((wSyncSel.advance 5000000).tower (0, 8191).fst).syncObj (0, 8191).snd).value = min 4294967295 ((((wSyncSel.advance 5000000).tower (0, 8191).fst).syncObj (0, 8191).snd).base + (((wSyncSel.advance 5000000).tower (0, 8191).fst).syncObj (0, 8191).snd).sum)) := by decide +kernel
/-- R195: on a tie the direction of increasing stop number; R206: the opposite ring where a link is out. -/
theorem test_ring_tie : (rowRing 0).path [] 0 2 = [0, 2] ∧ (rowRing 0).path [2] 0 2 = [7, 5] := by decide
/-- R195: along the row first, then along the column. -/
theorem test_row_then_column : usiloPath [] (.region 1) (.region 4) = [1, 32] := by decide

end Networks

namespace Base


/-! ### Obligations.WavelengthCommandsComplete -/

/-- Pair 1 to 2 (spare plane 3) changed. -/
def wPairOf (f : Pair → Pair) : State := w0.setPair 1 2 (f (Pair.fresh 1 2))
def wStood : State := wPairOf (fun p => { p with planes := [3, 1, 2, 4], spare := 1, standFor := some 0 })
def wBus : State := w0.mapBase (fun b => { b with busOut := [(1, 1)] })
def wPr (s : State) : Pair := (s.advance 5000000).linkPair 1 2
def wLn (s : State) : Line := (s.advance 5000000).line 1 2
def wWord (seq first : Nat) : Codeword := { no := 0, seq, first, resent := 0, units := [] }
def wSent (first : Nat) : Line := { Line.fresh with sent := [(0, [wWord 7 first, wWord 8 first])] }
def wReplay : State := { w0 with lines := [(pairKey 1 2, wSent 4999000)] }
def wOld : State := { w0 with lines := [(pairKey 1 2, wSent 4000000)] }
def wPortReplay : State := w0.mapPort 1 (fun p => { p with st := 2, lanes := 0xFF, line := wSent 4999000 })
def wBlock : SpBlock := { seq := 3, nsite := 0, nseq := 0, msg := 5, buses := 3, sent := 1 }
def wBlocks : State := { w0 with spSites := [(2, { next := 4, blocks := [wBlock], heard := [] })] }
theorem witness_Replay :
    ((wReplay.advance 5000000).pairExists 1 2 = true) ∧
    (wPr wReplay = (wReplay.advance 5000000).linkPair 1 2) ∧
    (wLn wReplay = (wReplay.advance 5000000).line 1 2) ∧
    (0 < 5) ∧
    (¬0 ∈ (wPr wReplay).dead) ∧
    ((wLn wReplay).position 0 8 = some 1) := by decide +kernel
theorem witness_PortReplay :
    ((wPortReplay.advance 5000000).pairExists 1 2 = true) ∧
    (wPr wPortReplay = (wPortReplay.advance 5000000).linkPair 1 2) ∧
    (wLn wPortReplay = (wPortReplay.advance 5000000).line 1 2) ∧
    (0 < 5) ∧
    (1 < 5) ∧
    (1 < (wPortReplay.advance 5000000).ports.length) ∧
    (((wPortReplay.advance 5000000).port 1).up = true) ∧
    (((wPortReplay.advance 5000000).port 1).lanes.getLsbD 0 = true) ∧
    (((wPortReplay.advance 5000000).port 1).line.position 0 8 = some 1) := by decide +kernel
theorem witness_ReplayLimit :
    ((wOld.advance 5000000).pairExists 1 2 = true) ∧
    (wPr wOld = (wOld.advance 5000000).linkPair 1 2) ∧
    (wLn wOld = (wOld.advance 5000000).line 1 2) ∧
    (0 < 5) ∧
    ((wLn wOld).limited 0 (wOld.advance 5000000).now = true) := by decide +kernel
def wCw (seq : Nat) (ok : Bool) : CodewordIn := { plane := 0, header := BitVec.ofNat 20 (2 ^ 18 + seq * 2 ^ 10 + 7 * 2 ^ 2), decodes := ok, corrected := 4 }
theorem witness_Credit :
    ((wReplay.advance 5000000).pairExists 1 2 = true) ∧
    (wPr wReplay = (wReplay.advance 5000000).linkPair 1 2) ∧
    (wLn wReplay = (wReplay.advance 5000000).line 1 2) ∧
    (0 < 5) ∧
    ((wCw 0 true).plane = 0) ∧
    ((wCw 0 true).decodes = true) ∧
    ((wCw 0 true).nack = false) ∧
    ((wLn wReplay).held = []) ∧
    ((wLn wReplay).orphans = []) ∧
    ((((wReplay.advance 5000000).rx 2 1).codeword ((wReplay.advance 5000000).linkPair 2 1).planes (wCw 0 true) []).parsed = ((((wReplay.advance 5000000).rx 2 1).codeword ((wReplay.advance 5000000).linkPair 2 1).planes (wCw 0 true) []).parsed.fst, (((wReplay.advance 5000000).rx 2 1).codeword ((wReplay.advance 5000000).linkPair 2 1).planes (wCw 0 true) []).parsed.snd)) := by decide +kernel
theorem witness_CreditUnits :
    ((wReplay.advance 5000000).pairExists 1 2 = true) ∧
    (wPr wReplay = (wReplay.advance 5000000).linkPair 1 2) ∧
    (wLn wReplay = (wReplay.advance 5000000).line 1 2) ∧
    (0 < 5) ∧
    ((wCw 0 true).plane = 0) ∧
    ((wCw 0 true).decodes = true) ∧
    ((wCw 0 true).nack = false) ∧
    ((wCw 0 true).kind = 1) ∧
    ((wCw 0 true).seq = 0) ∧
    ((wLn wReplay).held = []) ∧
    ((wLn wReplay).orphans = []) ∧
    ((wReplay.advance 5000000).rx 2 1 = LineRx.fresh) ∧
    (((wReplay.advance 5000000).linkPair 2 1).planes.head? = some 0) ∧
    (5 < 4096) ∧
    (3 < 256) := by decide +kernel
theorem witness_BadCodeword :
    ((wReplay.advance 5000000).pairExists 1 2 = true) ∧
    (wPr wReplay = (wReplay.advance 5000000).linkPair 1 2) ∧
    (wLn wReplay = (wReplay.advance 5000000).line 1 2) ∧
    (0 < 5) ∧
    ((wCw 0 false).plane = 0) ∧
    ((wCw 0 false).decodes = false) := by decide +kernel
theorem witness_CreditAck :
    ((wReplay.advance 5000000).pairExists 1 2 = true) ∧
    (wPr wReplay = (wReplay.advance 5000000).linkPair 1 2) ∧
    (wLn wReplay = (wReplay.advance 5000000).line 1 2) ∧
    (0 < 5) ∧
    ((wLn wReplay).position 0 7 = some 0) := by decide +kernel
theorem witness_SpResend :
    ((wBlocks.advance 5000000).pairExists 1 2 = true) ∧
    (wPr wBlocks = (wBlocks.advance 5000000).linkPair 1 2) ∧
    (wLn wBlocks = (wBlocks.advance 5000000).line 1 2) ∧
    (0 < 5) ∧
    (wBlock ∈ (kvGet (wBlocks.advance 5000000).spSites 2 SpSite.fresh).blocks) ∧
    (wBlock.seq = 3) := by decide +kernel
theorem witness_SpBus :
    ((wBus.advance 5000000).pairExists 1 2 = true) ∧
    (wPr wBus = (wBus.advance 5000000).linkPair 1 2) ∧
    (wLn wBus = (wBus.advance 5000000).line 1 2) ∧
    (0 < 5) ∧
    (kvGet (wBus.advance 5000000).base.busOut 1 0 = 1) ∧
    ((wBus.advance 5000000).base.spDegraded.getLsbD 1 = false) := by decide +kernel
theorem witness_StandIn :
    ((w0.advance 5000000).pairExists 1 2 = true) ∧
    (wPr w0 = (w0.advance 5000000).linkPair 1 2) ∧
    (wLn w0 = (w0.advance 5000000).line 1 2) ∧
    (0 < 5) ∧
    (0 ∈ (wPr w0).planes) ∧
    ((wPr w0).spare = 0) ∧
    (0 ≠ sparePlane 1 2) ∧
    ((wPr w0).calibrating = none) ∧
    (2 ≤ (wPr w0).planes.length) ∧
    ((w0.advance 5000000).base.calSuspended = false) ∧
    ((wPr w0).anyOut (sparePlane 1 2) = false) ∧
    ((w0.advance 5000000).ringOut 1 = false) ∧
    ((w0.advance 5000000).pairFaultNow 1 2 = false) ∧
    ((w0.advance 5000000).commitNear 1 (txRing 1 2 0) = false) := by decide +kernel
theorem witness_LockLoss :
    ((wReplay.advance 5000000).pairExists 1 2 = true) ∧
    (wPr wReplay = (wReplay.advance 5000000).linkPair 1 2) ∧
    (wLn wReplay = (wReplay.advance 5000000).line 1 2) ∧
    (0 < 5) ∧
    (0 ∈ (wPr wReplay).planes) ∧
    ((wPr wReplay).spare = 0) ∧
    (0 ≠ sparePlane 1 2) ∧
    ((wPr wReplay).calibrating = none) ∧
    ((wLn wReplay).orphans = []) ∧
    (((wLn wReplay).buffer (sparePlane 1 2)).length + ((wLn wReplay).buffer 0).length ≤ replayDepth) := by decide +kernel
theorem witness_Return :
    ((wStood.advance 5000000).pairExists 1 2 = true) ∧
    (wPr wStood = (wStood.advance 5000000).linkPair 1 2) ∧
    (wLn wStood = (wStood.advance 5000000).line 1 2) ∧
    (0 < 5) ∧
    (¬0 ∈ (wPr wStood).dead) ∧
    (¬0 ∈ (wPr wStood).planes) ∧
    (0 ≠ sparePlane 1 2) ∧
    ((wPr wStood).standFor = some 0) ∧
    (sparePlane 1 2 ∈ (wPr wStood).planes) ∧
    (∀ (o : Nat), o < 5 → o ≠ sparePlane 1 2 → o ≠ 0 → o ∈ (wPr wStood).planes) := by decide +kernel
theorem witness_PermFault :
    ((w0.advance 5000000).pairExists 1 2 = true) ∧
    (wPr w0 = (w0.advance 5000000).linkPair 1 2) ∧
    (wLn w0 = (w0.advance 5000000).line 1 2) ∧
    (4 < 5) ∧
    (¬4 ∈ (wPr w0).dead) ∧
    (4 ∈ (wPr w0).planes) ∧
    ((wPr w0).spare = 0) ∧
    (4 ≠ sparePlane 1 2) ∧
    ((wPr w0).calibrating = none) ∧
    ((w0.advance 5000000).base.commitSt ≠ 1) ∧
    ((w0.advance 5000000).base.commitChecks = []) := by decide +kernel
def wUnitPkt : Packet := mkPacket false { type := 3, src := 0x21, dst := 0x20, addr := mkAddr 1 0x20 0, tag := 1 } (List.replicate 64 5)
theorem witness_Parses :
    ((w0.advance 5000000).pairExists 1 2 = true) ∧
    (wPr w0 = (w0.advance 5000000).linkPair 1 2) ∧
    (wLn w0 = (w0.advance 5000000).line 1 2) ∧
    (0 < 5) ∧
    (1 ≤ wUnitPkt.type) ∧
    (wUnitPkt.type ≤ 8) ∧
    (cdiv wUnitPkt.data.length 64 = wUnitPkt.len) := by decide +kernel
theorem witness_ParsesCredit :
    ((w0.advance 5000000).pairExists 1 2 = true) ∧
    (wPr w0 = (w0.advance 5000000).linkPair 1 2) ∧
    (wLn w0 = (w0.advance 5000000).line 1 2) ∧
    (0 < 5) ∧
    (5 < 4096) ∧
    (3 < 256) := by decide +kernel

/-! ### Obligations.LaserAndPlaneCommandsComplete -/

def wLaser (m st : Nat) : State := w0.mapLaser m (fun l => { l with st, drive := 960 })
theorem witness_FadeA :
    (0 < ((wLaser 0 1).advance 5000000).base.lasers.length) ∧
    ((((wLaser 0 1).advance 5000000).laser 0).st = 1) ∧
    (-51 < -50) := by decide +kernel
theorem witness_FadeB :
    (9 < ((wLaser 9 2).advance 5000000).base.lasers.length) ∧
    (8 ≤ 9) ∧
    ((((wLaser 9 2).advance 5000000).laser 9).st = 2) ∧
    (((wLaser 9 2).advance 5000000).levelB 9 (-151) = true) := by decide +kernel
def wNoSpare : State := (wLaser 5 3).mapBase (fun b => { b with linkSwitchDown := true })
theorem witness_FadeC :
    (5 < (wNoSpare.advance 5000000).base.lasers.length) ∧
    (5 < 8) ∧
    ((wNoSpare.advance 5000000).spareModule 5 = none) ∧
    (((wNoSpare.advance 5000000).laser 5).st = 3) := by decide +kernel
theorem witness_LossOfLight :
    (5 < (w0.advance 5000000).base.lasers.length) ∧
    (5 < 8) ∧
    (((w0.advance 5000000).laser 5).st = 1) ∧
    ((w0.advance 5000000).spareModule 5 = some 6) := by decide +kernel
def wQueue : State := w0.mapBase (fun b => { b with windowQueue := [2] })
theorem witness_PlaneWindow :
    (2 < (wQueue.advance 5000000).base.lasers.length) ∧
    (2 < (wQueue.advance 5000000).base.planeSt.length) ∧
    ((wQueue.advance 5000000).base.linkMap.getD 2 99 = 2) ∧
    ((wQueue.advance 5000000).base.window = none) ∧
    ((wQueue.advance 5000000).base.windowQueue.head? = some 2) ∧
    ((wQueue.advance 5000000).spareModule 2 ≠ none) ∧
    ((wQueue.advance 5000000).calQuiet = true) := by decide +kernel
def wWindow : State := w0.mapBase (fun b => { b with window := some (2, 4000000), calSuspended := true })
theorem witness_PlaneSwitch :
    (2 < (wWindow.advance 5000000).base.lasers.length) ∧
    (2 < 5) ∧
    ((wWindow.advance 5000000).base.linkMap.getD 2 99 = 2) ∧
    (2 < 8) ∧
    ((wWindow.advance 5000000).base.window = some (2, 4000000)) ∧
    ((wWindow.advance 5000000).spareModule 2 = some 6) ∧
    (6 ≠ 2) ∧
    (∀ (x : Nat × Nat), x ∈ (wWindow.advance 5000000).allPairs → ((wWindow.advance 5000000).line x.fst x.snd).buffer 2 = []) := by decide +kernel

/-! ### Obligations.RoutingSwitchCommandsComplete -/

theorem witness_SwitchArm :
    ((w0.advance 5000000).Serves 20736) ∧
    ((w0.advance 5000000).now + 100000 ≤ 5100000) ∧
    ((w0.advance 5000000).base.switchSt = 0) ∧
    ((w0.advance 5000000).routingConflict = false) := by decide +kernel
def wArmed : State := w0.mapBase (fun b => { b with switchSt := 1, switchTick := 5000000 })
theorem witness_Switch :
    ((wArmed.advance 5000000).base.switchSt = 1) ∧
    ((wArmed.advance 5000000).base.switchTick ≤ (wArmed.advance 5000000).now) := by decide +kernel
def wDrain : State := w0.mapBase (fun b => { b with switchSt := 2 })
theorem witness_Drained :
    ((wDrain.advance 5000000).base.switchSt = 2) ∧
    (∀ (k : Nat), k < 23 → (wDrain.advance 5000000).drainCount k = 0) := by decide +kernel
theorem witness_CopyBank :
    ((w0.advance 5000000).Serves 20736) ∧
    ((w0.advance 5000000).base.switchSt ≠ 2) := by decide +kernel

theorem witness_ArmEarly :
    ((w0.advance 5000000).Serves 20736) ∧
    (5099999 < (w0.advance 5000000).now + 100000) := by decide +kernel
theorem witness_ArmTwice :
    ((wArmed.advance 5000000).Serves 20736) ∧
    ((wArmed.advance 5000000).now + 100000 ≤ 5100000) ∧
    ((wArmed.advance 5000000).base.switchSt = 1) := by decide +kernel
theorem witness_ArmDraining :
    ((wDrain.advance 5000000).Serves 20736) ∧
    ((wDrain.advance 5000000).now + 100000 ≤ 5100000) ∧
    ((wDrain.advance 5000000).base.switchSt = 2) := by decide +kernel

end Base

namespace Calibration


/-! ### Obligations.CalibrationStepsComplete -/

def wFeed : State := w0.mapLaser 8 (fun l => { l with st := 3 })
theorem witness_CombSwitch :
    (0 < 8) ∧
    (0 < (wFeed.advance 5000000).base.feedMap.length) ∧
    ((wFeed.advance 5000000).feedModule 0 < (wFeed.advance 5000000).base.lasers.length) ∧
    (((wFeed.advance 5000000).laser ((wFeed.advance 5000000).feedModule 0)).st = 3) ∧
    ((wFeed.advance 5000000).spareModule ((wFeed.advance 5000000).feedModule 0) = some 16) ∧
    (8 ≤ (wFeed.advance 5000000).feedModule 0) ∧
    (((wFeed.advance 5000000).tower (2 * 0)).opticalQueued = false) ∧
    (((wFeed.advance 5000000).tower (2 * 0 + 1)).opticalQueued = false) := by decide +kernel
theorem witness_FeedForward :
    (15 < (w0.advance 5000000).base.feedFwd.length) := by decide +kernel
theorem witness_HeaterRamp :
    ((w0.advance 5000000).base.heaterOff[15]? = some 0) := by decide +kernel
theorem witness_CalStep :
    (3851 / 256 < (w0.advance 5000000).base.bankSets.length) ∧
    (channelExists 3 3851 = true) ∧
    ((w0.advance 5000000).base.calSuspended = false) ∧
    (((w0.advance 5000000).calChannel 3 3851).busy = false) ∧
    ((w0.advance 5000000).commitNear 3 3851 = false) ∧
    ((w0.advance 5000000).stepDue ((w0.advance 5000000).calChannel 3 3851) = true) ∧
    (((w0.advance 5000000).bankSet (3851 / 256)).banks[3851 % 256]? = some Bank.fresh) ∧
    (Bank.fresh.inService = true) ∧
    ((((w0.advance 5000000).bankSet (3851 / 256)).banks.any fun x => x.calibrating) = false) ∧
    ((w0.advance 5000000).bankIdle (3851 / 256) (3851 % 256) = true) := by decide +kernel
def wCalBusy : State := w0.putChannel { kind := 3, index := 0xF0B, active := [], prev := [], shadow := none, busy := true, last := none }
def wResult : List Byte := List.replicate 8480 1
theorem witness_CalStepEnd :
    (3851 / 256 < (wCalBusy.advance 5000000).base.bankSets.length) ∧
    (channelExists 3 3851 = true) ∧
    (wResult.length + 32 = setLength 3) ∧
    ((wCalBusy.advance 5000000).commitDue 3 3851 = false) ∧
    (((wCalBusy.advance 5000000).calChannel 3 3851).busy = true) ∧
    ((wCalBusy.advance 5000000).base.engineTick ≠ some (wCalBusy.advance 5000000).now) ∧
    (((wCalBusy.advance 5000000).bankSet (3851 / 256)).banks[3851 % 256]? = some Bank.fresh) := by decide +kernel

/-! ### Obligations.RestoreAndApplyComplete -/

def wCalSel : State := { w0.mapDict (fun d => { d with pcie := { d.pcie with sels := [(0x840001, 4), (0x840002, 39)] } }) with ident := { w0.ident with bind := 0x1234 } }
def wSet0 : List Byte := [0x34, 0x12, 0, 0, 4, 0, 0, 0, 39, 0, 0, 0] ++ List.replicate 52 0
def wSet : List Byte := wSet0.take 28 ++ ((List.range 4).map (fun k => BitVec.ofNat 8 (setCrc wSet0 / 256 ^ k))) ++ wSet0.drop 32
theorem witness_ShadowWrite :
    ((wCalSel.advance 5000000).Serves 33792) ∧
    ((wCalSel.advance 5000000).calWindow = (4, 39)) ∧
    (wSet.length = setLength 4) ∧
    (leAt wSet 28 4 = setCrc wSet) ∧
    (leAt wSet 0 4 = (wCalSel.advance 5000000).ident.bind) ∧
    (setReserved 4 wSet = false) ∧
    ((wCalSel.advance 5000000).channelAbsent 4 39 = false) ∧
    ((wCalSel.advance 5000000).base.commitSt ≠ 1) ∧
    (leAt wSet 4 1 = 4) ∧
    (leAt wSet 8 4 = 39) := by decide +kernel
def wChan : CalChannel := { kind := 4, index := 39, active := [], prev := [], shadow := some wSet, busy := false, last := none }
def wShadow : State := wCalSel.putChannel wChan
theorem witness_CommitArm :
    ((wShadow.advance 5000000).Serves 33792) ∧
    ((wShadow.advance 5000000).now + 10000 ≤ 5010000) ∧
    ((wShadow.advance 5000000).base.commitSt ≠ 1) ∧
    ((wShadow.advance 5000000).calWindow = (4, 39)) ∧
    (((wShadow.advance 5000000).calChannel 4 39).shadow.isSome = true) := by decide +kernel
def wCommit : State := wShadow.mapBase (fun b => { b with commitSt := 1, commitTick := 5000000, commitKind := 4, commitIndex := 39 })
theorem witness_CoefficientCommit :
    ((wCommit.advance 5000000).commitReady = true) := by decide +kernel
def wCheck : State := wShadow.mapBase (fun b => { b with commitSt := 2, commitChecks := [(4, 39)], commitKind := 4, commitIndex := 39 })
theorem witness_CommitVerified :
    ((wCheck.advance 5000000).base.commitChecks = [(4, 39)]) := by decide +kernel
theorem witness_CommitBad :
    ((wCheck.advance 5000000).base.commitChecks = [(4, 39)]) := by decide +kernel

end Calibration

namespace Memory


/-! ### Obligations.RestoreAndApplyComplete -/

def wHeld (l : List (Nat × Nat)) (s : State) : State := s.mapDict (fun d => { d with held := l })
def wApply : State := wHeld [(0x600101, 0x20), (0x600102, 1), (0x600104, 1)] { w0 with base := { w0.base with bankA := [(0x20, 1)] } }
theorem witness_ApplyWindow :
    ((wApply.advance 5000000).Serves 24577) ∧
    ((wApply.advance 5000000).eidSite ((wApply.advance 5000000).held 6291713 32) = some 0) ∧
    ((wApply.advance 5000000).windowHeld 0 = (wApply.advance 5000000).windowHeld 0) ∧
    (∀ (p : Pkg), p ∈ (wApply.advance 5000000).pkgs → p.uses ((wApply.advance 5000000).windowHeld 0).eid = false) ∧
    (∀ (x : Window), x ∈ (wApply.advance 5000000).mem.windows → ¬(x.eid = ((wApply.advance 5000000).windowHeld 0).eid ∧ x.space = ((wApply.advance 5000000).windowHeld 0).space) → ((wApply.advance 5000000).windowHeld 0).overlaps x = false) ∧
    (0 < ((wApply.advance 5000000).windowHeld 0).len) ∧
    (((wApply.advance 5000000).windowHeld 0).base + ((wApply.advance 5000000).windowHeld 0).len ≤ poolPages 0 ((wApply.advance 5000000).windowHeld 0).space) ∧
    (((wApply.advance 5000000).windowHeld 0).space = 1 ∨ ((wApply.advance 5000000).windowHeld 0).space = 2 ∨ ((wApply.advance 5000000).windowHeld 0).space = 5) ∧
    (((wApply.advance 5000000).windowHeld 0).space = 5 → ((wApply.advance 5000000).windowHeld 0).frames ≠ 0) ∧
    (((wApply.advance 5000000).windowHeld 0).space = 2 → ((wApply.advance 5000000).windowHeld 0).frames = 0) ∧
    (((wApply.advance 5000000).windowHeld 0).park = true → ((wApply.advance 5000000).windowHeld 0).space = 2) ∧
    (∀ (x : Nat × Nat), x ∈ ((wApply.advance 5000000).tower 0).withdrawnPages → ¬((x.fst = if ((wApply.advance 5000000).windowHeld 0).space = 2 then 2 else 1) ∧ ((wApply.advance 5000000).windowHeld 0).base ≤ x.snd ∧ x.snd < ((wApply.advance 5000000).windowHeld 0).base + ((wApply.advance 5000000).windowHeld 0).len)) := by decide +kernel

/-! ### Obligations.VerticalChannelCommandsComplete -/

def wChannel (f : Channel → Channel) : State := wT 19 (fun x => { x with channels := kvSet x.channels (chanKey 4 31) (f Channel.fresh) })
def wCh (s : State) : Channel := ((s.advance 5000000).tower 19).channel 4 31
theorem witness_BurstRetry :
    (19 < 20) ∧
    (19 < (w0.advance 5000000).towers.length) ∧
    (((w0.advance 5000000).tower 19).hasChannel 4 31 = true) ∧
    (wCh w0 = ((w0.advance 5000000).tower 19).channel 4 31) ∧
    ((wCh w0).attempts < 4) ∧
    ((wCh w0).width ≠ 0) := by decide +kernel
theorem witness_WireFails :
    (19 < 20) ∧
    (19 < (w0.advance 5000000).towers.length) ∧
    (((w0.advance 5000000).tower 19).hasChannel 4 31 = true) ∧
    (wCh w0 = ((w0.advance 5000000).tower 19).channel 4 31) ∧
    (1055 < 1056) ∧
    ((w0.advance 5000000).towerFalls 19 = false) ∧
    ((wCh w0).width = 1024) ∧
    ((wCh w0).spares.length < 32) := by decide +kernel
def wNoWires : State := wChannel (fun k => { k with spares := List.range 32, failed := 32 })
theorem witness_ChannelHalved :
    (19 < 20) ∧
    (19 < (wNoWires.advance 5000000).towers.length) ∧
    (((wNoWires.advance 5000000).tower 19).hasChannel 4 31 = true) ∧
    (wCh wNoWires = ((wNoWires.advance 5000000).tower 19).channel 4 31) ∧
    (1055 < 1056) ∧
    ((wNoWires.advance 5000000).towerFalls 19 = false) ∧
    ((wCh wNoWires).width = 1024) ∧
    (32 ≤ (wCh wNoWires).spares.length) ∧
    ((wCh wNoWires).failed < 544) := by decide +kernel
theorem witness_ChannelDown :
    (19 < 20) ∧
    (19 < (wNoWires.advance 5000000).towers.length) ∧
    (((wNoWires.advance 5000000).tower 19).hasChannel 4 31 = true) ∧
    (wCh wNoWires = ((wNoWires.advance 5000000).tower 19).channel 4 31) ∧
    (1055 < 1056) ∧
    ((wNoWires.advance 5000000).towerFalls 19 = false) ∧
    ((wCh wNoWires).width ≠ 0) ∧
    (32 ≤ (wCh wNoWires).spares.length) := by decide +kernel
def wLost : State := wT 19 (fun x => { x with regions := modAt x.regions 2 (fun g => { g with st := .lost }) })
def wLostG : Region := { Region.fresh 2 with st := .lost }
theorem witness_ClockMoves :
    (19 < 20) ∧
    (19 < (wLost.advance 5000000).towers.length) ∧
    (((wLost.advance 5000000).tower 19).hasChannel 4 31 = true) ∧
    (wCh wLost = ((wLost.advance 5000000).tower 19).channel 4 31) ∧
    (2 % 2 = 0) ∧
    (((wLost.advance 5000000).tower 19).regions[2]? = some wLostG) ∧
    (wLostG.st = RegionState.lost) ∧
    (((wLost.advance 5000000).tower 19).regions[2 + 1]? = some (Region.fresh 3)) ∧
    ((Region.fresh 3).st ≠ RegionState.lost) := by decide +kernel
theorem witness_BandChange :
    (19 < 20) ∧
    (19 < (w0.advance 5000000).towers.length) ∧
    (((w0.advance 5000000).tower 19).hasChannel 4 31 = true) ∧
    (wCh w0 = ((w0.advance 5000000).tower 19).channel 4 31) ∧
    ((wCh w0).attempts = 0) := by decide +kernel

/-! ### Obligations.LayerAndStackCommandsComplete -/

def wX (s : State) : Tower := (s.advance 5000000).tower 19
theorem witness_LayerReset :
    (19 < 20) ∧
    (19 < (w0.advance 5000000).towers.length) ∧
    (wX w0 = (w0.advance 5000000).tower 19) ∧
    ((w0.advance 5000000).Serves 24579) ∧
    (1 ≤ 4) ∧
    (4 ≤ (wX w0).layers) ∧
    ((w0.advance 5000000).holdsBooked 19 = false) ∧
    ((wX w0).group = none) ∧
    ((wX w0).resetState = TowerResetState.idle) ∧
    ((wX w0).layerReset = LayerResetState.idle) ∧
    ((wX w0).fence = false) := by decide +kernel
def wLayer (st : LayerResetState) : State :=
  wT 19 (fun x => { x with layerReset := st, layerNo := 4, layerTick := 4000000, fence := true, fenceCause := 2, running := [wChunk 7 .normal] })
theorem witness_LayerDrained :
    (19 < 20) ∧
    (19 < ((wLayer LayerResetState.draining).advance 5000000).towers.length) ∧
    (wX (wLayer LayerResetState.draining) = ((wLayer LayerResetState.draining).advance 5000000).tower 19) ∧
    ((wX (wLayer LayerResetState.draining)).layerReset = LayerResetState.draining) ∧
    (1 ≤ (wX (wLayer LayerResetState.draining)).layerNo) ∧
    ((wX (wLayer LayerResetState.draining)).layerNo ≤ 4) := by decide +kernel
theorem witness_LayerForced :
    (19 < 20) ∧
    (19 < ((wLayer LayerResetState.draining).advance 5000000).towers.length) ∧
    (wX (wLayer LayerResetState.draining) = ((wLayer LayerResetState.draining).advance 5000000).tower 19) ∧
    ((wX (wLayer LayerResetState.draining)).layerReset = LayerResetState.draining) ∧
    ((wX (wLayer LayerResetState.draining)).layerTick ≤ ((wLayer LayerResetState.draining).advance 5000000).now) := by decide +kernel
theorem witness_LayerOn :
    (19 < 20) ∧
    (19 < ((wLayer LayerResetState.off).advance 5000000).towers.length) ∧
    (wX (wLayer LayerResetState.off) = ((wLayer LayerResetState.off).advance 5000000).tower 19) ∧
    ((wX (wLayer LayerResetState.off)).layerReset = LayerResetState.off) ∧
    ((wX (wLayer LayerResetState.off)).layerTick ≤ ((wLayer LayerResetState.off).advance 5000000).now) ∧
    (1 ≤ (wX (wLayer LayerResetState.off)).layerNo) ∧
    ((wX (wLayer LayerResetState.off)).layerNo ≤ 4) := by decide +kernel
theorem witness_LayerTrained :
    (19 < 20) ∧
    (19 < ((wLayer LayerResetState.training).advance 5000000).towers.length) ∧
    (wX (wLayer LayerResetState.training) = ((wLayer LayerResetState.training).advance 5000000).tower 19) ∧
    ((wX (wLayer LayerResetState.training)).layerReset = LayerResetState.training) ∧
    ((wX (wLayer LayerResetState.training)).layerQueue = []) ∧
    ((wX (wLayer LayerResetState.training)).fenceCause = 2) := by decide +kernel
def wStack : Stack := { Stack.fresh with st := 1 }
def wDram : State := w0.mapMem (fun m => { m with dram := List.replicate 8 wStack })
theorem witness_Refresh :
    ((wDram.advance 5000000).mem.dram[7]? = some wStack) ∧
    (wStack.st = 1) := by decide +kernel
theorem witness_Mr4 :
    ((wDram.advance 5000000).mem.dram[7]? = some wStack) ∧
    (wStack.st = 1) ∧
    (255 < 256) := by decide +kernel
theorem witness_Retrain :
    ((wDram.advance 5000000).mem.dram[7]? = some wStack) ∧
    (wStack.st = 1) := by decide +kernel
theorem witness_RetrainFails :
    ((wDram.advance 5000000).mem.dram[7]? = some wStack) ∧
    (wStack.st = 1) ∧
    (7 < 8) ∧
    (3 < 16) ∧
    (¬3 ∈ wStack.failed) := by decide +kernel

/-! ### Obligations.IntegrityCommandsComplete -/

theorem witness_Patrol :
    (1 ≤ 4) ∧
    (19 < 20) ∧
    (19 < (w0.advance 5000000).towers.length) ∧
    (((w0.advance 5000000).tower 19).hasChannel 4 31 = true) ∧
    (((w0.advance 5000000).tower 19).layerReset = LayerResetState.idle) ∧
    (((w0.advance 5000000).tower 19).retireState ≠ RetireState.copying) ∧
    (wCh w0 = ((w0.advance 5000000).tower 19).channel 4 31) ∧
    ((wCh w0).width ≠ 0) ∧
    ((wCh w0).patrol + 1 < 256 * channelPages ((w0.advance 5000000).tower 19).isCache 4 31) := by decide +kernel
def wPage : Nat := sramKey 19 (channelPage true 4 31 0) 5
def wPatrol : State := w0.mapMem (fun m => { m with valid := markValid m.valid wPage 1 })
theorem witness_PatrolFinds :
    (1 ≤ 4) ∧
    (19 < 20) ∧
    (19 < (wPatrol.advance 5000000).towers.length) ∧
    (((wPatrol.advance 5000000).tower 19).hasChannel 4 31 = true) ∧
    (((wPatrol.advance 5000000).tower 19).layerReset = LayerResetState.idle) ∧
    (((wPatrol.advance 5000000).tower 19).retireState ≠ RetireState.copying) ∧
    (wCh wPatrol = ((wPatrol.advance 5000000).tower 19).channel 4 31) ∧
    ((wCh wPatrol).width ≠ 0) ∧
    ((wCh wPatrol).patrol + 1 < 256 * channelPages ((wPatrol.advance 5000000).tower 19).isCache 4 31) ∧
    (wPage = sramKey 19 (channelPage ((wPatrol.advance 5000000).tower 19).isCache 4 31 ((wCh wPatrol).patrol / 256)) ((wCh wPatrol).patrol % 256 * 256) + 5) ∧
    (5 < 256) ∧
    (3 ≤ 3) ∧
    ((wPatrol.advance 5000000).mem.isValid wPage = true) ∧
    (¬poisonKey wPage ∈ (wPatrol.advance 5000000).mem.poison) := by decide +kernel
def wNoWords : List Nat := []
theorem witness_Remap :
    (3 < 20) ∧
    (3 < (w0.advance 5000000).towers.length) ∧
    (33 ≤ 33) ∧
    (wNoWords = kvGet ((w0.advance 5000000).tower 3).remaps (remapKey 33 1) []) ∧
    (wNoWords.length < 8) := by decide +kernel
def wSeen : State := w0.mapTower 3 (fun x => { x with smallSeen := [((remapKey 33 1, 2), 4999000)] })
theorem witness_RemapSecond :
    (3 < 20) ∧
    (3 < (wSeen.advance 5000000).towers.length) ∧
    (33 ≤ 33) ∧
    (wNoWords = kvGet ((wSeen.advance 5000000).tower 3).remaps (remapKey 33 1) []) ∧
    (wNoWords.length < 8) ∧
    (((wSeen.advance 5000000).tower 3).fixedLately (remapKey 33 1) 2 (wSeen.advance 5000000).now = true) := by decide +kernel
theorem witness_FirstCorrection :
    (3 < 20) ∧
    (3 < (w0.advance 5000000).towers.length) ∧
    (33 ≤ 33) ∧
    (wNoWords = kvGet ((w0.advance 5000000).tower 3).remaps (remapKey 33 1) []) ∧
    (((w0.advance 5000000).tower 3).fixedLately (remapKey 33 1) 2 (w0.advance 5000000).now = false) := by decide +kernel
theorem witness_SmallUncorrectable :
    (3 < 20) ∧
    (3 < (w0.advance 5000000).towers.length) ∧
    (5 ≤ 33) ∧
    (wNoWords = kvGet ((w0.advance 5000000).tower 3).remaps (remapKey 5 17) []) ∧
    (5 < 16) ∧
    (17 / 16 < 17) := by decide +kernel
def wRetire : State := wHeld [(0x620001, 3), (0x620003, 5)] w0
theorem witness_Retire :
    ((wRetire.advance 5000000).Serves 25088) ∧
    (3 = (wRetire.advance 5000000).held 6422529 0) ∧
    ((wRetire.advance 5000000).held 6422530 1 = 1) ∧
    (5 = (wRetire.advance 5000000).held 6422531 0) ∧
    (3 < (wRetire.advance 5000000).towers.length) ∧
    (5 < towerPages ((wRetire.advance 5000000).tower 3).isCache) ∧
    (¬5 ∈ ((wRetire.advance 5000000).tower 3).replacedPages) ∧
    (¬(1, 5) ∈ ((wRetire.advance 5000000).tower 3).withdrawnPages) ∧
    (((wRetire.advance 5000000).tower 3).retireState ≠ RetireState.copying) ∧
    (((wRetire.advance 5000000).tower 3).layerReset = LayerResetState.idle) ∧
    (((wRetire.advance 5000000).tower 3).resetState = TowerResetState.idle) ∧
    ((List.filter (fun w => w.fst == 1) ((wRetire.advance 5000000).tower 3).withdrawnPages).length < 1024) ∧
    (((wRetire.advance 5000000).tower 3).reserveOf 5 < 8) := by decide +kernel
def wTestDram : State := wHeld [(0x610101, 2)] wDram
theorem witness_TestWrite :
    ((w0.advance 5000000).Serves 24833) ∧
    ((w0.advance 5000000).testRange = false) ∧
    ((w0.advance 5000000).testSel.fst = 1 → ((List.drop 32 ((w0.advance 5000000).heldBytes 6357254 [])).any fun x => x != 0) = false ∧ ((w0.advance 5000000).tower (w0.advance 5000000).testSel.snd.fst).layerReset = LayerResetState.idle) ∧
    ((w0.advance 5000000).testSel.fst = 2 → ((w0.advance 5000000).mem.dram.getD (w0.advance 5000000).testSel.snd.fst Stack.fresh).st = 1) := by decide +kernel
theorem witness_TestRead :
    ((wTestDram.advance 5000000).Serves 24833) ∧
    ((wTestDram.advance 5000000).testRange = false) ∧
    ((wTestDram.advance 5000000).testSel.fst = 1 → ((List.drop 32 ((wTestDram.advance 5000000).heldBytes 6357254 [])).any fun x => x != 0) = false ∧ ((wTestDram.advance 5000000).tower (wTestDram.advance 5000000).testSel.snd.fst).layerReset = LayerResetState.idle) ∧
    ((wTestDram.advance 5000000).testSel.fst = 2 → ((wTestDram.advance 5000000).mem.dram.getD (wTestDram.advance 5000000).testSel.snd.fst Stack.fresh).st = 1) := by decide +kernel
def wNoReserve : State := wRetire.mapTower 3 (fun x => { x with reserveUsed := (List.range 256).map (fun k => (k, 8)) })
theorem witness_PageWithdrawn :
    ((wNoReserve.advance 5000000).Serves 25088) ∧
    (3 = (wNoReserve.advance 5000000).held 6422529 0) ∧
    ((wNoReserve.advance 5000000).held 6422530 1 = 1) ∧
    (5 = (wNoReserve.advance 5000000).held 6422531 0) ∧
    (3 < (wNoReserve.advance 5000000).towers.length) ∧
    (5 < towerPages ((wNoReserve.advance 5000000).tower 3).isCache) ∧
    (¬5 ∈ ((wNoReserve.advance 5000000).tower 3).replacedPages) ∧
    (¬(1, 5) ∈ ((wNoReserve.advance 5000000).tower 3).withdrawnPages) ∧
    (((wNoReserve.advance 5000000).tower 3).retireState ≠ RetireState.copying) ∧
    (((wNoReserve.advance 5000000).tower 3).layerReset = LayerResetState.idle) ∧
    (((wNoReserve.advance 5000000).tower 3).resetState = TowerResetState.idle) ∧
    ((List.filter (fun w => w.fst == 1) ((wNoReserve.advance 5000000).tower 3).withdrawnPages).length < 1024) ∧
    (8 ≤ ((wNoReserve.advance 5000000).tower 3).reserveOf 5) := by decide +kernel

end Memory

namespace Placement


/-! ### Obligations.GroupAndLoadCommandsComplete -/

/-- Group 1 is to be of kind 3 with cache tower 19, which is READY; model 3 is placed. -/
def wPkg1 : Pkg := { model := 3, version := 1, hash := 0, st := 2, kinds := [], shapes := [wCost], tables := [], data := [], tick := 0 }
def wGroup : State :=
  { w0.mapTower 19 (fun x => { x with mode := .ready }) with
    pkgs := [wPkg1]
    dict := { w0.dict with pcie := { w0.dict.pcie with sels := [(0x400001, 1), (0x400101, 3)] }
                           held := [(groupKindKey 1, 3), (groupMaskKey 1, 0x80000)] } }
theorem witness_GroupApply :
    ((wGroup.advance 5000000).Serves 16384) ∧
    (1 = (wGroup.advance 5000000).groupSel) ∧
    (1 < (wGroup.advance 5000000).groups.length) ∧
    (20 ≤ (wGroup.advance 5000000).towers.length) ∧
    (3 = (wGroup.advance 5000000).held (groupKindKey 1) 0) ∧
    (524288 = (wGroup.advance 5000000).held (groupMaskKey 1) 0) ∧
    ((wGroup.advance 5000000).groupBound 1 = false) ∧
    (∀ (t : Nat), t ∈ maskTowers 524288 → kindAllows 3 t = true ∧ (((wGroup.advance 5000000).tower t).group = some 1 ∨ ((wGroup.advance 5000000).tower t).group = none) ∧ (((wGroup.advance 5000000).groups.getD 1 Group.fresh).members.getLsbD t = true ∨ ((wGroup.advance 5000000).tower t).mode = TowerMode.ready)) ∧
    (∀ (t : Nat), t ∈ maskTowers ((wGroup.advance 5000000).groups.getD 1 Group.fresh).members.toNat → bit 524288 t = false → (wGroup.advance 5000000).groupNames 1 t = false) := by decide +kernel
theorem witness_Remove :
    ((wGroup.advance 5000000).Serves 16385) ∧
    ((wGroup.advance 5000000).pkg? (wGroup.advance 5000000).modelSel = some wPkg1) ∧
    (wPkg1.st = 2) := by decide +kernel
def wRemoving : Pkg := { wPkg1 with st := 4 }
def wRemove : State := { wGroup with pkgs := [wRemoving] }
theorem witness_RemovalEnds :
    ((wRemove.advance 5000000).pkg? 3 = some wRemoving) ∧
    (wRemoving.st = 4) ∧
    ((wRemove.advance 5000000).recordsOf 3 = 0) := by decide +kernel
def wOpenLoad : State := w0.mapDict (fun d => { d with held := [(0x400201, 3), (0x400203, 0x20)] })
theorem witness_OpenLoad :
    ((wOpenLoad.advance 5000000).Serves 16386) ∧
    ((wOpenLoad.advance 5000000).load.open_ = false) ∧
    ((wOpenLoad.advance 5000000).held 4194818 1 = 1) ∧
    ((wOpenLoad.advance 5000000).pkg? ((wOpenLoad.advance 5000000).held 4194817 0) = none) := by decide +kernel
def wSlot : KeySlot := { epoch := 1, refs := 0, closing := false, since := 0, install := 0, counter := 0 }
def wKeys : List KeyId := [{ kind := kindModel, id := 3, cur := some wSlot, prev := none }, { kind := kindTenant, id := 7, cur := some wSlot, prev := none }]
def wHdr (seq offset : Nat) : BitVec 512 := BitVec.ofNat 512 (3 + 16 + 3 * 2 ^ 32 + seq * 2 ^ 128 + 2 ^ 224 + offset * 2 ^ 256)
def wParkWin : Window := { eid := 0x20, space := 2, base := 0, len := 1, frames := 0, park := true, tower := 16 }
def wPark : State :=
  { wOpenLoad with
    vault := { w0.vault with keys := wKeys }
    mem := { w0.mem with windows := [wParkWin], parked := [(0x20, wHdr 1 0, [1, 2, 3])] } }
def wTrailer : TrailerIn := { sigOk := true, hashOk := true }
def wBody : List Byte := [1, 2, 3]
theorem witness_PlaceFromPark :
    ((wPark.advance 5000000).Serves 16386) ∧
    ((wPark.advance 5000000).load.open_ = false) ∧
    ((wPark.advance 5000000).held 4194818 1 = 1) ∧
    ((wPark.advance 5000000).pkg? ((wPark.advance 5000000).held 4194817 0) = none) ∧
    (32 = (wPark.advance 5000000).held 4194819 0) ∧
    ((wPark.advance 5000000).window? 32 2 = some wParkWin) ∧
    (wParkWin.park = true) ∧
    (List.filter (fun p => p.fst == 32) (wPark.advance 5000000).mem.parked = [(32, wHdr 1 0, wBody)]) ∧
    ((wPark.advance 5000000).vault.slot? kindModel (hdrModel (wHdr 1 0)) (hdrEpoch (wHdr 1 0)) = some wSlot) ∧
    (field (wHdr 1 0).toNat 191 128 = 1) ∧
    (field (wHdr 1 0).toNat 319 256 = 0) ∧
    (bit (wHdr 1 0).toNat 8 = false) ∧
    (wBody.length < 256) := by decide +kernel
def wLoading : State := wOpenLoad.mapLoad (fun l => { l with open_ := true, model := 3, target := 1, st := 1 })
theorem witness_CancelLoad :
    ((wLoading.advance 5000000).Serves 16386) ∧
    ((wLoading.advance 5000000).load.open_ = true) := by decide +kernel
theorem witness_LoadTwice :
    ((wLoading.advance 5000000).Serves 16386) ∧
    ((wLoading.advance 5000000).load.open_ = true) := by decide +kernel
def wPlaced : State := { wOpenLoad with pkgs := [wPkg1] }
theorem witness_LoadPlaced :
    ((wPlaced.advance 5000000).Serves 16386) ∧
    ((wPlaced.advance 5000000).load.open_ = false) ∧
    ((wPlaced.advance 5000000).held 4194818 1 = 1) ∧
    ((wPlaced.advance 5000000).pkg? ((wPlaced.advance 5000000).held 4194817 0) ≠ none) := by decide +kernel
theorem witness_CancelNone :
    ((w0.advance 5000000).Serves 16386) ∧
    ((w0.advance 5000000).load.open_ = false) := by decide +kernel

end Placement

namespace Ports

def wSlot : KeySlot := { epoch := 1, refs := 0, closing := false, since := 0, install := 0, counter := 0 }
def wTrailer : TrailerIn := { sigOk := true, hashOk := true }

/-! ### Obligations.RequestHeaderIsHeldForDecision -/

def wShape : CostRec := { wCost with shape := 5 }
def wAdmits : State :=
  { w0 with
    pkgs := [{ model := 3, version := 1, hash := 0, st := 2, kinds := [], shapes := [wShape], tables := [], data := [], tick := 0 }]
    vault := { w0.vault with keys := [{ kind := kindModel, id := 3, cur := some wSlot, prev := none },
                                      { kind := kindTenant, id := 7, cur := some wSlot, prev := none }] }
    ports := w0.ports.map (fun p => { p with st := 2, lanes := 0xFF, ingressGrant := 65536 }) }
/-- A header of class `cls` with the CRC of its bits 479:0. -/
def wHeader (port cls seq tick word : Nat) : FrameIn :=
  let body := cls + 16 + 7 * 2 ^ 16 + 3 * 2 ^ 32 + seq * 2 ^ 128 + 2 ^ 224 + tick * 2 ^ 256 + word * 2 ^ 352
  { port, hdr := BitVec.ofNat 512 (body + crc32c (leBytes 60 body) * 2 ^ 480) }
theorem witness_GFrame :
    (1 = 1 ∨ 1 = 2) ∧
    ((wAdmits.advance 5000000).TakesHeader (wHeader 3 1 9 9000000 5) 1) ∧
    ((wAdmits.advance 5000000).pair.mode = PairMode.unbound) ∧
    ((wHeader 3 1 9 9000000 5).claim ≤ (wAdmits.advance 5000000).pair.claim) ∧
    (check4 (wHeader 3 1 9 9000000 5) ((wAdmits.advance 5000000).seenSlots kindTenant (wHeader 3 1 9 9000000 5).tenant) = false) ∧
    (check5 (wHeader 3 1 9 9000000 5).kepoch ((wAdmits.advance 5000000).seenSlots kindTenant (wHeader 3 1 9 9000000 5).tenant) = false) ∧
    ((wAdmits.advance 5000000).checks6to11 (wHeader 3 1 9 9000000 5) = 0) ∧
    ((wAdmits.advance 5000000).now < (wHeader 3 1 9 9000000 5).tick) ∧
    ((wAdmits.advance 5000000).fencedNow (wHeader 3 1 9 9000000 5).tenant = false) ∧
    ((wAdmits.advance 5000000).takenBelow (wHeader 3 1 9 9000000 5) = false) ∧
    ((((wAdmits.advance 5000000).pkg? (wHeader 3 1 9 9000000 5).model).bind fun p => p.shape? (wHeader 3 1 9 9000000 5).word) = some wShape) := by decide +kernel
theorem witness_BFrame :
    (2 = 1 ∨ 2 = 2) ∧
    ((wAdmits.advance 5000000).TakesHeader (wHeader 0 2 9 9000000 5) 2) ∧
    ((wAdmits.advance 5000000).pair.mode = PairMode.unbound) ∧
    ((wHeader 0 2 9 9000000 5).claim ≤ (wAdmits.advance 5000000).pair.claim) ∧
    (check4 (wHeader 0 2 9 9000000 5) ((wAdmits.advance 5000000).seenSlots kindTenant (wHeader 0 2 9 9000000 5).tenant) = false) ∧
    (check5 (wHeader 0 2 9 9000000 5).kepoch ((wAdmits.advance 5000000).seenSlots kindTenant (wHeader 0 2 9 9000000 5).tenant) = false) ∧
    ((wAdmits.advance 5000000).checks6to11 (wHeader 0 2 9 9000000 5) = 0) ∧
    ((wAdmits.advance 5000000).now < (wHeader 0 2 9 9000000 5).tick) ∧
    ((wAdmits.advance 5000000).fencedNow (wHeader 0 2 9 9000000 5).tenant = false) ∧
    ((wAdmits.advance 5000000).takenBelow (wHeader 0 2 9 9000000 5) = false) ∧
    ((((wAdmits.advance 5000000).pkg? (wHeader 0 2 9 9000000 5).model).bind fun p => p.shape? (wHeader 0 2 9 9000000 5).word) = some wShape) := by decide +kernel

/-! ### Obligations.PortCommandsComplete -/

def wPort (f : Port → Port) : State := wAdmits.mapPort 3 f
def wDown : State := wPort (fun p => { p with st := 1 })
theorem witness_LinkUp :
    ((wDown.advance 5000000).dead = false) ∧
    (3 < 4) ∧
    (3 < (wDown.advance 5000000).ports.length) ∧
    (((wDown.advance 5000000).port 3).st ≠ 4) ∧
    (((wDown.advance 5000000).port 3).lanes = 255) := by decide +kernel
theorem witness_LaneLost :
    (4 < 5) ∧
    (4 < (wAdmits.advance 5000000).ports.length) ∧
    (((wAdmits.advance 5000000).port 4).st = 2) ∧
    (((wAdmits.advance 5000000).port 4).lanes.getLsbD 7 = true) ∧
    (2 ≤ laneCount (((wAdmits.advance 5000000).port 4).lanes &&& ~~~(1#8 <<< 7))) := by decide +kernel
def wSegLoad : State := wAdmits.mapLoad (fun l => { l with open_ := true, model := 3, target := 1, st := 1 })
def wSeg : FrameIn := { port := 3, hdr := (wHeader 3 3 1 0 0).hdr }
def wNone : List Byte := []
theorem witness_MFrame :
    ((wSegLoad.advance 5000000).TakesHeader wSeg 3) ∧
    (wSeg.claim ≤ (wSegLoad.advance 5000000).pair.claim) ∧
    ((wSegLoad.advance 5000000).segmentChecks wSeg = 0) ∧
    (wNone.length = wSeg.length) ∧
    ((wSegLoad.advance 5000000).load.target ≠ 2) ∧
    (wSeg.seq = (wSegLoad.advance 5000000).load.segs + 1) ∧
    (wSeg.tick = (wSegLoad.advance 5000000).load.bytes) ∧
    (wSeg.last = false) ∧
    ((wSegLoad.advance 5000000).load.body.length + wNone.length < 256) := by decide +kernel
theorem witness_KFrame :
    ((wAdmits.advance 5000000).TakesHeader (wHeader 3 6 0 100 0) 6) ∧
    ((wAdmits.advance 5000000).time.mode ≠ TimeMode.unset) ∧
    ((wHeader 3 6 0 100 0).reservedSet = false) := by decide +kernel
def wBound : State := wAdmits.mapPair (fun p => { p with bound := true })
theorem witness_Hello :
    ((wBound.advance 5000000).TakesHeader (wHeader 4 15 0 0 16777216) 15) ∧
    ((wHeader 4 15 0 0 16777216).port = 4) ∧
    ((wHeader 4 15 0 0 16777216).subtype = 1) ∧
    ((wBound.advance 5000000).pair.bound = true) ∧
    ((wBound.advance 5000000).helloBad 77 false = true) ∧
    ((wBound.advance 5000000).time.mode ≠ TimeMode.unset) ∧
    ((wHeader 4 15 0 0 16777216).reservedSet = false) := by decide +kernel
theorem witness_HelloAgrees :
    ((wBound.advance 5000000).TakesHeader (wHeader 4 15 0 0 16777216) 15) ∧
    ((wHeader 4 15 0 0 16777216).subtype = 1) ∧
    ((wBound.advance 5000000).time.mode ≠ TimeMode.unset) ∧
    ((wHeader 4 15 0 0 16777216).reservedSet = false) ∧
    ((wHeader 4 15 0 0 16777216).port = 4 → (wBound.advance 5000000).pair.bound = true → (wBound.advance 5000000).helloBad 0 true = false) := by decide +kernel
theorem witness_HelloPort :
    ((wBound.advance 5000000).TakesHeader (wHeader 0 15 0 0 16777216) 15) ∧
    ((wHeader 0 15 0 0 16777216).subtype = 1) ∧
    ((wBound.advance 5000000).time.mode ≠ TimeMode.unset) ∧
    ((wHeader 0 15 0 0 16777216).reservedSet = false) ∧
    ((wHeader 0 15 0 0 16777216).port = 4 → (wBound.advance 5000000).pair.bound = true → (wBound.advance 5000000).helloBad 0 true = false) := by decide +kernel
theorem witness_Notice :
    ((wAdmits.advance 5000000).TakesHeader (wHeader 4 15 0 0 33554432) 15) ∧
    ((wHeader 4 15 0 0 33554432).subtype = 2) := by decide +kernel
theorem witness_PortState :
    ((wAdmits.advance 5000000).TakesHeader (wHeader 0 15 0 0 50331648) 15) ∧
    ((wHeader 0 15 0 0 50331648).subtype = 3) ∧
    ((wAdmits.advance 5000000).time.mode ≠ TimeMode.unset) ∧
    ((wHeader 0 15 0 0 50331648).reservedSet = false) := by decide +kernel
def wAsk3 : Req := { wReq .pending with port := 3 }
def wIncoming : State := withReq wAsk3 (wPort (fun p => { p with incoming := some (7, 9) }))
theorem witness_Payload :
    ((wIncoming.advance 5000000).dead = false) ∧
    (3 < (wIncoming.advance 5000000).ports.length) ∧
    (((wIncoming.advance 5000000).port 3).incoming = some (7, 9)) ∧
    (7 ≠ 0) ∧
    ((wIncoming.advance 5000000).req? 7 9 = some wAsk3) ∧
    (wAsk3.phase = ReqPhase.pending) := by decide +kernel
theorem witness_Gap :
    (3 < (wIncoming.advance 5000000).ports.length) ∧
    (((wIncoming.advance 5000000).port 3).incoming = some (7, 9)) ∧
    (((wIncoming.advance 5000000).port 3).lastUnit + (wIncoming.advance 5000000).ledger.unitGap ≤ (wIncoming.advance 5000000).now) ∧
    ((wIncoming.advance 5000000).unitArrives 3 = false) ∧
    ((wIncoming.advance 5000000).req? 7 9 = some wAsk3) ∧
    (wAsk3.phase = ReqPhase.pending) ∧
    (wAsk3.port = 3) := by decide +kernel
def wDFrame : OutFrame :=
  { port := 3, cls := 5, last := false, unprot := false, tenant := 7, model := 3, reqid := 1, seq := 9, claim := 0, kepoch := 1,
    tick := 8000000, length := 64, word := 0, nonce := 0, payload := [], tag := 0 }
def wNoFrames : List OutFrame := []
def wStall : State := wPort (fun p => { p with queue := [wDFrame] })
theorem witness_Stall :
    (3 < (wStall.advance 5000000).ports.length) ∧
    (((wStall.advance 5000000).port 3).queue = wDFrame :: wNoFrames) ∧
    (wDFrame.cls = 5) ∧
    (((wStall.advance 5000000).port 3).covers wDFrame = false) := by decide +kernel
def wBadHeader : FrameIn := { port := 3, hdr := 0 }
theorem witness_BadHeader :
    ((wAdmits.advance 5000000).dead = false) ∧
    (wBadHeader.port < 5) ∧
    (wBadHeader.port < (wAdmits.advance 5000000).ports.length) ∧
    (((wAdmits.advance 5000000).port wBadHeader.port).up = true) ∧
    (wBadHeader.fault ≠ 0) ∧
    (((wAdmits.advance 5000000).port wBadHeader.port).resync = false) := by decide +kernel
def wSpent : State := wPort (fun p => { p with ingressUsed := 65536 })
theorem witness_BeyondCredit :
    ((wSpent.advance 5000000).dead = false) ∧
    ((wHeader 3 1 9 9000000 5).port < 4) ∧
    ((wHeader 3 1 9 9000000 5).port < (wSpent.advance 5000000).ports.length) ∧
    (((wSpent.advance 5000000).port (wHeader 3 1 9 9000000 5).port).up = true) ∧
    (((wSpent.advance 5000000).port (wHeader 3 1 9 9000000 5).port).ingressGrant < ((wSpent.advance 5000000).port (wHeader 3 1 9 9000000 5).port).ingressUsed + (wHeader 3 1 9 9000000 5).units) := by decide +kernel

/-! ### Obligations.FramesQueueInOrder -/

def wNotice : OutFrame := { wDFrame with cls := 15 }
def wTwoFrames : Port := { Port.fresh with queue := [wNotice, wDFrame] }
theorem witness_QueueOrder :
    (List.Pairwise (fun a b => b.before a = false) wTwoFrames.queue) := by decide +kernel

/-! ### Obligations.TakenSequenceIsStale -/

def wSeqs : SeqState := { high := 2000, taken := [977, 2000] }
theorem witness_SequenceLow :
    (978 ≠ 0) ∧
    (wSeqs.stale 978 = false) := by decide +kernel
theorem witness_SequenceHigh :
    (4000 ≠ 0) ∧
    (wSeqs.stale 4000 = false) := by decide +kernel

end Ports

namespace Ledger

def wSlot : KeySlot := { epoch := 1, refs := 0, closing := false, since := 0, install := 0, counter := 0 }
/-- A request of tenant 7 for model 3 and shape 5 that uses tower 2; the package is placed and both keys are installed. -/
def wLedgerRec : CostRec :=
  { shape := 5, clg := true, clb := true, span := 4, tail := 100, recov := 0
    wins := [{ tower := 2, role := 0, win := 0, graph := 0, start := 1, len := 2, cu := 10, rctx := 3 }], pairs := [] }
def wAsk : Req := { wReq .pending with model := 3, shape := 5, rec_ := wLedgerRec, promised := 0, commit := 0, base := 0 }
def wPkgL : Pkg := { model := 3, version := 1, hash := 0, st := 2, kinds := [], shapes := [wLedgerRec], tables := [], data := [], tick := 0 }
def wDecide : State :=
  withReq wAsk { w0.mapTower 2 (fun x => { x with mode := .active, group := some 0 }) with
    pkgs := [wPkgL], roles := [(3, [0])]
    vault := { w0.vault with keys := [{ kind := kindModel, id := 3, cur := some wSlot, prev := none },
                                      { kind := kindTenant, id := 7, cur := some wSlot, prev := none }] } }

/-! ### Obligations.LedgerCommandsComplete -/

def wMap : List (Nat × Nat) := [(2, 0)]
def wDec (s : State) : State := ((s.advance 5000000).mapLedger (fun l => { l with engineFree := (s.advance 5000000).commitTick 10 })).asDecided
theorem witness_Accepts :
    ((wDecide.advance 5000000).dead = false) ∧
    ((wDecide.advance 5000000).pair.mode = PairMode.unbound) ∧
    ((wDecide.advance 5000000).pair.bound = false) ∧
    ((wDecide.advance 5000000).nextPending = some wAsk) ∧
    ((wDecide.advance 5000000).req? wAsk.tenant wAsk.seq = some wAsk) ∧
    ((wDecide.advance 5000000).ledger.engineFree ≤ 4000100 + 24) ∧
    ((wDecide.advance 5000000).pkg? wAsk.model = some wPkgL) ∧
    ((wDec wDecide).assignSlots wPkgL wAsk.rec_.towers = some wMap) ∧
    ((wDec wDecide).precondition wAsk true = 0) ∧
    (wAsk.bestEffort = false) ∧
    ((wDec wDecide).search wAsk wAsk.arrival = Found.at_ 3908 4005988) ∧
    (wAsk.reason = 0) ∧
    (wAsk.payload = none) ∧
    ((wDecide.advance 5000000).vault.tenantFenced wAsk.tenant = false) := by decide +kernel
def wNoRole : State := { wDecide with roles := [] }
theorem witness_Refuses :
    ((wNoRole.advance 5000000).dead = false) ∧
    ((wNoRole.advance 5000000).pair.mode = PairMode.unbound) ∧
    ((wNoRole.advance 5000000).nextPending = some wAsk) ∧
    ((wNoRole.advance 5000000).req? wAsk.tenant wAsk.seq = some wAsk) ∧
    ((wNoRole.advance 5000000).ledger.engineFree ≤ 4000100 + 24) ∧
    ((wNoRole.advance 5000000).pkg? wAsk.model = some wPkgL) ∧
    (some wMap = (wDec wNoRole).assignSlots wPkgL wAsk.rec_.towers) ∧
    ((wDec wNoRole).precondition wAsk (some wMap).isSome ≠ 0) := by decide +kernel
theorem witness_SlotMoves :
    ((w0.advance 5000000).ledger.slot < (w0.advance 5000000).now / 1024) := by decide +kernel
def wDFrame : OutFrame :=
  { port := 3, cls := 5, last := false, unprot := false, tenant := 7, model := 3, reqid := 1, seq := 9, claim := 0, kepoch := 1,
    tick := 8000000, length := 64, word := 0, nonce := 0, payload := [], tag := 0 }
def wNoFrames : List OutFrame := []
def wLeaves : State :=
  withReq (wReq .accepted) (w0.mapPort 3 (fun p => { p with st := 2, lanes := 0xFF, egressGrant := 3, queue := [wDFrame] }))
theorem witness_Departs :
    ((wLeaves.advance 5000000).dead = false) ∧
    (3 < (wLeaves.advance 5000000).ports.length) ∧
    (((wLeaves.advance 5000000).port 3).queue = wDFrame :: wNoFrames) ∧
    (wDFrame.cls = 5) ∧
    (((wLeaves.advance 5000000).port 3).up = true) ∧
    (((wLeaves.advance 5000000).port 3).covers wDFrame = true) ∧
    ((wLeaves.advance 5000000).vault.tenantFenced wDFrame.tenant = false) ∧
    ((wLeaves.advance 5000000).req? wDFrame.tenant wDFrame.seq = some (wReq ReqPhase.accepted)) ∧
    (1 < (wReq ReqPhase.accepted).framesLeft) ∧
    ((wLeaves.advance 5000000).now ≤ (wReq ReqPhase.accepted).promised) := by decide +kernel
def wLate : Req := { wReq .accepted with promised := 4999999 }
def wLateS : State := withReq wLate w0
theorem witness_Promise :
    ((wLateS.advance 5000000).dead = false) ∧
    ((wLateS.advance 5000000).pair.mode = PairMode.unbound) ∧
    ((wLateS.advance 5000000).req? wLate.tenant wLate.seq = some wLate) ∧
    (wLate.phase = ReqPhase.accepted) ∧
    (wLate.reason = 0) ∧
    (wLate.lastLeft = false) ∧
    (wLate.promised < (wLateS.advance 5000000).now) ∧
    (∀ (x : Tower), x ∈ (wLateS.advance 5000000).towers → ∀ (a : ActRec), a ∈ x.records → a.reported = true ∨ a.code < 128) := by decide +kernel

/-! ### Obligations.SearchAndSlotsFit -/

def wDecideU : State := wDecide.advance 5000000
theorem witness_SearchFits :
    (wDecideU.search wAsk wAsk.arrival = Found.at_ 3908 4005988) := by decide +kernel
def wTowers2 : List Nat := [2]
theorem witness_SlotsFree :
    (wDecideU.assignSlots wPkgL wTowers2 = some wMap) := by decide +kernel
/-- Two entries for tower 2 that overlap in slot 11, within 240 CU. -/
def wNeeds : List Need := [{ res := .tower 2, start := 10, len := 2, amt := 100 }, { res := .tower 2, start := 11, len := 2, amt := 140 }]
theorem witness_BookingFits : LedgerSt.fresh.fits false (fun _ => 240) wNeeds = true := by decide
theorem witness_BookingDoesNotFit : LedgerSt.fresh.fits false (fun _ => 239) wNeeds = false := by decide

end Ledger

namespace Vault


/-! ### Obligations.VaultCommandsComplete -/

def wSlot : KeySlot := { epoch := 1, refs := 0, closing := false, since := 0, install := 0, counter := 0 }
theorem witness_Nonce :
    ((w0.advance 5000000).Serves 28674) ∧
    (5 < 2 ^ 384) ∧
    ((w0.advance 5000000).vault.mode ≠ VaultMode.erased) ∧
    ((w0.advance 5000000).vault.reportSt ≠ 1) := by decide +kernel
def wReport : State := w0.mapVault (fun v => { v with reportSt := 1 })
theorem witness_Report :
    ((wReport.advance 5000000).dead = false) ∧
    ((wReport.advance 5000000).vault.reportSt = 1) := by decide +kernel
def wEnvOf (kind id : Nat) : EnvelopeIn :=
  { bytes := [1, BitVec.ofNat 8 kind, BitVec.ofNat 8 id, 0, 2, 0, 0, 0] ++ List.replicate 8 0 ++ List.replicate 8 0xFF ++ leBytes 48 0x77
      ++ List.replicate 4597 0, sigOk := true, openOk := true }
def wVault : State :=
  w0.mapVault (fun v => { v with
    reportHashes := [0x77], anchors := [1, 2, 3, 4, 5]
    keys := [{ kind := kindModel, id := 3, cur := some wSlot, prev := none }, { kind := kindTenant, id := 7, cur := some wSlot, prev := some wSlot }] })
theorem witness_Envelope :
    ((wVault.advance 5000000).Serves 28688) ∧
    ((wVault.advance 5000000).envelopeCheck (wEnvOf kindModel 3) = 0) := by decide +kernel
theorem witness_BadEnvelope :
    ((wVault.advance 5000000).Serves 28688) ∧
    ((wVault.advance 5000000).envelopeCheck (wEnvOf kindTenant 7) ≠ 0) := by decide +kernel
def wTwoSlots : KeyId := { kind := kindTenant, id := 7, cur := some wSlot, prev := some wSlot }
def wRetires : State := wVault.mapTime (fun t => { t with tally := 2000000000 })
def wErase : EraseIn := { id := 7, readsZero := true }
theorem witness_SlotRetires :
    ((wRetires.advance 2000000000).vault.key? kindTenant wErase.id = some wTwoSlots) ∧
    (wTwoSlots.prev = some wSlot) ∧
    (wTwoSlots.cur.isSome = true) ∧
    (wSlot.refs = 0) ∧
    (wSlot.since + (wRetires.advance 2000000000).vault.grace ≤ (wRetires.advance 2000000000).now) ∧
    ((wRetires.advance 2000000000).headerTakes kindTenant wErase.id wSlot.epoch = false) := by decide +kernel
def wCloseSel : State := wVault.mapDict (fun d => { d with pcie := { d.pcie with sels := [(0x702001, kindTenant), (0x702002, 7)] } })
theorem witness_Close :
    ((wCloseSel.advance 5000000).Serves 28704) ∧
    ((wCloseSel.advance 5000000).vault.key? (wCloseSel.advance 5000000).slotSel.fst (wCloseSel.advance 5000000).slotSel.snd = some wTwoSlots) := by decide +kernel
def wDone : KeyId := { kind := kindTenant, id := 7, cur := some { wSlot with closing := true }, prev := none }
def wClosing : State := w0.mapVault (fun v => { v with keys := [wDone] })
theorem witness_ClosingErased :
    ((wClosing.advance 5000000).vault.key? kindTenant 7 = some wDone) ∧
    ((Option.any KeySlot.done wDone.cur || Option.any KeySlot.done wDone.prev) = true) ∧
    (false = false → 3 ≤ (wClosing.advance 5000000).rw2Now.policy.getD 8 0) := by decide +kernel
def wSeed : State := w0.mapTime (fun t => { t with tally := 2000000000 })
theorem witness_Reseed :
    ((wSeed.advance 2000000000).dead = false) ∧
    (1000000000 * ((wSeed.advance 2000000000).vault.reseeds + 1) ≤ (wSeed.advance 2000000000).now) := by decide +kernel

/-! ### Obligations.TicketsApplyWholeOrNotAtAll -/

def wTicket (value : Nat) : TicketIn :=
  { bytes := [1, 1, 0, 0, 0, 0, 0, 0] ++ List.replicate 8 0 ++ List.replicate 8 0xFF ++ leBytes 48 0x99 ++ leBytes 48 0x55 ++ List.replicate 72 0
      ++ [0x00, 0x72, 6, 0, 1, 0, 0, 0, BitVec.ofNat 8 value, 0, 0, 0, 0, 0, 0, 0] ++ List.replicate Ticket.sigLength 0, sigOk := true }
def wTicketS : State := { wVault.mapVault (fun v => { v with enrolled := true, nonce := 0x99 }) with ident := { w0.ident with didh := 0x55 } }
theorem witness_TicketApplies :
    ((wTicketS.advance 5000000).Serves 28928) ∧
    ((wTicketS.advance 5000000).ticketCheck (wTicket 3) = 0) := by decide +kernel
theorem witness_TicketFails :
    ((wTicketS.advance 5000000).Serves 28928) ∧
    ((wTicketS.advance 5000000).ticketCheck (wTicket 4) = 8) ∧
    (8 ≠ 0) := by decide +kernel

/-! ### Obligations.GuestAndAlarmCommandsComplete -/

def wGuestId : Ident := { w0.ident with guests := 2 }
def wGuest : State := { w0.mapVault (fun v => { v with grstHigh := 3, gready := 3, admitted := 3 }) with ident := wGuestId }
def wGPkt (type src dst : Nat) : Packet :=
  mkPacket false { type, src, dst, addr := mkAddr 1 0x20 0, tag := 1 } (List.replicate 64 5)
def wVia (s : State) (p : Packet) : State := s.forPacket 5000000 p
theorem witness_GuestMgmt :
    ((wVia wGuest (wGPkt 3 48 22)).hasGuest 0 = true) ∧
    ((wVia wGuest (wGPkt 3 48 22)).siteFenced (guestSite 0) = false) ∧
    ((wVia wGuest (wGPkt 3 48 22)).packetPasses 0 false (wGPkt 3 48 22) = true) := by decide +kernel
def wGuestRoute : State := { wGuest with base := { wGuest.base with bankA := [(0x20, 1)] } }
theorem witness_GuestSends :
    ((wVia wGuestRoute (wGPkt 3 22 32)).hasGuest 0 = true) ∧
    ((wVia wGuestRoute (wGPkt 3 22 32)).siteFenced (guestSite 0) = false) ∧
    ((wVia wGuestRoute (wGPkt 3 22 32)).packetPasses 0 true (wGPkt 3 22 32) = true) ∧
    (field ((wVia wGuestRoute (wGPkt 3 22 32)).routingEntry (wGPkt 3 22 32).tepoch (wGPkt 3 22 32).dst).toNat 1 0 ≠ 0) := by decide +kernel
theorem witness_GuestFenced :
    ((wVia wGuest (wGPkt 3 48 32)).hasGuest 1 = true) ∧
    ((wVia wGuest (wGPkt 3 48 32)).siteFenced (guestSite 1) = false) ∧
    ((wVia wGuest (wGPkt 3 48 32)).packetPasses 1 true (wGPkt 3 48 32) = false) := by decide +kernel
theorem witness_GuestRefused :
    ((wVia wGuest (wGPkt 3 48 32)).hasGuest 1 = true) ∧
    ((wVia wGuest (wGPkt 3 48 32)).siteFenced (guestSite 1) = false) ∧
    ((wVia wGuest (wGPkt 3 48 32)).packetPasses 1 false (wGPkt 3 48 32) = false) := by decide +kernel
theorem witness_Tamper :
    ((1, Instr.tamperMesh 5000000) ∈ [(1, Instr.tamperMesh 5000000), (2, Instr.supplyGlitch 5000000), (3, Instr.clockGlitch 5000000)]) ∧
    ((wVault.advance 5000000).dead = false) := by decide +kernel
theorem witness_Glitch :
    ((2, Instr.supplyGlitch 5000000) ∈ [(1, Instr.tamperMesh 5000000), (2, Instr.supplyGlitch 5000000), (3, Instr.clockGlitch 5000000)]) ∧
    ((wVault.advance 5000000).dead = false) := by decide +kernel
theorem witness_ClockGlitch :
    ((3, Instr.clockGlitch 5000000) ∈ [(1, Instr.tamperMesh 5000000), (2, Instr.supplyGlitch 5000000), (3, Instr.clockGlitch 5000000)]) ∧
    ((wVault.advance 5000000).dead = false) := by decide +kernel
def wGuestUp : State := { w0 with ident := wGuestId, power := { w0.power with domains := w0.power.domains.map (fun d => { d with st := 2 }) } }
theorem witness_GuestRelease :
    ((wGuestUp.advance 5000000).hasGuest 1 = true) ∧
    ((wGuestUp.advance 5000000).vault.grstHigh.getLsbD 1 = false) ∧
    ((guestDomains 1).all (wGuestUp.advance 5000000).domainOn = true) ∧
    ((wGuestUp.advance 5000000).vault.grstTick.getD 1 0 + 10000 ≤ (wGuestUp.advance 5000000).now) := by decide +kernel
def wGrst : State := wGuestUp.mapVault (fun v => { v with grstHigh := 3 })
theorem witness_GuestReady :
    ((wGrst.advance 5000000).hasGuest 1 = true) ∧
    ((wGrst.advance 5000000).vault.grstHigh.getLsbD 1 = true) ∧
    ((wGrst.advance 5000000).vault.gready.getLsbD 1 = false) := by decide +kernel
theorem witness_GuestTimeout :
    ((wGrst.advance 5000000).hasGuest 1 = true) ∧
    ((wGrst.advance 5000000).vault.grstHigh.getLsbD 1 = true) ∧
    ((wGrst.advance 5000000).vault.gready.getLsbD 1 = false) ∧
    ((wGrst.advance 5000000).base.guestSiteFence.getLsbD 1 = false) ∧
    ((wGrst.advance 5000000).vault.grstTick.getD 1 0 + 1000000 ≤ (wGrst.advance 5000000).now) ∧
    ((wGrst.advance 5000000).greadyArrives 1 = false) := by decide +kernel

end Vault

namespace Pair


/-! ### Obligations.TwinWatchCommandsComplete -/

/-- A bound unit in a mode, hearing its twin, both units' claims 4. -/
def wPairM (m : PairMode) : State :=
  (w0.mapVault (fun v => { v with pairKey := true })).mapPair (fun p =>
    { p with bound := true, twinId := 0x77, mode := m, beating := true, claim := 4, twinClaim := 5, keyGen := 1, pxHeard := 4999000, thHeard := 4999000, pxPath := 1 })
def wTwin : TwinIn := { reportsOk := true, seeking := true }
theorem witness_Handshake :
    (((wPairM PairMode.standby).advance 5000000).pair.bound = true) ∧
    (((wPairM PairMode.standby).advance 5000000).dead = false) ∧
    (((wPairM PairMode.standby).advance 5000000).vault.mode ≠ VaultMode.erased) ∧
    (((wPairM PairMode.standby).advance 5000000).time.mode ≠ TimeMode.unset) ∧
    (true ≠ ((wPairM PairMode.standby).advance 5000000).pair.preferred) ∧
    (wTwin.reportsOk = true) := by decide +kernel
theorem witness_HandshakeSeeking :
    ((((wPairM PairMode.seeking).mapPair fun p =>
            { bound := p.bound, twinId := p.twinId, preferred := true, seekLimit := p.seekLimit, mode := p.mode, claim := p.claim, twinClaim := p.twinClaim, twinMode := p.twinMode, twinLocked := p.twinLocked, twinDecnum := p.twinDecnum, twinSpoolFull := p.twinSpoolFull, pxPath := p.pxPath, thPath := p.thPath, pxHeard := p.pxHeard, thHeard := p.thHeard, seekSince := p.seekSince,
              pathFaults := p.pathFaults, takeovers := p.takeovers, mirrored := p.mirrored, notRun := p.notRun, withheld := p.withheld, twinDigest := p.twinDigest, sDiscarded := p.sDiscarded, sSeqIn := p.sSeqIn, sSeqOut := p.sSeqOut, keyGen := p.keyGen, bindFaults := p.bindFaults, lockRuns := p.lockRuns, decnum := p.decnum, hbseq := p.hbseq, beating := p.beating, nextBeat := p.nextBeat,
              sFault := p.sFault, readySent := p.readySent, resumeTick := p.resumeTick, joinTick := p.joinTick, joinArmed := p.joinArmed, snapshotTick := p.snapshotTick, twinFree := p.twinFree, twinLimits := p.twinLimits, checkpoint := p.checkpoint, spoolWins := p.spoolWins, spoolStore := p.spoolStore, lastFold := p.lastFold, tail := p.tail, image := p.image, spoolUsed := p.spoolUsed,
              spoolSt := p.spoolSt, sent := p.sent }).advance
        5000000).pair.bound =
  true) ∧
    ((((wPairM PairMode.seeking).mapPair fun p =>
          { bound := p.bound, twinId := p.twinId, preferred := true, seekLimit := p.seekLimit, mode := p.mode, claim := p.claim, twinClaim := p.twinClaim, twinMode := p.twinMode, twinLocked := p.twinLocked, twinDecnum := p.twinDecnum, twinSpoolFull := p.twinSpoolFull, pxPath := p.pxPath, thPath := p.thPath, pxHeard := p.pxHeard, thHeard := p.thHeard, seekSince := p.seekSince,
            pathFaults := p.pathFaults, takeovers := p.takeovers, mirrored := p.mirrored, notRun := p.notRun, withheld := p.withheld, twinDigest := p.twinDigest, sDiscarded := p.sDiscarded, sSeqIn := p.sSeqIn, sSeqOut := p.sSeqOut, keyGen := p.keyGen, bindFaults := p.bindFaults, lockRuns := p.lockRuns, decnum := p.decnum, hbseq := p.hbseq, beating := p.beating, nextBeat := p.nextBeat,
            sFault := p.sFault, readySent := p.readySent, resumeTick := p.resumeTick, joinTick := p.joinTick, joinArmed := p.joinArmed, snapshotTick := p.snapshotTick, twinFree := p.twinFree, twinLimits := p.twinLimits, checkpoint := p.checkpoint, spoolWins := p.spoolWins, spoolStore := p.spoolStore, lastFold := p.lastFold, tail := p.tail, image := p.image, spoolUsed := p.spoolUsed,
            spoolSt := p.spoolSt, sent := p.sent }).advance
      5000000).dead =
  false) ∧
    ((((wPairM PairMode.seeking).mapPair fun p =>
            { bound := p.bound, twinId := p.twinId, preferred := true, seekLimit := p.seekLimit, mode := p.mode, claim := p.claim, twinClaim := p.twinClaim, twinMode := p.twinMode, twinLocked := p.twinLocked, twinDecnum := p.twinDecnum, twinSpoolFull := p.twinSpoolFull, pxPath := p.pxPath, thPath := p.thPath, pxHeard := p.pxHeard, thHeard := p.thHeard, seekSince := p.seekSince,
              pathFaults := p.pathFaults, takeovers := p.takeovers, mirrored := p.mirrored, notRun := p.notRun, withheld := p.withheld, twinDigest := p.twinDigest, sDiscarded := p.sDiscarded, sSeqIn := p.sSeqIn, sSeqOut := p.sSeqOut, keyGen := p.keyGen, bindFaults := p.bindFaults, lockRuns := p.lockRuns, decnum := p.decnum, hbseq := p.hbseq, beating := p.beating, nextBeat := p.nextBeat,
              sFault := p.sFault, readySent := p.readySent, resumeTick := p.resumeTick, joinTick := p.joinTick, joinArmed := p.joinArmed, snapshotTick := p.snapshotTick, twinFree := p.twinFree, twinLimits := p.twinLimits, checkpoint := p.checkpoint, spoolWins := p.spoolWins, spoolStore := p.spoolStore, lastFold := p.lastFold, tail := p.tail, image := p.image, spoolUsed := p.spoolUsed,
              spoolSt := p.spoolSt, sent := p.sent }).advance
        5000000).vault.mode ≠
  VaultMode.erased) ∧
    ((((wPairM PairMode.seeking).mapPair fun p =>
            { bound := p.bound, twinId := p.twinId, preferred := true, seekLimit := p.seekLimit, mode := p.mode, claim := p.claim, twinClaim := p.twinClaim, twinMode := p.twinMode, twinLocked := p.twinLocked, twinDecnum := p.twinDecnum, twinSpoolFull := p.twinSpoolFull, pxPath := p.pxPath, thPath := p.thPath, pxHeard := p.pxHeard, thHeard := p.thHeard, seekSince := p.seekSince,
              pathFaults := p.pathFaults, takeovers := p.takeovers, mirrored := p.mirrored, notRun := p.notRun, withheld := p.withheld, twinDigest := p.twinDigest, sDiscarded := p.sDiscarded, sSeqIn := p.sSeqIn, sSeqOut := p.sSeqOut, keyGen := p.keyGen, bindFaults := p.bindFaults, lockRuns := p.lockRuns, decnum := p.decnum, hbseq := p.hbseq, beating := p.beating, nextBeat := p.nextBeat,
              sFault := p.sFault, readySent := p.readySent, resumeTick := p.resumeTick, joinTick := p.joinTick, joinArmed := p.joinArmed, snapshotTick := p.snapshotTick, twinFree := p.twinFree, twinLimits := p.twinLimits, checkpoint := p.checkpoint, spoolWins := p.spoolWins, spoolStore := p.spoolStore, lastFold := p.lastFold, tail := p.tail, image := p.image, spoolUsed := p.spoolUsed,
              spoolSt := p.spoolSt, sent := p.sent }).advance
        5000000).time.mode ≠
  TimeMode.unset) ∧
    (false ≠
  (((wPairM PairMode.seeking).mapPair fun p =>
            { bound := p.bound, twinId := p.twinId, preferred := true, seekLimit := p.seekLimit, mode := p.mode, claim := p.claim, twinClaim := p.twinClaim, twinMode := p.twinMode, twinLocked := p.twinLocked, twinDecnum := p.twinDecnum, twinSpoolFull := p.twinSpoolFull, pxPath := p.pxPath, thPath := p.thPath, pxHeard := p.pxHeard, thHeard := p.thHeard, seekSince := p.seekSince,
              pathFaults := p.pathFaults, takeovers := p.takeovers, mirrored := p.mirrored, notRun := p.notRun, withheld := p.withheld, twinDigest := p.twinDigest, sDiscarded := p.sDiscarded, sSeqIn := p.sSeqIn, sSeqOut := p.sSeqOut, keyGen := p.keyGen, bindFaults := p.bindFaults, lockRuns := p.lockRuns, decnum := p.decnum, hbseq := p.hbseq, beating := p.beating, nextBeat := p.nextBeat,
              sFault := p.sFault, readySent := p.readySent, resumeTick := p.resumeTick, joinTick := p.joinTick, joinArmed := p.joinArmed, snapshotTick := p.snapshotTick, twinFree := p.twinFree, twinLimits := p.twinLimits, checkpoint := p.checkpoint, spoolWins := p.spoolWins, spoolStore := p.spoolStore, lastFold := p.lastFold, tail := p.tail, image := p.image, spoolUsed := p.spoolUsed,
              spoolSt := p.spoolSt, sent := p.sent }).advance
        5000000).pair.preferred) ∧
    (wTwin.reportsOk = true) := by decide +kernel
theorem witness_BadBinding :
    (((wPairM PairMode.standby).advance 5000000).pair.bound = true) ∧
    (((wPairM PairMode.standby).advance 5000000).dead = false) ∧
    (((wPairM PairMode.standby).advance 5000000).vault.mode ≠ VaultMode.erased) ∧
    (((wPairM PairMode.standby).advance 5000000).time.mode ≠ TimeMode.unset) ∧
    (120 ≠ ((wPairM PairMode.standby).advance 5000000).pair.twinId ∨ true = ((wPairM PairMode.standby).advance 5000000).pair.preferred) := by decide +kernel
theorem witness_HeartbeatSent :
    (((wPairM PairMode.active).advance 5000000).hearsTwin = true) ∧
    (((wPairM PairMode.active).advance 5000000).pair.beating = true) ∧
    (((wPairM PairMode.active).advance 5000000).pair.mode ≠ PairMode.unbound) ∧
    (((wPairM PairMode.active).advance 5000000).pair.mode ≠ PairMode.seeking) ∧
    (((wPairM PairMode.active).advance 5000000).pair.nextBeat ≤ ((wPairM PairMode.active).advance 5000000).now) := by decide +kernel
def wBeat : HeartbeatIn := { claim := 8, state := 2, locked := true, stopped := false, hbseq := 3, epochcnt := 5, decnum := 6, tick := 4999999 }
theorem witness_HeartbeatTaken :
    (((wPairM PairMode.standby).advance 5000000).hearsTwin = true) ∧
    (((wPairM PairMode.standby).advance 5000000).pair.mode = PairMode.standby) := by decide +kernel
theorem witness_HigherClaim :
    (((wPairM PairMode.active).advance 5000000).hearsTwin = true) ∧
    (((wPairM PairMode.active).advance 5000000).time.mode ≠ TimeMode.unset) ∧
    (((wPairM PairMode.active).advance 5000000).pair.sFault = false) ∧
    (((wPairM PairMode.active).advance 5000000).pair.mode = PairMode.active ∨ ((wPairM PairMode.active).advance 5000000).pair.mode = PairMode.solo) ∧
    (((wPairM PairMode.active).advance 5000000).pair.claim < wBeat.claim) := by decide +kernel
def wSilent (px th : Nat) : State := (wPairM .standby).mapPair (fun p => { p with pxHeard := px, thHeard := th })
theorem witness_OnePathSilent :
    (((wSilent 4000000 4999000).advance 5000000).hearsTwin = true) ∧
    (((wSilent 4000000 4999000).advance 5000000).pair.mode = PairMode.standby ∨ ((wSilent 4000000 4999000).advance 5000000).pair.mode = PairMode.active ∨ ((wSilent 4000000 4999000).advance 5000000).pair.mode = PairMode.syncing) ∧
    (((wSilent 4000000 4999000).advance 5000000).silent true = true) ∧
    ((((wSilent 4000000 4999000).advance 5000000).silent !true) = false) ∧
    ((if true = true then ((wSilent 4000000 4999000).advance 5000000).pair.pxPath else ((wSilent 4000000 4999000).advance 5000000).pair.thPath) ≠ 2) := by decide +kernel
theorem witness_TwinSilent :
    (((wSilent 4000000 4000000).advance 5000000).hearsTwin = true) ∧
    (((wSilent 4000000 4000000).advance 5000000).pair.mode = PairMode.standby) ∧
    (((wSilent 4000000 4000000).advance 5000000).silent false = true) ∧
    ((((wSilent 4000000 4000000).advance 5000000).silent !false) = true) ∧
    (((wSilent 4000000 4000000).advance 5000000).raisedClaim ≤ 4294967280) := by decide +kernel
def wFrame (seq : Nat) : SFrameIn := { seq, kepoch := 1, claim := 5, ok := true, last := false, segment := 0 }
def wDecision : DecisionRec :=
  { decnum := 1, port := 3, kind := 1, reason := 0, tenant := 7, seq := 9, tick := 8000000, base := 4000, shape := 5, model := 3,
    commit := 4999990, slotmap := [], tmask := 0, prot := false }
theorem witness_SFrameDiscarded :
    (((wPairM PairMode.standby).advance 5000000).hearsTwin = true) ∧
    (((wPairM PairMode.standby).advance 5000000).pair.sFault = false) ∧
    (((wPairM PairMode.standby).advance 5000000).pair.pxPath ≠ 2) ∧
    ((wFrame 2).ok = false ∨ (wFrame 2).kepoch ≠ ((wPairM PairMode.standby).advance 5000000).pair.keyGen % 256 ∨ (wFrame 2).seq ≠ ((wPairM PairMode.standby).advance 5000000).pair.sSeqIn + 1) := by decide +kernel

/-! ### Obligations.TwinMessagesComplete -/

theorem witness_MsgDecision :
    (((wPairM PairMode.standby).advance 5000000).TakesS (wFrame 1)) ∧
    (((wPairM PairMode.standby).advance 5000000).pair.mode = PairMode.standby) ∧
    (wDecision.decnum = ((wPairM PairMode.standby).advance 5000000).pair.decnum + 1) ∧
    (wDecision.kind = 3 ∨ wDecision.kind = 1 ∧ wDecision.prot = false) := by decide +kernel
def wNats : List Nat := [1, 2]
def wLimits : LimitsIn := { limits := [3], spoolFull := true }
theorem witness_MsgStatus :
    (((wPairM PairMode.active).advance 5000000).TakesS (wFrame 1)) := by decide +kernel
def wTwinReq : State := withReq (wReq .accepted) (wPairM .active)
theorem witness_MsgDelivered :
    ((wTwinReq.advance 5000000).TakesS (wFrame 1)) ∧
    ((wTwinReq.advance 5000000).req? (wReq ReqPhase.accepted).tenant (wReq ReqPhase.accepted).seq = some (wReq ReqPhase.accepted)) := by decide +kernel
theorem witness_MsgConfig :
    (((wPairM PairMode.active).advance 5000000).TakesS (wFrame 1)) ∧
    (((wPairM PairMode.active).advance 5000000).pair.mode ≠ PairMode.syncing) := by decide +kernel
def wTail : TailReq := { tenant := 7, seq := 9, cls := 1, delta := none, promised := 8000000 }
def wSpool : State :=
  ((wPairM .standby).mapPair (fun p => { p with tail := [wTail], spoolStore := 0x20 })).mapMem (fun m =>
    { m with windows := [{ eid := 0x20, space := 2, base := 0, len := 1, frames := 0, park := false, tower := 16 }] })
def wGranules : List (Nat × List Byte) := [(mkAddr 1 0x20 0, List.replicate 256 1)]
theorem witness_MsgDelta :
    ((wSpool.advance 5000000).TakesS (wFrame 1)) ∧
    ((wSpool.advance 5000000).decides = false) ∧
    ((wSpool.advance 5000000).spoolBytes + deltaBytes wGranules ≤ (wSpool.advance 5000000).spoolRoom) := by decide +kernel
theorem witness_MsgSnapshot :
    (((wPairM PairMode.syncing).advance 5000000).TakesS (wFrame 1)) ∧
    (((wPairM PairMode.syncing).advance 5000000).pair.mode = PairMode.syncing) ∧
    (((wPairM PairMode.syncing).advance 5000000).pair.snapshotTick ≠ 4000000) := by decide +kernel
def wBody : List Byte := [1, 2, 3]
def wTrailer : TrailerIn := { sigOk := true, hashOk := true }
theorem witness_MsgPackage :
    (((wPairM PairMode.syncing).advance 5000000).TakesS (wFrame 1)) ∧
    (((wPairM PairMode.syncing).advance 5000000).pair.mode = PairMode.syncing) ∧
    (((wPairM PairMode.syncing).advance 5000000).load.open_ = false) ∧
    (((wPairM PairMode.syncing).advance 5000000).pkg? 3 = none) ∧
    ((wFrame 1).last = false) ∧
    (wBody.length < 256) := by decide +kernel
theorem witness_MsgImage :
    (((wPairM PairMode.syncing).advance 5000000).TakesS (wFrame 1)) ∧
    (((wPairM PairMode.syncing).advance 5000000).pair.mode = PairMode.syncing) := by decide +kernel
theorem witness_MsgJoinReady :
    (((wPairM PairMode.solo).advance 5000000).TakesS (wFrame 1)) ∧
    (((wPairM PairMode.solo).advance 5000000).pair.mode = PairMode.solo) := by decide +kernel
theorem witness_MsgJoin :
    (((wPairM PairMode.syncing).advance 5000000).TakesS (wFrame 1)) ∧
    (((wPairM PairMode.syncing).advance 5000000).pair.mode = PairMode.syncing) := by decide +kernel

/-! ### Obligations.PairTimersComplete -/

def wJoin (m : PairMode) : State := (wPairM m).mapPair (fun p => { p with joinArmed := true, joinTick := 5000000 })
theorem witness_JoinActive :
    (((wJoin PairMode.solo).advance 5000000).pair.joinArmed = true) ∧
    (((wJoin PairMode.solo).advance 5000000).pair.joinTick ≤ ((wJoin PairMode.solo).advance 5000000).now) := by decide +kernel
theorem witness_JoinStandby :
    (((wJoin PairMode.syncing).advance 5000000).pair.joinArmed = true) ∧
    (((wJoin PairMode.syncing).advance 5000000).pair.joinTick ≤ ((wJoin PairMode.syncing).advance 5000000).now) := by decide +kernel
def wHeldReq : State := withReq (wReq .held) (wPairM .active)
def wDefer (twin : Bool) : Req := { wReq .accepted with prot := true, reason := 0x84, promised := 4998976, twinDelivered := twin }
def wDeferS (twin : Bool) : State := withReq (wDefer twin) (wPairM .active)
theorem witness_DeferDelivered :
    (((wDeferS true).advance 5000000).req? (wDefer true).tenant (wDefer true).seq = some (wDefer true)) ∧
    ((wDefer true).phase = ReqPhase.accepted) ∧
    ((wDefer true).prot = true) ∧
    ((wDefer true).cls = 1) ∧
    ((wDefer true).reason ≠ 0) ∧
    ((wDefer true).promised + 1024 ≤ ((wDeferS true).advance 5000000).now) ∧
    (((wDeferS true).advance 5000000).decides = true) ∧
    ((wDefer true).twinDelivered = true) := by decide +kernel
theorem witness_DeferEnds :
    (((wDeferS false).advance 5000000).req? (wDefer false).tenant (wDefer false).seq = some (wDefer false)) ∧
    ((wDefer false).phase = ReqPhase.accepted) ∧
    ((wDefer false).prot = true) ∧
    ((wDefer false).cls = 1) ∧
    ((wDefer false).reason ≠ 0) ∧
    ((wDefer false).promised + 1024 ≤ ((wDeferS false).advance 5000000).now) ∧
    (((wDeferS false).advance 5000000).decides = true) ∧
    ((wDefer false).twinDelivered = false) ∧
    (((wDeferS false).advance 5000000).deliveryArrives (wDefer false) = false) := by decide +kernel
def wTail2 : TailReq := { wTail with seq := 8, delta := some wGranules }
def wFold : State := wSpool.mapPair (fun p => { p with tail := [wTail2, wTail], checkpoint := 1000000, lastFold := 4000000 })
theorem witness_Checkpoint :
    ((wFold.advance 5000000).decides = false) ∧
    ((wFold.advance 5000000).pair.lastFold + (wFold.advance 5000000).pair.checkpoint ≤ (wFold.advance 5000000).now) := by decide +kernel
def wRestore : State := wSpool.mapPair (fun p => { p with spoolSt := 3 })
theorem witness_Restore :
    ((wRestore.advance 5000000).pair.spoolSt = 3) := by decide +kernel
def wSeek : State := (wPairM .seeking).mapPair (fun p => { p with preferred := true, seekSince := 4968000, pxHeard := 0, thHeard := 0 })
theorem witness_SeekLimit :
    ((wSeek.advance 5000000).pair.mode = PairMode.seeking) ∧
    ((max (wSeek.advance 5000000).pair.seekSince (max (wSeek.advance 5000000).pair.pxHeard (wSeek.advance 5000000).pair.thHeard) + if (wSeek.advance 5000000).pair.preferred = true then 32000 else (wSeek.advance 5000000).pair.seekLimit) ≤ (wSeek.advance 5000000).now) ∧
    ((wSeek.advance 5000000).beatNow = false) := by decide +kernel
theorem witness_StepDown :
    (((wPairM PairMode.active).advance 5000000).Serves 8707) ∧
    (((wPairM PairMode.active).advance 5000000).pair.mode = PairMode.active) := by decide +kernel
def wResume : State := (wPairM .isolated).mapPair (fun p => { p with beating := false, resumeTick := some 5000000 })
theorem witness_Resume :
    ((wResume.advance 5000000).pair.resumeTick = some 5000000) ∧
    (5000000 ≤ (wResume.advance 5000000).now) := by decide +kernel

end Pair

namespace Power


/-! ### Obligations.SupplyFaultCommandsComplete -/

/-- Power up: charged, and every domain on. -/
def wOn : State := w0.mapPower (fun p => { p with charged := true, inputUp := true, inputmV := 48000, domains := p.domains.map (fun d => { d with st := 2 }) })
theorem witness_InputLost :
    ((wOn.advance 5000000).power.shutdown = false) ∧
    ((wOn.advance 5000000).power.charged = true) ∧
    (37999 < 38000 ∨ 63000 < 37999) ∧
    (10000 ≤ 10000) := by decide +kernel
theorem witness_InputHigh :
    ((wOn.advance 5000000).power.shutdown = false) ∧
    ((wOn.advance 5000000).power.charged = true) ∧
    (63001 < 38000 ∨ 63000 < 63001) ∧
    (10000 ≤ 20000) := by decide +kernel
theorem witness_InputEvent :
    ((wOn.advance 5000000).power.shutdown = false) ∧
    ((wOn.advance 5000000).power.charged = true) ∧
    (39999 < 40000 ∨ 60000 < 39999) ∧
    (38000 ≤ 39999 ∧ 39999 ≤ 63000 ∨ 20000 < 10000) := by decide +kernel
theorem witness_InputShort :
    ((wOn.advance 5000000).power.shutdown = false) ∧
    ((wOn.advance 5000000).power.charged = true) ∧
    (0 < 40000 ∨ 60000 < 0) ∧
    (38000 ≤ 0 ∧ 0 ≤ 63000 ∨ 9999 < 10000) := by decide +kernel
theorem witness_Converter :
    ((wOn.advance 5000000).power.converters[8]? = some 1) ∧
    (∀ (x : Nat), x ∈ (wOn.advance 5000000).power.converters → x ≠ 2) := by decide +kernel
def wOneDown : State := wOn.mapPower (fun p => { p with converters := setAt p.converters 0 2 })
theorem witness_SecondConverter :
    ((wOneDown.advance 5000000).power.converters[8]? = some 1) ∧
    (1 ≠ 2) ∧
    (2 ∈ (wOneDown.advance 5000000).power.converters) := by decide +kernel
def wDomain : Domain := { st := 2, setmV := 800, current := 0, power := 0, energy := 0, faults := 0 }
theorem witness_DomainFault :
    ((wOn.advance 5000000).power.domains[39]? = some wDomain) ∧
    (wDomain.st ≠ 0) ∧
    (39 < 40) ∧
    (domainTower 39 < (wOn.advance 5000000).towers.length) ∧
    (((wOn.advance 5000000).tower (domainTower 39)).mode ≠ TowerMode.failed) := by decide +kernel
def wDomain40 : Domain := { wDomain with setmV := 750 }
def wOn5 : Region := Region.fresh 5
theorem witness_PhaseFault :
    (supplyTower 3 = some 3) ∧
    (((wOn.advance 5000000).domain 3).st ≠ 0) ∧
    (3 < (wOn.advance 5000000).towers.length) ∧
    ((wOn.advance 5000000).towerFalls 3 = false) ∧
    (((wOn.advance 5000000).tower 3).regions[5]? = some wOn5) ∧
    (wOn5.st ≠ RegionState.lost) := by decide +kernel
theorem witness_HubDomain :
    ((wOn.advance 5000000).power.domains[40]? = some wDomain40) ∧
    (wDomain40.st ≠ 0) ∧
    (40 = 40 ∨ 40 = 41) := by decide +kernel
theorem witness_Driver :
    (5 < 8) ∧
    (5 < (wOn.advance 5000000).base.lasers.length) ∧
    (((wOn.advance 5000000).laser 5).st ≠ 0) ∧
    (((wOn.advance 5000000).laser 5).st < 4) := by decide +kernel

/-! ### Obligations.PowerControlCommandsComplete -/

def wCur : List Nat := [1800]
def wTargets : List (Nat × Nat × Nat) := [(19, 3, 1800000)]
theorem witness_Step :
    (∀ (t : Nat), (wOn.advance 5000000).power.powerTick = some t → t + 1000 ≤ (wOn.advance 5000000).now) := by decide +kernel
def wEx : State := wOn.mapPower (fun p => { p with exSt := 1, exLeft := 5000000 })
theorem witness_Allowance :
    ((wEx.advance 5000000).power.exSt = 1) ∧
    ((wEx.advance 5000000).power.exLeft ≤ (wEx.advance 5000000).now) := by decide +kernel
def wHoldOff : State := wOn.mapPower (fun p => { p with exSt := 2, holdUntil := 5000000 })
theorem witness_HoldOff :
    ((wHoldOff.advance 5000000).power.exSt = 2) ∧
    ((wHoldOff.advance 5000000).power.holdUntil ≤ (wHoldOff.advance 5000000).now) := by decide +kernel
theorem witness_BallastPause :
    (((wOn.advance 5000000).tower 19).ballastUntil ≤ (wOn.advance 5000000).replica 19) :=
  State.le_replica _ _ _ (by decide +kernel)

/-! ### Obligations.ThermalCommandsComplete -/

def wTh (x : State) : Tower := (x.advance 5000000).tower 19
theorem witness_Model :
    (19 < 20) ∧
    (19 < (wOn.advance 5000000).towers.length) ∧
    (wTh wOn = (wOn.advance 5000000).tower 19) ∧
    ((wTh wOn).useDiode = false) ∧
    (1099 < 1100) := by decide +kernel
theorem witness_ModelTrip :
    (19 < 20) ∧
    (19 < (wOn.advance 5000000).towers.length) ∧
    (wTh wOn = (wOn.advance 5000000).tower 19) ∧
    ((wTh wOn).useDiode = false) ∧
    (1200 ≤ 1200) ∧
    ((wTh wOn).tripState = 0) ∧
    ((wTh wOn).mode ≠ TowerMode.tripped) ∧
    ((wTh wOn).mode ≠ TowerMode.failed) := by decide +kernel
theorem witness_Anchor :
    (19 < 20) ∧
    (19 < (wOn.advance 5000000).towers.length) ∧
    (51 < 1180) := by decide +kernel
theorem witness_AnchorTrip :
    (19 < 20) ∧
    (19 < (wOn.advance 5000000).towers.length) ∧
    (1200 ≤ 1200) ∧
    (((wOn.advance 5000000).tower 19).tripState = 0) ∧
    (((wOn.advance 5000000).tower 19).mode ≠ TowerMode.tripped) ∧
    (((wOn.advance 5000000).tower 19).mode ≠ TowerMode.failed) := by decide +kernel
theorem witness_DiodeTrip :
    (19 < 20) ∧
    (19 < (wOn.advance 5000000).towers.length) ∧
    (1200 ≤ max 1199 1200) ∧
    (((wOn.advance 5000000).tower 19).tripState = 0) ∧
    (((wOn.advance 5000000).tower 19).mode ≠ TowerMode.tripped) ∧
    (((wOn.advance 5000000).tower 19).mode ≠ TowerMode.failed) := by decide +kernel
theorem witness_HubTrip :
    ((wOn.advance 5000000).power.hubTrip = 0) ∧
    (1200 ≤ 1200) := by decide +kernel
def wTripped : State := wOn.mapTower 19 (fun x => { x with mode := .tripped, tripState := 1 })
theorem witness_TripLogic :
    (19 < 20) ∧
    (19 < (wTripped.advance 5000000).towers.length) ∧
    (((wTripped.advance 5000000).tower 19).mode = TowerMode.tripped) ∧
    ((wTripped.advance 5000000).domainOn (logicDomain 19) = true) := by decide +kernel
def wTripMem : State := wTripped.setDomain (logicDomain 19) 0
theorem witness_TripMemory :
    (19 < 20) ∧
    (19 < (wTripMem.advance 5000000).towers.length) ∧
    (((wTripMem.advance 5000000).tower 19).mode = TowerMode.tripped) ∧
    ((wTripMem.advance 5000000).domainOn (logicDomain 19) = false) ∧
    ((wTripMem.advance 5000000).domainOn (memDomain 19) = true) := by decide +kernel
def wBelow : State := (wOn.mapTime (fun t => { t with tally := 20000000000 })).mapTower 19 (fun x => { x with tripState := 2, belowSince := some 10000000000 })
theorem witness_RestartHold :
    (19 < 20 → 19 < (wBelow.advance 20000000000).towers.length) ∧
    (21 ≤ 19 → 19 - 21 < (wBelow.advance 20000000000).power.guestTrip.length) ∧
    ((wBelow.advance 20000000000).belowOf 19 = some 10000000000) ∧
    ((wBelow.advance 20000000000).tripOf 19 = 2) ∧
    (10000000000 + 10000000000 ≤ (wBelow.advance 20000000000).now) := by decide +kernel
def wRestart : State :=
  (wOn.mapTower 19 (fun x => { x with mode := .tripped, tripState := 3 })).mapDict (fun d => { d with pcie := { d.pcie with sels := [(0x810101, 19)] } })
theorem witness_Restart :
    ((wRestart.advance 5000000).Serves 33025) ∧
    (19 = kvGet (wRestart.advance 5000000).dict.pcie.sels 8454401 0) ∧
    (19 < 20) ∧
    (19 < (wRestart.advance 5000000).towers.length) ∧
    ((wRestart.advance 5000000).tripOf 19 = 3) := by decide +kernel
def wWarm : State := wOn.mapPower (fun p => { p with inletBad := some 4000000 })
theorem witness_CoolantBad :
    ((wWarm.advance 5000000).power.coolHold = false) ∧
    (400 < 401) ∧
    ((wWarm.advance 5000000).power.inletBad = some 4000000) ∧
    (4000000 + 1000000 ≤ (wWarm.advance 5000000).now) := by decide +kernel
def wCooled : State := wOn.mapPower (fun p => { p with coolHold := true, coolGood := some 4000000 })
theorem witness_CoolantGood :
    ((wCooled.advance 5000000).power.coolHold = true) ∧
    (400 ≤ 400) ∧
    (140 ≤ 140) ∧
    ((wCooled.advance 5000000).power.coolGood = some 4000000) ∧
    (4000000 + 1000000 ≤ (wCooled.advance 5000000).now) := by decide +kernel

end Power

namespace Bringup


/-! ### Obligations.BringUpCommandsComplete -/

def wOn : State := w0.mapPower (fun p => { p with charged := true, inputUp := true, domains := p.domains.map (fun d => { d with st := 2 }) })
theorem witness_Charged :
    ((w0.advance 5000000).power.shutdown = true ∨ (w0.advance 5000000).power.charged = false) := by decide +kernel
def wFirst : State := w0.mapPower (fun p => { p with charged := true })
theorem witness_FirstDomain :
    ((wFirst.advance 5000000).sequencerFree = true) ∧
    ((wFirst.advance 5000000).nextDomain = some 46) ∧
    (46 < (wFirst.advance 5000000).power.domains.length) ∧
    (46 < 40 → domainTower 46 < (wFirst.advance 5000000).towers.length) := by decide +kernel
def wHubUp : State := wFirst.mapPower (fun p => { p with domains := modAt p.domains 40 (fun d => { d with st := 2 }) })
theorem witness_BootLayer :
    ((wHubUp.advance 5000000).dead = false) ∧
    ((wHubUp.advance 5000000).domainOn 40 = true) ∧
    ((wHubUp.advance 5000000).boot.activating = none) ∧
    ((wHubUp.advance 5000000).boot.recovery = false) ∧
    (1 ≤ 1) ∧
    (1 ≤ 3) ∧
    (1 = (wHubUp.advance 5000000).boot.layers + 1) ∧
    ((if (wHubUp.advance 5000000).boot.runsB 1 = true then false else true) = true) := by decide +kernel
def wLayer3 : State := wHubUp.mapBoot (fun b => { b with layers := 2 })
theorem witness_BootLayer3 :
    ((wLayer3.advance 5000000).dead = false) ∧
    ((wLayer3.advance 5000000).domainOn 40 = true) ∧
    ((wLayer3.advance 5000000).boot.activating = none) ∧
    ((wLayer3.advance 5000000).boot.recovery = false) ∧
    (1 ≤ 3) ∧
    (3 ≤ 3) ∧
    (3 = (wLayer3.advance 5000000).boot.layers + 1) ∧
    ((if (wLayer3.advance 5000000).boot.runsB 3 = true then false else true) = true) := by decide +kernel
theorem witness_BootFails :
    ((wLayer3.advance 5000000).dead = false) ∧
    ((wLayer3.advance 5000000).domainOn 40 = true) ∧
    ((wLayer3.advance 5000000).boot.activating = none) ∧
    ((wLayer3.advance 5000000).boot.recovery = false) ∧
    (1 ≤ 3) ∧
    (3 ≤ 3) ∧
    (3 = (wLayer3.advance 5000000).boot.layers + 1) := by decide +kernel
def wTraining : State := (w0.mapBoot (fun b => { b with baseReady := true })).mapTower 19 (fun x => { x with mode := .training })
theorem witness_TowerReady :
    (19 < 20) ∧
    (19 < (wTraining.advance 5000000).towers.length) ∧
    (((wTraining.advance 5000000).tower 19).mode = TowerMode.training) ∧
    (((wTraining.advance 5000000).tower 19).resetState = TowerResetState.idle) ∧
    (((wTraining.advance 5000000).tower 19).heldInReset = false) ∧
    (((wTraining.advance 5000000).tower 19).group = none) ∧
    ((wTraining.advance 5000000).boot.baseReady = true) := by decide +kernel

/-! ### Obligations.FirmwareCommandsComplete -/

def wImage : ImageIn :=
  { header := [1, 3, 1, 0, 9, 0, 0, 0, 0, 4, 0, 0, 5, 0, 0, 0] ++ List.replicate 240 0
    parts := (List.range 5).flatMap (fun k => BitVec.ofNat 8 (k + 1) :: List.replicate 127 0)
    length := 256 + 1024 + 3373, sigOk := true, bodyOk := true }
def wStageS : State := (w0.mapVault (fun v => { v with anchors := [1, 2, 3, 4, 5] })).mapDict (fun d => { d with held := [(stageLayerKey, 3)] })
theorem witness_Stage :
    ((wStageS.advance 5000000).Serves 4128) ∧
    ((wStageS.advance 5000000).stageCheck wImage = 0) := by decide +kernel
theorem witness_StageFails :
    ((w0.advance 5000000).Serves 4128) ∧
    ((w0.advance 5000000).stageCheck wImage ≠ 0) := by decide +kernel
def wCopy : FwCopy := { svn := 9, raise := true, hash := 5 }
def wPend (l : Nat) : State := w0.mapBoot (fun b => { b with pending := some (l, wCopy), stageSt := 2 })
theorem witness_Activate1 :
    (((wPend 1).advance 5000000).Serves 4128) ∧
    (((wPend 1).advance 5000000).boot.pending = some (1, wCopy)) ∧
    (1 = 1 ∨ 1 = 2) ∧
    (((wPend 1).advance 5000000).vault.mode ≠ VaultMode.erased) ∧
    (((wPend 1).advance 5000000).vault.referenced = false) ∧
    (1 - 1 < ((wPend 1).advance 5000000).boot.running.length) := by decide +kernel
theorem witness_Activate2 :
    (((wPend 2).advance 5000000).Serves 4128) ∧
    (((wPend 2).advance 5000000).boot.pending = some (2, wCopy)) ∧
    (2 = 1 ∨ 2 = 2) ∧
    (((wPend 2).advance 5000000).vault.mode ≠ VaultMode.erased) ∧
    (((wPend 2).advance 5000000).vault.referenced = false) ∧
    (2 - 1 < ((wPend 2).advance 5000000).boot.running.length) := by decide +kernel
theorem witness_Abandon :
    (((wPend 3).advance 5000000).Serves 4128) ∧
    (((wPend 3).advance 5000000).boot.pending.isSome = true) := by decide +kernel
def wStarting : State := w0.mapBoot (fun b => { b with activating := some (2, 4000000) })
theorem witness_StartLimit :
    ((wStarting.advance 5000000).boot.activating = some (2, 4000000)) ∧
    (4000000 + 1000000 ≤ (wStarting.advance 5000000).now) ∧
    (2 - 1 < (wStarting.advance 5000000).boot.running.length) := by decide +kernel
def wReload : State := w0.mapVault (fun v => { v with mode := .transitional, reloading := [3, 47] })
theorem witness_Reload :
    (47 ∈ (wReload.advance 5000000).vault.reloading) ∧
    (47 ≠ 64) := by decide +kernel

/-! ### Obligations.ResetCommandsComplete -/

theorem witness_ModuleReset :
    ((w0.advance 5000000).Serves 4130) ∧
    ((w0.advance 5000000).holdsWork = false) := by decide +kernel
def wFenced : State := wOn.mapTower 19 (fun x => { x with mode := .fenced, fence := true, fenceCause := 1 })
theorem witness_TowerReset :
    (19 < 20) ∧
    (19 < (wFenced.advance 5000000).towers.length) ∧
    ((wFenced.advance 5000000).Serves (towerIndex 19 15)) ∧
    ((wFenced.advance 5000000).holdsBooked 19 = false) ∧
    ((wFenced.advance 5000000).resetAllowed 19 true = true) ∧
    ((wFenced.advance 5000000).resetBlocked 19 = false) := by decide +kernel
theorem witness_TowerResetWarm :
    (19 < 20) ∧
    (19 < (wFenced.advance 5000000).towers.length) ∧
    ((wFenced.advance 5000000).Serves (towerIndex 19 15)) ∧
    ((wFenced.advance 5000000).holdsBooked 19 = false) ∧
    ((wFenced.advance 5000000).resetAllowed 19 false = true) ∧
    ((wFenced.advance 5000000).resetBlocked 19 = false) := by decide +kernel
def wResetting : State := w0.mapTower 19 (fun x => { x with mode := .training, resetState := .off, resetFrom := .fenced, fence := true })
theorem witness_TowerResetEnds :
    (19 < 20) ∧
    (19 < (wResetting.advance 5000000).towers.length) ∧
    (((wResetting.advance 5000000).tower 19).resetState ≠ TowerResetState.idle) ∧
    (((wResetting.advance 5000000).tower 19).heldInReset = false) ∧
    (¬19 ∈ (wResetting.advance 5000000).vault.reloading) ∧
    (((wResetting.advance 5000000).tower 19).mode = TowerMode.training) ∧
    (((wResetting.advance 5000000).tower 19).resetFrom = TowerMode.fenced) ∧
    (((wResetting.advance 5000000).tower 19).fence = true) ∧
    (logicDomain 19 < (wResetting.advance 5000000).power.domains.length) ∧
    (memDomain 19 < (wResetting.advance 5000000).power.domains.length) := by decide +kernel
def wFieldOut : State := w0.mapTower 3 (fun x => { x with mode := .failed })
theorem witness_FieldReset :
    ((wFieldOut.advance 5000000).Serves 20486) ∧
    (3 ≤ 15) ∧
    (3 ≠ 13) ∧
    (3 ≠ 14) ∧
    ((fieldSites 3).all (wFieldOut.advance 5000000).siteOut = true) ∧
    ((wFieldOut.advance 5000000).base.fieldReset = none) := by decide +kernel
def wFieldBusy : State := w0.mapBase (fun b => { b with fieldReset := some 15 })
theorem witness_FieldResetEnds :
    ((wFieldBusy.advance 5000000).base.fieldReset = some 15) ∧
    (¬32 + 15 ∈ (wFieldBusy.advance 5000000).vault.reloading) ∧
    (15 < (wFieldBusy.advance 5000000).base.fieldBankClean.length) := by decide +kernel
def wGuestId : Ident := { w0.ident with guests := 2 }
def wGuestIn : State := { w0.mapVault (fun v => { v with grstHigh := 3, gready := 3 }) with ident := wGuestId }
theorem witness_GuestReset :
    ((wGuestIn.advance 5000000).Serves 29444) ∧
    ((wGuestIn.advance 5000000).hasGuest 1 = true) ∧
    ((wGuestIn.advance 5000000).siteFenced (guestSite 1) = true) := by decide +kernel

end Bringup

namespace TestPort


/-! ### Obligations.TestPortCommandsComplete -/

def wTapBusy : State := w0.mapTower 0 (fun x => { x with mode := .active, records := [wRec 0] })
def wTap : State := w0.mapTap (fun t => { t with access := true })
theorem witness_TapBypass :
    (1 = (w0.advance 5000000).tap.sessions + if (w0.advance 5000000).tap.reset = true then 1 else 0) := by decide +kernel
theorem witness_TapIdcode :
    (1 = (w0.advance 5000000).tap.sessions + if (w0.advance 5000000).tap.reset = true then 1 else 0) := by decide +kernel
theorem witness_TapPreload :
    (1 = (w0.advance 5000000).tap.sessions + if (w0.advance 5000000).tap.reset = true then 1 else 0) ∧
    ((2#8, Instr.samplePreload 5000000) ∈ [(2#8, Instr.samplePreload 5000000), (17#8, Instr.testStatus 5000000)]) := by decide +kernel
theorem witness_TapStatus :
    (1 = (w0.advance 5000000).tap.sessions + if (w0.advance 5000000).tap.reset = true then 1 else 0) ∧
    ((17#8, Instr.testStatus 5000000) ∈ [(2#8, Instr.samplePreload 5000000), (17#8, Instr.testStatus 5000000)]) := by decide +kernel
theorem witness_TapExtest :
    (1 = (w0.advance 5000000).tap.sessions + if (w0.advance 5000000).tap.reset = true then 1 else 0) ∧
    ((3#8, Instr.extest 5000000) ∈ [(3#8, Instr.extest 5000000), (4#8, Instr.clamp 5000000), (5#8, Instr.highz 5000000)]) ∧
    ((w0.advance 5000000).pinsFree = true) := by decide +kernel
theorem witness_TapClamp :
    (1 = (w0.advance 5000000).tap.sessions + if (w0.advance 5000000).tap.reset = true then 1 else 0) ∧
    ((4#8, Instr.clamp 5000000) ∈ [(3#8, Instr.extest 5000000), (4#8, Instr.clamp 5000000), (5#8, Instr.highz 5000000)]) ∧
    ((w0.advance 5000000).pinsFree = true) := by decide +kernel
theorem witness_TapHighz :
    (1 = (w0.advance 5000000).tap.sessions + if (w0.advance 5000000).tap.reset = true then 1 else 0) ∧
    ((5#8, Instr.highz 5000000) ∈ [(3#8, Instr.extest 5000000), (4#8, Instr.clamp 5000000), (5#8, Instr.highz 5000000)]) ∧
    ((w0.advance 5000000).pinsFree = true) := by decide +kernel
theorem witness_TapExtestBusy :
    (1 = (wTapBusy.advance 5000000).tap.sessions + if (wTapBusy.advance 5000000).tap.reset = true then 1 else 0) ∧
    ((3#8, Instr.extest 5000000) ∈ [(3#8, Instr.extest 5000000), (4#8, Instr.clamp 5000000), (5#8, Instr.highz 5000000)]) ∧
    ((wTapBusy.advance 5000000).pinsFree = false) := by decide +kernel
theorem witness_TapClampBusy :
    (1 = (wTapBusy.advance 5000000).tap.sessions + if (wTapBusy.advance 5000000).tap.reset = true then 1 else 0) ∧
    ((4#8, Instr.clamp 5000000) ∈ [(3#8, Instr.extest 5000000), (4#8, Instr.clamp 5000000), (5#8, Instr.highz 5000000)]) ∧
    ((wTapBusy.advance 5000000).pinsFree = false) := by decide +kernel
theorem witness_Segsel :
    (1 = (wTap.advance 5000000).tap.sessions + if (wTap.advance 5000000).tap.reset = true then 1 else 0) ∧
    ((wTap.advance 5000000).insertionHolds (5#40 <<< 36 &&& 549755813887#40) = true) := by decide +kernel
theorem witness_SegselRefused :
    (1 = (wTapBusy.advance 5000000).tap.sessions + if (wTapBusy.advance 5000000).tap.reset = true then 1 else 0) ∧
    ((wTapBusy.advance 5000000).insertionHolds (1#40 &&& 549755813887#40) = false) ∧
    (1#40 &&& 549755813887#40 ≠ 0) := by decide +kernel
theorem witness_TapReset :
    (1 = (w0.advance 5000000).tap.sessions + if (w0.advance 5000000).tap.reset = true then 1 else 0) := by decide +kernel

end TestPort

namespace Dictionary


/-! ### Obligations.DictionaryAccessesComplete -/

def wRow (index sub : Nat) (type : ObjType) (right : Right) : ObjRow := { index, first := sub, last := sub, type, right }
def wBegun (s : State) (i3c : Bool) (index sub : Nat) : State := (s.advance 5000000).begun i3c index sub
def wAt (s : State) : State := (s.advance 5000000).discardWrites 2
def wFor (s : State) (index sub : Nat) : State := (wAt s).begun false index sub
def wTickRow : ObjRow := wRow 0x1200 1 .ticks .ro
theorem witness_ReadTick :
    ((wAt w0).Serves 4608) ∧
    (object? 4608 1 = some wTickRow) ∧
    ((wFor w0 4608 1).objectAbort 4608 1 = 0) ∧
    (wTickRow.right ≠ Right.wo) ∧
    (wTickRow.segmented = false) ∧
    (1 ≤ 8) ∧
    (8 ≤ 3840) ∧
    (((wFor w0 4608 1).objOctets false 4608 1).length ≤ 8) ∧
    (8 ≤ wTickRow.type.size) := by decide +kernel
theorem witness_ReadAbsent :
    ((wAt w0).Serves 4608) ∧
    ((wFor w0 4608 5).objectAbort 4608 5 ≠ 0) ∧
    (1 ≤ 8) ∧
    (8 ≤ 3840) := by decide +kernel
def wSelRow : ObjRow := wRow 0x2100 1 .u8 .rw
def wByte (b : Byte) : List Byte := [b]
def wRange : KeyRange := { key := 0x210001, lo := 0, hi := 4 }
theorem witness_WriteSelection :
    ((wAt w0).Serves 8448) ∧
    (object? 8448 1 = some wSelRow) ∧
    ((wFor w0 8448 1).objectAbort 8448 1 = 0) ∧
    ((wByte 4).length = wSelRow.type.size) ∧
    (1 ≤ (wByte 4).length) ∧
    (wSelRow.segmented = false) ∧
    (8448 * 256 + 1 ≠ 1118211) ∧
    (wSelRow.right.writeAbort = 0) ∧
    (wSelRow.type ≠ ObjType.bool) ∧
    (isTowerIndex 8448 = false) ∧
    (8448 * 256 + 1 ≠ thermalKey) ∧
    (rangeOf selRanges (8448 * 256 + 1) = some wRange) ∧
    (wRange.misses (leNat (wByte 4)) = false) := by decide +kernel
theorem witness_WriteBeyond :
    ((wAt w0).Serves 8448) ∧
    (object? 8448 1 = some wSelRow) ∧
    ((wFor w0 8448 1).objectAbort 8448 1 = 0) ∧
    ((wByte 5).length = wSelRow.type.size) ∧
    (1 ≤ (wByte 5).length) ∧
    (wSelRow.segmented = false) ∧
    (8448 * 256 + 1 ≠ 1118211) ∧
    (wSelRow.right.writeAbort = 0) ∧
    (wSelRow.type ≠ ObjType.bool) ∧
    (isTowerIndex 8448 = false) ∧
    (8448 * 256 + 1 ≠ thermalKey) ∧
    (rangeOf selRanges (8448 * 256 + 1) = some wRange) ∧
    (wRange.misses (leNat (wByte 5)) = true) := by decide +kernel
def wEight : List Byte := List.replicate 8 0
theorem witness_WriteReadOnly :
    ((wAt w0).Serves 4608) ∧
    (object? 4608 1 = some wTickRow) ∧
    ((wFor w0 4608 1).objectAbort 4608 1 = 0) ∧
    (wEight.length = wTickRow.type.size) ∧
    (1 ≤ wEight.length) ∧
    (wTickRow.segmented = false) ∧
    (4608 * 256 + 1 ≠ 1118211) ∧
    (wTickRow.right = Right.ro ∨ wTickRow.right = Right.const) := by decide +kernel

/-! ### Obligations.TransportCommandsComplete -/

theorem witness_BoundExpires :
    ((w0.advance 5000000).dead = false) ∧
    ((w0.advance 5000000).dict.pcieUp = true) ∧
    ((w0.advance 5000000).dict.pcie.served ≤ 4998000) ∧
    ((w0.advance 5000000).accessNow false 4608 1 = false) ∧
    (4998000 + serviceBound 4608 1 false false ≤ (w0.advance 5000000).now) := by decide +kernel
def wSegW : SegWrite := { index := 0x7100, sub := 1, data := [1], tick := 4000000 }
def wSegOpen : State := w0.mapDict (fun d => { d with i3c := { d.i3c with seg := some wSegW } })
theorem witness_IdleExpires :
    (((wSegOpen.advance 5000000).dict.transport true).seg = some wSegW) ∧
    (wSegW.tick + 1000000 ≤ (wSegOpen.advance 5000000).now) ∧
    ((wSegOpen.advance 5000000).accessNow true wSegW.index wSegW.sub = false) := by decide +kernel
def wI3c : State := (w0.mapDict (fun d => { d with i3cAddr := some 9 })).mapBoot (fun b => { b with modState := 2, straps := 5 })
theorem witness_I3cRead :
    ((wI3c.advance 5000000).ServesI3c 4608) ∧
    (i3cReadable 4608 1 = true) ∧
    (object? 4608 1 = some wTickRow) ∧
    (wTickRow.type.size ≤ 32) ∧
    ((wBegun wI3c true 4608 1).objectAbort 4608 1 = 0) ∧
    (wTickRow.right ≠ Right.wo) := by decide +kernel
theorem witness_I3cReadRefused :
    ((wI3c.advance 5000000).ServesI3c 28928) ∧
    (i3cReadable 28928 1 = false) := by decide +kernel
def wFour : List Byte := [0xFF, 0, 0, 0x80]
theorem witness_I3cWrite :
    ((wI3c.advance 5000000).ServesI3c 4368) ∧
    (wFour.length = 4) := by decide +kernel
theorem witness_I3cWriteRefused :
    ((wI3c.advance 5000000).ServesI3c 28928) ∧
    (i3cWritable 28928 1 = false) := by decide +kernel
def wNoAddr : State := wI3c.mapDict (fun d => { d with i3cAddr := none })
theorem witness_Entdaa :
    ((wNoAddr.advance 5000000).i3cLive = true) ∧
    ((wNoAddr.advance 5000000).dict.i3cAddr = none) := by decide +kernel
theorem witness_Rstdaa :
    ((wI3c.advance 5000000).i3cLive = true) := by decide +kernel
theorem witness_Enec :
    ((wI3c.advance 5000000).i3cLive = true) := by decide +kernel
theorem witness_Disec :
    ((wI3c.advance 5000000).i3cLive = true) := by decide +kernel
theorem witness_Getpid :
    ((wI3c.advance 5000000).i3cLive = true) ∧
    ((wI3c.advance 5000000).dict.i3cAddr.isSome = true) ∧
    ((Instr.getpid 5000000, 6) ∈ [(Instr.getpid 5000000, 6), (Instr.getbcr 5000000, 1), (Instr.getdcr 5000000, 1), (Instr.getmwl 5000000, 2), (Instr.getmrl 5000000, 3)]) := by decide +kernel
theorem witness_Getbcr :
    ((wI3c.advance 5000000).i3cLive = true) ∧
    ((wI3c.advance 5000000).dict.i3cAddr.isSome = true) ∧
    ((Instr.getbcr 5000000, 1) ∈ [(Instr.getpid 5000000, 6), (Instr.getbcr 5000000, 1), (Instr.getdcr 5000000, 1), (Instr.getmwl 5000000, 2), (Instr.getmrl 5000000, 3)]) := by decide +kernel
theorem witness_Getdcr :
    ((wI3c.advance 5000000).i3cLive = true) ∧
    ((wI3c.advance 5000000).dict.i3cAddr.isSome = true) ∧
    ((Instr.getdcr 5000000, 1) ∈ [(Instr.getpid 5000000, 6), (Instr.getbcr 5000000, 1), (Instr.getdcr 5000000, 1), (Instr.getmwl 5000000, 2), (Instr.getmrl 5000000, 3)]) := by decide +kernel
theorem witness_Getmwl :
    ((wI3c.advance 5000000).i3cLive = true) ∧
    ((wI3c.advance 5000000).dict.i3cAddr.isSome = true) ∧
    ((Instr.getmwl 5000000, 2) ∈ [(Instr.getpid 5000000, 6), (Instr.getbcr 5000000, 1), (Instr.getdcr 5000000, 1), (Instr.getmwl 5000000, 2), (Instr.getmrl 5000000, 3)]) := by decide +kernel
theorem witness_Getmrl :
    ((wI3c.advance 5000000).i3cLive = true) ∧
    ((wI3c.advance 5000000).dict.i3cAddr.isSome = true) ∧
    ((Instr.getmrl 5000000, 3) ∈ [(Instr.getpid 5000000, 6), (Instr.getbcr 5000000, 1), (Instr.getdcr 5000000, 1), (Instr.getmwl 5000000, 2), (Instr.getmrl 5000000, 3)]) := by decide +kernel
theorem witness_GetpidStraps :
    ((wI3c.advance 5000000).i3cLive = true) ∧
    ((wI3c.advance 5000000).dict.i3cAddr.isSome = true) := by decide +kernel
theorem witness_Getstatus :
    ((wI3c.advance 5000000).i3cLive = true) ∧
    ((wI3c.advance 5000000).dict.i3cAddr.isSome = true) := by decide +kernel
theorem witness_PerstFalls :
    ((w0.advance 5000000).dict.perst = true) := by decide +kernel
def wPerst : State := (w0.mapDict (fun d => { d with perst := false, pcieUp := false })).mapBoot (fun b => { b with layers := 2 })
theorem witness_PerstRises :
    ((wPerst.advance 5000000).dict.perst = false) := by decide +kernel
def wRaised : State := w0.mapLog (fun l => { l with vecP := 7, vecI := 7, raisedAt := [(1, 5000000), (2, 4000000)] })
theorem witness_VectorClear :
    ((wRaised.advance 5000000).Serves 4368) := by decide +kernel

/-! ### Obligations.PinsFollowVectorsAndModuleState -/

def wAlert : State := wI3c.mapLog (fun l => { l with vecI := 0x1A00 })
def wBits : BitVec 32 := 0x1A00
theorem witness_AlertReleased :
    ((wAlert.advance 5000000).ServesI3c 4368) ∧
    (∀ (v : Nat), v ∈ [9, 11, 12] → wBits.getLsbD v = true ∧ kvHas (wAlert.advance 5000000).log.raisedAt v = false) := by decide +kernel
def wCharged : State := w0.mapPower (fun p => { p with charged := true })
theorem witness_ReadyFalls :
    ((wCharged.advance 5000000).power.shutdown = false) ∧
    ((wCharged.advance 5000000).power.charged = true) ∧
    (37999 < 38000 ∨ 63000 < 37999) ∧
    (10000 ≤ 10000) := by decide +kernel

/-! ### Obligations.EmptyQueueStepIsOneClockPeriod -/

def wHoldS : State := w0.mapTime (fun t => { t with hold := 3 })
theorem witness_IdleTick :
    (w0.pending = []) ∧
    (w0.time.started = true) ∧
    (w0.time.hold = 0) := by decide +kernel
theorem witness_IdleHold :
    (wHoldS.pending = []) ∧
    (wHoldS.time.started = true) ∧
    (wHoldS.time.hold ≠ 0) := by decide +kernel

/-! ### Obligations.EveryStepKeepsMemoryAndRings -/

def wOnce : State := { w0 with pending := [.epochWindowClose 5000000] }
def wAfter : State := match step wOnce with | .next t => t | _ => wOnce

/-! ### Obligations.TallyNeverDecreases -/

theorem witness_StepKeeps : wOnce.MemoryCanonical ∧ wOnce.RingsBounded ∧ step wOnce = .next wAfter :=
  ⟨by decide +kernel, by decide +kernel, rfl⟩
theorem witness_StepTally : step wOnce = .next wAfter ∧ ∀ at_ rest, wOnce.pending ≠ .inputCharged at_ :: rest :=
  ⟨rfl, by intro a r h; cases h⟩

end Dictionary

end Sys2Proof.Tests
end

/-!
Floor capacity (R80, R81): the number of active regions of a tower, its bounds, and the loss of one region.
-/
namespace Sys2Proof.Proofs.FloorCapacity

open Sys2Proof Sys2Proof.Machine

theorem activeRegions_le_length (x : Tower) : x.activeRegions ≤ x.regions.length :=
  List.length_filter_le _ _

theorem activeRegions_eq_countP (x : Tower) : x.activeRegions = x.regions.countP (fun r => r.st != .lost) :=
  List.countP_eq_length_filter.symm

/-- R80: on a compute tower every active region counts. -/
theorem floorCapacity_of_compute {x : Tower} (hx : x.isCache = false) : x.floorCapacity = 16 * x.activeRegions := by
  simp [Tower.floorCapacity, hx]

/-- R81: on a cache tower one active region is held back. -/
theorem floorCapacity_of_cache {x : Tower} (hx : x.isCache = true) : x.floorCapacity = 64 * (x.activeRegions - 1) := by
  simp [Tower.floorCapacity, hx]

/-- The region that goes is one of those counted, so the count is positive before and one less after. -/
theorem activeRegions_set_lost {x : Tower} {q : Nat} {g : Region} (hg : x.regions[q]? = some g) (hact : g.st ≠ .lost) :
    ({ x with regions := x.regions.set q { g with st := .lost } } : Tower).activeRegions + 1 = x.activeRegions := by
  obtain ⟨hq, hget⟩ := List.getElem?_eq_some_iff.mp hg
  have hpos : 0 < x.regions.countP (fun r => r.st != .lost) :=
    List.countP_pos_iff.mpr ⟨g, List.mem_of_getElem? hg, by simpa using hact⟩
  have hset : (x.regions.set q { g with st := .lost }).countP (fun r => r.st != .lost)
      = x.regions.countP (fun r => r.st != .lost) - 1 := by
    simp [List.countP_set hq, hget, hact]
  rw [activeRegions_eq_countP, activeRegions_eq_countP, hset]
  exact Nat.sub_add_cancel hpos

/-- Settles O6: each bound is the count of active regions against the number of regions, and losing a region takes one from it. -/
theorem floorCapacityCountsActiveRegions : Obligations.FloorCapacityCountsActiveRegions := by
  intro x
  have hle := activeRegions_le_length x
  refine ⟨fun hx => ?compute, fun hx => ?cache⟩
  case compute =>
    have hcap := floorCapacity_of_compute hx
    refine ⟨hcap, fun _ => by omega, fun q g hg hact => ?_⟩
    have hcount := activeRegions_set_lost hg hact
    rw [hcap, floorCapacity_of_compute]
    · omega
    · exact hx
  case cache =>
    have hcap := floorCapacity_of_cache hx
    exact ⟨fun _ => by omega, fun _ => by omega, fun _ => by omega⟩

end Sys2Proof.Proofs.FloorCapacity

/-!
Region barriers (R203): what an arrival leaves in the barrier of its tower, and when it completes the step.
-/
namespace Sys2Proof.Proofs.RegionBarrier

open Sys2Proof Sys2Proof.Machine

@[simp] theorem mem_insertNat {l : List Nat} {n m : Nat} : m ∈ insertNat l n ↔ m = n ∨ m ∈ l := by
  induction l with
  | nil => simp [insertNat]
  | cons a rest ih =>
    simp only [insertNat]
    split
    · simp
    · split
      next _ heq => subst heq; simp
      next => simp only [List.mem_cons, ih, or_left_comm]

/-- The regions whose arrivals for step `k` tower `x` has taken. -/
def arrived (x : Tower) (k : Nat) : List Nat := if x.barrier.1 = k then x.barrier.2 else []

/-- With the arrival of region `r`, step `k` of tower `x` waits for region `q` no more: `q` is `r` itself, has arrived before, or is out of
service. -/
def Settled (x : Tower) (r k q : Nat) : Prop := q = r ∨ q ∈ arrived x k ∨ ∀ g ∈ x.regions[q]?, g.st = .lost

/-- The test of `Tower.barrierArrival` over the regions, said of each region by its number. -/
theorem allArrived_iff (x : Tower) (r k : Nat) :
    x.regions.zipIdx.all (fun g => g.1.st == .lost || (insertNat (arrived x k) r).contains g.2) = true
      ↔ ∀ q < x.regions.length, Settled x r k q := by
  simp only [List.all_eq_true, Prod.forall, List.mk_mem_zipIdx_iff_getElem?, Bool.or_eq_true, beq_iff_eq, List.contains_iff_mem,
    mem_insertNat, Settled, Option.mem_def]
  constructor
  · intro h q hq
    have hget := List.getElem?_eq_getElem hq
    rcases h _ q hget with hlost | hr | hmem
    · exact .inr (.inr fun g hg => by rw [hget] at hg; cases hg; exact hlost)
    · exact .inl hr
    · exact .inr (.inl hmem)
  · intro h g q hg
    obtain ⟨hq, -⟩ := List.getElem?_eq_some_iff.mp hg
    rcases h q hq with hr | hmem | hlost
    · exact .inr (.inl hr)
    · exact .inr (.inr hmem)
    · exact .inl (hlost g hg)

/-- R203: the arrival that settles every region completes the step, and the next one opens with none arrived. -/
theorem barrierArrival_completes {x : Tower} {r k : Nat} (h : ∀ q < x.regions.length, Settled x r k q) :
    (x.barrierArrival r k).barrier = (k + 1, []) :=
  if_pos ((allArrived_iff x r k).mpr h)

theorem otherTowersSame_mapTower (u : State) (t : Nat) (f : Tower → Tower) : OtherTowersSame t u (u.mapTower t f) := by
  intro k hk
  simp [hk]

/-- On a compute tower the arrival changes that tower, and nothing else. -/
theorem exec_regionBarrierArrival (at_ t r k : Nat) (s : State) (ht : t < 16) :
    exec (.regionBarrierArrival at_ t r k) s = .next ((s.advance at_).mapTower t (fun x => x.barrierArrival r k)) :=
  congrArg Host.Outcome.next (if_pos ht)

/-- Settles O22: every region in service is settled, the arriving one by its arrival, so the test of the step succeeds. -/
theorem barrierCompletesWithLastRegion : Obligations.BarrierCompletesWithLastRegion := by
  rintro s at_ t r k u rfl ht hlen hstep hregions
  refine ⟨_, exec_regionBarrierArrival at_ t r k s ht, ?barrier, otherTowersSame_mapTower _ t _⟩
  case barrier =>
    rw [State.tower_mapTower _ _ _ _ hlen, if_pos rfl]
    exact barrierArrival_completes (by simpa only [Settled, arrived, if_pos hstep] using hregions)

end Sys2Proof.Proofs.RegionBarrier

/-!
The spare plane of a pair (R223) and the four planes in rotation while the spare stands in for a wavelength and after (R239).
-/
namespace Sys2Proof.Proofs.SparePlane

open Sys2Proof Sys2Proof.Machine

/-! ## Sorting what is in order -/

theorem insertBy_append_of_not_before {α : Type} {before : α → α → Bool} {a : α} {l : List α} (h : ∀ b ∈ l, before a b = false) :
    insertBy before a l = l ++ [a] := by
  induction l with
  | nil => rfl
  | cons b rest ih =>
    obtain ⟨hb, hrest⟩ := List.forall_mem_cons.mp h
    simp only [insertBy, hb, ih hrest, List.cons_append, Bool.false_eq_true, if_false]

/-- Elements that go ahead of no earlier one are appended as they come. -/
theorem foldl_insertBy_of_pairwise {α : Type} {before : α → α → Bool} {l acc : List α}
    (h : (acc ++ l).Pairwise (fun a b => before b a = false)) : l.foldl (fun acc a => insertBy before a acc) acc = acc ++ l := by
  induction l generalizing acc with
  | nil => exact (List.append_nil acc).symm
  | cons a rest ih =>
    have hfirst : ∀ b ∈ acc, before a b = false := fun b hb => (List.pairwise_append.mp h).2.2 b hb a List.mem_cons_self
    have hassoc : acc ++ a :: rest = acc ++ [a] ++ rest := List.append_cons acc a rest
    calc (a :: rest).foldl (fun acc a => insertBy before a acc) acc
        = rest.foldl (fun acc a => insertBy before a acc) (acc ++ [a]) := by
          rw [List.foldl_cons, insertBy_append_of_not_before hfirst]
      _ = acc ++ [a] ++ rest := ih (hassoc ▸ h)
      _ = acc ++ a :: rest := hassoc.symm

/-- Sorting keeps a list of which no element goes ahead of an earlier one. -/
theorem sortBy_of_pairwise {α : Type} {before : α → α → Bool} {l : List α} (h : l.Pairwise (fun a b => before b a = false)) :
    sortBy before l = l :=
  foldl_insertBy_of_pairwise (acc := []) h

/-- A rotation in plane order in which the spare stands in for no plane is in order of position. -/
theorem reorder_planes_of_pairwise {p : Pair} {q : Nat} (hstand : p.standFor = none) (hord : p.planes.Pairwise (· < ·)) :
    (p.reorder q).planes = p.planes := by
  have hhome : ∀ pl, p.home q pl = pl := fun pl => by simp only [Pair.home, hstand, Option.getD_none, ite_self]
  refine sortBy_of_pairwise (hord.imp fun {a b} hab => decide_eq_false ?_)
  rw [hhome, hhome]
  exact Nat.lt_asymm hab

/-! ## The spare takes a position and gives it back -/

section Replace

variable {p : Pair} {q w st : Nat}

theorem leave_eq_replace (hspare : p.spare = 0) (hw : w ∈ p.planes) (hwq : w ≠ q) : p.leave q w st = p.replace q w st := by
  simp only [Pair.leave, hspare, hwq, and_false, List.contains_eq_mem, hw, decide_true, Bool.not_true, Bool.false_eq_true, if_false,
    if_true]

theorem length_replace_planes : (p.replace q w st).planes.length = p.planes.length := List.length_map _

theorem mem_replace_planes {o : Nat} : o ∈ (p.replace q w st).planes ↔ (w ∈ p.planes ∧ o = q) ∨ (o ∈ p.planes ∧ o ≠ w) := by
  simp only [Pair.replace, List.mem_map]
  constructor
  · rintro ⟨x, hx, rfl⟩
    by_cases hxw : x = w
    · exact .inl ⟨hxw ▸ hx, if_pos hxw⟩
    · rw [if_neg hxw]
      exact .inr ⟨hx, hxw⟩
  · rintro (⟨hw, rfl⟩ | ⟨ho, how⟩)
    · exact ⟨w, hw, if_pos rfl⟩
    · exact ⟨o, ho, if_neg how⟩

theorem not_mem_replace_planes (hwq : w ≠ q) : w ∉ (p.replace q w st).planes := fun h =>
  (mem_replace_planes.mp h).elim (fun ⟨_, hq⟩ => hwq hq) (fun ⟨_, hw⟩ => hw rfl)

/-- The spare is new to the rotation, so no plane stands in it twice. -/
theorem nodup_replace_planes (hnd : p.planes.Nodup) (hq : q ∉ p.planes) : (p.replace q w st).planes.Nodup := by
  refine List.pairwise_map.mpr (hnd.imp_of_mem fun {x y} hx hy hxy => ?_)
  have hxq : x ≠ q := fun h => hq (h ▸ hx)
  have hyq : y ≠ q := fun h => hq (h ▸ hy)
  by_cases hxw : x = w
  · have hyw : y ≠ w := fun h => hxy (hxw.trans h.symm)
    simpa only [hxw, hyw, if_true, if_false] using hyq.symm
  · by_cases hyw : y = w
    · simpa only [hxw, hyw, if_true, if_false] using hxq
    · simpa only [hxw, hyw, if_false] using hxy

/-- The spare holds the position of `w` alone, so putting `w` back in the spare's place gives the first rotation. -/
theorem map_back_replace_planes (hq : q ∉ p.planes) :
    (p.replace q w st).planes.map (fun x => if x = q then w else x) = p.planes := by
  simp only [Pair.replace, List.map_map]
  refine (List.map_congr_left fun x hx => ?_).trans (List.map_id _)
  have hxq : x ≠ q := fun h => hq (h ▸ hx)
  by_cases hxw : x = w
  · simp only [Function.comp_apply, hxw, if_true, id_eq]
  · simp only [Function.comp_apply, hxw, hxq, if_false, id_eq]

/-- R239: a wavelength that has left comes back to a pair of which no other plane is out; the rotation is as it was. -/
theorem rejoin_replace_planes (hdead : p.dead = []) (hord : p.planes.Pairwise (· < ·)) (hq : q ∉ p.planes) (hwq : w ≠ q)
    (hall : ∀ o < 5, o ≠ q → o ∈ p.planes) : ((p.replace q w st).rejoin q w).planes = p.planes := by
  have hin : w ∉ (p.replace q w st).planes := not_mem_replace_planes hwq
  have hnone : (List.range 5).find? (fun o => o != q && o != w && !(p.replace q w st).planes.contains o) = none := by
    simp only [List.find?_eq_none, List.mem_range]
    intro o ho hout
    obtain ⟨⟨hoq, how⟩, hoout⟩ : (o ≠ q ∧ o ≠ w) ∧ o ∉ (p.replace q w st).planes := by
      simpa only [List.contains_eq_mem, Bool.and_eq_true, bne_iff_ne, Bool.not_eq_true', decide_eq_false_iff_not] using hout
    exact hoout (mem_replace_planes.mpr (.inr ⟨hall o ho hoq, how⟩))
  have hback := map_back_replace_planes (p := p) (w := w) (st := st) hq
  have hnotDead : w ∉ (p.replace q w st).dead := by simp only [Pair.replace, hdead, List.not_mem_nil, not_false_eq_true]
  have hstand : (p.replace q w st).standFor = some w := rfl
  simp only [Pair.rejoin, List.contains_iff_mem, hnotDead, hin, hstand, hnone, hwq, or_self, if_false, if_true]
  exact (reorder_planes_of_pairwise rfl (hback.symm ▸ hord)).trans hback

end Replace

/-! ## The pair at power-on -/

theorem sparePlane_comm (i j : Nat) : sparePlane j i = sparePlane i j := congrArg (· % 5) (Nat.add_comm j i)

/-- R223: the data planes DP0 to DP4 without the spare. -/
theorem fresh_planes_eq_erase (i j : Nat) : (Pair.fresh i j).planes = (List.range 5).erase (sparePlane i j) := by
  rw [List.nodup_range.erase_eq_filter]
  exact List.filter_congr fun _ _ => Bool.eq_iff_iff.mpr (decide_eq_true_iff.trans bne_iff_ne.symm)

theorem mem_fresh_planes {i j o : Nat} : o ∈ (Pair.fresh i j).planes ↔ o < 5 ∧ o ≠ sparePlane i j := by
  rw [fresh_planes_eq_erase, List.nodup_range.mem_erase_iff, List.mem_range, and_comm]

theorem pairwise_fresh_planes (i j : Nat) : (Pair.fresh i j).planes.Pairwise (· < ·) := by
  rw [fresh_planes_eq_erase]
  exact List.pairwise_lt_range.sublist List.erase_sublist

theorem nodup_fresh_planes (i j : Nat) : (Pair.fresh i j).planes.Nodup := (pairwise_fresh_planes i j).imp Nat.ne_of_lt

/-- The spare is one of the five data planes, so four others remain. -/
theorem length_fresh_planes (i j : Nat) : (Pair.fresh i j).planes.length = 4 := by
  have hq : sparePlane i j ∈ List.range 5 := List.mem_range.mpr (Nat.mod_lt _ (by decide))
  rw [fresh_planes_eq_erase, List.length_erase_of_mem hq, List.length_range]

/-- Settles O27: a wavelength that leaves the pair at power-on gives its position to the spare, and takes it back from the spare. -/
theorem sparePlaneKeepsFourInRotation : Obligations.SparePlaneKeepsFourInRotation := by
  intro i j
  refine ⟨rfl, sparePlane_comm i j, fun _ => mem_fresh_planes, pairwise_fresh_planes i j, length_fresh_planes i j, rfl,
    fun w st hw _ => ?_⟩
  have hwq : w ≠ sparePlane i j := (mem_fresh_planes.mp hw).2
  have hq : sparePlane i j ∉ (Pair.fresh i j).planes := fun h => (mem_fresh_planes.mp h).2 rfl
  have hleave : ∀ st, (Pair.fresh i j).leave (sparePlane i j) w st = (Pair.fresh i j).replace (sparePlane i j) w st :=
    fun _ => leave_eq_replace rfl hw hwq
  rw [hleave, hleave]
  refine ⟨?four, nodup_replace_planes (nodup_fresh_planes i j) hq, not_mem_replace_planes hwq, ?returned⟩
  case four => rw [length_replace_planes, length_fresh_planes]
  case returned =>
    exact rejoin_replace_planes rfl (pairwise_fresh_planes i j) hq hwq fun o ho hoq => mem_fresh_planes.mpr ⟨ho, hoq⟩

end Sys2Proof.Proofs.SparePlane

/-!
The fit of a booking (R377): the ledger tests only the slots where a sum can rise, and between two of these the sums only fall.
-/
namespace Sys2Proof.Proofs.BookingFit

open Sys2Proof Sys2Proof.Machine

/-! ## Sums over the entries that a test selects -/

theorem sumNat_eq_sum (l : List Nat) : sumNat l = l.sum := List.sum_eq_foldl.symm

theorem sum_le_sum_of_sublist {l₁ l₂ : List Nat} (h : l₁.Sublist l₂) : l₁.sum ≤ l₂.sum := by
  induction h with
  | slnil => exact Nat.le_refl _
  | cons a _ ih => rw [List.sum_cons]; exact Nat.le_add_left_of_le ih
  | cons_cons a _ ih => rw [List.sum_cons, List.sum_cons]; exact Nat.add_le_add_left ih a

theorem sum_map_filter_le {α : Type} {l : List α} {p q : α → Bool} (f : α → Nat) (h : ∀ a ∈ l, p a = true → q a = true) :
    ((l.filter p).map f).sum ≤ ((l.filter q).map f).sum := by
  have hpq : l.filter p = (l.filter q).filter p := by
    rw [List.filter_filter]
    exact List.filter_congr fun a ha => Bool.eq_self_and.mpr (h a ha)
  rw [hpq]
  exact sum_le_sum_of_sublist (List.filter_sublist.map f)

theorem exists_greatest_mem_le {l : List Nat} {a x : Nat} (ha : a ∈ l) (hax : a ≤ x) :
    ∃ m ∈ l, m ≤ x ∧ ∀ k ∈ l, k ≤ x → k ≤ m := by
  induction x with
  | zero => exact ⟨a, ha, hax, fun k _ hk => Nat.le_trans hk (Nat.zero_le a)⟩
  | succ y ih =>
    by_cases hy : y + 1 ∈ l
    · exact ⟨y + 1, hy, Nat.le_refl _, fun _ _ hk => hk⟩
    · have hbelow : ∀ k ∈ l, k ≤ y + 1 → k ≤ y := by
        intro k hk hky
        have hne : k ≠ y + 1 := fun he => hy (he ▸ hk)
        omega
      obtain ⟨m, hm, hmy, hlast⟩ := ih (hbelow a ha hax)
      exact ⟨m, hm, Nat.le_succ_of_le hmy, fun k hk hky => hlast k hk (hbelow k hk hky)⟩

/-! ## The slots of an entry and of a booking -/

theorem need_covers_iff {n : Need} {x : Nat} : n.covers x = true ↔ n.start ≤ x ∧ x < n.start + n.len := by
  simp only [Need.covers, Bool.and_eq_true, decide_eq_true_eq]

theorem booking_covers_iff {b : Booking} {x : Nat} : b.covers x = true ↔ b.start ≤ x ∧ x < b.start + b.len := by
  simp only [Booking.covers, Bool.and_eq_true, decide_eq_true_eq]

section Marks
variable {l : LedgerSt} {rec_ : Bool} {limit : Resource → Nat} {ns : List Need} {n : Need} {r : Resource} {x m : Nat}

theorem start_mem_marks_of_need (hn : n ∈ ns) : n.start ∈ l.marks rec_ ns n.res :=
  List.mem_append_left _ (List.mem_map_of_mem (List.mem_filter.mpr ⟨hn, beq_self_eq_true _⟩))

theorem start_mem_marks_of_booking {b : Booking} (hb : b ∈ l.bookings) (hrec : b.recovery = rec_) :
    b.start ∈ l.marks rec_ ns b.res :=
  List.mem_append_right _ (List.mem_map_of_mem (List.mem_filter.mpr ⟨hb, by simp only [hrec, beq_self_eq_true, Bool.and_self]⟩))

/-! ## From one mark to the next the sums do not rise -/

theorem neededAt_le_of_marks (hmx : m ≤ x) (hlast : ∀ k ∈ l.marks rec_ ns r, k ≤ x → k ≤ m) : neededAt ns r x ≤ neededAt ns r m := by
  simp only [neededAt, sumNat_eq_sum]
  refine sum_map_filter_le _ fun n hn hx => ?_
  simp only [Bool.and_eq_true, beq_iff_eq, need_covers_iff] at hx ⊢
  obtain ⟨rfl, hstart, hend⟩ := hx
  exact ⟨rfl, hlast _ (start_mem_marks_of_need hn) hstart, Nat.lt_of_le_of_lt hmx hend⟩

theorem bookedAt_le_of_marks (hmx : m ≤ x) (hlast : ∀ k ∈ l.marks rec_ ns r, k ≤ x → k ≤ m) :
    l.bookedAt rec_ r x ≤ l.bookedAt rec_ r m := by
  simp only [LedgerSt.bookedAt, sumNat_eq_sum]
  refine sum_map_filter_le _ fun b hb hx => ?_
  simp only [Bool.and_eq_true, beq_iff_eq, booking_covers_iff] at hx ⊢
  obtain ⟨⟨hrec, rfl⟩, hstart, hend⟩ := hx
  exact ⟨⟨hrec, rfl⟩, hlast _ (start_mem_marks_of_booking hb hrec) hstart, Nat.lt_of_le_of_lt hmx hend⟩

/-- What the ledger tests: the marks that an entry covers. -/
theorem fits_iff_marks : l.fits rec_ limit ns = true ↔
    ∀ n ∈ ns, ∀ x ∈ l.marks rec_ ns n.res, n.covers x = true → l.bookedAt rec_ n.res x + neededAt ns n.res x ≤ limit n.res := by
  simp only [LedgerSt.fits, List.all_eq_true, Bool.or_eq_true, Bool.not_eq_true', decide_eq_true_eq, ← Bool.not_eq_true,
    ← Decidable.imp_iff_not_or]

/-- R377: the tested marks speak for every slot that an entry covers, through the last mark at or before it. -/
theorem fits_iff_covers : l.fits rec_ limit ns = true ↔
    ∀ n ∈ ns, ∀ x, n.covers x = true → l.bookedAt rec_ n.res x + neededAt ns n.res x ≤ limit n.res := by
  rw [fits_iff_marks]
  refine ⟨fun h n hn x hx => ?_, fun h n hn x _ => h n hn x⟩
  obtain ⟨hstart, hend⟩ := need_covers_iff.mp hx
  have hmark : n.start ∈ l.marks rec_ ns n.res := start_mem_marks_of_need hn
  obtain ⟨m, hm, hmx, hlast⟩ := exists_greatest_mem_le hmark hstart
  have hcov : n.covers m = true := need_covers_iff.mpr ⟨hlast _ hmark hstart, Nat.lt_of_le_of_lt hmx hend⟩
  calc l.bookedAt rec_ n.res x + neededAt ns n.res x
      ≤ l.bookedAt rec_ n.res m + neededAt ns n.res m := Nat.add_le_add (bookedAt_le_of_marks hmx hlast) (neededAt_le_of_marks hmx hlast)
    _ ≤ limit n.res := h n hn m hm hcov

/-! ## What booking leaves in a slot -/

theorem bookedAt_book (l : LedgerSt) (tenant seq : Nat) (rec_ : Bool) (ns : List Need) (r : Resource) (x : Nat) :
    (l.book tenant seq rec_ ns).bookedAt rec_ r x = l.bookedAt rec_ r x + neededAt ns r x := by
  simp only [LedgerSt.bookedAt, LedgerSt.book, neededAt, sumNat_eq_sum, List.filter_append, List.filter_map, List.map_append, List.map_map,
    List.sum_append, Function.comp_def, Booking.covers, Need.covers, beq_self_eq_true, Bool.true_and]

theorem neededAt_eq_zero (h : ∀ n ∈ ns, n.res = r → n.covers x = false) : neededAt ns r x = 0 := by
  have hnone : ns.filter (fun n => n.res == r && n.covers x) = [] := by
    simpa only [List.filter_eq_nil_iff, Bool.and_eq_true, beq_iff_eq, not_and, Bool.not_eq_true] using h
  rw [neededAt, hnone]
  rfl

/-- A slot that an entry covers stays within the limit, and every other keeps what was booked there. -/
theorem bookedAt_book_le_of_fits (hfits : l.fits rec_ limit ns = true) (tenant seq : Nat) (r : Resource) (x : Nat) :
    (l.book tenant seq rec_ ns).bookedAt rec_ r x ≤ max (l.bookedAt rec_ r x) (limit r) := by
  rw [bookedAt_book]
  by_cases hcov : ∃ n ∈ ns, n.res = r ∧ n.covers x = true
  · obtain ⟨n, hn, rfl, hx⟩ := hcov
    exact Nat.le_trans (fits_iff_covers.mp hfits n hn x hx) (Nat.le_max_right _ _)
  · have hzero : neededAt ns r x = 0 := neededAt_eq_zero fun n hn hres => Bool.eq_false_iff.mpr fun hx => hcov ⟨n, hn, hres, hx⟩
    rw [hzero, Nat.add_zero]
    exact Nat.le_max_left _ _

end Marks

/-- Settles O39: the marks that the ledger tests speak for every slot, and booking adds the needed amounts to the booked ones. -/
theorem bookingFitsWhenEverySlotDoes : Obligations.BookingFitsWhenEverySlotDoes := by
  intro l rec_ limit ns tenant seq
  refine ⟨?fit, fun hfits r x => bookedAt_book_le_of_fits hfits tenant seq r x⟩
  case fit => simp only [fits_iff_covers, need_covers_iff, and_imp, neededAt, sumNat_eq_sum]

end Sys2Proof.Proofs.BookingFit

/-!
The output pins (R583, R584): ALERT_L over a clear of vectors through I3C (R559, R565), MOD_READY over a shutdown (R484).
-/
namespace Sys2Proof.Proofs.OutputPins

open Sys2Proof Sys2Proof.Machine

/-! ## The pins as the state gives them -/

theorem decides_iff {s : State} : s.decides = true ↔ s.pair.mode = .unbound ∨ s.pair.mode = .active ∨ s.pair.mode = .solo := by
  simp only [State.decides, Bool.or_eq_true, beq_iff_eq, or_assoc]

/-- R583: the unit drives its pins, and an alarm vector stands in the I3C copy. -/
theorem alertL_iff {s : State} : s.alertL = true ↔
    s.dead = false ∧ (s.pair.mode = .unbound ∨ s.pair.mode = .active ∨ s.pair.mode = .solo)
      ∧ (s.log.vecI.getLsbD 9 = true ∨ s.log.vecI.getLsbD 11 = true ∨ s.log.vecI.getLsbD 12 = true) := by
  simp only [State.alertL, State.drives, Bool.and_eq_true, Bool.or_eq_true, Bool.not_eq_true', decides_iff, and_assoc, or_assoc]

theorem alertL_eq_false_of_vecI {s : State} (h : ∀ v ∈ [9, 11, 12], s.log.vecI.getLsbD v = false) : s.alertL = false := by
  obtain ⟨h9, h11, h12⟩ : s.log.vecI.getLsbD 9 = false ∧ s.log.vecI.getLsbD 11 = false ∧ s.log.vecI.getLsbD 12 = false := by
    simpa using h
  simp only [State.alertL, h9, h11, h12, Bool.or_self, Bool.and_false]

theorem modReady_iff {s : State} : s.modReady = true ↔ s.boot.modState = 3 ∧ s.power.shutdown = false := by
  simp only [State.modReady, Bool.and_eq_true, decide_eq_true_eq, Bool.not_eq_true']

theorem modReady_eq_false_of_shutdown {s : State} (h : s.power.shutdown = true) : s.modReady = false := by
  simp only [State.modReady, h, Bool.not_true, Bool.and_false]

/-! ## A clear in the I3C copy (R565) -/

section Clear
variable {l : LogSt} {t v w : Nat} {up : Bool}

theorem raisedAt_clearVector_i3c : (l.clearVector true t up v).raisedAt = l.raisedAt := by
  simp only [LogSt.clearVector, if_true]
  repeat' split
  all_goals rfl

theorem vecP_clearVector_i3c : (l.clearVector true t up v).vecP = l.vecP := by
  simp only [LogSt.clearVector, if_true]
  repeat' split
  all_goals rfl

/-- The vector stays as it is where it was raised in the tick of the clear. -/
theorem vecI_clearVector_i3c : (l.clearVector true t up v).vecI =
    if l.vecI.getLsbD v = false ∨ kvGet l.raisedAt v 0 = t ∧ kvHas l.raisedAt v = true then l.vecI else l.vecI &&& ~~~(1#32 <<< v) := by
  simp only [LogSt.clearVector, if_true]
  cases l.vecI.getLsbD v
  case false => simp only [Bool.not_false, if_true, true_or]
  case true =>
    by_cases hnow : kvGet l.raisedAt v 0 = t ∧ kvHas l.raisedAt v = true
    · simp only [hnow, Bool.not_true, Bool.false_eq_true, Bool.and_self, decide_true, if_false, if_true, or_true, and_self]
      split <;> rfl
    · simp only [hnow, Bool.not_true, Bool.and_eq_true, decide_eq_true_eq, Bool.true_eq_false, Bool.false_eq_true, if_false, or_self]

theorem vecI_clearVector_i3c_of_clear (h : l.vecI.getLsbD w = false) : (l.clearVector true t up v).vecI.getLsbD w = false := by
  rw [vecI_clearVector_i3c]
  split
  · exact h
  · rw [BitVec.getLsbD_and, h, Bool.false_and]

theorem vecI_clearVector_i3c_self (hraised : kvHas l.raisedAt v = false) : (l.clearVector true t up v).vecI.getLsbD v = false := by
  rw [vecI_clearVector_i3c]
  split
  next hkept => simpa [hraised] using hkept
  next => simp

/-- The clear of one vector in the I3C copy, as `State.clearVectors` folds it. -/
def clearI3c (s : State) (v : Nat) : State := s.mapLog (fun l => l.clearVector true s.now s.dict.pcieUp v)

theorem clearI3c_log (s : State) (v : Nat) : (clearI3c s v).log = s.log.clearVector true s.now s.dict.pcieUp v := rfl

theorem clearVectors_i3c (s : State) (bits : BitVec 32) :
    s.clearVectors true bits = ((List.range 32).filter (fun v => bits.getLsbD v)).foldl clearI3c s := rfl

theorem vecI_foldl_clearI3c {s : State} {vs : List Nat} (hraised : kvHas s.log.raisedAt w = false)
    (h : s.log.vecI.getLsbD w = false ∨ w ∈ vs) : (vs.foldl clearI3c s).log.vecI.getLsbD w = false := by
  induction vs generalizing s with
  | nil => simpa using h
  | cons v vs ih =>
    refine ih (s := clearI3c s v) (by rwa [clearI3c_log, raisedAt_clearVector_i3c]) ?_
    rw [clearI3c_log]
    rcases h with hclear | hmem
    · exact .inl (vecI_clearVector_i3c_of_clear hclear)
    · rcases List.mem_cons.mp hmem with rfl | hrest
      · exact .inl (vecI_clearVector_i3c_self hraised)
      · exact .inr hrest

theorem vecI_clearVectors_i3c {s : State} {bits : BitVec 32} (hraised : kvHas s.log.raisedAt w = false) (hbit : bits.getLsbD w = true) :
    (s.clearVectors true bits).log.vecI.getLsbD w = false := by
  have hmem : w ∈ (List.range 32).filter (fun v => bits.getLsbD v) :=
    List.mem_filter.mpr ⟨List.mem_range.mpr (BitVec.lt_of_getLsbD hbit), hbit⟩
  rw [clearVectors_i3c]
  exact vecI_foldl_clearI3c hraised (.inr hmem)

theorem vecP_clearVectors_i3c (s : State) (bits : BitVec 32) : (s.clearVectors true bits).log.vecP = s.log.vecP := by
  rw [clearVectors_i3c]
  refine foldl_keeps (fun u => u.log.vecP = s.log.vecP) clearI3c _ s rfl fun u v _ hkept => ?_
  rw [clearI3c_log, vecP_clearVector_i3c, hkept]

end Clear

/-! ## The write that carries the clear (R559) -/

theorem length_leBytes (n v : Nat) : (leBytes n v).length = n := by
  simp only [leBytes, List.length_map, List.length_range]

theorem leBytes_succ (n v : Nat) : leBytes (n + 1) v = BitVec.ofNat 8 v :: leBytes n (v / 256) := by
  have hshift : ∀ i, v >>> (8 * (i + 1)) = (v / 256) >>> (8 * i) := fun i => by
    rw [Nat.mul_succ, Nat.add_comm, Nat.shiftRight_add, Nat.shiftRight_eq_div_pow v 8]
  simp [leBytes, List.range_succ_eq_map, hshift]

theorem leNat_leBytes (n v : Nat) : leNat (leBytes n v) = v % 256 ^ n := by
  induction n generalizing v with
  | zero => exact (Nat.mod_one v).symm
  | succ n ih =>
    rw [leBytes_succ, leNat, ih, BitVec.toNat_ofNat, Nat.pow_succ' (m := 256), Nat.mod_mul]

/-- D:1110.02 takes four octets and clears the vectors whose bits they have. -/
theorem i3cWriteProc_vectorClear (data : List Byte) (s : State) (h : data.length = 4) :
    i3cWriteProc 0x1110 2 data s = (0, s.clearVectors true (BitVec.ofNat 32 (leNat data))) := by
  have hwritable : (!i3cWritable 0x1110 2 || i3cTooLarge 0x1110 2) = false := rfl
  have hrow : object? 0x1110 2 = some ⟨0x1110, 0x02, 0x02, .u32, .wo⟩ := rfl
  have hput : s.putObject true .u32 0x1110 2 data = (0, s.clearVectors true (BitVec.ofNat 32 (leNat data))) := rfl
  simp only [i3cWriteProc, hwritable, hrow, Bool.false_eq_true, if_false]
  exact (if_neg (not_not_intro h)).trans hput

/-- A write over I3C that the target serves runs its procedure once, and its answer changes the dictionary alone. -/
theorem log_i3cWrite_of_servesI3c {s : State} {index : Nat} (sub : Nat) (data : List Byte) (h : s.ServesI3c index) :
    (s.i3cWrite index sub data).log = (i3cWriteProc index sub data (s.begun true index sub)).2.log := by
  obtain ⟨hlive, haddr, hgate⟩ := h
  have hnone : s.dict.i3cAddr.isNone = false := by simpa using haddr
  simp only [State.i3cWrite, hlive, hnone, State.gate_mapDict, hgate, State.begun, Bool.or_self, Bool.false_eq_true, if_false, if_true,
    State.i3cAnswer, State.mapDict_log, State.endAccess_log]

theorem log_vectorClear_i3c {s : State} (bits : BitVec 32) (h : s.ServesI3c 0x1110) :
    (s.vectorClear true bits).log = ((s.begun true 0x1110 2).clearVectors true bits).log := by
  have hbits : BitVec.ofNat 32 (leNat (leBytes 4 bits.toNat)) = bits := by
    have hlt : bits.toNat < 256 ^ 4 := bits.isLt
    rw [leNat_leBytes, Nat.mod_eq_of_lt hlt, BitVec.ofNat_toNat, BitVec.setWidth_eq]
  calc (s.vectorClear true bits).log
      = (i3cWriteProc 0x1110 2 (leBytes 4 bits.toNat) (s.begun true 0x1110 2)).2.log := log_i3cWrite_of_servesI3c 2 _ h
    _ = ((s.begun true 0x1110 2).clearVectors true bits).log := by rw [i3cWriteProc_vectorClear _ _ (length_leBytes _ _), hbits]

/-- R583: a clear of every alarm vector releases the pin, where none has a raise on record. -/
theorem vectorClear_i3c_releases {s : State} {bits : BitVec 32} (hserves : s.ServesI3c 0x1110)
    (hclear : ∀ v ∈ [9, 11, 12], bits.getLsbD v = true ∧ kvHas s.log.raisedAt v = false) :
    (s.vectorClear true bits).alertL = false ∧ (s.vectorClear true bits).log.vecP = s.log.vecP := by
  refine ⟨alertL_eq_false_of_vecI fun v hv => ?released, ?kept⟩
  case released =>
    obtain ⟨hbit, hraised⟩ := hclear v hv
    rw [log_vectorClear_i3c bits hserves]
    exact vecI_clearVectors_i3c hraised hbit
  case kept =>
    rw [log_vectorClear_i3c bits hserves]
    exact vecP_clearVectors_i3c _ bits

/-! ## A shutdown (R484) -/

/-- An input that stays out of 38.0 to 63.0 V for 10 µs shuts down a module that runs; D:1022.01 is not written. -/
theorem inputEvent_shuts_down {s : State} {mv dur : Nat} (hup : s.power.shutdown = false) (hcharged : s.power.charged = true)
    (hmv : mv < 38000 ∨ 63000 < mv) (hdur : 10000 ≤ dur) :
    (s.inputEvent mv dur).power.shutdown = true ∧ (s.inputEvent mv dur).boot = s.boot := by
  have hlost : inputLost mv dur = true := by
    simpa only [inputLost, Bool.and_eq_true, Bool.or_eq_true, decide_eq_true_eq] using ⟨hmv, hdur⟩
  have hshut : s.inputEvent mv dur = (s.mapPower (fun p => { p with inputmV := mv })).shutDown := by
    simp [State.inputEvent, hup, hcharged, hlost]
  rw [hshut]
  exact ⟨rfl, rfl⟩

/-- Settles O56: the pins are read off the state; the clear empties the alarm bits of the I3C copy, and a shutdown leaves D:1022.01. -/
theorem pinsFollowVectorsAndModuleState : Obligations.PinsFollowVectorsAndModuleState := by
  refine ⟨fun s => ⟨alertL_iff, modReady_iff⟩, ?clear, ?shutdown⟩
  case clear =>
    rintro s at_ bits u rfl hserves hclear
    exact ⟨_, rfl, vectorClear_i3c_releases hserves hclear⟩
  case shutdown =>
    rintro s at_ mv dur u rfl hup hcharged hmv hdur
    obtain ⟨hshut, hboot⟩ := inputEvent_shuts_down hup hcharged hmv hdur
    exact ⟨_, rfl, modReady_eq_false_of_shutdown hshut, congrArg BootSt.modState hboot⟩

end Sys2Proof.Proofs.OutputPins

/-!
Every step keeps memory canonical, the rings bounded and the tally from falling (R48, R319, R328, R515, R563). `Keeps` is a preorder; one
lemma for each operation of the model follows its calls, in the order of the model's files, and one case for each command follows its
meaning. The return of input power (R572) is the one command that is not in `Keeps`: it begins the tally anew.
-/
namespace Sys2Proof.Machine

open Sys2Proof

/-! ### Operations shared by the meanings (Ops.lean) -/

/-- The state that a procedure answers beside its code. -/
theorem Keeps.snd {α : Type} {a : α} {s t : State} (h : Keeps s t) : Keeps s (a, t).2 := h

theorem Keeps.loadStatus (s : State) (l : KV (Nat × Nat)) : Keeps s { s with loadStatus := l } := .of_same rfl rfl rfl rfl
theorem Keeps.mapPorts (s : State) (f : List Port → List Port) : Keeps s (s.mapPorts f) := .of_same rfl rfl rfl rfl
theorem Keeps.mapPkgs (s : State) (f : List Pkg → List Pkg) : Keeps s (s.mapPkgs f) := .of_same rfl rfl rfl rfl
theorem Keeps.mapGroups (s : State) (f : List Group → List Group) : Keeps s (s.mapGroups f) := .of_same rfl rfl rfl rfl
theorem Keeps.mapEngines (s : State) (f : KV LaneSt → KV LaneSt) : Keeps s (s.mapEngines f) := .of_same rfl rfl rfl rfl
theorem Keeps.mapLines (s : State) (f : KV Line → KV Line) : Keeps s (s.mapLines f) := .of_same rfl rfl rfl rfl

theorem Keeps.sendPacket (s : State) (p : Packet) : Keeps s (s.sendPacket p) := .of_same rfl rfl rfl rfl

theorem Keeps.mapPort (s : State) (x : Nat) (f : Port → Port) : Keeps s (s.mapPort x f) := .mapPorts ..

theorem Keeps.ctlTo (s : State) (t type : Nat) (dst src : CtlStop) (tag : Nat) (arg : Option (BitVec 64)) :
    Keeps s (s.ctlTo t type dst src tag arg) := .of_same rfl rfl rfl rfl

/-! ### Module memory (Memory.lean) -/

theorem Keeps.clearSlotAreas (s : State) (t slot : Nat) : Keeps s (s.clearSlotAreas t slot) := .foldl _ _ (fun _ _ _ => .clearMem ..)

theorem Keeps.sendTwin (s : State) (m : TwinMsg) : Keeps s (s.sendTwin m) :=
  .ite (fun _ => .ite (fun _ => .mapPair ..) (fun _ => .refl _)) (fun _ => .mapPair ..)

theorem Keeps.sendConfig (s : State) : Keeps s s.sendConfig := .ite (fun _ => .sendTwin ..) (fun _ => .refl _)

/-! ### How traffic crosses the base (Carrier.lean) -/

theorem Keeps.sendBulk (s : State) (site : Nat) (dst : Option Nat) (p : Packet) : Keeps s (s.sendBulk site dst p) :=
  .of_same rfl rfl rfl rfl

theorem Keeps.handOff (s : State) (i j : Nat) (p : Carried → Bool) : Keeps s (s.handOff i j p) := by
  unfold State.handOff
  split
  · exact .refl _
  · exact .of_same rfl rfl rfl rfl

theorem Keeps.sendSync (s : State) (m : BitVec 128) : Keeps s (s.sendSync m) := .of_same rfl rfl rfl rfl

theorem Keeps.syncTaken (s : State) (m : BitVec 128) : Keeps s (s.syncTaken m) := .foldl _ _ (fun _ _ _ => .handOff ..)

theorem Keeps.spResend (s : State) (requester nsite nseq : Nat) : Keeps s (s.spResend requester nsite nseq) :=
  .ite (fun _ => (Keeps.of_same rfl rfl rfl rfl).trans (.of_same rfl rfl rfl rfl)) (fun _ => .of_same rfl rfl rfl rfl)

/-! ### Synchronisation objects and sync-plane messages (Sync.lean) -/

theorem Keeps.renotice (s : State) (t i : Nat) (m : BitVec 128) : Keeps s (s.renotice t i m) := .of_same rfl rfl rfl rfl

theorem Keeps.notifySubs (s : State) (t i : Nat) (again : Bool) : Keeps s (s.notifySubs t i again) :=
  .ite (fun _ => .refl _) (fun _ => .ite (fun _ => .renotice ..) (fun _ => (Keeps.sendSync ..).trans (.mapTower ..)))

theorem Keeps.signalObj (s : State) (t i inc : Nat) : Keeps s (s.signalObj t i inc) :=
  (Keeps.ite (fun _ => (Keeps.mapTower ..).trans (.logEv ..)) (fun _ => .mapTower ..)).trans (.notifySubs ..)

theorem Keeps.writeObj (s : State) (t i v : Nat) : Keeps s (s.writeObj t i v) := (Keeps.mapTower ..).trans (.notifySubs ..)

/-! ### What the hub sends on the ports and how it ends a request (Answers.lean) -/

theorem Keeps.keyRef (s : State) (kind id epoch : Nat) : Keeps s (s.keyRef kind id epoch) := .mapVault ..

theorem Keeps.keyUnref (s : State) (kind id epoch : Nat) : Keeps s (s.keyUnref kind id epoch) := .mapVault ..

theorem Keeps.unrefLeft (s : State) (left : List OutFrame) : Keeps s (s.unrefLeft left) := .foldl _ _ (fun _ _ _ => .keyUnref ..)

theorem Keeps.queuePort (s : State) (y : Nat) (f : Port → Port) : Keeps s (s.queuePort y f) := (Keeps.mapPort ..).trans (.unrefLeft ..)

theorem Keeps.sendFrame (s : State) (x : Nat) (f : OutFrame) : Keeps s (s.sendFrame x f) := .queuePort ..

theorem Keeps.sendNotice (s : State) (x reqid seq reason cls : Nat) : Keeps s (s.sendNotice x reqid seq reason cls) :=
  .ite (fun _ => .sendFrame ..) (fun _ => .refl _)

theorem Keeps.sendCredit (s : State) (x : Nat) : Keeps s (s.sendCredit x) :=
  .ite (fun _ => (Keeps.mapPort ..).trans (.sendFrame ..)) (fun _ => .refl _)

theorem Keeps.sendAnswer (s : State) (x tenant model reqid seq kepoch resp reason detail tick cls : Nat) (unprot : Bool) :
    Keeps s (s.sendAnswer x tenant model reqid seq kepoch resp reason detail tick cls unprot) := by
  unfold State.sendAnswer
  refine .ite (fun _ => .refl _) (fun _ => ?_)
  split
  · exact (Keeps.mapVault ..).trans (.sendFrame ..)
  · exact .sendNotice ..

theorem Keeps.mapReq (s : State) (tenant seq : Nat) (f : Req → Req) : Keeps s (s.mapReq tenant seq f) := .mapLedger ..

theorem Keeps.retireRecord (s : State) (t slot : Nat) : Keeps s (s.retireRecord t slot) := by
  unfold State.retireRecord
  split
  · exact .refl _
  · exact (((Keeps.clearSlotAreas ..).trans (.mapTower ..)).trans (.mapLedger ..)).trans (.mapReq ..)

theorem Keeps.amendEnd (s : State) (tenant seq reason detail site : Nat) : Keeps s (s.amendEnd tenant seq reason detail site) :=
  .of_same rfl rfl rfl rfl

theorem Keeps.lateCode (s : State) (t : Nat) (r : ActRec) (code : Nat) : Keeps s (s.lateCode t r code) := .logEv ..

theorem Keeps.unreported (s : State) (t : Nat) (r : ActRec) : Keeps s (s.unreported t r) := by
  unfold State.unreported
  refine .ite (fun _ => .refl _) (fun _ => ?_)
  refine .trans ?_ ((Keeps.lateCode ..).trans (.mapTower ..))
  split
  · exact .ite (fun _ => .amendEnd ..) (fun _ => .refl _)
  · exact .refl _

theorem Keeps.withdrawRecord (s : State) (t slot : Nat) : Keeps s (s.withdrawRecord t slot) := by
  unfold State.withdrawRecord
  refine .ite (fun _ => ?_) (fun _ => ?_)
  · refine .trans ?_ (.mapTower ..)
    split
    · exact .unreported ..
    · exact .refl _
  · refine .trans ?_ ((Keeps.mapTower ..).trans (.retireRecord ..))
    split
    · exact .unreported ..
    · exact .refl _

theorem Keeps.withdrawReq (s : State) (tenant seq : Nat) : Keeps s (s.withdrawReq tenant seq) :=
  (Keeps.mapLedger ..).trans (.foldl _ _ (fun _ _ _ => .foldl _ _ (fun _ _ _ => .withdrawRecord ..)))

theorem Keeps.dropResult (s : State) (tenant seq : Nat) : Keeps s (s.dropResult tenant seq) := .mapPorts ..

theorem Keeps.mirror (s : State) (d : DecisionRec) : Keeps s (s.mirror d) :=
  .ite (fun _ => (Keeps.mapPair ..).trans (.sendTwin ..)) (fun _ => .refl _)

theorem Keeps.releaseBookings (s : State) (tenant seq : Nat) : Keeps s (s.releaseBookings tenant seq) := .mapLedger ..

theorem Keeps.regrant (s : State) (x : Nat) : Keeps s (s.regrant x) :=
  .ite (fun _ => (Keeps.mapPort ..).trans (.sendCredit ..)) (fun _ => .refl _)

theorem Keeps.freeIngress (s : State) (x units : Nat) : Keeps s (s.freeIngress x units) := (Keeps.mapPort ..).trans (.regrant ..)

theorem Keeps.leaveBuffer (s : State) (tenant seq : Nat) : Keeps s (s.leaveBuffer tenant seq) := by
  unfold State.leaveBuffer
  split
  · exact .refl _
  · exact .ite (fun _ => .refl _) (fun _ => (Keeps.mapReq ..).trans (.freeIngress ..))

theorem Keeps.finishEnd (s : State) (r : Req) : Keeps s (s.finishEnd r) := by
  unfold State.finishEnd
  refine .trans ?_ ((Keeps.leaveBuffer ..).trans (.keyUnref ..))
  refine .ite (fun _ => ?_) (fun _ => ?_)
  · refine .ite (fun _ => ?_) (fun _ => ((Keeps.withdrawReq ..).trans (.dropResult ..)).trans (.mapReq ..))
    exact (((Keeps.withdrawReq ..).trans (.dropResult ..)).trans (.mapReq ..)).trans (.releaseBookings ..)
  · refine .trans ?_ (.mapLedger ..)
    refine .ite (fun _ => ?_) (fun _ => ((Keeps.withdrawReq ..).trans (.dropResult ..)).trans (.mapReq ..))
    exact (((Keeps.withdrawReq ..).trans (.dropResult ..)).trans (.mapReq ..)).trans (.releaseBookings ..)

theorem Keeps.sendEnd (s : State) (r : Req) (reason detail : Nat) : Keeps s (s.sendEnd r reason detail) :=
  (((Keeps.mirror ..).trans (.sendAnswer ..)).trans (.mapLedger ..)).trans (.finishEnd ..)

theorem Keeps.endRequest (s : State) (tenant seq reason detail site : Nat) :
    Keeps s (s.endRequest tenant seq reason detail site) := by
  unfold State.endRequest
  split
  · exact .refl _
  · refine .ite (fun _ => .amendEnd ..) (fun _ => ?_)
    refine .ite (fun _ => .refl _) (fun _ => ?_)
    refine .ite (fun _ => .ite (fun _ => .mapReq ..) (fun _ => .refl _)) (fun _ => ?_)
    refine .ite (fun _ => ((Keeps.mapReq ..).trans (.withdrawReq ..)).trans (.dropResult ..)) (fun _ => ?_)
    exact .ite (fun _ => (Keeps.mapReq ..).trans (.sendEnd ..)) (fun _ => (Keeps.mapReq ..).trans (.finishEnd ..))

theorem Keeps.endAll (s : State) (p : Req → Bool) (reason site : Nat) : Keeps s (s.endAll p reason site) :=
  .foldl _ _ (fun _ _ _ => .endRequest ..)

theorem Keeps.queueResult (s : State) (r : Req) (off : Nat) (bytes : List Byte) (last : Bool) :
    Keeps s (s.queueResult r off bytes last) := by
  unfold State.queueResult
  split
  · exact .refl _
  · exact (Keeps.mapVault ..).trans (.sendFrame ..)

theorem Keeps.deliverPart (s : State) (tenant seq off : Nat) (bytes : List Byte) (last : Bool) :
    Keeps s (s.deliverPart tenant seq off bytes last) := by
  unfold State.deliverPart
  split
  · exact .refl _
  · exact .ite (fun _ => .refl _) (fun _ => (Keeps.mapReq ..).trans (.foldl _ _ (fun _ _ _ => .queueResult ..)))

/-! ### What towers do on their own authority (TowerOps.lean) -/

theorem Keeps.sendStatus (s : State) : Keeps s s.sendStatus := .ite (fun _ => .sendTwin ..) (fun _ => .refl _)

theorem Keeps.fenceTower (s : State) (t cause : Nat) : Keeps s (s.fenceTower t cause) := .mapTower ..

theorem Keeps.unfenceTower (s : State) (t : Nat) : Keeps s (s.unfenceTower t) := .mapTower ..

theorem Keeps.failTower (s : State) (t : Nat) : Keeps s (s.failTower t) := by
  unfold State.failTower
  refine .ite (fun _ => .logEv ..) (fun _ => ?_)
  exact ((((Keeps.fenceTower ..).trans (.mapTower ..)).trans (.logEv ..)).trans (.raiseEvent ..)).trans (.endAll ..)

theorem Keeps.returning (s : State) (t r : Nat) (p : Chunk → Bool) : Keeps s (s.returning t r p) :=
  (Keeps.foldl _ _ (fun _ _ _ => .ctlTo ..)).trans (.mapTower ..)

theorem Keeps.loseRegion (s : State) (t r : Nat) : Keeps s (s.loseRegion t r) := by
  unfold State.loseRegion
  split
  · exact .refl _
  · refine .ite (fun _ => .logEv ..) (fun _ => ?_)
    refine .ite (fun _ => ?_) (fun _ => ?_)
    · exact ((((Keeps.returning ..).trans (.mapTower ..)).trans (.logEv ..)).trans (.raiseEvent ..)).trans (.failTower ..)
    · exact (((Keeps.returning ..).trans (.mapTower ..)).trans (.logEv ..)).trans (.raiseEvent ..)

theorem Keeps.faultTile (s : State) (t r i : Nat) : Keeps s (s.faultTile t r i) := by
  unfold State.faultTile
  split
  · exact .refl _
  · refine .ite (fun _ => .loseRegion ..) (fun _ => ?_)
    refine .ite (fun _ => .logEv ..) (fun _ => ?_)
    refine .ite (fun _ => ?_) (fun _ => ?_)
    · exact (((Keeps.mapTower ..).trans (.returning ..)).trans (.mapTower ..)).trans (.logEv ..)
    · refine .ite (fun _ => ((Keeps.mapTower ..).trans (.mapTower ..)).trans (.logEv ..)) (fun _ => ?_)
      exact (Keeps.mapTower ..).trans (.loseRegion ..)

theorem Keeps.sendWatches (s : State) (t : Nat) (entered : List OpInst) : Keeps s (s.sendWatches t entered) :=
  .foldl _ _ (fun _ _ _ => .foldl _ _ (fun _ _ _ => .ite (fun _ => .refl _) (fun _ => .sendSync ..)))

theorem Keeps.sendSignal (s : State) (t slot entry : Nat) : Keeps s (s.sendSignal t slot entry) := by
  unfold State.sendSignal
  split
  · exact .refl _
  · split
    · exact .refl _
    · exact .ite (fun _ => .signalObj ..) (fun _ => (Keeps.sendSync ..).trans (.mapTower ..))

theorem Keeps.failOp (s : State) (t id code : Nat) : Keeps s (s.failOp t id code) := by
  unfold State.failOp
  split
  · exact .mapTower ..
  · dsimp only
    split
    · exact .ite (fun _ => (Keeps.mapTower ..).trans (.lateCode ..)) (fun _ => .mapTower ..)
    · exact .mapTower ..

theorem Keeps.completeOp (s : State) (t id : Nat) : Keeps s (s.completeOp t id) := by
  unfold State.completeOp
  split
  · exact .refl _
  · refine .trans ?_ ((Keeps.sendSignal ..).trans (.sendSignal ..))
    refine .ite (fun _ => ?_) (fun _ => ?_)
    · split
      · refine .trans ?_ (.deliverPart ..)
        refine .ite (fun _ => ?_) (fun _ => (Keeps.mapTower ..).trans (.foldl _ _ (fun _ _ _ => .logEv ..)))
        exact (((Keeps.mapTower ..).trans (.foldl _ _ (fun _ _ _ => .logEv ..))).trans (.mapTower ..)).trans (.logEv ..)
      · refine .ite (fun _ => ?_) (fun _ => (Keeps.mapTower ..).trans (.foldl _ _ (fun _ _ _ => .logEv ..)))
        exact (((Keeps.mapTower ..).trans (.foldl _ _ (fun _ _ _ => .logEv ..))).trans (.mapTower ..)).trans (.logEv ..)
    · refine .ite (fun _ => ?_) (fun _ => (Keeps.mapTower ..).trans (.foldl _ _ (fun _ _ _ => .logEv ..)))
      exact (((Keeps.mapTower ..).trans (.foldl _ _ (fun _ _ _ => .logEv ..))).trans (.mapTower ..)).trans (.logEv ..)

theorem Keeps.tryComplete (s : State) (t id : Nat) : Keeps s (s.tryComplete t id) := by
  unfold State.tryComplete
  split
  · exact .refl _
  · exact .ite (fun _ => .completeOp ..) (fun _ => .refl _)

theorem Keeps.settleRecord (s : State) (t slot : Nat) : Keeps s (s.settleRecord t slot) := by
  unfold State.settleRecord
  split
  · exact .refl _
  · exact .ite (fun _ => .retireRecord ..) (fun _ => .refl _)

theorem Keeps.failChunk (s : State) (t chunk code : Nat) : Keeps s (s.failChunk t chunk code) := by
  unfold State.failChunk
  split
  · exact .refl _
  · exact ((Keeps.mapTower ..).trans (.failOp ..)).trans (.settleRecord ..)

theorem Keeps.poisonChunk (s : State) (t chunk : Nat) : Keeps s (s.poisonChunk t chunk) := by
  unfold State.poisonChunk
  split
  · exact .refl _
  · exact .ite (fun _ => .mapTower ..) (fun _ => (Keeps.logEv ..).trans (.failChunk ..))

/-! ### Errors in arrays (IntegrityOps.lean) -/

/-- The error log is a ring of 1,024 records (R328): a merge changes one in place, a new one drops the oldest. -/
theorem Keeps.eccRecord (s : State) (r : EccRec) : Keeps s (s.eccRecord r) := by
  unfold State.eccRecord
  dsimp only
  split
  · exact .mapMem _ _ id (by simp [modWhere])
  · have hring : ∀ l : List EccRec, ((r :: l).take 1024).length ≤ 1024 := fun _ => List.length_take_le _ _
    split
    · exact (Keeps.mapMem _ _ id (fun _ => hring _)).trans (.logEv ..)
    · exact .mapMem _ _ id (fun _ => hring _)

theorem Keeps.mapStack (s : State) (k : Nat) (f : Stack → Stack) : Keeps s (s.mapStack k f) := .mapMem _ _ id id

theorem Keeps.poisonRead (s : State) (key : Nat) : Keeps s (s.poisonRead key) := .mapTower ..

theorem Keeps.windowFault (s : State) (t : Option Nat) : Keeps s (s.windowFault t) := by
  unfold State.windowFault
  split
  · exact .mapTower ..
  · exact .refl _

theorem Keeps.uncorrectable (s : State) (key found : Nat) : Keeps s (s.uncorrectable key found) := by
  unfold State.uncorrectable
  dsimp only
  split
  · exact .refl _
  · exact ((Keeps.mapMem _ _ id id).trans (.ite (fun _ => .mapStack ..) (fun _ => .mapTower ..))).trans (.eccRecord ..)

theorem Keeps.corrected (s : State) (key symbols found : Nat) : Keeps s (s.corrected key symbols found) :=
  (Keeps.ite (fun _ => .mapStack ..) (fun _ => .mapTower ..)).trans (.eccRecord ..)

theorem Keeps.validDisagrees (s : State) (key found : Nat) : Keeps s (s.validDisagrees key found) := by
  unfold State.validDisagrees
  exact (Keeps.mapTower ..).trans (.eccRecord ..)

theorem MemSt.miscorrect_wf {m : MemSt} (key : Nat) (data : List Byte) (h : Memory.wf m.cells) : Memory.wf (m.miscorrect key data).cells :=
  foldl_keeps Memory.wf _ _ _ h (fun _ p _ hc => wf_cellSet p.1 p.2 hc)

theorem Keeps.finds (s : State) (base n found : Nat) (f : WordFind) : Keeps s (s.finds base n found f) := by
  unfold State.finds
  dsimp only
  split
  · exact .refl _
  · split
    · exact .validDisagrees ..
    · exact .ite (fun _ => .refl _) (fun _ => .ite (fun _ => .corrected ..) (fun _ => .uncorrectable ..))
    · exact .ite (fun _ => .refl _) (fun _ => (Keeps.corrected ..).trans (.mapMem _ _ (MemSt.miscorrect_wf _ _) id))

theorem Keeps.readFinds (s : State) (base n found : Nat) (l : List WordFind) : Keeps s (s.readFinds base n found l) :=
  .foldl _ _ (fun _ _ _ => .finds ..)

theorem Keeps.countPoisoned (s : State) (bad : List Nat) : Keeps s (s.countPoisoned bad) := by
  unfold State.countPoisoned
  refine .foldl _ _ (fun _ _ _ => ?_)
  split
  · exact .poisonRead ..
  · exact .windowFault ..
  · exact .refl _

theorem Keeps.meetPoison (s : State) (t chunk : Nat) (bad : List Nat) : Keeps s (s.meetPoison t chunk bad) :=
  .ite (fun _ => (Keeps.countPoisoned ..).trans (.failChunk ..)) (fun _ => (Keeps.countPoisoned ..).trans (.poisonChunk ..))

/-! ### The vector engine (LaneOps.lean) -/

theorem Keeps.onEngine (s : State) (eng : Nat) (f : LaneSt → LaneSt) : Keeps s (s.onEngine eng f) := .mapEngines ..

/-! ### From the results of a chunk to the bytes it stages (Staging.lean) -/

theorem Keeps.loadEntry (s : State) (t : Nat) (c : Chunk) : Keeps s (s.loadEntry t c) := by
  unfold State.loadEntry
  split
  · exact .ite (fun _ => .mapEngines ..) (fun _ => .refl _)
  · exact .refl _
  · exact .refl _

theorem Keeps.computeChunk (s : State) (t chunk opc : Nat) (eval : State → OpEnv → Chunk → ChunkResult) :
    Keeps s (s.computeChunk t chunk opc eval) := by
  unfold State.computeChunk
  split
  · exact .refl _
  · split
    · exact .refl _
    · refine .ite (fun _ => .refl _) (fun _ => .ite (fun _ => ?_) (fun _ => ?_))
      · exact (Keeps.foldl _ _ (fun _ _ _ => .windowFault ..)).trans (.failChunk ..)
      · exact .ite (fun _ => .meetPoison ..) (fun _ => .of_same rfl rfl rfl rfl)

theorem Keeps.runChunk (s : State) (t chunk opc : Nat) (eval : State → OpEnv → Chunk → ChunkResult) :
    Keeps s (s.runChunk t chunk opc eval) := .underBank _ _ _ (fun _ => .computeChunk ..)

/-! ### Optical weight banks (OpticalOps.lean) -/

theorem Keeps.mapBankSet (s : State) (t : Nat) (f : BankSet → BankSet) : Keeps s (s.mapBankSet t f) := .mapBase ..

theorem Keeps.storeTouched (s : State) (a n : Nat) : Keeps s (s.storeTouched a n) := by
  unfold State.storeTouched
  refine .ite (fun _ => ?_) (fun _ => .refl _)
  split
  · exact .mapBankSet ..
  · exact .refl _

theorem Keeps.markLock (s : State) (kind index : Nat) : Keeps s (s.markLock kind index) := .mapBase ..

theorem Keeps.loadBanks (s : State) (t : Nat) (e : OpEnv) (c : Chunk) : Keeps s (s.loadBanks t e c) :=
  ((Keeps.foldl _ _ (fun _ _ _ => .markLock ..)).trans (.mapBase ..)).trans (.mapBankSet ..)

theorem Keeps.rerunInPlace (s : State) (t chunk : Nat) : Keeps s (s.rerunInPlace t chunk) := .mapTower ..

theorem Keeps.recutOptical (s : State) (t : Nat) (o : OpInst) : Keeps s (s.recutOptical t o) := .mapTower ..

theorem Keeps.abandonCommit (s : State) (kind index : Nat) : Keeps s (s.abandonCommit kind index) :=
  .ite (fun _ => ((Keeps.mapBase ..).trans (.logEv ..)).trans (.raiseVector ..)) (fun _ => .refl _)

theorem Keeps.retireBank (s : State) (t : Nat) (e : OpEnv) (o : OpInst) (c : Chunk) (bank : Nat) :
    Keeps s (s.retireBank t e o c bank) := by
  unfold State.retireBank
  dsimp only
  split
  · exact (((Keeps.mapBankSet ..).trans (.abandonCommit ..)).trans (.mapBankSet ..)).trans (.logEv ..)
  · exact (((((Keeps.mapBankSet ..).trans (.abandonCommit ..)).trans (.logEv ..)).trans (.logEv ..)).trans
      (.raiseEvent ..)).trans (.recutOptical ..)

theorem Keeps.failBank (s : State) (t : Nat) (e : OpEnv) (o : OpInst) (c : Chunk) (bank : Nat) :
    Keeps s (s.failBank t e o c bank) :=
  .ite (fun _ => (Keeps.mapBankSet ..).trans (.retireBank ..)) (fun _ => (Keeps.mapBankSet ..).trans (.mapBankSet ..))

theorem Keeps.computeOptical (s : State) (t chunk : Nat) (failing : List Nat) : Keeps s (s.computeOptical t chunk failing) := by
  unfold State.computeOptical
  split
  · exact .refl _
  · split
    · exact .refl _
    · refine .ite (fun _ => .refl _) (fun _ => ?_)
      refine .ite (fun _ => ?_) (fun _ => ?_)
      · exact (((Keeps.ite (fun _ => .loadBanks ..) (fun _ => .mapBankSet ..)).trans (.mapBankSet ..)).trans
          (.computeChunk ..)).trans (.of_same rfl rfl rfl rfl)
      · exact (((Keeps.ite (fun _ => .loadBanks ..) (fun _ => .mapBankSet ..)).trans (.mapBankSet ..)).trans
          (.foldl _ _ (fun _ _ _ => .failBank ..))).trans (.rerunInPlace ..)

theorem Keeps.runOptical (s : State) (t chunk : Nat) (failing : List Nat) : Keeps s (s.runOptical t chunk failing) :=
  .underBank _ _ _ (fun _ => .computeOptical ..)

/-! ### The planes of the base (BaseOps.lean) -/

theorem Keeps.setPair (s : State) (i j : Nat) (p : Pair) : Keeps s (s.setPair i j p) := .mapBase ..

theorem Keeps.resendOff (s : State) (i j w : Nat) : Keeps s (s.resendOff i j w) := by
  unfold State.resendOff
  exact .mapLines ..

theorem Keeps.putPair (s : State) (i j : Nat) (p : Pair) : Keeps s (s.putPair i j p) :=
  .ite (fun _ => .setPair ..) (fun _ => (Keeps.setPair ..).trans (.raiseEvent ..))

theorem Keeps.abandonCalOn (s : State) (i j : Nat) (on : Nat → Bool) : Keeps s (s.abandonCalOn i j on) := by
  unfold State.abandonCalOn
  dsimp only
  split
  · exact .ite (fun _ => .refl _) (fun _ => (Keeps.setPair ..).trans (.mapBase ..))
  · exact .refl _

theorem Keeps.abandonPairCal (s : State) (i j w : Nat) : Keeps s (s.abandonPairCal i j w) := .abandonCalOn ..

theorem Keeps.lockLoss (s : State) (i j w : Nat) : Keeps s (s.lockLoss i j w) :=
  .ite (fun _ => .refl _) (fun _ => ((Keeps.abandonPairCal ..).trans (.putPair ..)).trans (.resendOff ..))

theorem Keeps.permanentFault (s : State) (i j w : Nat) : Keeps s (s.permanentFault i j w) := by
  unfold State.permanentFault
  refine .ite (fun _ => .refl _) (fun _ => ?_)
  refine .ite (fun _ => .logEv ..) (fun _ => ?_)
  refine .ite (fun _ => ?_) (fun _ => ?_)
  · exact (((((Keeps.abandonPairCal ..).trans (.putPair ..)).trans (.resendOff ..)).trans (.abandonCommit ..)).trans
      (.abandonCommit ..)).trans (.logEv ..)
  · refine .ite (fun _ => ?_) (fun _ => ?_)
    · exact (((((Keeps.abandonPairCal ..).trans (.putPair ..)).trans (.resendOff ..)).trans (.abandonCommit ..)).trans
        (.abandonCommit ..)).trans (.logEv ..)
    · exact (((((Keeps.abandonPairCal ..).trans (.putPair ..)).trans (.resendOff ..)).trans (.abandonCommit ..)).trans
        (.abandonCommit ..)).trans (.logEv ..)

theorem Keeps.planeLeaves (s : State) (w : Nat) (lost : Bool) : Keeps s (s.planeLeaves w lost) := by
  unfold State.planeLeaves
  refine .foldl _ _ (fun _ _ _ => ?_)
  refine .ite (fun _ => ?_) (fun _ => (Keeps.ite (fun _ => .abandonCalOn ..) (fun _ => .refl _)).trans (.putPair ..))
  exact ((Keeps.ite (fun _ => .abandonCalOn ..) (fun _ => .refl _)).trans (.putPair ..)).trans (.resendOff ..)

theorem Keeps.syncDegrade (s : State) (k : Nat) : Keeps s (s.syncDegrade k) :=
  .ite (fun _ => .refl _) (fun _ => (Keeps.mapBase ..).trans (.logEv ..))

theorem Keeps.mapLaser (s : State) (m : Nat) (f : Laser → Laser) : Keeps s (s.mapLaser m f) := .mapBase ..

theorem Keeps.degradePlane (s : State) (w : Nat) : Keeps s (s.degradePlane w) := by
  unfold State.degradePlane
  refine .ite (fun _ => .refl _) (fun _ => ?_)
  exact (((Keeps.ite (fun _ => (Keeps.mapBase ..).trans (.mapBase ..)) (fun _ => (Keeps.mapBase ..).trans
      (.foldl _ _ (fun _ _ _ => ((Keeps.abandonPairCal ..).trans (.putPair ..)).trans (.resendOff ..))))).trans
      (.foldl _ _ (fun _ _ _ => .ite (fun _ => .logEv ..) (fun _ => .refl _)))).trans (.logEv ..)).trans (.raiseEvent ..)

theorem Keeps.switchLink (s : State) (m new st : Nat) : Keeps s (s.switchLink m new st) :=
  ((Keeps.mapLaser ..).trans (.mapLaser ..)).trans (.mapBase ..)

theorem Keeps.closeWindow (s : State) (w : Nat) : Keeps s (s.closeWindow w) := .ite (fun _ => .mapBase ..) (fun _ => .refl _)

theorem Keeps.returnWavelength (s : State) (i j w : Nat) : Keeps s (s.returnWavelength i j w) :=
  .ite (fun _ => .refl _) (fun _ => (((Keeps.putPair ..).trans (.markLock ..)).trans (.markLock ..)).trans (.closeWindow ..))

theorem Keeps.abandonOptical (s : State) (t : Nat) (c : Chunk) (loaded : Bool) : Keeps s (s.abandonOptical t c loaded) := by
  unfold State.abandonOptical
  dsimp only
  split
  · exact .ite (fun _ => (Keeps.rerunInPlace ..).trans (.mapBankSet ..)) (fun _ => .rerunInPlace ..)
  · exact .rerunInPlace ..

theorem Keeps.clearFeed (s : State) (feed : Nat) (rerun : Bool) : Keeps s (s.clearFeed feed rerun) :=
  .foldl _ _ (fun _ _ _ => .ite (fun _ => (Keeps.mapBankSet ..).trans
    (.foldl _ _ (fun _ _ _ => .abandonOptical ..))) (fun _ => .mapBankSet ..))

theorem Keeps.abandonFeedCal (s : State) (feed : Nat) : Keeps s (s.abandonFeedCal feed) :=
  (Keeps.mapBase ..).trans (.foldl _ _ (fun _ _ _ => .mapBankSet ..))

theorem Keeps.feedDown (s : State) (feed : Nat) : Keeps s (s.feedDown feed) :=
  ((Keeps.foldl _ _ (fun _ _ _ => (Keeps.mapBankSet ..).trans (.foldl _ _ (fun _ _ _ => .abandonOptical ..)))).trans
    (.logEv ..)).trans (.raiseEvent ..)

theorem Keeps.switchFeed (s : State) (feed new st : Nat) (rerun : Bool) : Keeps s (s.switchFeed feed new st rerun) :=
  (((Keeps.mapLaser ..).trans (.mapLaser ..)).trans (.mapBase ..)).trans (.clearFeed ..)

theorem Keeps.feedLoss (s : State) (feed : Nat) : Keeps s (s.feedLoss feed) := by
  unfold State.feedLoss
  dsimp only
  split
  · exact ((Keeps.ite (fun _ => .refl _) (fun _ => (Keeps.mapLaser ..).trans (.logEv ..))).trans (.abandonFeedCal ..)).trans
      (.switchFeed ..)
  · exact ((Keeps.ite (fun _ => .refl _) (fun _ => (Keeps.mapLaser ..).trans (.logEv ..))).trans (.abandonFeedCal ..)).trans
      (.feedDown ..)

/-! ### Bulk packets (NetOps.lean) -/

theorem Keeps.sendFrom (s : State) (site : Nat) (p : Packet) : Keeps s (s.sendFrom site p) :=
  .ite (fun _ => .refl _) (fun _ => .ite (fun _ => .sendBulk ..) (fun _ => (Keeps.mapBase ..).trans (.sendPacket ..)))

theorem Keeps.putBytes (s : State) (a : Nat) (bytes : List Byte) : Keeps s (s.putBytes a bytes) := .writeKeys ..

theorem Keeps.commitLocal (s : State) (t : Nat) (l : List (Nat × Byte)) : Keeps s (s.commitLocal t l) := .writeKeys ..

/-! ### Capacity, sparing, failure and fences of towers (Towers.lean) -/

theorem Keeps.shortfall (s : State) (t r cycles : Nat) : Keeps s (s.shortfall t r cycles) := by
  unfold State.shortfall
  split
  · exact .refl _
  · refine .ite (fun _ => .mapTower ..) (fun _ => ?_)
    refine .ite (fun _ => (Keeps.mapTower ..).trans (.mapTower ..)) (fun _ => ?_)
    refine .ite (fun _ => ((Keeps.mapTower ..).trans (.mapTower ..)).trans (.loseRegion ..)) (fun _ => ?_)
    exact (Keeps.mapTower ..).trans (.mapTower ..)

theorem Keeps.chunkOverrun (s : State) (t chunk cycles : Nat) : Keeps s (s.chunkOverrun t chunk cycles) := by
  unfold State.chunkOverrun
  split
  · exact .refl _
  · split
    · exact .ite (fun _ => .telling _ _ (.faultTile ..)) (fun _ => .refl _)
    · exact .refl _

theorem Keeps.spareSelfTest (s : State) (t r : Nat) (pass : Bool) : Keeps s (s.spareSelfTest t r pass) := by
  unfold State.spareSelfTest
  split
  · exact .refl _
  · exact .ite (fun _ => .refl _) (fun _ => .ite (fun _ => .mapTower ..) (fun _ => (Keeps.mapTower ..).trans
      (.telling _ _ (.faultTile ..))))

theorem Keeps.towerFenceProc (t value : Nat) (s : State) : Keeps s (towerFenceProc t value s).2 :=
  .checked _ _ _ (.ite (fun _ => .ite (fun _ => .refl _) (fun _ => .fenceTower ..)) (fun _ => .ite (fun _ => .unfenceTower ..)
    (fun _ => .refl _)))

/-! ### The tower scheduler (Schedule.lean) -/

theorem Keeps.cutOp (s : State) (t : Nat) (o : OpInst) : Keeps s (s.cutOp t o) := .mapTower ..

theorem Keeps.enterTower (s : State) (t : Nat) : Keeps s (s.enterTower t) := .mapTower ..

theorem Keeps.schedule (s : State) (t : Nat) : Keeps s (s.schedule t) :=
  ((Keeps.enterTower ..).trans (.sendWatches ..)).trans (.foldl _ _ (fun _ _ _ => .ite (fun _ => .cutOp ..) (fun _ => .refl _)))

theorem Keeps.install (s : State) (t slot : Nat) : Keeps s (s.install t slot) := by
  unfold State.install
  dsimp only
  split
  · exact .refl _
  · exact .ite (fun _ => .refl _) (fun _ => (((Keeps.ctlTo ..).trans (.mapLedger ..)).trans (.mapTower ..)).trans (.schedule ..))

theorem Keeps.windowOpens (s : State) (t slot win : Nat) : Keeps s (s.windowOpens t slot win) := by
  unfold State.windowOpens
  split
  · exact .refl _
  · exact .ite (fun _ => (Keeps.mapTower ..).trans (.schedule ..)) (fun _ => .refl _)

theorem Keeps.issueChunk (s : State) (t r i : Nat) : Keeps s (s.issueChunk t r i) := by
  unfold State.issueChunk
  refine .ite (fun _ => ?_) (fun _ => .schedule ..)
  split
  · exact .schedule ..
  · exact ((Keeps.schedule ..).trans (.mapTower ..)).trans (.loadEntry ..)

theorem Keeps.queueCombining (s : State) (t : Nat) (o : OpInst) : Keeps s (s.queueCombining t o) :=
  .ite (fun _ => .refl _) (fun _ => .mapTower ..)

theorem Keeps.commitChunk (s : State) (t : Nat) (c : Chunk) (o : OpInst) : Keeps s (s.commitChunk t c o) := by
  unfold State.commitChunk
  refine .trans ?_ (((Keeps.mapTower ..).trans (.settleRecord ..)).trans (.schedule ..))
  split
  · refine .trans ?_ (.queueCombining ..)
    refine .ite (fun _ => (Keeps.ite (fun _ => .refl _) (fun _ => .underBank _ _ _ (fun _ => .commitLocal ..))).trans
        (.mapTower ..)) (fun _ => ?_)
    exact ((Keeps.ite (fun _ => .refl _) (fun _ => .underBank _ _ _ (fun _ => .commitLocal ..))).trans (.mapTower ..)).trans
        (.foldl _ _ (fun _ _ _ => .sendFrom ..))
  · refine .ite (fun _ => (Keeps.ite (fun _ => .refl _) (fun _ => .underBank _ _ _ (fun _ => .commitLocal ..))).trans
      (.mapTower ..)) (fun _ => ?_)
    exact ((Keeps.ite (fun _ => .refl _) (fun _ => .underBank _ _ _ (fun _ => .commitLocal ..))).trans (.mapTower ..)).trans
        (.foldl _ _ (fun _ _ _ => .sendFrom ..))

theorem Keeps.commitCopy (s : State) (t : Nat) (c : Chunk) : Keeps s (s.commitCopy t c) :=
  (((Keeps.mapTower ..).trans (.eccRecord ..)).trans (.raiseVector ..)).trans (.schedule ..)

theorem Keeps.commitOrPoison (s : State) (t : Nat) (c : Chunk) (o : OpInst) : Keeps s (s.commitOrPoison t c o) :=
  .ite (fun _ => .commitChunk ..) (fun _ => .underBank _ _ _ (fun _ => .meetPoison ..))

theorem Keeps.chunkCommit (s : State) (t chunk : Nat) (checksOk : Bool) : Keeps s (s.chunkCommit t chunk checksOk) := by
  unfold State.chunkCommit
  split
  · exact .refl _
  · refine .ite (fun _ => ?_) (fun _ => ?_)
    · split
      · exact .telling _ _ (.faultTile ..)
      · exact .refl _
    · split
      · exact .ite (fun _ => .commitCopy ..) (fun _ => .ite (fun _ => .commitOrPoison ..) (fun _ => .refl _))
      · exact .refl _

theorem Keeps.syncWaitExpiry (s : State) (t op : Nat) : Keeps s (s.syncWaitExpiry t op) := by
  unfold State.syncWaitExpiry
  split
  · exact .refl _
  · exact .ite (fun _ => .refl _) (fun _ => ((Keeps.failOp ..).trans (.settleRecord ..)).trans (.schedule ..))

theorem Keeps.completionWord (s : State) (t slot : Nat) : Keeps s (s.completionWord t slot) := by
  unfold State.completionWord
  split
  · exact .refl _
  · refine .ite (fun _ => .refl _) (fun _ => ?_)
    refine .ite (fun _ => (Keeps.mapTower ..).trans (.mapReq ..)) (fun _ => ?_)
    split
    · exact (Keeps.mapTower ..).trans (.logEv ..)
    · refine .ite (fun _ => ((Keeps.mapTower ..).trans (.endRequest ..)).trans (.logEv ..)) (fun _ => ?_)
      exact ((Keeps.mapTower ..).trans (.endRequest ..)).trans (.logEv ..)

theorem Keeps.requestRetired (s : State) (tenant seq : Nat) : Keeps s (s.requestRetired tenant seq) := by
  unfold State.requestRetired
  split
  · exact .refl _
  · refine .ite (fun _ => ?_) (fun _ => .refl _)
    refine .ite (fun _ => ?_) (fun _ => ?_)
    · refine .trans ?_ (.sendTwin ..)
      refine .ite (fun _ => (Keeps.ite (fun _ => .releaseBookings ..) (fun _ => .refl _)).trans (.finishEnd ..)) (fun _ => ?_)
      exact .ite (fun _ => .releaseBookings ..) (fun _ => .refl _)
    · refine .ite (fun _ => (Keeps.ite (fun _ => .releaseBookings ..) (fun _ => .refl _)).trans (.finishEnd ..)) (fun _ => ?_)
      exact .ite (fun _ => .releaseBookings ..) (fun _ => .refl _)

theorem Keeps.endNotice (s : State) (t slot : Nat) : Keeps s (s.endNotice t slot) := by
  unfold State.endNotice
  split
  · exact .refl _
  · split
    · exact .refl _
    · exact .ite (fun _ => (((Keeps.mapReq ..).trans (.retireRecord ..)).trans (.requestRetired ..)).trans
        (.schedule ..)) (fun _ => .refl _)

/-! ### Windows, vertical channels, layer resets and LPDDR5X (MemorySys.lean) -/

theorem Keeps.clearWindow (s : State) (w : Window) : Keeps s (s.clearWindow w) := by
  refine .mapMem _ _ ?cells ?log
  case cells => split <;> exact MemSt.clear_wf _ _
  case log => split <;> exact id

theorem Keeps.dropParked (s : State) (eid : Nat) : Keeps s (s.dropParked eid) :=
  (Keeps.foldl _ _ (fun _ _ _ => .keyUnref ..)).trans (.mapMem _ _ id id)

theorem Keeps.applyWindow (s : State) (w : Window) : Keeps s (s.applyWindow w) := by
  unfold State.applyWindow
  refine .ite (fun _ => ?_) (fun _ => ?_)
  · exact (Keeps.ite (fun _ => (Keeps.foldl _ _ (fun _ _ _ => .clearWindow ..)).trans
      (.dropParked ..)) (fun _ => .foldl _ _ (fun _ _ _ => .clearWindow ..))).trans (.mapMem _ _ id id)
  · exact (((Keeps.ite (fun _ => (Keeps.foldl _ _ (fun _ _ _ => .clearWindow ..)).trans
      (.dropParked ..)) (fun _ => .foldl _ _ (fun _ _ _ => .clearWindow ..))).trans (.mapMem _ _ id id)).trans
      (.clearWindow ..)).trans (.mapMem _ _ id id)

theorem Keeps.applyWindowProc (value : Nat) (s : State) : Keeps s (applyWindowProc value s).2 :=
  .checked _ _ _ (.ite (fun _ => .applyWindow ..) (fun _ => .refl _))

theorem Keeps.burstRetry (s : State) (t l c : Nat) (good : Bool) : Keeps s (s.burstRetry t l c good) :=
  .ite (fun _ => .refl _) (fun _ => .mapTower ..)

theorem Keeps.narrow (s : State) (t l c width : Nat) : Keeps s (s.narrow t l c width) :=
  ((Keeps.mapTower ..).trans (.logEv ..)).trans (.raiseEvent ..)

theorem Keeps.wireFails (s : State) (t l c wire : Nat) (trains512 : Bool) : Keeps s (s.wireFails t l c wire trains512) := by
  unfold State.wireFails
  refine .ite (fun _ => .refl _) (fun _ => ?_)
  refine .ite (fun _ => .logEv ..) (fun _ => ?_)
  refine .ite (fun _ => .logEv ..) (fun _ => ?_)
  refine .ite (fun _ => ((Keeps.mapTower ..).trans (.mapTower ..)).trans (.logEv ..)) (fun _ => ?_)
  refine .ite (fun _ => (Keeps.mapTower ..).trans (.narrow ..)) (fun _ => ?_)
  refine .ite (fun _ => (Keeps.mapTower ..).trans (.narrow ..)) (fun _ => ?_)
  exact ((Keeps.mapTower ..).trans (.mapTower ..)).trans (.logEv ..)

theorem Keeps.stackChannelFails (s : State) (m c : Nat) : Keeps s (s.stackChannelFails m c) :=
  .ite (fun _ => .refl _) (fun _ => (Keeps.mapStack ..).trans (.logEv ..))

theorem Keeps.trainStacks (s : State) (t : Nat) : Keeps s (s.trainStacks t) :=
  .ite (fun _ => (Keeps.mapStack ..).trans (.mapStack ..)) (fun _ => .refl _)

theorem Keeps.failWires (s : State) (t : Nat) (wires : List (Nat × Nat × Nat)) : Keeps s (s.failWires t wires) :=
  .foldl _ _ (fun _ _ _ => .ite (fun _ => .ite (fun _ => .stackChannelFails ..) (fun _ => .refl _)) (fun _ => .wireFails ..))

theorem Keeps.trainChannels (s : State) (t top : Nat) (widths : List (Nat × Nat × Nat)) (towerReset : Bool) :
    Keeps s (s.trainChannels t top widths towerReset) := by
  unfold State.trainChannels
  refine .foldl _ _ (fun _ _ _ => ?_)
  refine .ite (fun _ => ?_) (fun _ => ?_)
  · exact .ite (fun _ => (Keeps.mapTower ..).trans (.logEv ..)) (fun _ => .mapTower ..)
  · exact (Keeps.ite (fun _ => (Keeps.mapTower ..).trans (.logEv ..)) (fun _ => .mapTower ..)).trans (.raiseEvent ..)

theorem Keeps.beginLayerReset (s : State) (t k : Nat) : Keeps s (s.beginLayerReset t k) :=
  (Keeps.ite (fun _ => .refl _) (fun _ => .fenceTower ..)).trans (.mapTower ..)

theorem Keeps.requestLayerReset (s : State) (t k : Nat) : Keeps s (s.requestLayerReset t k) :=
  .ite (fun _ => .beginLayerReset ..) (fun _ => .mapTower ..)

theorem Keeps.layerResetProc (value : Nat) (s : State) : Keeps s (layerResetProc value s).2 := .checked _ _ _ (.requestLayerReset ..)

theorem Keeps.forceLayerReset (s : State) (t : Nat) : Keeps s (s.forceLayerReset t) :=
  .ite (fun _ => (Keeps.mapTower ..).trans (.mapMem _ _ id id)) (fun _ => .refl _)

theorem Keeps.layerTrained (s : State) (t : Nat) (widths wires : List (Nat × Nat × Nat)) :
    Keeps s (s.layerTrained t widths wires) := by
  unfold State.layerTrained
  refine .ite (fun _ => .refl _) (fun _ => ?_)
  dsimp only
  split
  · exact (((((Keeps.trainChannels ..).trans (.failWires ..)).trans (.mapTower ..)).trans (.raiseVector ..)).trans
      (.mapTower ..)).trans (.beginLayerReset ..)
  · refine .trans ?_ (.schedule ..)
    refine .ite (fun _ => ?_) (fun _ => ?_)
    · exact ((((Keeps.trainChannels ..).trans (.failWires ..)).trans (.mapTower ..)).trans (.raiseVector ..)).trans (.unfenceTower ..)
    · exact (((Keeps.trainChannels ..).trans (.failWires ..)).trans (.mapTower ..)).trans (.raiseVector ..)

theorem Keeps.retrainStack (s : State) (k : StackIn) : Keeps s (s.retrainStack k) := by
  unfold State.retrainStack
  refine .ite (fun _ => ?_) (fun _ => .refl _)
  dsimp only
  split
  · exact (Keeps.mapStack ..).trans (.stackChannelFails ..)
  · exact .mapStack ..

/-! ### Phase groups, placement, loads and removal of packages (Packages.lean) -/

theorem Keeps.groupsWere (s : State) (moved : List (Nat × Option Nat)) : Keeps s (s.groupsWere moved) := by
  unfold State.groupsWere
  split <;> exact .of_same rfl rfl rfl rfl

theorem Keeps.groupApplyProc (value : Nat) (s : State) : Keeps s (groupApplyProc value s).2 :=
  .checked _ _ _ (.ite (fun _ => (((Keeps.groupsWere ..).trans (.foldl _ _ (fun _ _ _ => .mapTower ..))).trans
    (.foldl _ _ (fun _ _ _ => .mapTower ..))).trans (.mapGroups ..)) (fun _ => .refl _))

theorem Keeps.removeProc (value : Nat) (s : State) : Keeps s (removeProc value s).2 :=
  .checked _ _ _ (.ite (fun _ => .mapPkgs ..) (fun _ => .refl _))

theorem Keeps.removalComplete (s : State) (model : Nat) : Keeps s (s.removalComplete model) := by
  unfold State.removalComplete
  refine .ite (fun _ => ?_) (fun _ => ?_)
  · refine .trans ?_ (.loadStatus ..)
    exact (((Keeps.mapVault ..).trans (.foldl _ _ (fun _ _ _ => .mapTower ..))).trans (.mapPkgs ..)).trans (.mapTowers ..)
  · exact .refl _

theorem Keeps.clearWritten (s : State) (written : List (Nat × Nat)) : Keeps s (s.clearWritten written) := by
  unfold State.clearWritten
  refine .foldl _ _ (fun _ _ _ => ?_)
  split
  · exact .ite (fun _ => .clearMem ..) (fun _ => (Keeps.clearMem ..).trans (.storeTouched ..))
  · exact .refl _
  · exact .refl _

theorem Keeps.freeLoad (s : State) (st : Nat) : Keeps s (s.freeLoad st) := .mapLoad ..

theorem Keeps.failLoad (s : State) (f : Failure) : Keeps s (s.failLoad f) := by
  refine .trans ?_ ((Keeps.mapDict _ _ (fun _ => DictSt.abortRecord_length _ _)).trans ((Keeps.freeLoad ..).trans (.raiseVector ..)))
  exact (Keeps.ite (fun _ => .dropParked ..) (fun _ => .clearWritten ..)).trans (.of_same rfl rfl rfl rfl)

theorem Keeps.writeSections (s : State) (lo hi : Nat) : Keeps s (s.writeSections lo hi) :=
  .foldl _ _ (fun _ _ _ => .ite (fun _ => (((Keeps.putBytes ..).trans (.storeTouched ..)).trans (.mapTower ..)).trans
    (.mapLoad ..)) (fun _ => .refl _))

theorem Keeps.takeSegment (s : State) (payload : List Byte) : Keeps s (s.takeSegment payload) :=
  .ite (fun _ => (Keeps.mapLoad ..).trans (.writeSections ..)) (fun _ => .mapLoad ..)

theorem Keeps.placeShare (s : State) (p : Pkg) : Keeps s (s.placeShare p) :=
  .foldl _ _ (fun _ _ _ => .ite (fun _ => .mapTower ..) (fun _ => .refl _))

theorem Keeps.finishLoad (s : State) (trailer : List Byte) (v : TrailerIn) : Keeps s (s.finishLoad trailer v) := by
  unfold State.finishLoad
  refine .ite (fun _ => .failLoad ..) (fun _ => ?_)
  split
  · exact .failLoad ..
  · refine .ite (fun _ => .failLoad ..) (fun _ => .trans ?_ ((Keeps.freeLoad ..).trans (.raiseVector ..)))
    refine .trans (.ite (fun _ => .placeShare ..) (fun _ => ?_)) (.loadStatus ..)
    exact ((Keeps.placeShare ..).trans (.mapPkgs ..)).trans (.mapVault ..)

theorem Keeps.parkSegment (s : State) (hdr : BitVec 512) (payload : List Byte) (last : Bool) :
    Keeps s (s.parkSegment hdr payload last) := by
  unfold State.parkSegment
  refine .ite (fun _ => .failLoad ..) (fun _ => ?_)
  refine .ite (fun _ => ?_) (fun _ => ?_)
  · exact ((((Keeps.ite (fun _ => .refl _) (fun _ => .keyRef ..)).trans (.mapMem _ _ id id)).trans (.mapLoad ..)).trans
      (.freeLoad ..)).trans (.raiseVector ..)
  · exact ((Keeps.ite (fun _ => .refl _) (fun _ => .keyRef ..)).trans (.mapMem _ _ id id)).trans (.mapLoad ..)

theorem Keeps.loadSegment (s : State) (hdr : BitVec 512) (payload : List Byte) (trailer : TrailerIn) :
    Keeps s (s.loadSegment hdr payload trailer) := by
  unfold State.loadSegment
  refine .ite (fun _ => .failLoad ..) (fun _ => ?_)
  refine .ite (fun _ => .parkSegment ..) (fun _ => ?_)
  exact .ite (fun _ => (Keeps.mapLoad ..).trans (.finishLoad ..)) (fun _ => .takeSegment ..)

theorem Keeps.openLoad (s : State) (target : Nat) : Keeps s (s.openLoad target) := by
  unfold State.openLoad
  refine .trans ?_ (.mapLoad ..)
  refine .ite (fun _ => (Keeps.ite (fun _ => .dropParked ..) (fun _ => .refl _)).trans (.of_same rfl rfl rfl rfl)) (fun _ => ?_)
  exact .ite (fun _ => .dropParked ..) (fun _ => .refl _)

theorem Keeps.openLoadProc (value : Nat) (s : State) : Keeps s (openLoadProc value s).2 :=
  .checked _ _ _ (.ite (fun _ => .openLoad ..) (fun _ => .refl _))

theorem Keeps.placeParked (s : State) (eid : Nat) (tagsOk : Bool) (trailer : TrailerIn) :
    Keeps s (s.placeParked eid tagsOk trailer) := by
  unfold State.placeParked
  refine .ite (fun _ => (Keeps.mapLedger ..).trans (.failLoad ..)) (fun _ => ?_)
  exact .ite (fun _ => .failLoad ..) (fun _ => .foldl _ _ (fun _ _ _ => .ite (fun _ => .loadSegment ..) (fun _ => .refl _)))

theorem Keeps.placeFromParkProc (value : Nat) (trailer : TrailerIn) (tagsOk : Bool) (s : State) :
    Keeps s (placeFromParkProc value trailer tagsOk s).2 :=
  .checked _ _ _ (.ite (fun _ => (Keeps.ite (fun _ => .refl _) (fun _ => .openLoad ..)).trans (.placeParked ..)) (fun _ => .refl _))

theorem Keeps.cancelLoadProc (value : Nat) (s : State) : Keeps s (cancelLoadProc value s).2 :=
  .checked _ _ _ (.ite (fun _ => .failLoad ..) (fun _ => .refl _))

/-! ### The pair (PairOps.lean) -/

theorem Keeps.notRun (s : State) : Keeps s s.notRun := (Keeps.mapPair ..).trans (.raiseEvent ..)

theorem Keeps.isolate (s : State) : Keeps s s.isolate := by
  unfold State.isolate
  exact ((((Keeps.mapPair ..).trans (.foldl _ _ (fun _ _ _ => .finishEnd ..))).trans (.unrefLeft ..)).trans (.mapPorts ..)).trans
      (.raiseEvent ..)

/-! ### Board time, the tally and region clocks (Time.lean) -/

theorem Keeps.setTimeMode (s : State) (m : TimeMode) : Keeps s (s.setTimeMode m) :=
  .ite (fun _ => .refl _) (fun _ => ((Keeps.mapTime _ _ (Nat.le_refl _)).trans (.mapPair ..)).trans (.logEv ..))

theorem Keeps.enterLocked (s : State) : Keeps s s.enterLocked := (Keeps.mapTime _ _ (Nat.le_refl _)).trans (.setTimeMode ..)

theorem Keeps.referenceLoss (s : State) (b start : Nat) : Keeps s (s.referenceLoss b start) := by
  unfold State.referenceLoss
  dsimp only
  split
  · exact .logEv ..
  · exact ((Keeps.logEv ..).trans (.mapTime _ _ (Nat.le_refl _))).trans (.setTimeMode ..)
  · exact ((Keeps.logEv ..).trans (.mapTime _ _ (Nat.le_refl _))).trans (.setTimeMode ..)
  · exact (Keeps.logEv ..).trans (.mapTime _ _ (Nat.le_refl _))
  · exact (Keeps.logEv ..).trans (.mapTime _ _ (Nat.le_refl _))

theorem Keeps.refclkLoss (s : State) : Keeps s s.refclkLoss :=
  .ite (fun _ => .mapTime _ _ (Nat.le_refl _)) (fun _ => (Keeps.mapTime _ _ (Nat.le_refl _)).trans (.referenceLoss ..))

theorem Keeps.gateEnd (s : State) (ppb : Int) (edgeFail : Bool) : Keeps s (s.gateEnd ppb edgeFail) := by
  unfold State.gateEnd
  refine .ite (fun _ => .mapTime _ _ (Nat.le_refl _)) (fun _ => ?_)
  refine .ite (fun _ => (Keeps.mapTime _ _ (Nat.le_refl _)).trans (.refclkLoss ..)) (fun _ => ?_)
  refine .ite (fun _ => ?_) (fun _ => .mapTime _ _ (Nat.le_refl _))
  exact .ite (fun _ => (Keeps.mapTime _ _ (Nat.le_refl _)).trans
      (.mapTime _ _ (Nat.le_refl _))) (fun _ => (Keeps.mapTime _ _ (Nat.le_refl _)).trans (.mapTime _ _ (Nat.le_refl _)))

theorem Keeps.discardPulse (s : State) : Keeps s s.discardPulse := (Keeps.mapTime _ _ (Nat.le_refl _)).trans (.logEv ..)

theorem Keeps.acceptPulse (s : State) (window : Nat) (e : Int) : Keeps s (s.acceptPulse window e) := .mapTime _ _ (Nat.le_refl _)

theorem Keeps.sendCount (s : State) (count : Nat) : Keeps s (s.sendCount count) :=
  .ite (fun _ => (Keeps.sendTwin ..).trans (.sendConfig ..)) (fun _ => .refl _)

theorem Keeps.epochMismatch (s : State) : Keeps s s.epochMismatch :=
  .ite (fun _ => ((Keeps.mapTime _ _ (Nat.le_refl _)).trans (.mapPair ..)).trans
    (.raiseEvent ..)) (fun _ => .mapTime _ _ (Nat.le_refl _))

theorem Keeps.twinCountDue (s : State) : Keeps s s.twinCountDue :=
  .ite (fun _ => (Keeps.epochMismatch ..).trans (.mapTime _ _ (Nat.le_refl _))) (fun _ => .refl _)

theorem Keeps.assignCount (s : State) (n : Nat) : Keeps s (s.assignCount n) :=
  ((Keeps.twinCountDue ..).trans (.mapTime _ _ (Nat.le_refl _))).trans (.sendCount ..)

theorem Keeps.spacingKept (s : State) (jump : Nat) : Keeps s (s.spacingKept jump) := .mapPower ..

theorem Keeps.applyLoad (s : State) (n : Nat) : Keeps s (s.applyLoad n) :=
  (((Keeps.acceptPulse ..).trans (.spacingKept ..)).trans (.mapTime _ _ (Nat.le_max_left _ _))).trans (.assignCount ..)

theorem le_cdiv_mul (a : Nat) {b : Nat} (hb : 0 < b) : a ≤ cdiv a b * b := by
  have h := Nat.div_add_mod (a + b - 1) b
  have hlt := Nat.mod_lt (a + b - 1) hb
  rw [cdiv, Nat.mul_comm]
  omega

theorem Keeps.stepToMultiple (s : State) : Keeps s s.stepToMultiple := by
  unfold State.stepToMultiple
  refine .trans ((Keeps.acceptPulse ..).trans (.spacingKept ..)) (.mapTime _ _ ?_)
  exact le_cdiv_mul s.now (by decide)

theorem Keeps.unsetPulse (s : State) : Keeps s s.unsetPulse := by
  unfold State.unsetPulse
  refine .ite (fun _ => ?_) (fun _ => ?_)
  · exact (((Keeps.acceptPulse ..).trans (.mapTime _ _ (Nat.le_refl _))).trans (.assignCount ..)).trans (.enterLocked ..)
  · exact .ite (fun _ => (Keeps.acceptPulse ..).trans (.mapTime _ _ (Nat.le_refl _))) (fun _ => .stepToMultiple ..)

theorem Keeps.pulseUnset (s : State) : Keeps s s.pulseUnset := by
  unfold State.pulseUnset
  refine .ite (fun _ => .discardPulse ..) (fun _ => ?_)
  dsimp only
  split
  · exact (Keeps.ite (fun _ => .refl _) (fun _ => .mapTime _ _ (Nat.le_refl _))).trans (.unsetPulse ..)
  · refine .ite (fun _ => (Keeps.ite (fun _ => .refl _) (fun _ => .mapTime _ _ (Nat.le_refl _))).trans (.applyLoad ..)) (fun _ => ?_)
    exact (((Keeps.ite (fun _ => .refl _) (fun _ => .mapTime _ _ (Nat.le_refl _))).trans (.mapTime _ _ (Nat.le_refl _))).trans
        (.logEv ..)).trans (.unsetPulse ..)

theorem Keeps.endHoldover (s : State) : Keeps s s.endHoldover := by
  unfold State.endHoldover
  refine .ite (fun _ => ?_) (fun _ => ?_)
  · exact (((Keeps.acceptPulse ..).trans (.assignCount ..)).trans (.mapTime _ _ (Nat.le_refl _))).trans (.enterLocked ..)
  · refine .ite (fun _ => ?_) (fun _ => ?_)
    · exact ((((Keeps.acceptPulse ..).trans (.assignCount ..)).trans (.mapTime _ _ (Nat.le_refl _))).trans
        (.setTimeMode ..)).trans (.logEv ..)
    · exact (((Keeps.acceptPulse ..).trans (.assignCount ..)).trans (.mapTime _ _ (Nat.le_refl _))).trans (.setTimeMode ..)

theorem Keeps.pulseSet (s : State) : Keeps s s.pulseSet := by
  unfold State.pulseSet
  dsimp only
  split
  · exact .refl _
  · exact .ite (fun _ => ((Keeps.acceptPulse ..).trans (.mapTime _ _ (Nat.le_refl _))).trans
      (.assignCount ..)) (fun _ => .discardPulse ..)
  · refine .ite (fun _ => .endHoldover ..) (fun _ => ?_)
    exact .ite (fun _ => (Keeps.acceptPulse ..).trans (.assignCount ..)) (fun _ => .discardPulse ..)
  · refine .ite (fun _ => ?_) (fun _ => .discardPulse ..)
    refine .ite (fun _ => ?_) (fun _ => ((Keeps.acceptPulse ..).trans (.mapTime _ _ (Nat.le_refl _))).trans (.assignCount ..))
    exact (((Keeps.acceptPulse ..).trans (.mapTime _ _ (Nat.le_refl _))).trans (.assignCount ..)).trans (.enterLocked ..)
  · exact .ite (fun _ => (Keeps.acceptPulse ..).trans (.assignCount ..)) (fun _ => .discardPulse ..)

theorem Keeps.epochPulse (s : State) (width : Nat) : Keeps s (s.epochPulse width) := by
  unfold State.epochPulse
  refine .ite (fun _ => .refl _) (fun _ => ?_)
  refine .ite (fun _ => .discardPulse ..) (fun _ => ?_)
  exact (Keeps.ite (fun _ => .pulseUnset ..) (fun _ => .pulseSet ..)).trans (.mapTime _ _ (Nat.le_refl _))

theorem Keeps.missWindow (s : State) (n : Nat) : Keeps s (s.missWindow n) := by
  unfold State.missWindow
  refine .ite (fun _ => ?_) (fun _ => ((Keeps.twinCountDue ..).trans (.mapTime _ _ (Nat.le_refl _))).trans (.logEv ..))
  exact (((Keeps.twinCountDue ..).trans (.mapTime _ _ (Nat.le_refl _))).trans (.logEv ..)).trans (.referenceLoss ..)

theorem Keeps.windowClose (s : State) : Keeps s s.windowClose := .ite (fun _ => .refl _) (fun _ => .missWindow ..)

theorem Keeps.epochCountLoadProc (n : Nat) (s : State) : Keeps s (epochCountLoadProc n s).2 :=
  .checked _ _ _ (.mapTime _ _ (Nat.le_refl _))

/-- Slewing holds the tally or advances it by one more (R47). -/
theorem Keeps.slew (s : State) : Keeps s s.slew :=
  .ite (fun _ => .refl _) (fun _ => .ite (fun _ => .mapTime _ _ (Nat.le_refl _)) (fun _ => .mapTime _ _ (Nat.le_succ _)))

theorem Keeps.twinCount (s : State) (count : Nat) (twinLocked : Bool) : Keeps s (s.twinCount count twinLocked) := by
  unfold State.twinCount
  refine .ite (fun _ => .refl _) (fun _ => ?_)
  refine .ite (fun _ => (Keeps.mapTime _ _ (Nat.le_refl _)).trans (.mapPair ..)) (fun _ => ?_)
  refine .ite (fun _ => ?_) (fun _ => ?_)
  · exact ((((Keeps.mapTime _ _ (Nat.le_refl _)).trans (.mapPair ..)).trans (.mapTime _ _ (Nat.le_refl _))).trans
      (.mapTime _ _ (Nat.le_refl _))).trans (.mapPair ..)
  · exact (((Keeps.mapTime _ _ (Nat.le_refl _)).trans (.mapPair ..)).trans (.mapTime _ _ (Nat.le_refl _))).trans (.epochMismatch ..)

theorem Keeps.timeReset (s : State) : Keeps s s.timeReset :=
  ((Keeps.mapPair ..).trans (.mapTime _ _ (Nat.le_refl _))).trans (.setTimeMode ..)

theorem Keeps.timeResetProc (value : Nat) (s : State) : Keeps s (timeResetProc value s).2 :=
  .checked _ _ _ (.ite (fun _ => .timeReset ..) (fun _ => .refl _))

/-! ### Data ports and frames (Frames.lean) -/

theorem Keeps.moveFrames (s : State) (x : Nat) : Keeps s (s.moveFrames x) :=
  .ite (fun _ => .refl _) (fun _ => (Keeps.mapPort ..).trans (.foldl _ _ (fun _ _ _ => .sendFrame ..)))

theorem Keeps.linkUp (s : State) (x : Nat) (reversed : Bool) (polarity : BitVec 8) : Keeps s (s.linkUp x reversed polarity) := by
  unfold State.linkUp
  refine .ite (fun _ => .refl _) (fun _ => ?_)
  refine .ite (fun _ => ?_) (fun _ => ?_)
  · refine .ite (fun _ => ?_) (fun _ => ((Keeps.mapPort ..).trans (.raiseEvent ..)).trans (.foldl _ _ (fun _ _ _ => .moveFrames ..)))
    exact (((Keeps.mapPort ..).trans (.raiseEvent ..)).trans (.foldl _ _ (fun _ _ _ => .moveFrames ..))).trans (.sendTwin ..)
  · refine .ite (fun _ => ?_) (fun _ => ((Keeps.mapPort ..).trans (.raiseEvent ..)).trans (.foldl _ _ (fun _ _ _ => .moveFrames ..)))
    exact ((((Keeps.mapPort ..).trans (.raiseEvent ..)).trans (.foldl _ _ (fun _ _ _ => .moveFrames ..))).trans
        (.sendFrame ..)).trans (.sendCredit ..)

theorem Keeps.laneLost (s : State) (x lane : Nat) : Keeps s (s.laneLost x lane) := by
  unfold State.laneLost
  refine .ite (fun _ => .refl _) (fun _ => ?_)
  refine .ite (fun _ => .logEv ..) (fun _ => ?_)
  refine .ite (fun _ => ?_) (fun _ => ((Keeps.mapPort ..).trans (.logEv ..)).trans (.raiseEvent ..))
  exact (((((Keeps.mapPort ..).trans (.logEv ..)).trans (.raiseEvent ..)).trans (.mapPort ..)).trans (.logEv ..)).trans (.moveFrames ..)

theorem Keeps.discardUnit (s : State) (x : Nat) : Keeps s (s.discardUnit x) := .mapPort ..

theorem Keeps.noticeFor (s : State) (f : FrameIn) (reason : Nat) : Keeps s (s.noticeFor f reason) :=
  .ite (fun _ => .sendNotice ..) (fun _ => .sendNotice ..)

theorem Keeps.faultyHeader (s : State) (f : FrameIn) : Keeps s (s.faultyHeader f) :=
  .ite (fun _ => .discardUnit ..) (fun _ => ((Keeps.discardUnit ..).trans (.mapPort ..)).trans (.noticeFor ..))

theorem Keeps.beyondCredit (s : State) (f : FrameIn) : Keeps s (s.beyondCredit f) :=
  ((Keeps.discardUnit ..).trans (.mapPort ..)).trans (.noticeFor ..)

theorem Keeps.header (s : State) (f : FrameIn) (cls : Nat) (go : State → State) (h : ∀ t, Keeps t (go t)) :
    Keeps s (s.header f cls go) :=
  .ite (fun _ => .refl _) (fun _ => .ite (fun _ => .faultyHeader ..) (fun _ => .ite (fun _ => .refl _) (fun _ =>
    .ite (fun _ => .beyondCredit ..) (fun _ => (Keeps.mapPort ..).trans (h _)))))

theorem Keeps.refuseFrame (s : State) (f : FrameIn) (reason : Nat) : Keeps s (s.refuseFrame f reason) :=
  (Keeps.sendAnswer ..).trans (.mapPort ..)

theorem Keeps.claimCheck (s : State) (f : FrameIn) : Keeps s (s.claimCheck f) := by
  unfold State.claimCheck
  refine .ite (fun _ => ?_) (fun _ => ?_)
  · exact (Keeps.ite (fun _ => ((Keeps.mapLedger ..).trans (.logEv ..)).trans (.raiseEvent ..)) (fun _ => .refl _)).trans (.isolate ..)
  · exact .ite (fun _ => ((Keeps.mapLedger ..).trans (.logEv ..)).trans (.raiseEvent ..)) (fun _ => .refl _)

theorem Keeps.requestHeader (s : State) (f : FrameIn) : Keeps s (s.requestHeader f) := by
  unfold State.requestHeader
  refine .ite (fun _ => (Keeps.mapPort ..).trans (.noticeFor ..)) (fun _ => ?_)
  refine .ite (fun _ => ((Keeps.claimCheck ..).trans (.refuseFrame ..)).trans (.mapPort ..)) (fun _ => ?_)
  refine .ite (fun _ => (Keeps.claimCheck ..).trans (.refuseFrame ..)) (fun _ => ?_)
  refine .ite (fun _ => ((Keeps.claimCheck ..).trans (.mapLedger ..)).trans (.refuseFrame ..)) (fun _ => ?_)
  refine .ite (fun _ => ((Keeps.claimCheck ..).trans (.mapLedger ..)).trans (.refuseFrame ..)) (fun _ => ?_)
  split
  · exact (Keeps.claimCheck ..).trans (.mapLedger ..)
  · exact ((((Keeps.claimCheck ..).trans (.mapLedger ..)).trans (.keyRef ..)).trans (.mapLedger ..)).trans (.mapPort ..)

theorem Keeps.segmentFrame (s : State) (f : FrameIn) (payload : List Byte) (tagOk : Bool) (trailer : TrailerIn) :
    Keeps s (s.segmentFrame f payload tagOk trailer) := by
  unfold State.segmentFrame
  refine .ite (fun _ => ?_) (fun _ => ?_)
  · exact (Keeps.ite (fun _ => (Keeps.claimCheck ..).trans (.mapPort ..)) (fun _ => .claimCheck ..)).trans (.noticeFor ..)
  · refine .ite (fun _ => .claimCheck ..) (fun _ => ?_)
    refine .ite (fun _ => ?_) (fun _ => ((Keeps.claimCheck ..).trans (.regrant ..)).trans (.loadSegment ..))
    exact (((Keeps.claimCheck ..).trans (.regrant ..)).trans (.mapLedger ..)).trans (.failLoad ..)

theorem Keeps.unkeyed (s : State) (f : FrameIn) (go : State → State) (h : ∀ t, Keeps t (go t)) : Keeps s (s.unkeyed f go) :=
  .ite (fun _ => h s) (fun _ => .ite (fun _ => .refl _) (fun _ => .noticeFor ..))

theorem Keeps.placePayload (s : State) (r : Req) (bytes : List Byte) : Keeps s (s.placePayload r bytes) :=
  (Keeps.underBank _ _ _ (fun _ => .foldl _ _ (fun _ _ _ => .putBytes ..))).trans
    (.foldl _ _ (fun _ _ _ => (Keeps.signalObj ..).trans (.schedule ..)))

theorem Keeps.payloadReady (s : State) (tenant seq : Nat) : Keeps s (s.payloadReady tenant seq) := by
  unfold State.payloadReady
  split
  · exact .refl _
  · split
    · exact .refl _
    · refine .trans ?_ ((Keeps.mapReq ..).trans (.leaveBuffer ..))
      refine .ite (fun _ => .refl _) (fun _ => ?_)
      refine .ite (fun _ => .placePayload ..) (fun _ => ?_)
      exact .ite (fun _ => (Keeps.withdrawReq ..).trans (.notRun ..)) (fun _ => .endRequest ..)

theorem Keeps.payloadComplete (s : State) (x : Nat) (bytes : List Byte) (tagOk : Bool) :
    Keeps s (s.payloadComplete x bytes tagOk) := by
  unfold State.payloadComplete
  split
  · exact .refl _
  · refine .ite (fun _ => (Keeps.mapPort ..).trans (.regrant ..)) (fun _ => ?_)
    split
    · exact .mapPort ..
    · refine .ite (fun _ => ?_) (fun _ => ?_)
      · exact ((Keeps.ite (fun _ => .mapPort ..) (fun _ => (Keeps.mapPort ..).trans (.mapLedger ..))).trans (.mapReq ..)).trans
          (.payloadReady ..)
      · refine .ite (fun _ => ?_) (fun _ => ?_)
        · exact (Keeps.ite (fun _ => .mapPort ..) (fun _ => (Keeps.mapPort ..).trans (.mapLedger ..))).trans (.mapReq ..)
        · exact (((Keeps.ite (fun _ => .mapPort ..) (fun _ => (Keeps.mapPort ..).trans (.mapLedger ..))).trans
            (.mapReq ..)).trans (.mapReq ..)).trans (.leaveBuffer ..)

theorem Keeps.unitGap (s : State) (x : Nat) : Keeps s (s.unitGap x) := by
  unfold State.unitGap
  dsimp only
  split
  · exact .refl _
  · refine .ite (fun _ => .refl _) (fun _ => ?_)
    split
    · exact ((Keeps.mapPort ..).trans (.mapLedger ..)).trans (.logEv ..)
    · refine .trans ?_ (.leaveBuffer ..)
      refine .ite (fun _ => ?_) (fun _ => ?_)
      · exact (((Keeps.mapPort ..).trans (.mapLedger ..)).trans (.logEv ..)).trans (.endRequest ..)
      · refine .ite (fun _ => ?_) (fun _ => ?_)
        · exact (((Keeps.mapPort ..).trans (.mapLedger ..)).trans (.logEv ..)).trans (.mapReq ..)
        · refine .ite (fun _ => ?_) (fun _ => ((Keeps.mapPort ..).trans (.mapLedger ..)).trans (.logEv ..))
          exact ((((Keeps.mapPort ..).trans (.mapLedger ..)).trans (.logEv ..)).trans (.mapReq ..)).trans (.keyUnref ..)

/-! ### The Frasol base (Base.lean) -/

theorem Keeps.replay (s : State) (i j w seq : Nat) : Keeps s (s.replay i j w seq) :=
  .ite (fun _ => .refl _) (fun _ => .of_same rfl rfl rfl rfl)

theorem Keeps.portReplay (s : State) (x lane seq : Nat) : Keeps s (s.portReplay x lane seq) :=
  .ite (fun _ => .refl _) (fun _ => .mapPort ..)

theorem Keeps.replayLimit (s : State) (i j w : Nat) (locked : Bool) : Keeps s (s.replayLimit i j w locked) :=
  .ite (fun _ => .refl _) (fun _ => .ite (fun _ => .permanentFault ..) (fun _ => .lockLoss ..))

theorem Keeps.portLimit (s : State) (x lane : Nat) : Keeps s (s.portLimit x lane) := .ite (fun _ => .laneLost ..) (fun _ => .refl _)

theorem Keeps.codewordIn (s : State) (i j : Nat) (w : CodewordIn) (units : List (BitVec 512)) :
    Keeps s (s.codewordIn i j w units) := by
  unfold State.codewordIn
  refine .ite (fun _ => .refl _) (fun _ => .trans (.ite (fun _ => .trans ?_ (.replay ..)) (fun _ => ?_)) (.mapLines ..))
  · exact .of_same rfl rfl rfl rfl
  · exact .of_same rfl rfl rfl rfl

theorem Keeps.standIn (s : State) (i j w : Nat) : Keeps s (s.standIn i j w) :=
  .ite (fun _ => .refl _) (fun _ => (Keeps.putPair ..).trans (.mapBase ..))

theorem Keeps.fadeA (s : State) (m : Nat) (output : Int) (drive : Nat) : Keeps s (s.fadeA m output drive) := .mapLaser ..

theorem Keeps.queueWindows (s : State) (m : Nat) : Keeps s (s.queueWindows m) := .mapBase ..

theorem Keeps.fadeB (s : State) (m : Nat) (output : Int) : Keeps s (s.fadeB m output) := by
  unfold State.fadeB
  refine .ite (fun _ => ?_) (fun _ => .mapLaser ..)
  refine .ite (fun _ => ?_) (fun _ => ((Keeps.mapLaser ..).trans (.mapLaser ..)).trans (.logEv ..))
  refine .ite (fun _ => ?_) (fun _ => ((Keeps.mapLaser ..).trans (.mapLaser ..)).trans (.logEv ..))
  exact (((Keeps.mapLaser ..).trans (.mapLaser ..)).trans (.logEv ..)).trans (.queueWindows ..)

theorem Keeps.fadeC (s : State) (m : Nat) : Keeps s (s.fadeC m) := by
  unfold State.fadeC
  refine .ite (fun _ => .refl _) (fun _ => ?_)
  refine .ite (fun _ => .foldl _ _ (fun _ _ _ => .degradePlane ..)) (fun _ => ?_)
  split
  · exact .feedDown ..
  · exact .refl _

theorem Keeps.lossOfLight (s : State) (m : Nat) : Keeps s (s.lossOfLight m) := by
  unfold State.lossOfLight
  refine .ite (fun _ => .refl _) (fun _ => ?_)
  refine .ite (fun _ => ?_) (fun _ => ?_)
  · dsimp only
    split
    · exact (((Keeps.mapLaser ..).trans (.switchLink ..)).trans (.mapBase ..)).trans
        (.foldl _ _ (fun _ _ _ => (Keeps.mapBase ..).trans (.planeLeaves ..)))
    · exact (Keeps.mapLaser ..).trans (.foldl _ _ (fun _ _ _ => .degradePlane ..))
  · split
    · exact .feedLoss ..
    · exact .mapLaser ..

theorem Keeps.openWindow (s : State) (w : Nat) : Keeps s (s.openWindow w) :=
  .ite (fun _ => .refl _) (fun _ => .ite (fun _ => (Keeps.mapBase ..).trans (.planeLeaves ..)) (fun _ => .mapBase ..))

theorem Keeps.planeSwitch (s : State) (w : Nat) : Keeps s (s.planeSwitch w) := by
  unfold State.planeSwitch
  split
  · exact .refl _
  · refine .ite (fun _ => .refl _) (fun _ => ?_)
    refine .ite (fun _ => (Keeps.mapBase ..).trans (.switchLink ..)) (fun _ => ?_)
    split
    · exact .refl _
    · refine .ite (fun _ => (Keeps.mapLaser ..).trans (.mapBase ..)) (fun _ => ?_)
      exact .ite (fun _ => (Keeps.switchLink ..).trans (.closeWindow ..)) (fun _ => .refl _)

theorem Keeps.routingArmProc (tick : Nat) (s : State) : Keeps s (routingArmProc tick s).2 := .checked _ _ _ (.mapBase ..)

theorem Keeps.routingSwitch (s : State) : Keeps s s.routingSwitch := .ite (fun _ => .mapBase ..) (fun _ => .refl _)

theorem Keeps.bankDrained (s : State) : Keeps s s.bankDrained := .ite (fun _ => .mapBase ..) (fun _ => .refl _)

theorem Keeps.routingCopyProc (value : Nat) (s : State) : Keeps s (routingCopyProc value s).2 :=
  .checked _ _ _ (.ite (fun _ => .mapBase ..) (fun _ => .refl _))

/-! ### The security alarm (AlarmOps.lean) -/

theorem Keeps.policyChanged (s : State) : Keeps s s.policyChanged := .mapVault ..

theorem Keeps.dropEmpty (s : State) : Keeps s s.dropEmpty := by
  unfold State.dropEmpty
  exact (Keeps.mapVault ..).trans (.mapLedger ..)

theorem Keeps.eraseTenants (s : State) (p : Nat → Bool) : Keeps s (s.eraseTenants p) := (Keeps.mapVault ..).trans (.dropEmpty ..)

theorem Keeps.eraseVault (s : State) : Keeps s s.eraseVault := ((Keeps.mapVault ..).trans (.dropEmpty ..)).trans (.mapPair ..)

theorem Keeps.endTenants (s : State) (p : Nat → Bool) : Keeps s (s.endTenants p) := (Keeps.mapTowers ..).trans (.endAll ..)

theorem Keeps.fenceTowers (s : State) (cause : Nat) : Keeps s (s.fenceTowers cause) :=
  .foldl _ _ (fun _ _ _ => .ite (fun _ => .refl _) (fun _ => .fenceTower ..))

theorem Keeps.alarmAct (s : State) (act : Nat) (all : Bool) (tenants : List Nat) : Keeps s (s.alarmAct act all tenants) := by
  unfold State.alarmAct
  refine .ite (fun _ => .refl _) (fun _ => ?_)
  refine .ite (fun _ => ((Keeps.mapVault ..).trans (.policyChanged ..)).trans (.endTenants ..)) (fun _ => ?_)
  refine .ite (fun _ => ?_) (fun _ => (Keeps.eraseVault ..).trans (.fenceTowers ..))
  exact (((Keeps.mapVault ..).trans (.policyChanged ..)).trans (.eraseTenants ..)).trans (.endTenants ..)

/-- The records of an alarm's tick take its action in place (R448). -/
theorem Keeps.alarmAction (s : State) (act sev : Nat) : Keeps s (s.mapLog (fun l => l.alarmAction s.now act sev)) :=
  .mapLog _ _ (by simp [LogSt.alarmAction, modWhere])

theorem Keeps.raiseAlarm (s : State) (source : Nat) (all : Bool) (tenants : List Nat) : Keeps s (s.raiseAlarm source all tenants) :=
  (((Keeps.alarmAct ..).trans (.mapVault ..)).trans (.alarmAction ..)).trans (.logEv ..)

/-! ### The guest firewall (GuestOps.lean) -/

theorem Keeps.fencedReply (s : State) (p : Packet) : Keeps s (s.fencedReply p) := .sendPacket ..

theorem Keeps.countRefusal (s : State) (g : Nat) : Keeps s (s.countRefusal g) := .mapVault ..

theorem Keeps.breach (s : State) (g : Nat) (tenants : List Nat) : Keeps s (s.breach g tenants) :=
  (((Keeps.countRefusal ..).trans (.mapVault ..)).trans (.policyChanged ..)).trans (.raiseAlarm ..)

theorem Keeps.notePassed (s : State) (g : Nat) (fromGuest : Bool) (p : Packet) : Keeps s (s.notePassed g fromGuest p) := .mapVault ..

theorem Keeps.guestPacket (s : State) (g : Nat) (fromGuest : Bool) (p : Packet) : Keeps s (s.guestPacket g fromGuest p) := by
  unfold State.guestPacket
  refine .ite (fun _ => .refl _) (fun _ => ?_)
  refine .ite (fun _ => .fencedReply ..) (fun _ => ?_)
  refine .ite (fun _ => ?_) (fun _ => ?_)
  · exact .ite (fun _ => (Keeps.notePassed ..).trans (.sendFrom ..)) (fun _ => (Keeps.notePassed ..).trans (.sendPacket ..))
  · exact .ite (fun _ => (Keeps.fencedReply ..).trans (.breach ..)) (fun _ => (Keeps.fencedReply ..).trans (.countRefusal ..))

theorem Keeps.guestSync (s : State) (m : BitVec 128) (ops : Nat) : Keeps s (s.guestSync m ops).2 := by
  unfold State.guestSync
  dsimp only
  split
  · exact .refl _
  · split
    · exact .refl _
    · split
      · exact .refl _
      · exact .snd (.breach ..)

/-! ### The module state D (BootOps.lean) -/

theorem Keeps.setModState (s : State) (n : Nat) : Keeps s (s.setModState n) :=
  .ite (fun _ => .refl _) (fun _ => (Keeps.mapBoot ..).trans (.raiseVector ..))

theorem Keeps.checkReady (s : State) : Keeps s s.checkReady := .ite (fun _ => .setModState ..) (fun _ => .refl _)

theorem Keeps.fenceGuestSite (s : State) (g : Nat) : Keeps s (s.fenceGuestSite g) := .mapBase ..

theorem Keeps.setDomain (s : State) (d st : Nat) : Keeps s (s.setDomain d st) :=
  .ite (fun _ => (Keeps.mapPower ..).trans (.mapMem _ _ id id)) (fun _ => .mapPower ..)

theorem Keeps.holdGuest (s : State) (g : Nat) : Keeps s (s.holdGuest g) := .mapVault ..

/-! ### What resets, trips and power-up share (ResetOps.lean) -/

theorem Keeps.emptyTower (s : State) (t : Nat) : Keeps s (s.emptyTower t) :=
  (Keeps.foldl _ _ (fun _ _ _ => .retireRecord ..)).trans (.mapTower ..)

theorem Keeps.loseMemory (s : State) (t : Nat) : Keeps s (s.loseMemory t) := by
  refine .trans (.mapMem _ _ (fun h => ?_) id) (.mapTower ..)
  exact MemSt.clear_wf _ _ (MemSt.clear_wf _ _ h)

theorem Keeps.coldLoss (s : State) (t : Nat) : Keeps s (s.coldLoss t) := (Keeps.loseMemory ..).trans (.mapTower ..)

theorem Keeps.reloads (s : State) (unit : Nat) : Keeps s (s.reloads unit) := .mapVault ..

theorem Keeps.reloadDone (s : State) (unit : Nat) : Keeps s (s.reloadDone unit) := .mapVault ..

theorem Keeps.beginTowerReset (s : State) (t : Nat) (cold : Bool) : Keeps s (s.beginTowerReset t cold) := by
  unfold State.beginTowerReset
  refine .trans ?_ ((Keeps.mapTower ..).trans (.reloads ..))
  refine .ite (fun _ => ?_) (fun _ => ((Keeps.endAll ..).trans (.emptyTower ..)).trans (.setDomain ..))
  exact ((((Keeps.endAll ..).trans (.emptyTower ..)).trans (.setDomain ..)).trans (.coldLoss ..)).trans (.setDomain ..)

theorem Keeps.tripTower (s : State) (t : Nat) : Keeps s (s.tripTower t) := by
  unfold State.tripTower
  refine .ite (fun _ => .logEv ..) (fun _ => ?_)
  refine .trans ?_ (((Keeps.logEv ..).trans (.raiseEvent ..)).trans (.endAll ..))
  refine .ite (fun _ => ((Keeps.fenceTower ..).trans (.mapTower ..)).trans (.reloadDone ..)) (fun _ => ?_)
  exact (((Keeps.fenceTower ..).trans (.mapTower ..)).trans (.reloadDone ..)).trans (.raiseVector ..)

theorem Keeps.guestOff (s : State) (g : Nat) : Keeps s (s.guestOff g) :=
  ((Keeps.foldl _ _ (fun _ _ _ => .setDomain ..)).trans (.holdGuest ..)).trans (.fenceGuestSite ..)

theorem Keeps.floorTargets (s : State) : Keeps s s.floorTargets := .mapTowers ..

theorem Keeps.fullBallast (s : State) (p : Tower → Bool) : Keeps s (s.fullBallast p) := .mapTowers ..

/-- A module reset empties memory; the tally, the two logs and the abort log stand (R515, R530). -/
theorem Keeps.moduleReset (s : State) : Keeps s s.moduleReset := by
  refine .trans (.setTimeMode s .unset) ⟨fun _ => ⟨List.Pairwise.nil, fun c hc => ?_⟩, id, Nat.le_refl _⟩
  exact absurd hc List.not_mem_nil

/-! ### Weight-bank combs, feed-forward, the calibration engine and coefficient sets (Calibration.lean) -/

theorem Keeps.putChannel (s : State) (c : CalChannel) : Keeps s (s.putChannel c) := .mapBase ..

theorem Keeps.mapBank (s : State) (index : Nat) (f : Bank → Bank) : Keeps s (s.mapBank index f) := .mapBankSet ..

theorem Keeps.combSwitch (s : State) (feed : Nat) (loss : Bool) : Keeps s (s.combSwitch feed loss) := by
  unfold State.combSwitch
  refine .ite (fun _ => .refl _) (fun _ => ?_)
  refine .ite (fun _ => .ite (fun _ => .refl _) (fun _ => .feedLoss ..)) (fun _ => ?_)
  refine .ite (fun _ => .refl _) (fun _ => ?_)
  split
  · exact .feedDown ..
  · exact .ite (fun _ => .switchFeed ..) (fun _ => .refl _)

theorem Keeps.stepBegins (s : State) (c : CalChannel) : Keeps s (s.stepBegins c) := (Keeps.putChannel ..).trans (.mapBase ..)

theorem Keeps.calStep (s : State) (kind index : Nat) : Keeps s (s.calStep kind index) := by
  unfold State.calStep
  refine .ite (fun _ => .refl _) (fun _ => ?_)
  refine .ite (fun _ => ?_) (fun _ => ?_)
  · refine .ite (fun _ => .refl _) (fun _ => ?_)
    refine .ite (fun _ => ?_) (fun _ => .stepBegins ..)
    refine .ite (fun _ => .refl _) (fun _ => ?_)
    refine .ite (fun _ => (Keeps.setPair ..).trans (.stepBegins ..)) (fun _ => ?_)
    exact .ite (fun _ => .refl _) (fun _ => (Keeps.putPair ..).trans (.stepBegins ..))
  · exact .ite (fun _ => .ite (fun _ => .refl _) (fun _ => (Keeps.mapBank ..).trans (.stepBegins ..))) (fun _ => .refl _)

theorem Keeps.releaseChannel (s : State) (kind index : Nat) : Keeps s (s.releaseChannel kind index) := by
  unfold State.releaseChannel
  refine .ite (fun _ => ?_) (fun _ => ?_)
  · exact .ite (fun _ => (Keeps.putChannel ..).trans (.setPair ..)) (fun _ => (Keeps.putChannel ..).trans (.returnWavelength ..))
  · exact .ite (fun _ => (Keeps.putChannel ..).trans (.mapBank ..)) (fun _ => .putChannel ..)

theorem Keeps.activateSet (s : State) (kind index : Nat) (set_ : List Byte) : Keeps s (s.activateSet kind index set_) :=
  .ite (fun _ => (Keeps.putChannel ..).trans (.mapBank ..)) (fun _ => .putChannel ..)

theorem Keeps.engineCommit (s : State) (kind index : Nat) (result : List Byte) : Keeps s (s.engineCommit kind index result) := by
  unfold State.engineCommit
  exact ((Keeps.putChannel ..).trans (.activateSet ..)).trans (.mapBase ..)

theorem Keeps.calStepEnd (s : State) (kind index : Nat) (result : List Byte) : Keeps s (s.calStepEnd kind index result) := by
  unfold State.calStepEnd
  refine .ite (fun _ => .refl _) (fun _ => ?_)
  refine .ite (fun _ => .ite (fun _ => (Keeps.putChannel ..).trans (.engineCommit ..)) (fun _ => .refl _)) (fun _ => ?_)
  exact .ite (fun _ => .refl _) (fun _ => (((Keeps.engineCommit ..).trans (.releaseChannel ..)).trans (.markLock ..)).trans (.mapBase ..))

theorem Keeps.commitArmProc (tick : Nat) (s : State) : Keeps s (commitArmProc tick s).2 := .checked _ _ _ (.mapBase ..)

theorem Keeps.shadowProc (b : List Byte) (s : State) : Keeps s (shadowProc b s).2 := .checked _ _ _ (.putChannel ..)

theorem Keeps.applyCommit (s : State) : Keeps s s.applyCommit := by
  unfold State.applyCommit
  refine .trans ?_ (((Keeps.activateSet ..).trans (.mapBase ..)).trans (.raiseVector ..))
  refine .ite (fun _ => ?_) (fun _ => .ite (fun _ => (Keeps.releaseChannel ..).trans (.mapBase ..)) (fun _ => .refl _))
  refine .ite (fun _ => ?_) (fun _ => .ite (fun _ => (Keeps.releaseChannel ..).trans (.mapBase ..)) (fun _ => .refl _))
  exact (Keeps.ite (fun _ => (Keeps.releaseChannel ..).trans (.mapBase ..)) (fun _ => .refl _)).trans (.putPair ..)

theorem Keeps.verifyCommit (s : State) (pass : Bool) : Keeps s (s.verifyCommit pass) := by
  unfold State.verifyCommit
  split
  · exact .refl _
  · refine .ite (fun _ => ?_) (fun _ => ?_)
    · exact (((Keeps.mapBase ..).trans (.releaseChannel ..)).trans (.markLock ..)).trans (.mapBase ..)
    · exact (((((Keeps.mapBase ..).trans (.activateSet ..)).trans (.releaseChannel ..)).trans (.mapBase ..)).trans
        (.logEv ..)).trans (.raiseVector ..)

/-! ### Power delivery and thermal management (Power.lean) -/

theorem Keeps.silence (s : State) : Keeps s s.silence := (Keeps.mapPair ..).trans (.mapPorts ..)

theorem Keeps.shutDown (s : State) : Keeps s s.shutDown := (Keeps.mapPower ..).trans (.silence ..)

theorem Keeps.inputEvent (s : State) (mv duration : Nat) : Keeps s (s.inputEvent mv duration) := by
  unfold State.inputEvent
  refine .ite (fun _ => .mapPower ..) (fun _ => ?_)
  refine .ite (fun _ => (Keeps.mapPower ..).trans (.shutDown ..)) (fun _ => ?_)
  exact .ite (fun _ => ((Keeps.mapPower ..).trans (.mapPower ..)).trans (.logEv ..)) (fun _ => .mapPower ..)

theorem Keeps.converterFails (s : State) (c : Nat) : Keeps s (s.converterFails c) := by
  unfold State.converterFails
  split
  · exact .refl _
  · refine .ite (fun _ => .logEv ..) (fun _ => ?_)
    refine .ite (fun _ => (Keeps.mapPower ..).trans (.logEv ..)) (fun _ => ?_)
    exact ((((Keeps.mapPower ..).trans (.mapPower ..)).trans (.floorTargets ..)).trans (.fullBallast ..)).trans (.logEv ..)

theorem Keeps.hubFails (s : State) : Keeps s s.hubFails := (Keeps.mapPower ..).trans (.silence ..)

theorem Keeps.domainResult (s : State) (d : Nat) : Keeps s (s.domainResult d) := by
  unfold State.domainResult
  refine .ite (fun _ => (Keeps.logEv ..).trans (.failTower ..)) (fun _ => ?_)
  refine .ite (fun _ => .hubFails ..) (fun _ => ?_)
  refine .ite (fun _ => (Keeps.logEv ..).trans (.guestOff ..)) (fun _ => ?_)
  refine .ite (fun _ => ?_) (fun _ => .shutDown ..)
  exact (((Keeps.mapPower ..).trans (.logEv ..)).trans (.foldl _ _ (fun _ _ _ => .failTower ..))).trans (.endAll ..)

theorem Keeps.domainFault (s : State) (d : Nat) : Keeps s (s.domainFault d) := by
  unfold State.domainFault
  refine .ite (fun _ => .refl _) (fun _ => ?_)
  refine .ite (fun _ => (Keeps.domainResult ..).trans (.mapPower ..)) (fun _ => ?_)
  exact ((Keeps.domainResult ..).trans (.mapPower ..)).trans (.raiseEvent ..)

theorem Keeps.phaseFault (s : State) (d r : Nat) : Keeps s (s.phaseFault d r) := by
  unfold State.phaseFault
  split
  · exact .ite (fun _ => .refl _) (fun _ => .loseRegion ..)
  · exact .refl _

theorem Keeps.switchDown (s : State) (weightBank : Bool) : Keeps s (s.switchDown weightBank) :=
  .ite (fun _ => (Keeps.mapBase ..).trans (.raiseEvent ..)) (fun _ => (Keeps.mapBase ..).trans (.raiseEvent ..))

theorem Keeps.powerStep (s : State) (watts mv : Nat) (currents : List Nat) (targets : List (Nat × Nat × Nat)) (unbooked : List Nat) :
    Keeps s (s.powerStep watts mv currents targets unbooked) := by
  unfold State.powerStep
  refine .ite (fun _ => .refl _) (fun _ => ?_)
  refine .trans ?_ (((Keeps.fullBallast ..).trans (.mapPower ..)).trans (.mapTowers ..))
  refine .ite (fun _ => ((Keeps.mapPower ..).trans (.mapTowers ..)).trans (.mapBase ..)) (fun _ => ?_)
  exact (Keeps.mapPower ..).trans (.mapTowers ..)

theorem Keeps.allowanceSpent (s : State) : Keeps s s.allowanceSpent :=
  .ite (fun _ => (Keeps.floorTargets ..).trans (.fullBallast ..)) (fun _ => .refl _)

theorem Keeps.tripReached (s : State) (t : Nat) (was read : Int) : Keeps s (s.tripReached t was read) :=
  .ite (fun _ => .refl _) (fun _ => .ite (fun _ => .refl _) (fun _ => .tripTower ..))

theorem Keeps.modelStep (s : State) (t : Nat) (temp : Int) : Keeps s (s.modelStep t temp) := by
  unfold State.modelStep
  refine .ite (fun _ => .refl _) (fun _ => ?_)
  refine .trans ?_ (.tripReached ..)
  refine .ite (fun _ => ?_) (fun _ => ?_)
  · refine .trans ?_ (.mapTower ..)
    refine .ite (fun _ => ((Keeps.mapTower ..).trans (.mapTower ..)).trans (.mapPower ..)) (fun _ => ?_)
    exact (Keeps.mapTower ..).trans (.mapTower ..)
  · refine .ite (fun _ => ?_) (fun _ => ?_)
    · refine .ite (fun _ => ((Keeps.mapTower ..).trans (.mapTower ..)).trans (.mapPower ..)) (fun _ => ?_)
      exact (Keeps.mapTower ..).trans (.mapTower ..)
    · refine .trans ?_ ((Keeps.mapTower ..).trans (.raiseEvent ..))
      refine .ite (fun _ => ((Keeps.mapTower ..).trans (.mapTower ..)).trans (.mapPower ..)) (fun _ => ?_)
      exact (Keeps.mapTower ..).trans (.mapTower ..)

theorem Keeps.readDiode (s : State) (u : Nat) (h : Int) : Keeps s (s.readDiode u h) :=
  .ite (fun _ => .mapTower ..) (fun _ => .ite (fun _ => .mapPower ..) (fun _ => .mapPower ..))

theorem Keeps.anchor (s : State) (u : Nat) (diodes : List Int) : Keeps s (s.anchor u diodes) := by
  unfold State.anchor
  split
  · exact .refl _
  · refine .ite (fun _ => .readDiode ..) (fun _ => ?_)
    refine .trans ?_ (.tripReached ..)
    refine .ite (fun _ => ((Keeps.readDiode ..).trans (.mapTower ..)).trans (.raiseEvent ..)) (fun _ => ?_)
    exact (Keeps.readDiode ..).trans (.mapTower ..)

theorem Keeps.setTrip (s : State) (u st : Nat) (since : Option Nat) : Keeps s (s.setTrip u st since) :=
  .ite (fun _ => .mapTower ..) (fun _ => .ite (fun _ => .mapPower ..) (fun _ => .mapPower ..))

theorem Keeps.tripOther (s : State) (u : Nat) : Keeps s (s.tripOther u) := by
  unfold State.tripOther
  refine .ite (fun _ => ((Keeps.setTrip ..).trans (.mapPower ..)).trans (.hubFails ..)) (fun _ => ?_)
  exact ((((Keeps.setTrip ..).trans (.mapPower ..)).trans (.logEv ..)).trans (.raiseEvent ..)).trans (.guestOff ..)

theorem Keeps.trackRestart (s : State) (u : Nat) (h : Int) : Keeps s (s.trackRestart u h) :=
  .ite (fun _ => .refl _) (fun _ => .ite (fun _ => .setTrip ..) (fun _ => .ite (fun _ => .setTrip ..) (fun _ => .refl _)))

theorem Keeps.diodeSample (s : State) (u : Nat) (diodes : List Int) : Keeps s (s.diodeSample u diodes) := by
  unfold State.diodeSample
  split
  · exact .refl _
  · refine .ite (fun _ => .refl _) (fun _ => ?_)
    refine .ite (fun _ => (Keeps.readDiode ..).trans (.trackRestart ..)) (fun _ => ?_)
    refine .ite (fun _ => ((Keeps.readDiode ..).trans (.trackRestart ..)).trans (.tripReached ..)) (fun _ => ?_)
    refine .ite (fun _ => ((Keeps.readDiode ..).trans (.trackRestart ..)).trans (.tripOther ..)) (fun _ => ?_)
    exact (Keeps.readDiode ..).trans (.trackRestart ..)

theorem Keeps.tripOff (s : State) (t : Nat) : Keeps s (s.tripOff t) := by
  unfold State.tripOff
  refine .ite (fun _ => .refl _) (fun _ => ?_)
  refine .ite (fun _ => (Keeps.emptyTower ..).trans (.setDomain ..)) (fun _ => ?_)
  exact .ite (fun _ => ((Keeps.coldLoss ..).trans (.mapTower ..)).trans (.setDomain ..)) (fun _ => .refl _)

theorem Keeps.holdOver (s : State) (u : Nat) : Keeps s (s.holdOver u) := by
  unfold State.holdOver
  split
  · exact .ite (fun _ => .setTrip ..) (fun _ => .refl _)
  · exact .refl _

theorem Keeps.restartProc (value : Nat) (s : State) : Keeps s (restartProc value s).2 :=
  .checked _ _ _ (.ite (fun _ => (Keeps.setTrip ..).trans (.beginTowerReset ..)) (fun _ => .refl _))

theorem Keeps.coolant (s : State) (inlet outlet : Int) (flow : Nat) : Keeps s (s.coolant inlet outlet flow) := by
  unfold State.coolant
  refine .ite (fun _ => ?_) (fun _ => ?_)
  · exact ((((Keeps.mapPower ..).trans (.mapPower ..)).trans (.floorTargets ..)).trans (.fullBallast ..)).trans (.logEv ..)
  · exact .ite (fun _ => (Keeps.mapPower ..).trans (.mapPower ..)) (fun _ => .mapPower ..)

/-! ### Power-up, firmware and resets (Bringup.lean) -/

theorem Keeps.domainComesOn (s : State) (d straps : Nat) : Keeps s (s.domainComesOn d straps) := by
  unfold State.domainComesOn
  refine .ite (fun _ => .mapBoot ..) (fun _ => ?_)
  exact .ite (fun _ => .holdGuest ..) (fun _ => .ite (fun _ => .mapTower ..) (fun _ => .refl _))

theorem Keeps.switchOn (s : State) (d straps : Nat) : Keeps s (s.switchOn d straps) :=
  .ite (fun _ => ((Keeps.setDomain ..).trans (.mapPower ..)).trans (.domainComesOn ..)) (fun _ => .refl _)

theorem Keeps.measureLayer (s : State) (l : Nat) : Keeps s (s.measureLayer l) := by
  unfold State.measureLayer
  exact .mapVault ..

theorem Keeps.measureGuests (s : State) : Keeps s s.measureGuests := .mapVault ..

theorem Keeps.layerRuns (s : State) (l : Nat) : Keeps s (s.layerRuns l) := by
  unfold State.layerRuns
  refine .ite (fun _ => ?_) (fun _ => ?_)
  · exact ((((Keeps.measureLayer ..).trans (.mapVault ..)).trans (.mapBoot ..)).trans (.setModState ..)).trans (.mapDict _ _ id)
  · refine .ite (fun _ => ?_) (fun _ => ((Keeps.measureLayer ..).trans (.mapVault ..)).trans (.mapBoot ..))
    exact ((((((Keeps.measureLayer ..).trans (.mapVault ..)).trans (.mapBoot ..)).trans (.mapVault ..)).trans
        (.measureGuests ..)).trans (.mapBoot ..)).trans (.reloadDone ..)

theorem Keeps.recover (s : State) : Keeps s s.recover := ((Keeps.mapBoot ..).trans (.setModState ..)).trans (.mapDict _ _ id)

theorem Keeps.activationFails (s : State) (l : Nat) : Keeps s (s.activationFails l) :=
  ((Keeps.mapBoot ..).trans (.mapVault ..)).trans (.logEv ..)

theorem Keeps.activationRuns (s : State) (l : Nat) : Keeps s (s.activationRuns l) := by
  unfold State.activationRuns
  exact ((Keeps.measureLayer ..).trans (.mapBoot ..)).trans (.mapVault ..)

theorem Keeps.bootLayer (s : State) (l : Nat) (okA okB : Bool) : Keeps s (s.bootLayer l okA okB) := by
  unfold State.bootLayer
  refine .ite (fun _ => .refl _) (fun _ => ?_)
  split
  · exact .ite (fun _ => .refl _) (fun _ => .ite (fun _ => .activationRuns ..) (fun _ => .activationFails ..))
  · refine .ite (fun _ => .refl _) (fun _ => ?_)
    refine .ite (fun _ => .layerRuns ..) (fun _ => ?_)
    exact .ite (fun _ => (Keeps.mapBoot ..).trans (.layerRuns ..)) (fun _ => .recover ..)

theorem Keeps.selfTest (s : State) (t : Nat) (faults : List (Nat × Nat)) (otherFault : Bool) :
    Keeps s (s.selfTest t faults otherFault) :=
  .ite (fun _ => (Keeps.foldl _ _ (fun _ _ _ => .faultTile ..)).trans
    (.failTower ..)) (fun _ => .foldl _ _ (fun _ _ _ => .faultTile ..))

theorem Keeps.towerComesUp (s : State) (t : Nat) (faults : List (Nat × Nat)) (wires : List (Nat × Nat × Nat)) (otherFault : Bool) :
    Keeps s (s.towerComesUp t faults wires otherFault) := by
  unfold State.towerComesUp
  refine .ite (fun _ => .refl _) (fun _ => ?_)
  refine .trans ?_ (.checkReady ..)
  refine .ite (fun _ => ?_) (fun _ => ?_)
  · exact (((((Keeps.trainChannels ..).trans (.trainStacks ..)).trans (.failWires ..)).trans (.selfTest ..)).trans
      (.mapTower ..)).trans (.mapTower ..)
  · exact ((((Keeps.trainChannels ..).trans (.trainStacks ..)).trans (.failWires ..)).trans (.selfTest ..)).trans (.mapTower ..)

theorem Keeps.stage (s : State) (i : ImageIn) : Keeps s (s.stage i) := ((Keeps.mapBoot ..).trans (.mapVault ..)).trans (.raiseVector ..)

theorem Keeps.stageImageProc (i : ImageIn) (s : State) : Keeps s (stageImageProc i s).2 := by
  unfold Machine.stageImageProc
  dsimp only
  split
  · exact .snd (.stage ..)
  · exact .snd ((Keeps.mapBoot ..).trans (.raiseVector ..))

theorem Keeps.activate (s : State) (l : Nat) (c : FwCopy) : Keeps s (s.activate l c) :=
  .ite (fun _ => .mapBoot ..) (fun _ => ((Keeps.mapBoot ..).trans (.mapVault ..)).trans (.dropEmpty ..))

theorem Keeps.activateProc (value : Nat) (s : State) : Keeps s (activateProc value s).2 := by
  unfold Machine.activateProc
  split
  · exact .refl _
  · split
    · exact .refl _
    · split
      · exact .refl _
      · exact .checked _ _ _ (.activate ..)

theorem Keeps.abandonProc (value : Nat) (s : State) : Keeps s (abandonProc value s).2 :=
  .checked _ _ _ (.ite (fun _ => (Keeps.mapBoot ..).trans (.mapVault ..)) (fun _ => .refl _))

theorem Keeps.startLimit (s : State) : Keeps s s.startLimit := by
  unfold State.startLimit
  split
  · exact .ite (fun _ => .activationFails ..) (fun _ => .refl _)
  · exact .refl _

theorem Keeps.reloadMeasured (s : State) (unit : Nat) (agrees : Bool) : Keeps s (s.reloadMeasured unit agrees) := by
  unfold State.reloadMeasured
  refine .ite (fun _ => .refl _) (fun _ => ?_)
  exact .ite (fun _ => (Keeps.reloadDone ..).trans (.mapTower ..)) (fun _ => (Keeps.mapTower ..).trans (.raiseAlarm ..))

theorem Keeps.moduleResetProc (value : Nat) (s : State) : Keeps s (moduleResetProc value s).2 :=
  .checked _ _ _ (.ite (fun _ => .moduleReset ..) (fun _ => .refl _))

theorem Keeps.towerResetProc (t value : Nat) (s : State) : Keeps s (towerResetProc t value s).2 :=
  .checked _ _ _ ((Keeps.ite (fun _ => .setTrip ..) (fun _ => .refl _)).trans (.beginTowerReset ..))

theorem Keeps.resetCompletes (s : State) (t : Nat) (faults : List (Nat × Nat)) (widths wires : List (Nat × Nat × Nat))
    (otherFault : Bool) :
    Keeps s (s.resetCompletes t faults widths wires otherFault) := by
  unfold State.resetCompletes
  refine .ite (fun _ => .refl _) (fun _ => ?_)
  refine .trans ?_ ((((Keeps.mapTower ..).trans (.raiseVector ..)).trans (.checkReady ..)).trans (.schedule ..))
  refine .ite (fun _ => ?_) (fun _ => ?_)
  · exact ((((((Keeps.setDomain ..).trans (.setDomain ..)).trans (.mapTower ..)).trans (.trainChannels ..)).trans
      (.trainStacks ..)).trans (.failWires ..)).trans (.selfTest ..)
  · exact (((((((Keeps.setDomain ..).trans (.setDomain ..)).trans (.mapTower ..)).trans (.trainChannels ..)).trans
      (.trainStacks ..)).trans (.failWires ..)).trans (.selfTest ..)).trans (.raiseEvent ..)

theorem Keeps.locksLost (s : State) (sites : List Nat) : Keeps s (s.locksLost sites) :=
  .foldl _ _ (fun _ _ _ => .foldl _ _ (fun _ _ _ => .foldl _ _ (fun _ _ _ => (Keeps.lockLoss ..).trans (.lockLoss ..))))

theorem Keeps.beginFieldReset (s : State) (n : Nat) : Keeps s (s.beginFieldReset n) :=
  ((((Keeps.foldl _ _ (fun _ _ _ => .mapTower ..)).trans (.mapBankSet ..)).trans (.locksLost ..)).trans (.mapBase ..)).trans
    (.reloads ..)

theorem Keeps.fieldResetProc (n : Nat) (s : State) : Keeps s (fieldResetProc n s).2 := .checked _ _ _ (.beginFieldReset ..)

theorem Keeps.fieldCompletes (s : State) : Keeps s s.fieldCompletes := by
  unfold State.fieldCompletes
  split
  · exact .ite (fun _ => .refl _) (fun _ => (Keeps.mapBase ..).trans (.raiseVector ..))
  · exact .refl _

theorem Keeps.guestResetProc (site : Nat) (s : State) : Keeps s (guestResetProc site s).2 :=
  .checked _ _ _ (((Keeps.holdGuest ..).trans (.mapVault ..)).trans (.reloads ..))

/-! ### Patrol, remap tables, page retirement and the checker test (Integrity.lean) -/

theorem Keeps.patrolSram (s : State) (t l c : Nat) (finds : List WordFind) : Keeps s (s.patrolSram t l c finds) :=
  .ite (fun _ => .refl _) (fun _ => .ite (fun _ => .mapTower ..) (fun _ => (Keeps.mapTower ..).trans (.readFinds ..)))

theorem Keeps.patrolStack (s : State) (m c : Nat) (finds : List WordFind) (linkFixed : Nat) :
    Keeps s (s.patrolStack m c finds linkFixed) := .ite (fun _ => .refl _) (fun _ => (Keeps.mapStack ..).trans (.readFinds ..))

theorem Keeps.arrayFault (s : State) (t unit bank : Nat) : Keeps s (s.arrayFault t unit bank) := by
  unfold State.arrayFault
  refine .ite (fun _ => .faultTile ..) (fun _ => ?_)
  refine .ite (fun _ => .loseRegion ..) (fun _ => ?_)
  refine .ite (fun _ => ?_) (fun _ => .failTower ..)
  refine .ite (fun _ => ((Keeps.mapTower ..).trans (.logEv ..)).trans (.failTower ..)) (fun _ => ?_)
  exact (Keeps.mapTower ..).trans (.logEv ..)

theorem Keeps.remapWord (s : State) (t unit bank word : Nat) : Keeps s (s.remapWord t unit bank word) := by
  unfold State.remapWord
  refine .ite (fun _ => ((Keeps.mapTower ..).trans (.mapTower ..)).trans (.eccRecord ..)) (fun _ => ?_)
  exact (((Keeps.mapTower ..).trans (.mapTower ..)).trans (.eccRecord ..)).trans (.arrayFault ..)

theorem Keeps.smallWord (s : State) (t unit bank : Nat) (w : SmallWord) : Keeps s (s.smallWord t unit bank w) := by
  unfold State.smallWord
  refine .ite (fun _ => .refl _) (fun _ => ?_)
  split
  · exact .arrayFault ..
  · exact .remapWord ..
  · exact .ite (fun _ => (Keeps.mapTower ..).trans (.remapWord ..)) (fun _ => .mapTower ..)

theorem Keeps.withdrawPage (s : State) (t space page : Nat) : Keeps s (s.withdrawPage t space page) :=
  (((Keeps.clearMem ..).trans (.mapTower ..)).trans (.eccRecord ..)).trans (.raiseVector ..)

theorem Keeps.retirePageOf (s : State) (t space page : Nat) : Keeps s (s.retirePageOf t space page) :=
  .ite (fun _ => (Keeps.mapTower ..).trans (.schedule ..)) (fun _ => .withdrawPage ..)

theorem Keeps.retireProc (value : Nat) (s : State) : Keeps s (retireProc value s).2 :=
  .checked _ _ _ (.ite (fun _ => .retirePageOf ..) (fun _ => .refl _))

theorem Keeps.testWrite (s : State) : Keeps s s.testWrite := .mapMem _ _ id id

theorem Keeps.testReadRow (s : State) : Keeps s s.testReadRow := by
  unfold State.testReadRow
  exact .mapMem _ _ id id

theorem Keeps.testProc (value : Nat) (s : State) : Keeps s (testProc value s).2 :=
  .checked _ _ _ (.ite (fun _ => .testWrite ..) (fun _ => .testReadRow ..))

/-! ### Bulk and control packets, the sync tree, reducers, multicast and sync objects (Network.lean) -/

theorem Keeps.reply (s : State) (p : Packet) (type src : Nat) (data : List Byte) : Keeps s (s.reply p type src data) := .sendBulk ..

theorem Keeps.replyFenced (s : State) (p : Packet) (eid : Nat) : Keeps s (s.replyFenced p eid) := .reply ..

theorem Keeps.replyPoison (s : State) (p : Packet) : Keeps s (s.replyPoison p) := .reply ..

theorem Keeps.arriving (s : State) (site : Option Nat) (p : Packet) (f : State → State) (h : ∀ t, Keeps t (f t)) :
    Keeps s (s.arriving site p f) := by
  refine .underBank _ _ _ (fun t => ?_)
  split
  · exact .ite (fun _ => .refl _) (fun _ => (Keeps.handOff ..).trans (h _))
  · exact h t

theorem Keeps.reachMemory (s : State) (k : Nat) (p : Packet) (go : Nat → State) (h : ∀ key, Keeps s (go key)) :
    Keeps s (s.reachMemory k p go) := by
  unfold State.reachMemory
  split
  · exact .replyPoison ..
  · split
    · exact (Keeps.windowFault ..).trans (.replyPoison ..)
    · split
      · exact h _
      · exact (Keeps.windowFault ..).trans (.replyPoison ..)
      · exact .replyFenced ..

theorem Keeps.bulkArrives (s : State) (p : Packet) (go : Nat → Nat → State) (h : ∀ k key, Keeps s (go k key)) :
    Keeps s (s.bulkArrives p go) := by
  unfold State.bulkArrives
  split
  · exact (Keeps.mapBase ..).trans (.replyFenced ..)
  · exact .ite (fun _ => .replyFenced ..) (fun _ => .reachMemory _ _ _ _ (h _))

theorem Keeps.readRequest (s : State) (p : Packet) (finds : List WordFind) : Keeps s (s.readRequest p finds) := by
  unfold State.readRequest
  refine .bulkArrives _ _ _ (fun _ _ => ?_)
  refine .ite (fun _ => ?_) (fun _ => (Keeps.readFinds ..).trans (.reply ..))
  exact (Keeps.ite (fun _ => (Keeps.readFinds ..).trans (.poisonRead ..)) (fun _ => .readFinds ..)).trans (.replyPoison ..)

theorem Keeps.responseArrives (s : State) (p : Packet) : Keeps s (s.responseArrives p) := by
  unfold State.responseArrives
  split
  · exact .refl _
  · exact .ite (fun _ => .refl _) (fun _ => .of_same rfl rfl rfl rfl)

theorem Keeps.writePacket (s : State) (p : Packet) (finds : List WordFind) : Keeps s (s.writePacket p finds) :=
  .bulkArrives _ _ _ (fun _ _ => ((Keeps.ite (fun _ => .readFinds ..) (fun _ => .refl _)).trans (.writeMem ..)).trans (.reply ..))

theorem Keeps.mapOp (s : State) (t id : Nat) (f : OpInst → OpInst) : Keeps s (s.mapOp t id f) := .mapTower ..

theorem Keeps.writeEnded (s : State) (t : Nat) (o : OpInst) (fenced : Option Nat) : Keeps s (s.writeEnded t o fenced) :=
  (((Keeps.mapOp ..).trans (.tryComplete ..)).trans (.settleRecord ..)).trans (.schedule ..)

theorem Keeps.closeReduction (s : State) (k redid slot : Nat) : Keeps s (s.closeReduction k redid slot) :=
  (Keeps.mapTower ..).trans (.sendSync ..)

theorem Keeps.finishReduction (s : State) (k : Nat) (r : Reduction) : Keeps s (s.finishReduction k r) :=
  .ite (fun _ => (Keeps.sendSync ..).trans (.closeReduction ..)) (fun _ => .refl _)

theorem Keeps.failReduction (s : State) (k redid slot : Nat) : Keeps s (s.failReduction k redid slot) :=
  (Keeps.closeReduction ..).trans (.foldl _ _ (fun _ _ _ => .foldl _ _ (fun _ _ _ => ((Keeps.failOp ..).trans
    (.settleRecord ..)).trans (.schedule ..))))

theorem Keeps.reducerFlags (s : State) (k redid slot : Nat) (f : BitVec 8) : Keeps s (s.reducerFlags k redid slot f) :=
  .ite (fun _ => .refl _) (fun _ => .foldl _ _ (fun _ _ _ => .foldl _ _ (fun _ _ _ => .mapTower ..)))

theorem Keeps.emitGranule (s : State) (k : Nat) (p : Packet) (r : Reduction) (data : List Byte) :
    Keeps s (s.emitGranule k p r data) :=
  .ite (fun _ => .reachMemory _ _ _ _ (fun _ => .writeMem ..)) (fun _ => (Keeps.mapTower ..).trans (.sendFrom ..))

theorem Keeps.reduceInto (s : State) (k : Nat) (p : Packet) (r : Reduction) : Keeps s (s.reduceInto k p r) := by
  unfold State.reduceInto
  refine .ite (fun _ => .failReduction ..) (fun _ => ?_)
  refine .ite (fun _ => (Keeps.reducerFlags ..).trans (.mapTower ..)) (fun _ => ?_)
  dsimp only
  split
  · exact (((Keeps.reducerFlags ..).trans (.mapTower ..)).trans (.emitGranule ..)).trans (.finishReduction ..)
  · exact ((Keeps.reducerFlags ..).trans (.mapTower ..)).trans (.emitGranule ..)

theorem Keeps.reduceGroup (s : State) (k : Nat) (p : Packet) (r : Reduction) : Keeps s (s.reduceGroup k p r) :=
  .ite (fun _ => .failReduction ..) (fun _ => .reduceInto ..)

theorem Keeps.reduceArrives (s : State) (p : Packet) : Keeps s (s.reduceArrives p) := by
  unfold State.reduceArrives
  split
  · exact (Keeps.mapBase ..).trans (.replyFenced ..)
  · refine .ite (fun _ => .replyFenced ..) (fun _ => ?_)
    refine .ite (fun _ => .refl _) (fun _ => ?_)
    refine .ite (fun _ => .replyPoison ..) (fun _ => ?_)
    dsimp only
    split
    · exact (Keeps.mapTower ..).trans (.reduceGroup ..)
    · exact .ite (fun _ => .sendSync ..) (fun _ => (Keeps.mapTower ..).trans (.reduceGroup ..))

theorem Keeps.copyAcked (s : State) (k tag : Nat) : Keeps s (s.copyAcked k tag) := by
  unfold State.copyAcked
  split
  · exact .refl _
  · exact .ite (fun _ => .mapTower ..) (fun _ => (Keeps.mapTower ..).trans (.finishReduction ..))

theorem Keeps.writeAcked (s : State) (p : Packet) : Keeps s (s.writeAcked p) := by
  unfold State.writeAcked
  split
  · exact .refl _
  · refine .ite (fun _ => .copyAcked ..) (fun _ => ?_)
    split
    · exact .ite (fun _ => .writeEnded ..) (fun _ => .refl _)
    · exact .refl _

theorem Keeps.fencedAcked (s : State) (p : Packet) : Keeps s (s.fencedAcked p) := by
  unfold State.fencedAcked
  split
  · exact .refl _
  · refine .ite (fun _ => ?_) (fun _ => ?_)
    · split
      · refine .ite (fun _ => (Keeps.ite (fun _ => .mapTower ..) (fun _ => .refl _)).trans (.mapTower ..)) (fun _ => ?_)
        exact ((Keeps.ite (fun _ => .mapTower ..) (fun _ => .refl _)).trans (.mapTower ..)).trans (.failReduction ..)
      · exact .refl _
    · split
      · refine .ite (fun _ => ?_) (fun _ => ((Keeps.failOp ..).trans (.settleRecord ..)).trans (.schedule ..))
        exact (Keeps.ite (fun _ => .ite (fun _ => .mapTower ..) (fun _ => .refl _)) (fun _ => .refl _)).trans (.writeEnded ..)
      · exact .refl _

theorem Keeps.mcastWrite (s : State) (site : Nat) (p : Packet) : Keeps s (s.mcastWrite site p) := by
  unfold State.mcastWrite
  refine .ite (fun _ => .replyPoison ..) (fun _ => ?_)
  refine .ite (fun _ => (Keeps.windowFault ..).trans (.replyPoison ..)) (fun _ => ?_)
  split
  · exact (Keeps.writeMem ..).trans (.reply ..)
  · exact (Keeps.windowFault ..).trans (.replyPoison ..)
  · exact .replyFenced ..

theorem Keeps.mcastArrives (s : State) (site : Nat) (p : Packet) : Keeps s (s.mcastArrives site p) :=
  .ite (fun _ => .mapTower ..) (fun _ => .ite (fun _ => .replyFenced ..) (fun _ => .mcastWrite ..))

theorem Keeps.branchSend (s : State) (site branch : Nat) : Keeps s (s.branchSend site branch) := by
  unfold State.branchSend
  refine .ite (fun _ => ?_) (fun _ => ?_)
  · split
    · exact .refl _
    · exact (Keeps.mapTower ..).trans (.underBank _ _ _ (fun _ => .ite (fun _ => .mcastWrite ..) (fun _ => .mapTower ..)))
  · split
    · exact .refl _
    · exact .ite (fun _ => .mapTower ..) (fun _ => (Keeps.mapTower ..).trans (.sendBulk ..))

theorem Keeps.chunkPoisoned (s : State) (t : Nat) (c : PoisonIn) : Keeps s (s.chunkPoisoned t c) := by
  unfold State.chunkPoisoned
  refine .trans ?_ ((Keeps.poisonChunk ..).trans (.schedule ..))
  refine .ite (fun _ => ?_) (fun _ => .refl _)
  refine .underBank _ _ _ (fun _ => ?_)
  refine .foldl _ _ (fun _ _ _ => ?_)
  split
  · exact .finds ..
  · exact .refl _

theorem Keeps.ctlArrives (s : State) (t : Nat) (p : CtlPacket) : Keeps s (s.ctlArrives t p) := .of_same rfl rfl rfl rfl

theorem Keeps.arrivals (s : State) (t : Nat) (m : BitVec 64) : Keeps s (s.arrivals t m) := by
  unfold State.arrivals
  refine .ite (fun _ => .refl _) (fun _ => ?_)
  dsimp only
  split
  · exact .mapTower ..
  · exact ((((Keeps.mapTower ..).trans (.mapOp ..)).trans (.tryComplete ..)).trans (.settleRecord ..)).trans (.schedule ..)

theorem Keeps.chunkArrival (s : State) (t : Nat) (m : ArrivalIn) : Keeps s (s.chunkArrival t m) := by
  unfold State.chunkArrival
  split
  · exact .ite (fun _ => .arrivals ..) (fun _ => .refl _)
  · exact .ite (fun _ => (Keeps.ctlArrives ..).trans (.arrivals ..)) (fun _ => .refl _)

theorem Keeps.linkRetry (s : State) (t link fixed : Nat) (good : Bool) : Keeps s (s.linkRetry t link fixed good) := by
  unfold State.linkRetry
  refine .ite (fun _ => .refl _) (fun _ => ?_)
  refine .ite (fun _ => .mapTower ..) (fun _ => ?_)
  refine .ite (fun _ => ?_) (fun _ => ((Keeps.mapTower ..).trans (.mapTower ..)).trans (.logEv ..))
  exact (((Keeps.mapTower ..).trans (.mapTower ..)).trans (.logEv ..)).trans (.failTower ..)

theorem Keeps.signalMsg (s : State) (m : BitVec 128) : Keeps s (s.signalMsg m) :=
  (Keeps.ite (fun _ => .refl _) (fun _ => (Keeps.signalObj ..).trans (.schedule ..))).trans (.sendSync ..)

theorem Keeps.signalDropped (s : State) (m : BitVec 128) : Keeps s (s.signalDropped m) := .sendSync ..

theorem Keeps.signalAcked (s : State) (m : BitVec 128) : Keeps s (s.signalAcked m) := by
  unfold State.signalAcked
  dsimp only
  split
  · exact .refl _
  · exact .mapTower ..

theorem Keeps.watchMsg (s : State) (m : BitVec 128) : Keeps s (s.watchMsg m) :=
  .ite (fun _ => .refl _) (fun _ => (Keeps.mapTower ..).trans (.sendSync ..))

theorem Keeps.noticeAt (s : State) (t : Nat) (m : BitVec 128) : Keeps s (s.noticeAt t m) := (Keeps.mapTower ..).trans (.schedule ..)

theorem Keeps.doneAt (s : State) (t : Nat) (m : BitVec 128) : Keeps s (s.doneAt t m) :=
  .foldl _ _ (fun _ _ _ => (((Keeps.mapOp ..).trans (.tryComplete ..)).trans (.settleRecord ..)).trans (.schedule ..))

theorem Keeps.closedAt (s : State) (t k : Nat) : Keeps s (s.closedAt t k) :=
  (Keeps.mapTower ..).trans (.foldl _ _ (fun _ _ _ => .foldl _ _ (fun _ _ _ => .foldl _ _ (fun _ _ _ => .sendFrom ..))))

theorem Keeps.syncWriteProc (value : Nat) (s : State) : Keeps s (syncWriteProc value s).2 :=
  .checked _ _ _ ((Keeps.writeObj ..).trans (.schedule ..))

theorem Keeps.syncAddProc (value : Nat) (s : State) : Keeps s (Machine.syncAddProc value s).2 := by
  unfold Machine.syncAddProc
  exact .checked _ _ _ ((Keeps.signalObj ..).trans (.schedule ..))

/-! ### The ledger (Ledger.lean) -/

theorem Keeps.refuseReq (s : State) (r : Req) (reason offer : Nat) : Keeps s (s.refuseReq r reason offer) :=
  (((((Keeps.mapLedger ..).trans (.mirror ..)).trans (.sendAnswer ..)).trans (.mapReq ..)).trans (.leaveBuffer ..)).trans (.keyUnref ..)

theorem Keeps.commitBooking (s : State) (r : Req) (b : Nat) (slots : List (Nat × Nat)) (prot : Bool) :
    Keeps s (s.commitBooking r b slots prot) :=
  .ite (fun _ => .mapLedger ..) (fun _ => (Keeps.mapLedger ..).trans (.foldl _ _ (fun _ _ _ => .mapTower ..)))

theorem Keeps.acceptReq (s : State) (r : Req) (b p margin commit : Nat) (slots : List (Nat × Nat)) :
    Keeps s (s.acceptReq r b p margin commit slots) := by
  unfold State.acceptReq
  refine .ite (fun _ => ?_) (fun _ => ?_)
  · exact (((((Keeps.commitBooking ..).trans (.mapReq ..)).trans (.mapLedger ..)).trans (.mirror ..)).trans
      (.sendAnswer ..)).trans (.endRequest ..)
  · refine .ite (fun _ => ?_) (fun _ => ?_)
    · exact (((((Keeps.commitBooking ..).trans (.mapReq ..)).trans (.mapLedger ..)).trans (.mirror ..)).trans
        (.sendAnswer ..)).trans (.endRequest ..)
    · exact (((((Keeps.commitBooking ..).trans (.mapReq ..)).trans (.mapLedger ..)).trans (.mirror ..)).trans
        (.sendAnswer ..)).trans (.payloadReady ..)

theorem Keeps.guardDecided (s : State) : Keeps s s.guardDecided := by
  unfold State.guardDecided
  split
  · exact .mapLedger ..
  · exact .refl _

theorem Keeps.asDecided (s : State) : Keeps s s.asDecided := by
  unfold State.asDecided
  dsimp only
  split
  · refine .ite (fun _ => ?_) (fun _ => .guardDecided ..)
    refine .trans ?_ (.foldl _ _ (fun _ _ _ => .mapTower ..))
    exact (Keeps.guardDecided s).trans (.of_same rfl rfl rfl rfl)
  · exact .guardDecided ..

theorem Keeps.decide_ (s : State) (fetched took : Nat) : Keeps s (s.decide_ fetched took) := by
  unfold State.decide_
  split
  · exact .refl _
  · refine .ite (fun _ => .refl _) (fun _ => ?_)
    refine .ite (fun _ => .refuseReq ..) (fun _ => ?_)
    dsimp only
    split
    · exact (Keeps.mapLedger ..).trans (.refuseReq ..)
    · refine .ite (fun _ => (Keeps.mapLedger ..).trans (.refuseReq ..)) (fun _ => ?_)
      refine .ite (fun _ => (Keeps.mapLedger ..).trans (.acceptReq ..)) (fun _ => ?_)
      split
      · exact (Keeps.mapLedger ..).trans (.refuseReq ..)
      · exact (Keeps.mapLedger ..).trans (.acceptReq ..)

theorem Keeps.lateCheck (s : State) (r : Option Req) (done : Nat) : Keeps s (s.lateCheck r done) := by
  unfold State.lateCheck
  split
  · exact .refl _
  · exact .ite (fun _ => .mapLedger ..) (fun _ => .refl _)

theorem Keeps.sendRecords (s : State) : Keeps s s.sendRecords := .foldl _ _ (fun _ _ _ => (Keeps.mapReq ..).trans (.mapLedger ..))

theorem Keeps.dropUnrun (s : State) : Keeps s s.dropUnrun := .ite (fun _ => .refl _) (fun _ => .foldl _ _ (fun _ _ _ => .finishEnd ..))

theorem Keeps.slotBegins (s : State) : Keeps s s.slotBegins :=
  .ite (fun _ => .refl _) (fun _ => ((Keeps.dropUnrun ..).trans (.mapLedger ..)).trans (.sendRecords ..))

theorem Keeps.resultLeft (s : State) (r : Req) : Keeps s (s.resultLeft r) := by
  unfold State.resultLeft
  refine .ite (fun _ => ((Keeps.mapReq ..).trans (.keyUnref ..)).trans (.sendTwin ..)) (fun _ => ?_)
  exact (Keeps.mapReq ..).trans (.keyUnref ..)

theorem Keeps.promiseMissed (s : State) (tenant seq : Nat) : Keeps s (s.promiseMissed tenant seq) := by
  unfold State.promiseMissed
  split
  · exact .refl _
  · refine .ite (fun _ => .refl _) (fun _ => ?_)
    exact .ite (fun _ => .mapReq ..) (fun _ => ((Keeps.mapLedger ..).trans (.logEv ..)).trans (.endRequest ..))

theorem Keeps.dFrameLeaves (s : State) (x : Nat) : Keeps s (s.dFrameLeaves x) := by
  unfold State.dFrameLeaves
  dsimp only
  split
  · exact .refl _
  · refine .ite (fun _ => .refl _) (fun _ => ?_)
    refine .ite (fun _ => .promiseMissed ..) (fun _ => ?_)
    split
    · exact ((Keeps.promiseMissed ..).trans (.mapPort ..)).trans (.mapReq ..)
    · refine .ite (fun _ => ?_) (fun _ => ((Keeps.promiseMissed ..).trans (.mapPort ..)).trans (.mapReq ..))
      exact (((Keeps.promiseMissed ..).trans (.mapPort ..)).trans (.mapReq ..)).trans (.resultLeft ..)

/-! ### Attestation reports, key envelopes and key slots (Vault.lean) -/

theorem Keeps.reportNonceProc (nonce : Nat) (s : State) : Keeps s (reportNonceProc nonce s).2 := .checked _ _ _ (.mapVault ..)

theorem Keeps.reportDone (s : State) : Keeps s s.reportDone :=
  .ite (fun _ => .refl _) (fun _ => (Keeps.mapVault ..).trans (.raiseVector ..))

theorem Keeps.envelopeFails (s : State) (tenant check : Nat) : Keeps s (s.envelopeFails tenant check) :=
  .ite (fun _ => (Keeps.mapVault ..).trans (.raiseAlarm ..)) (fun _ => .mapVault ..)

theorem Keeps.keyEnvelopeProc (e : EnvelopeIn) (s : State) : Keeps s (Machine.keyEnvelopeProc e s).2 := by
  unfold Machine.keyEnvelopeProc
  dsimp only
  split
  · exact (Keeps.logEv ..).trans (.envelopeFails ..)
  · exact .snd (((Keeps.logEv ..).trans (.mapVault ..)).trans (.mapTap ..))

theorem Keeps.readBack (s : State) (kind : Nat) (readsZero : Bool) : Keeps s (s.readBack kind readsZero) :=
  .ite (fun _ => .refl _) (fun _ => (Keeps.mapVault ..).trans (.raiseAlarm ..))

theorem Keeps.retireSlot (s : State) (kind : Nat) (e : EraseIn) : Keeps s (s.retireSlot kind e) := by
  unfold State.retireSlot
  split
  · exact .refl _
  · exact ((Keeps.mapVault ..).trans (.dropEmpty ..)).trans (.readBack ..)

theorem Keeps.closeProc (value : Nat) (s : State) : Keeps s (closeProc value s).2 := .checked _ _ _ (.mapVault ..)

theorem Keeps.eraseClosing (s : State) (kind id : Nat) (readsZero : Bool) : Keeps s (s.eraseClosing kind id readsZero) := by
  unfold State.eraseClosing
  split
  · exact .refl _
  · exact .ite (fun _ => .refl _) (fun _ => ((Keeps.mapVault ..).trans (.dropEmpty ..)).trans (.readBack ..))

/-! ### The redundant pair (Pair.lean) -/

theorem Keeps.pairEvent (s : State) : Keeps s s.pairEvent := .raiseEvent ..

theorem Keeps.pathFault (s : State) (onPx : Bool) : Keeps s (s.pathFault onPx) :=
  ((Keeps.mapPair ..).trans (.logEv ..)).trans (.pairEvent ..)

theorem Keeps.startBeats (s : State) : Keeps s s.startBeats := .mapPair ..

theorem Keeps.announce (s : State) : Keeps s s.announce := .foldl _ _ (fun _ _ _ => .ite (fun _ => .sendCredit ..) (fun _ => .refl _))

theorem Keeps.enterSolo (s : State) (claim : Nat) : Keeps s (s.enterSolo claim) :=
  (((Keeps.mapPair ..).trans (.startBeats ..)).trans (.announce ..)).trans (.pairEvent ..)

theorem Keeps.soloFromSeeking (s : State) : Keeps s s.soloFromSeeking := .enterSolo ..

theorem Keeps.rejoin (s : State) : Keeps s s.rejoin :=
  (Keeps.ite (fun _ => .mapPair ..) (fun _ => (Keeps.mapPair ..).trans (.startBeats ..))).trans (.pairEvent ..)

theorem Keeps.handshake (s : State) (didh : Nat) (preferred : Bool) (twin : TwinIn) : Keeps s (s.handshake didh preferred twin) := by
  unfold State.handshake
  refine .ite (fun _ => .refl _) (fun _ => ?_)
  refine .ite (fun _ => ((Keeps.mapPair ..).trans (.logEv ..)).trans (.pairEvent ..)) (fun _ => ?_)
  refine .ite (fun _ => .refl _) (fun _ => ?_)
  refine .ite (fun _ => ((Keeps.mapVault ..).trans (.mapPair ..)).trans (.soloFromSeeking ..)) (fun _ => ?_)
  exact (Keeps.mapVault ..).trans (.mapPair ..)

theorem Keeps.discardS (s : State) : Keeps s s.discardS :=
  .ite (fun _ => .mapPair ..) (fun _ => (Keeps.mapPair ..).trans (.pathFault ..))

theorem Keeps.sFrame (s : State) (f : SFrameIn) (go : State → State) (h : ∀ t, Keeps t (go t)) : Keeps s (s.sFrame f go) :=
  .ite (fun _ => .refl _) (fun _ => .ite (fun _ => .discardS ..) (fun _ => (Keeps.mapPair ..).trans (h _)))

theorem Keeps.sendHeartbeat (s : State) : Keeps s s.sendHeartbeat :=
  .ite (fun _ => .refl _) (fun _ => (((Keeps.sendTwin ..).trans (.sendTwin ..)).trans (.mapPair ..)).trans (.sendStatus ..))

theorem Keeps.pathHeard (s : State) (onPx : Bool) : Keeps s (s.pathHeard onPx) := .mapPair ..

theorem Keeps.feedTwin (s : State) : Keeps s s.feedTwin := by
  unfold State.feedTwin
  exact (((Keeps.foldl _ _ (fun _ _ _ => .sendTwin ..)).trans (.sendTwin ..)).trans (.sendTwin ..)).trans (.mapPair ..)

theorem Keeps.onHeartbeat (s : State) (was : PairMode) (cleared : Bool) : Keeps s (s.onHeartbeat was cleared) := by
  unfold State.onHeartbeat
  refine .ite (fun _ => .isolate ..) (fun _ => ?_)
  split
  · exact .refl _
  · exact .ite (fun _ => .rejoin ..) (fun _ => .refl _)
  · exact .refl _
  · exact .ite (fun _ => .rejoin ..) (fun _ => .refl _)
  · refine .ite (fun _ => .refl _) (fun _ => ?_)
    refine .ite (fun _ => ((Keeps.mapPair ..).trans (.pairEvent ..)).trans (.feedTwin ..)) (fun _ => ?_)
    exact (Keeps.mapPair ..).trans (.pairEvent ..)
  · exact .ite (fun _ => .feedTwin ..) (fun _ => .refl _)
  · exact .ite (fun _ => .rejoin ..) (fun _ => .refl _)

theorem Keeps.heartbeatIn (s : State) (onPx tagOk : Bool) (h : HeartbeatIn) : Keeps s (s.heartbeatIn onPx tagOk h) := by
  unfold State.heartbeatIn
  refine .ite (fun _ => .refl _) (fun _ => ?_)
  refine .ite (fun _ => .ite (fun _ => .discardS ..) (fun _ => .refl _)) (fun _ => ?_)
  exact ((Keeps.pathHeard ..).trans (.mapPair ..)).trans (.onHeartbeat ..)

theorem Keeps.admitHeld (s : State) : Keeps s s.admitHeld := .mapLedger ..

theorem Keeps.takeClaim (s : State) (go : State → State) (h : ∀ t, Keeps t (go t)) : Keeps s (s.takeClaim go) :=
  .ite (fun _ => .isolate ..) (fun _ => (Keeps.enterSolo ..).trans (h _))

theorem Keeps.takeOver (s : State) : Keeps s s.takeOver :=
  ((((Keeps.mapLedger ..).trans (.mapLedger ..)).trans (.mapPair ..)).trans (.admitHeld ..)).trans (.endAll ..)

theorem Keeps.dropSnapshot (s : State) : Keeps s s.dropSnapshot := by
  unfold State.dropSnapshot
  exact ((Keeps.mapLedger ..).trans (.foldl _ _ (fun _ _ _ => .finishEnd ..))).trans (.mapLedger ..)

theorem Keeps.twinFailed (s : State) : Keeps s s.twinFailed := by
  unfold State.twinFailed
  dsimp only
  split
  · exact (((Keeps.logEv ..).trans (.pairEvent ..)).trans (.mapPair ..)).trans (.takeClaim _ _ (fun _ => .takeOver ..))
  · exact (((Keeps.logEv ..).trans (.pairEvent ..)).trans (.mapPair ..)).trans (.takeClaim _ _ (fun _ => .mapLedger ..))
  · exact (((Keeps.logEv ..).trans (.pairEvent ..)).trans (.mapPair ..)).trans (.takeClaim _ _ (fun _ => .dropSnapshot ..))
  · exact ((Keeps.logEv ..).trans (.pairEvent ..)).trans (.mapPair ..)
  · exact ((Keeps.logEv ..).trans (.pairEvent ..)).trans (.mapPair ..)
  · exact ((Keeps.logEv ..).trans (.pairEvent ..)).trans (.mapPair ..)
  · exact ((Keeps.logEv ..).trans (.pairEvent ..)).trans (.mapPair ..)

theorem Keeps.pathSilence (s : State) (onPx : Bool) : Keeps s (s.pathSilence onPx) := by
  unfold State.pathSilence
  refine .ite (fun _ => .refl _) (fun _ => ?_)
  refine .ite (fun _ => .ite (fun _ => .twinFailed ..) (fun _ => .mapPair ..)) (fun _ => ?_)
  exact .ite (fun _ => .refl _) (fun _ => .pathFault ..)

theorem Keeps.markSeq (s : State) (d : DecisionRec) : Keeps s (s.markSeq d) := .mapLedger ..

theorem Keeps.bookDecision (s : State) (d : DecisionRec) (r : Req) (run : Bool) : Keeps s (s.bookDecision d r run) :=
  ((Keeps.ite (fun _ => .refl _) (fun _ => .mapLedger ..)).trans (.commitBooking ..)).trans (.mapReq ..)

theorem Keeps.respool (s : State) (lost : Bool) : Keeps s (s.respool lost) := by
  unfold State.respool
  exact .mapPair ..

theorem Keeps.keepFrame (s : State) (d : DecisionRec) : Keeps s (s.keepFrame d) :=
  .ite (fun _ => (Keeps.mapPair ..).trans (.respool ..)) (fun _ => .respool ..)

theorem Keeps.applyDecision (s : State) (d : DecisionRec) : Keeps s (s.applyDecision d) := by
  unfold State.applyDecision
  refine .ite (fun _ => ?_) (fun _ => ?_)
  · refine .ite (fun _ => ?_) (fun _ => ?_)
    · refine .ite (fun _ => ?_) (fun _ => ?_)
      · exact (((Keeps.markSeq ..).trans (.mapPair ..)).trans (.bookDecision ..)).trans (.payloadReady ..)
      · exact ((((Keeps.markSeq ..).trans (.mapPair ..)).trans (.bookDecision ..)).trans (.payloadReady ..)).trans (.notRun ..)
    · exact (((Keeps.markSeq ..).trans (.mapPair ..)).trans (.bookDecision ..)).trans (.payloadReady ..)
  · refine .ite (fun _ => ?_) (fun _ => ?_)
    · exact ((((Keeps.markSeq ..).trans (.mapPair ..)).trans (.bookDecision ..)).trans (.keepFrame ..)).trans (.payloadReady ..)
    · refine .ite (fun _ => ?_) (fun _ => ?_)
      · exact (((Keeps.markSeq ..).trans (.mapPair ..)).trans (.bookDecision ..)).trans (.payloadReady ..)
      · split
        · exact (Keeps.markSeq ..).trans (.mapPair ..)
        · refine .ite (fun _ => ?_) (fun _ => ?_)
          · refine .ite (fun _ => ?_) (fun _ => (Keeps.markSeq ..).trans (.mapPair ..))
            exact ((((Keeps.markSeq ..).trans (.mapPair ..)).trans (.mapReq ..)).trans (.leaveBuffer ..)).trans (.keyUnref ..)
          · refine .ite (fun _ => ?_) (fun _ => (Keeps.markSeq ..).trans (.mapPair ..))
            exact (((Keeps.markSeq ..).trans (.mapPair ..)).trans (.finishEnd ..)).trans (.mapPair ..)

theorem Keeps.tryJoin (s : State) : Keeps s s.tryJoin := .ite (fun _ => (Keeps.sendTwin ..).trans (.mapPair ..)) (fun _ => .refl _)

theorem Keeps.freeSlots (s : State) (tenant seq : Nat) : Keeps s (s.freeSlots tenant seq) := by
  unfold State.freeSlots
  split
  · exact .ite (fun _ => .refl _) (fun _ => .mapLedger ..)
  · exact .refl _

theorem Keeps.takeDelta (s : State) (tenant seq : Nat) (granules : List (Nat × List Byte)) :
    Keeps s (s.takeDelta tenant seq granules) := by
  unfold State.takeDelta
  refine .ite (fun _ => .refl _) (fun _ => ?_)
  refine .trans ?_ (.respool ..)
  refine .ite (fun _ => ?_) (fun _ => ?_)
  · refine .trans ?_ ((Keeps.freeSlots ..).trans (.mapPair ..))
    split
    · exact .ite (fun _ => (Keeps.releaseBookings ..).trans (.finishEnd ..)) (fun _ => .releaseBookings ..)
    · exact .releaseBookings ..
  · refine .trans ?_ (.freeSlots ..)
    split
    · exact .ite (fun _ => (Keeps.releaseBookings ..).trans (.finishEnd ..)) (fun _ => .releaseBookings ..)
    · exact .releaseBookings ..

theorem Keeps.checkpointFold (s : State) : Keeps s s.checkpointFold := by
  unfold State.checkpointFold
  refine .ite (fun _ => .refl _) (fun _ => ?_)
  refine .trans ?_ ((Keeps.mapPair ..).trans (.respool ..))
  refine .foldl _ _ (fun _ _ _ => ?_)
  split
  · exact .ite (fun _ => .finishEnd ..) (fun _ => .refl _)
  · exact .refl _

theorem Keeps.rerun (s : State) (t : TailReq) : Keeps s (s.rerun t) := by
  unfold State.rerun
  dsimp only
  split
  · exact .finishEnd ..
  · exact (Keeps.mapReq ..).trans (.payloadReady ..)

theorem Keeps.restoreSpool (s : State) : Keeps s s.restoreSpool := by
  unfold State.restoreSpool
  refine .ite (fun _ => .refl _) (fun _ => ?_)
  refine .trans ?_ (.mapPair ..)
  refine ((Keeps.foldl _ _ (fun _ _ _ => .putBytes ..)).trans (.foldl _ _ (fun _ _ _ => .rerun ..))).trans (.foldl _ _ (fun _ _ _ => ?_))
  split
  · exact .ite (fun _ => .finishEnd ..) (fun _ => .refl _)
  · exact .refl _

theorem Keeps.snapshotRecord (s : State) (d : DecisionRec) : Keeps s (s.snapshotRecord d) := (Keeps.markSeq ..).trans (.bookDecision ..)

theorem Keeps.takeSnapshot (s : State) (tick : Nat) (bookings : List DecisionRec) : Keeps s (s.takeSnapshot tick bookings) := by
  unfold State.takeSnapshot
  refine .ite (fun _ => .refl _) (fun _ => ?_)
  exact ((Keeps.ite (fun _ => .refl _) (fun _ => (Keeps.mapLedger ..).trans (.mapPair ..))).trans
      (.foldl _ _ (fun _ _ _ => .snapshotRecord ..))).trans (.tryJoin ..)

theorem Keeps.takePackage (s : State) (model : Nat) (body : List Byte) (last : Bool) (trailer : TrailerIn) :
    Keeps s (s.takePackage model body last trailer) := by
  unfold State.takePackage
  refine .ite (fun _ => .refl _) (fun _ => ?_)
  refine .trans ?_ (.tryJoin ..)
  refine .ite (fun _ => (Keeps.ite (fun _ => .refl _) (fun _ => .mapLoad ..)).trans (.finishLoad ..)) (fun _ => ?_)
  exact (Keeps.ite (fun _ => .refl _) (fun _ => .mapLoad ..)).trans (.takeSegment ..)

theorem Keeps.takeImage (s : State) (granules : List (Nat × List Byte)) : Keeps s (s.takeImage granules) :=
  .ite (fun _ => .refl _) (fun _ => ((Keeps.mapPair ..).trans (.respool ..)).trans (.tryJoin ..))

theorem Keeps.joins (s : State) : Keeps s s.joins := by
  unfold State.joins
  refine .ite (fun _ => .refl _) (fun _ => ?_)
  dsimp only
  split
  · exact ((Keeps.mapPair ..).trans (.mapPair ..)).trans (.pairEvent ..)
  · exact ((Keeps.mapPair ..).trans (.mapPair ..)).trans (.pairEvent ..)
  · exact .mapPair ..
  · exact .mapPair ..
  · exact .mapPair ..
  · exact .mapPair ..
  · exact .mapPair ..

theorem Keeps.holdExpired (s : State) (x : Nat) : Keeps s (s.holdExpired x) :=
  .foldl _ _ (fun _ _ _ => ((Keeps.mapReq ..).trans (.leaveBuffer ..)).trans (.keyUnref ..))

theorem Keeps.deferredEnd (s : State) (tenant seq : Nat) : Keeps s (s.deferredEnd tenant seq) := by
  unfold State.deferredEnd
  split
  · exact .refl _
  · refine .ite (fun _ => .refl _) (fun _ => ?_)
    refine .ite (fun _ => (Keeps.ite (fun _ => .mapPair ..) (fun _ => .refl _)).trans (.mapReq ..)) (fun _ => ?_)
    refine .ite (fun _ => .finishEnd ..) (fun _ => ?_)
    refine .ite (fun _ => (Keeps.mapPair ..).trans (.finishEnd ..)) (fun _ => ?_)
    exact (Keeps.ite (fun _ => (Keeps.mapLedger ..).trans (.logEv ..)) (fun _ => .refl _)).trans (.sendEnd ..)

theorem Keeps.seekExpired (s : State) : Keeps s s.seekExpired := .ite (fun _ => .soloFromSeeking ..) (fun _ => .refl _)

theorem Keeps.stepDownProc (value : Nat) (s : State) : Keeps s (stepDownProc value s).2 :=
  .checked _ _ _ (.ite (fun _ => (Keeps.isolate ..).trans (.mapPair ..)) (fun _ => .refl _))

theorem Keeps.resumeBeats (s : State) : Keeps s s.resumeBeats := by
  unfold State.resumeBeats
  split
  · exact .refl _
  · exact .ite (fun _ => .refl _) (fun _ => (Keeps.mapPair ..).trans (.startBeats ..))

/-! ### Tickets, guests and the alarm (Security.lean) -/

theorem Keeps.grstRelease (s : State) (g : Nat) : Keeps s (s.grstRelease g) := .ite (fun _ => .mapVault ..) (fun _ => .refl _)

theorem Keeps.guestReady (s : State) (g : Nat) : Keeps s (s.guestReady g) := by
  unfold State.guestReady
  refine .ite (fun _ => ?_) (fun _ => .refl _)
  exact (Keeps.ite (fun _ => (Keeps.mapVault ..).trans (.mapBase ..)) (fun _ => .mapVault ..)).trans (.checkReady ..)

theorem Keeps.guestLate (s : State) (g : Nat) : Keeps s (s.guestLate g) :=
  .ite (fun _ => ((Keeps.fenceGuestSite ..).trans (.logEv ..)).trans (.checkReady ..)) (fun _ => .refl _)

theorem Keeps.applyEntry (s : State) (e : TicketEntry) : Keeps s (s.applyEntry e) := by
  unfold State.applyEntry
  refine .ite (fun _ => .mapVault ..) (fun _ => ?_)
  refine .ite (fun _ => .mapVault ..) (fun _ => ?_)
  refine .ite (fun _ => ?_) (fun _ => ?_)
  · exact .ite (fun _ => (Keeps.mapVault ..).trans (.endTenants ..)) (fun _ => .mapVault ..)
  · refine .ite (fun _ => .mapVault ..) (fun _ => ?_)
    refine .ite (fun _ => .mapVault ..) (fun _ => ?_)
    refine .ite (fun _ => .mapVault ..) (fun _ => ?_)
    refine .ite (fun _ => .mapVault ..) (fun _ => ?_)
    exact .ite (fun _ => .mapPair ..) (fun _ => .ite (fun _ => .mapPair ..) (fun _ => .mapPair ..))

theorem Keeps.bindingChanged (s : State) : Keeps s s.bindingChanged :=
  ((((Keeps.mapVault ..).trans (.mapLedger ..)).trans (.mapPair ..)).trans (.mapTime _ _ (Nat.le_refl _))).trans (.raiseEvent ..)

theorem Keeps.applyTicket (s : State) (l : List TicketEntry) (enrol : Bool) : Keeps s (s.applyTicket l enrol) := by
  unfold State.applyTicket
  refine .trans ?_ ((Keeps.mapVault ..).trans (.policyChanged ..))
  refine .ite (fun _ => ((Keeps.mapVault ..).trans (.foldl _ _ (fun _ _ _ => .applyEntry ..))).trans (.bindingChanged ..)) (fun _ => ?_)
  exact (Keeps.mapVault ..).trans (.foldl _ _ (fun _ _ _ => .applyEntry ..))

theorem Keeps.refuseTicket (s : State) (check : Nat) : Keeps s (s.refuseTicket check) := by
  unfold State.refuseTicket
  refine .ite (fun _ => ((Keeps.mapVault ..).trans (.logEv ..)).trans (.raiseAlarm ..)) (fun _ => ?_)
  exact (Keeps.mapVault ..).trans (.logEv ..)

theorem Keeps.ticketProc (t : TicketIn) (s : State) : Keeps s (ticketProc t s).2 := by
  unfold Machine.ticketProc
  dsimp only
  split
  · exact .snd (.applyTicket ..)
  · exact .snd (.refuseTicket ..)

/-! ### The test access port (Tap.lean) -/

theorem Keeps.tapOpen (s : State) (code : BitVec 8) : Keeps s (s.tapOpen code) := by
  unfold State.tapOpen
  exact (Keeps.drawFree ..).trans (.mapTap ..)

/-! ### Accesses to the dictionary (Dictionary.lean) -/

theorem Keeps.setSel (s : State) (i3c : Bool) (key v : Nat) : Keeps s (s.setSel i3c key v) :=
  .mapDict _ _ (by simp only [DictSt.mapTransport_aborts, imp_self])

theorem Keeps.setHeld (s : State) (key v : Nat) : Keeps s (s.setHeld key v) := .mapDict _ _ id

theorem Keeps.setHeldOct (s : State) (key : Nat) (l : List Byte) : Keeps s (s.setHeldOct key l) := .mapDict _ _ id

theorem Keeps.ranged (lo hi v : Nat) (effect : State → State) (s : State) (h : Keeps s (effect s)) :
    Keeps s (ranged lo hi v effect s).2 := .checked _ _ _ h

theorem Keeps.putSite (i3c : Bool) (key v other : Nat) (s : State) : Keeps s (putSite i3c key v other s).2 :=
  .checked _ _ _ (.setSel ..)

theorem Keeps.entryProc (v : Nat) (s : State) : Keeps s (entryProc v s).2 := .checked _ _ _ (.mapBase ..)

theorem Keeps.roleMapProc (data : List Byte) (s : State) : Keeps s (roleMapProc data s).2 :=
  .checked _ _ _ ((Keeps.groupsWere ..).trans (.of_same rfl rfl rfl rfl))

theorem Keeps.spoolEidProc (v : Nat) (s : State) : Keeps s (spoolEidProc v s).2 := .checked _ _ _ (.mapPair ..)

theorem Keeps.spoolSpaceProc (v : Nat) (s : State) : Keeps s (spoolSpaceProc v s).2 := .ranged _ _ _ _ _ (.mapPair ..)

theorem Keeps.spoolStoreProc (v : Nat) (s : State) : Keeps s (spoolStoreProc v s).2 := .checked _ _ _ (.mapPair ..)

theorem Keeps.channelProc (key lo hi v : Nat) (s : State) : Keeps s (channelProc key lo hi v s).2 := .checked _ _ _ (.setSel ..)

theorem Keeps.thermalSelProc (i3c : Bool) (v : Nat) (s : State) : Keeps s (thermalSelProc i3c v s).2 := .checked _ _ _ (.setSel ..)

theorem LogSt.clearVector_recs (l : LogSt) (i3c : Bool) (t : Nat) (up : Bool) (v : Nat) : (l.clearVector i3c t up v).recs = l.recs := by
  unfold LogSt.clearVector
  dsimp only
  split
  all_goals
    split
    · rfl
    · split
      · split <;> rfl
      · rfl

theorem Keeps.clearVectors (s : State) (i3c : Bool) (bits : BitVec 32) : Keeps s (s.clearVectors i3c bits) :=
  .foldl _ _ (fun _ _ _ => .mapLog _ _ (by simp only [LogSt.clearVector_recs, imp_self]))

theorem Keeps.putTower (t b v : Nat) (s : State) : Keeps s (putTower t b v s).2 := by
  unfold Machine.putTower
  split
  · exact .checked _ _ _ (.mapTower ..)
  · split
    · exact .towerFenceProc ..
    · split
      · exact .ranged _ _ _ _ _ (.mapTower ..)
      · split
        · exact .checked _ _ _ (.mapTower ..)
        · exact .towerResetProc ..

theorem Keeps.putGuard (s : State) (f : LedgerSt → LedgerSt) : Keeps s (s.putGuard f) := by
  unfold State.putGuard
  exact .mapLedger ..

theorem Keeps.putLow (i3c : Bool) (k v : Nat) (data : List Byte) (s : State) : Keeps s (putLow i3c k v data s).2 := by
  unfold Machine.putLow
  split
  · exact .stageImageProc ..
  · exact .activateProc ..
  · exact .abandonProc ..
  · exact .moduleResetProc ..
  · exact .snd (.clearVectors ..)
  · exact .snd (.mapLog _ _ id)
  · exact .epochCountLoadProc ..
  · exact .ranged _ _ _ _ _ (.mapTime _ _ (Nat.le_refl _))
  · exact .timeResetProc ..
  · exact .ranged _ _ _ _ _ (.putGuard ..)
  · exact .ranged _ _ _ _ _ (.putGuard ..)
  · exact .ranged _ _ _ _ _ (.putGuard ..)
  · exact .putSite ..
  · exact .putSite ..
  · exact .ranged _ _ _ _ _ (.mapLedger ..)
  · exact .ranged _ _ _ _ _ (.mapPair ..)
  · exact .stepDownProc ..
  · exact .ranged _ _ _ _ _ (.mapPair ..)
  · exact .spoolEidProc ..
  · exact .spoolSpaceProc ..
  · exact .spoolStoreProc ..

theorem Keeps.putMid (i3c : Bool) (k v : Nat) (data : List Byte) (s : State) : Keeps s (putMid i3c k v data s).2 := by
  unfold Machine.putMid
  split
  · exact .ranged _ _ _ _ _ (.setHeld ..)
  · exact .checked _ _ _ (.setHeld ..)
  · exact .snd (.setHeld ..)
  · exact .groupApplyProc ..
  · exact .roleMapProc ..
  · exact .removeProc ..
  · exact .openLoadProc ..
  · exact .placeFromParkProc ..
  · exact .cancelLoadProc ..
  · exact .checked _ _ _ (.setHeld ..)
  · exact .syncWriteProc ..
  · exact .syncAddProc ..
  · exact .putSite ..
  · exact .putSite ..
  · exact .fieldResetProc ..
  · exact .entryProc ..
  · exact .routingArmProc ..
  · exact .routingCopyProc ..

theorem Keeps.putHigh (i3c : Bool) (k v : Nat) (data : List Byte) (s : State) : Keeps s (putHigh i3c k v data s).2 := by
  unfold Machine.putHigh
  split
  · exact .checked _ _ _ (.setHeld ..)
  · exact .checked _ _ _ (.setHeld ..)
  · exact .applyWindowProc ..
  · exact .ranged _ _ _ _ _ (.setSel ..)
  · exact .layerResetProc ..
  · exact .ranged _ _ _ _ _ (.mapMem _ _ id id)
  · exact .ranged _ _ _ _ _ (.mapTower ..)
  · exact .ranged _ _ _ _ _ (.mapMem _ _ id id)
  · exact .ranged _ _ _ _ _ (.setHeld ..)
  · exact .ranged _ _ _ _ _ (.setHeld ..)
  · exact .ranged _ _ _ _ _ (.setHeld ..)
  · exact .snd (.setHeldOct ..)
  · exact .snd (.setHeldOct ..)
  · exact .testProc ..
  · exact .retireProc ..
  · exact .reportNonceProc ..
  · exact .keyEnvelopeProc ..
  · exact .closeProc ..
  · exact .ranged _ _ _ _ _ (.mapVault ..)
  · exact .ticketProc ..
  · exact .guestResetProc ..
  · exact .snd (.mapPower ..)
  · exact .ranged _ _ _ _ _ (.mapPower ..)
  · exact .restartProc ..
  · exact .channelProc ..
  · exact .channelProc ..
  · exact .shadowProc ..
  · exact .commitArmProc ..
  · exact .ranged _ _ _ _ _ (.mapBase ..)
  · exact .ranged _ _ _ _ _ (.mapBase ..)
  · exact .checked _ _ _ (.mapLog _ _ id)
  · exact .ranged _ _ _ _ _ (.mapLog _ _ id)
  · exact .snd (.mapTap ..)

theorem Keeps.ctlAccess (s : State) (type index sub code : Nat) : Keeps s (s.ctlAccess type index sub code) :=
  .ite (fun _ => (Keeps.ctlTo ..).trans (.ctlTo ..)) (fun _ => .refl _)

theorem Keeps.putObject (s : State) (i3c : Bool) (t : ObjType) (index sub : Nat) (data : List Byte) :
    Keeps s (s.putObject i3c t index sub data).2 := by
  unfold State.putObject
  dsimp only
  split
  · exact .refl _
  · split
    · exact .snd ((Keeps.putTower ..).trans (.ctlAccess ..))
    · split
      · exact .thermalSelProc ..
      · split
        · exact .checked _ _ _ (.setSel ..)
        · split
          · exact .checked _ _ _ (.setHeld ..)
          · split
            · exact .putLow ..
            · split
              · exact .putMid ..
              · exact .putHigh ..

theorem Keeps.abandon (s : State) (i3c : Bool) : Keeps s (s.mapDict (fun d => d.abandon i3c s.now)) :=
  .mapDict _ _ (DictSt.abandon_length _ _ _)

theorem Keeps.segmentProc (r : ObjRow) (index sub offset : Nat) (data : List Byte) (last : Bool) (s : State) :
    Keeps s (Machine.segmentProc r index sub offset data last s).2 := by
  have hstart : Keeps s (if offset = 0 then s.mapDict (fun d => d.abandon false s.now) else s) :=
    .ite (fun _ => .abandon ..) (fun _ => .refl _)
  unfold Machine.segmentProc
  generalize (if offset = 0 then s.mapDict (fun d => d.abandon false s.now) else s) = u at hstart
  -- by cases on a write under way: what it holds does not matter
  rcases hseg : u.dict.pcie.seg with _ | w <;> simp only [hseg]
  all_goals
    split
    · exact hstart
    split
    · exact hstart
    split
    · exact hstart.trans ((Keeps.mapDict u _ id).trans (.putObject ..))
    · exact hstart.trans (.snd (.mapDict _ _ id))

theorem Keeps.writeProc (index sub offset : Nat) (data : List Byte) (last : Bool) (s : State) :
    Keeps s (writeProc index sub offset data last s).2 := by
  unfold Machine.writeProc
  dsimp only
  split
  · exact .refl _
  · split
    · exact .refl _
    · split
      · exact .segmentProc ..
      · split
        · exact .refl _
        · exact .putObject ..

theorem Keeps.discardWrites (s : State) (n : Nat) : Keeps s (s.discardWrites n) := .mapDict _ _ id

theorem Keeps.readProc (index sub offset length : Nat) (s : State) : Keeps s (Machine.readProc index sub offset length s).2.2 := by
  unfold Machine.readProc
  split
  · exact .refl _
  · split
    · exact .refl _
    · split
      · exact .refl _
      · split
        · exact .refl _
        · dsimp only
          split
          · split
            · exact .mapDict s (fun d => { d with pcie := { d.pcie with copy := some (index, sub, _) } }) id
            · split
              · exact .refl _
              · split <;> exact .refl _
          · split <;> exact .refl _

theorem Keeps.accessRead (s : State) (index sub offset length busy : Nat) : Keeps s (s.accessRead index sub offset length busy) := by
  unfold State.accessRead
  refine .ite (fun _ => .refl _) (fun _ => ?_)
  refine .trans ?_ (((Keeps.ctlAccess ..).trans (.endAccess ..)).trans (.mapDict _ _ id))
  refine .trans ((Keeps.discardWrites s busy).trans (.begin_ _ false index sub)) ?_
  split
  · exact .readProc ..
  · exact .refl _

theorem Keeps.boundExpires (s : State) (i3c : Bool) (go index sub : Nat) (write last : Bool) :
    Keeps s (s.boundExpires i3c go index sub write last) := by
  unfold State.boundExpires
  refine .ite (fun _ => .refl _) (fun _ => ?_)
  refine .ite (fun _ => ((Keeps.begin_ ..).trans (.endAccess ..)).trans (.mapDict _ _ id)) (fun _ => ?_)
  exact (Keeps.begin_ ..).trans (.endAccess ..)

theorem Keeps.segmentIdle (s : State) (i3c : Bool) : Keeps s (s.segmentIdle i3c) := by
  unfold State.segmentIdle
  split
  · exact .ite (fun _ => .abandon ..) (fun _ => .refl _)
  · exact .refl _

theorem Keeps.i3cAnswer (s : State) (code : Nat) (value : List Byte) : Keeps s (s.i3cAnswer code value) := .mapDict _ _ id

theorem Keeps.i3cRead (s : State) (index sub : Nat) : Keeps s (s.i3cRead index sub) :=
  .ite (fun _ => .refl _) (fun _ => (((Keeps.begin_ ..).trans (.ctlAccess ..)).trans (.endAccess ..)).trans (.i3cAnswer ..))

theorem Keeps.i3cWriteProc (index sub : Nat) (data : List Byte) (s : State) : Keeps s (i3cWriteProc index sub data s).2 := by
  unfold Machine.i3cWriteProc
  split
  · exact .refl _
  · split
    · exact .refl _
    · split
      · exact .refl _
      · exact .putObject ..

theorem Keeps.i3cWrite (s : State) (index sub : Nat) (data : List Byte) : Keeps s (s.i3cWrite index sub data) := by
  unfold State.i3cWrite
  refine .ite (fun _ => .refl _) (fun _ => ?_)
  refine .trans ?_ ((Keeps.endAccess ..).trans (.i3cAnswer ..))
  split
  · exact (Keeps.begin_ ..).trans (.i3cWriteProc ..)
  · exact .snd (.begin_ ..)

theorem Keeps.cccAnswer (s : State) (bytes : List Byte) : Keeps s (s.cccAnswer bytes) :=
  .ite (fun _ => .mapDict _ _ id) (fun _ => .refl _)

theorem Keeps.vectorClear (s : State) (i3c : Bool) (bits : BitVec 32) : Keeps s (s.vectorClear i3c bits) :=
  .ite (fun _ => .i3cWrite ..) (fun _ => .pcieWrite _ _ _ _ (fun _ => .snd (.clearVectors ..)))

/-! ### The operators of the catalogue (Operators.lean) -/

theorem Keeps.wordError (s : State) (t chunk word : Nat) : Keeps s (s.wordError t chunk word) := by
  unfold State.wordError
  split
  · exact .refl _
  · refine .ite (fun _ => ?_) (fun _ => (Keeps.loadEntry ..).trans (.mapTower ..))
    exact .ite (fun _ => .refl _) (fun _ => ((Keeps.mapTower ..).trans (.logEv ..)).trans (.failChunk ..))

/-! ### One step (Step.lean) -/

theorem Keeps.idle (s : State) : Keeps s (idle s) := by
  refine .ite (fun _ => .mapTime _ _ ?_) (fun _ => .refl _)
  split
  · exact Nat.le_succ _
  · exact Nat.le_refl _

/-! ### Gates (R590) -/

theorem Keeps.nextGate (s : State) : Keeps s (s.mapTime TimeSt.nextGate) := by
  refine .mapTime _ _ ?_
  unfold TimeSt.nextGate
  split <;> exact Nat.le_refl _

/-! ### Every command -/

/-- The outcome of a command is a next state, which keeps what the state before it had. -/
def Stepped (s : State) (o : Host.Outcome State Fault Refusal) : Prop := ∃ t, o = .next t ∧ Keeps s t

theorem Stepped.next {s t : State} (h : Keeps s t) : Stepped s (.next t) := ⟨t, rfl, h⟩

/-- Every command but the return of input power steps to a state that keeps memory's form, the rings' bounds and the tally. -/
theorem stepped_exec (c : Instr) (s : State) (h : ∀ at_, c ≠ .inputCharged at_) : Stepped s (exec c s) := by
  cases c with
  | shortfall => exact .next ((Keeps.advance ..).trans (.telling _ _ (.shortfall ..)))
  | tileFault => exact .next ((Keeps.advance ..).trans (.telling _ _ (.ite (fun _ => .faultTile ..) (fun _ => .refl _))))
  | chunkOverrun => exact .next ((Keeps.advance ..).trans (.chunkOverrun ..))
  | spareSelfTest => exact .next ((Keeps.advance ..).trans (.spareSelfTest ..))
  | regionOscillatorStop => exact .next (((Keeps.advance ..).trans (.mapTower ..)).trans (.telling _ _ (.loseRegion ..)))
  | schedulerFault => exact .next (.ite (fun _ => (Keeps.advance ..).trans (.telling _ _ (.failTower ..))) (fun _ => .advance ..))
  | towerFenceWrite => exact .next (.ite (fun _ => (Keeps.advance ..).trans
      (.telling _ _ (.pcieWrite _ _ _ _ (fun _ => .towerFenceProc ..)))) (fun _ => .advance ..))
  | activationInstall => exact .next ((Keeps.advance ..).trans (.install ..))
  | windowOpen => exact .next ((Keeps.advance ..).trans (.windowOpens ..))
  | chunkIssue => exact .next ((Keeps.advance ..).trans (.issueChunk ..))
  | chunkCommit => exact .next ((Keeps.advance ..).trans (.chunkCommit ..))
  | syncWaitExpiry => exact .next ((Keeps.advance ..).trans (.syncWaitExpiry ..))
  | completionWord => exact .next ((Keeps.advance ..).trans (.completionWord ..))
  | endNotice => exact .next ((Keeps.advance ..).trans (.endNotice ..))
  | applyWindow => exact .next ((Keeps.advance ..).trans (.telling _ _ (.pcieWrite _ _ _ _ (fun _ => .applyWindowProc ..))))
  | burstRetry => exact .next ((Keeps.advance ..).trans (.burstRetry ..))
  | wireFailure => exact .next ((Keeps.advance ..).trans (.telling _ _ (.wireFails ..)))
  | channelClockChange => exact .next ((Keeps.advance ..).trans (.mapTower ..))
  | bandChange => exact .next ((Keeps.advance ..).trans (.mapTower ..))
  | layerResetRequest =>
    refine .next ?_
    refine .ite (fun _ => ?_) (fun _ => (Keeps.advance ..).trans (.pcieWrite _ _ _ _ (fun _ => .layerResetProc ..)))
    exact .ite (fun _ => (Keeps.advance ..).trans (.requestLayerReset ..)) (fun _ => .advance ..)
  | layerDrainComplete => exact .next ((Keeps.advance ..).trans (.mapTower ..))
  | layerResetForced => exact .next ((Keeps.advance ..).trans (.forceLayerReset ..))
  | layerPowerOn => exact .next ((Keeps.advance ..).trans (.mapTower ..))
  | layerTrained => exact .next ((Keeps.advance ..).trans (.telling _ _ (.layerTrained ..)))
  | refresh => exact .next ((Keeps.advance ..).trans (.mapStack ..))
  | mr4Poll => exact .next ((Keeps.advance ..).trans (.mapStack ..))
  | wck2dqRetraining => exact .next ((Keeps.advance ..).trans (.retrainStack ..))
  | groupApply => exact .next ((Keeps.advance ..).trans (.telling _ _ (.pcieWrite _ _ _ _ (fun _ => .groupApplyProc ..))))
  | remove => exact .next ((Keeps.advance ..).trans (.pcieWrite _ _ _ _ (fun _ => .removeProc ..)))
  | packageRemovalComplete => exact .next ((Keeps.advance ..).trans (.telling _ _ (.removalComplete ..)))
  | openLoad => exact .next ((Keeps.advance ..).trans (.pcieWrite _ _ _ _ (fun _ => .openLoadProc ..)))
  | placeFromPark => exact .next ((Keeps.advance ..).trans (.telling _ _ (.pcieWrite _ _ _ _ (fun _ => .placeFromParkProc ..))))
  | cancelLoad => exact .next ((Keeps.advance ..).trans (.pcieWrite _ _ _ _ (fun _ => .cancelLoadProc ..)))
  | refclkEdgeTimeout => exact .next (.ite (fun _ => (Keeps.advance ..).trans (.refclkLoss ..)) (fun _ => .advance ..))
  | refclkGateEnd => exact .next ((Keeps.advance ..).trans (.ite (fun _ => (Keeps.nextGate ..).trans (.gateEnd ..)) (fun _ => .refl _)))
  | epochPulse => exact .next ((Keeps.advance ..).trans (.epochPulse ..))
  | epochWindowClose => exact .next ((Keeps.advance ..).trans (.windowClose ..))
  | epochCountLoad => exact .next ((Keeps.advance ..).trans (.pcieWrite _ _ _ _ (fun _ => .epochCountLoadProc ..)))
  | tallySlew => exact .next ((Keeps.advance ..).trans (.slew ..))
  | twinEpochCount => exact .next ((Keeps.advance ..).trans (.twinCount ..))
  | timeReset => exact .next ((Keeps.advance ..).trans (.pcieWrite _ _ _ _ (fun _ => .timeResetProc ..)))
  | clockStretch => exact .next ((Keeps.advance ..).trans (.mapTower ..))
  | portLinkUp => exact .next ((Keeps.advance ..).trans (.telling _ _ (.linkUp ..)))
  | xLaneLost => exact .next ((Keeps.advance ..).trans (.telling _ _ (.laneLost ..)))
  | faultyFrameHeader => exact .next (.ite (fun _ => .advance ..) (fun _ => (Keeps.advance ..).trans (.faultyHeader ..)))
  | unitBeyondCredit => exact .next (.ite (fun _ => .advance ..) (fun _ => (Keeps.advance ..).trans (.beyondCredit ..)))
  | gFrame => exact .next ((Keeps.advance ..).trans (.header _ _ _ _ (fun _ => .requestHeader ..)))
  | bFrame => exact .next ((Keeps.advance ..).trans (.header _ _ _ _ (fun _ => .requestHeader ..)))
  | mFrame => exact .next ((Keeps.advance ..).trans (.header _ _ _ _ (fun _ => .segmentFrame ..)))
  | kFrame => exact .next ((Keeps.advance ..).trans (.header _ _ _ _ (fun _ => .unkeyed _ _ _ (fun _ => .queuePort ..))))
  | hello => exact .next ((Keeps.advance ..).trans
      (.header _ _ _ _ (fun _ => .unkeyed _ _ _ (fun _ => .ite (fun _ => ((Keeps.mapPair ..).trans (.logEv ..)).trans
      (.raiseEvent ..)) (fun _ => .refl _)))))
  | errorNotice => exact .next ((Keeps.advance ..).trans (.header _ _ _ _ (fun _ => .unkeyed _ _ _ (fun _ => .refl _))))
  | portState => exact .next ((Keeps.advance ..).trans
      (.header _ _ _ _ (fun _ => .unkeyed _ _ _ (fun _ => .ite (fun _ => .mapPort ..) (fun _ => .refl _)))))
  | payloadComplete => exact .next (.ite (fun _ => .advance ..) (fun _ => (Keeps.advance ..).trans (.payloadComplete ..)))
  | unitGapTimeout => exact .next ((Keeps.advance ..).trans (.unitGap ..))
  | egressCreditStall =>
    refine .next ?_
    split
    · exact .advance ..
    · exact .ite (fun _ => ((Keeps.advance ..).trans (.mapPort ..)).trans (.logEv ..)) (fun _ => .advance ..)
  | replay =>
    refine .next ?_
    split
    · exact (Keeps.advance ..).trans (.replay ..)
    · exact (Keeps.advance ..).trans (.portReplay ..)
  | replayLimit =>
    refine .next ?_
    split
    · exact (Keeps.advance ..).trans (.telling _ _ (.replayLimit ..))
    · exact (Keeps.advance ..).trans (.telling _ _ (.portLimit ..))
  | creditReturn => exact .next ((Keeps.advance ..).trans (.codewordIn ..))
  | spResendRequest => exact .next (.ite (fun _ => (Keeps.advance ..).trans (.spResend ..)) (fun _ => .advance ..))
  | spBusLoss => exact .next ((Keeps.advance ..).trans (.telling _ _ (.ite (fun _ => .ite (fun _ => (Keeps.mapBase ..).trans
      (.syncDegrade ..)) (fun _ => .mapBase ..)) (fun _ => .refl _))))
  | standIn => exact .next ((Keeps.advance ..).trans (.standIn ..))
  | lockLoss => exact .next ((Keeps.advance ..).trans (.telling _ _ (.lockLoss ..)))
  | wavelengthReturn => exact .next ((Keeps.advance ..).trans (.telling _ _ (.returnWavelength ..)))
  | wavelengthPermanentFault => exact .next ((Keeps.advance ..).trans (.telling _ _ (.permanentFault ..)))
  | fadeLevelA => exact .next ((Keeps.advance ..).trans (.fadeA ..))
  | fadeLevelB => exact .next ((Keeps.advance ..).trans (.fadeB ..))
  | fadeLevelC => exact .next ((Keeps.advance ..).trans (.telling _ _ (.fadeC ..)))
  | lossOfLight => exact .next ((Keeps.advance ..).trans (.telling _ _ (.lossOfLight ..)))
  | planeCalibrationWindow => exact .next ((Keeps.advance ..).trans (.telling _ _ (.openWindow ..)))
  | planeSwitch => exact .next ((Keeps.advance ..).trans (.planeSwitch ..))
  | routingSwitchArm => exact .next ((Keeps.advance ..).trans (.pcieWrite _ _ _ _ (fun _ => .routingArmProc ..)))
  | routingSwitch => exact .next ((Keeps.advance ..).trans (.routingSwitch ..))
  | oldBankDrained => exact .next ((Keeps.advance ..).trans (.bankDrained ..))
  | copyActiveToInactive => exact .next ((Keeps.advance ..).trans (.pcieWrite _ _ _ _ (fun _ => .routingCopyProc ..)))
  | weightCombSwitch => exact .next ((Keeps.advance ..).trans (.combSwitch ..))
  | feedForwardStep => exact .next ((Keeps.advance ..).trans (.mapBase ..))
  | heaterRamp => exact .next ((Keeps.advance ..).trans (.mapBase ..))
  | calibrationStep => exact .next ((Keeps.advance ..).trans (.calStep ..))
  | calibrationStepEnd => exact .next ((Keeps.advance ..).trans (.calStepEnd ..))
  | commitArm => exact .next ((Keeps.advance ..).trans (.pcieWrite _ _ _ _ (fun _ => .commitArmProc ..)))
  | shadowSetWrite => exact .next ((Keeps.advance ..).trans (.pcieWrite _ _ _ _ (fun _ => .shadowProc ..)))
  | coefficientCommit => exact .next (.ite (fun _ => (Keeps.advance ..).trans (.applyCommit ..)) (fun _ => .advance ..))
  | commitVerify => exact .next ((Keeps.advance ..).trans (.verifyCommit ..))
  | inputVoltageEvent => exact .next ((Keeps.advance ..).trans (.inputEvent ..))
  | converterFailure => exact .next ((Keeps.advance ..).trans (.converterFails ..))
  | domainFault =>
    refine .next ?_
    split
    · exact (Keeps.advance ..).trans (.telling _ _ (.domainFault ..))
    · exact (Keeps.advance ..).trans (.telling _ _ (.phaseFault ..))
  | laserDriverFault => exact .next ((Keeps.advance ..).trans (.lossOfLight ..))
  | switchSupplyFault => exact .next ((Keeps.advance ..).trans (.switchDown ..))
  | powerStep => exact .next ((Keeps.advance ..).trans (.powerStep ..))
  | excursionAllowance => exact .next ((Keeps.advance ..).trans (.allowanceSpent ..))
  | holdOffEnd => exact .next (.ite (fun _ => (Keeps.advance ..).trans (.mapPower ..)) (fun _ => .advance ..))
  | ballastPauseEnd => exact .next (.ite (fun _ => (Keeps.advance ..).trans (.schedule ..)) (fun _ => .advance ..))
  | modelStep => exact .next ((Keeps.advance ..).trans (.telling _ _ (.modelStep ..)))
  | anchor => exact .next ((Keeps.advance ..).trans (.telling _ _ (.anchor ..)))
  | diodeSample => exact .next ((Keeps.advance ..).trans (.telling _ _ (.diodeSample ..)))
  | tripDomainOff => exact .next ((Keeps.advance ..).trans (.tripOff ..))
  | restartHold => exact .next ((Keeps.advance ..).trans (.holdOver ..))
  | restart => exact .next ((Keeps.advance ..).trans (.pcieWrite _ _ _ _ (fun _ => .restartProc ..)))
  | coolantLimit => exact .next ((Keeps.advance ..).trans (.coolant ..))
  | inputCharged => exact absurd rfl (h _)
  | domainSwitchOn => exact .next ((Keeps.advance ..).trans (.switchOn ..))
  | bootLayer => exact .next ((Keeps.advance ..).trans (.bootLayer ..))
  | towerReady => exact .next ((Keeps.advance ..).trans (.towerComesUp ..))
  | stageImage => exact .next ((Keeps.advance ..).trans (.pcieWrite _ _ _ _ (fun _ => .stageImageProc ..)))
  | activate => exact .next ((Keeps.advance ..).trans (.pcieWrite _ _ _ _ (fun _ => .activateProc ..)))
  | abandon => exact .next ((Keeps.advance ..).trans (.pcieWrite _ _ _ _ (fun _ => .abandonProc ..)))
  | activationStartLimit => exact .next ((Keeps.advance ..).trans (.startLimit ..))
  | imageReloadMeasure => exact .next ((Keeps.advance ..).trans (.reloadMeasured ..))
  | moduleReset => exact .next ((Keeps.advance ..).trans (.pcieWrite _ _ _ _ (fun _ => .moduleResetProc ..)))
  | towerResetWarm => exact .next (.ite (fun _ => (Keeps.advance ..).trans
      (.telling _ _ (.pcieWrite _ _ _ _ (fun _ => .towerResetProc ..)))) (fun _ => .advance ..))
  | towerResetCold => exact .next (.ite (fun _ => (Keeps.advance ..).trans
      (.telling _ _ (.pcieWrite _ _ _ _ (fun _ => .towerResetProc ..)))) (fun _ => .advance ..))
  | towerResetComplete => exact .next ((Keeps.advance ..).trans (.telling _ _ (.resetCompletes ..)))
  | fieldReset => exact .next ((Keeps.advance ..).trans (.pcieWrite _ _ _ _ (fun _ => .fieldResetProc ..)))
  | fieldResetComplete => exact .next ((Keeps.advance ..).trans (.fieldCompletes ..))
  | guestReset => exact .next ((Keeps.advance ..).trans (.pcieWrite _ _ _ _ (fun _ => .guestResetProc ..)))
  | patrolVisit => exact .next (.ite (fun _ => (Keeps.advance ..).trans (.patrolStack ..)) (fun _ => (Keeps.advance ..).trans
      (.patrolSram ..)))
  | remap => exact .next ((Keeps.advance ..).trans (.telling _ _ (.smallWord ..)))
  | retire => exact .next ((Keeps.advance ..).trans (.pcieWrite _ _ _ _ (fun _ => .retireProc ..)))
  | testWriteRaw => exact .next ((Keeps.advance ..).trans (.pcieWrite _ _ _ _ (fun _ => .testProc ..)))
  | testReadChecker => exact .next ((Keeps.advance ..).trans (.pcieWrite _ _ _ _ (fun _ => .testProc ..)))
  | readRequest => exact .next ((Keeps.advance ..).trans (.arriving _ _ _ _ (fun _ => .readRequest ..)))
  | readResponse => exact .next ((Keeps.advance ..).trans (.arriving _ _ _ _ (fun _ => .responseArrives ..)))
  | write => exact .next ((Keeps.advance ..).trans (.arriving _ _ _ _ (fun _ => .writePacket ..)))
  | reducePacket => exact .next ((Keeps.advance ..).trans (.arriving _ _ _ _ (fun _ => .reduceArrives ..)))
  | writeAcknowledgement => exact .next ((Keeps.advance ..).trans (.arriving _ _ _ _ (fun _ => .writeAcked ..)))
  | fencedAcknowledgement => exact .next ((Keeps.advance ..).trans (.arriving _ _ _ _ (fun _ => .fencedAcked ..)))
  | multicastCopy => exact .next ((Keeps.advance ..).trans (.arriving _ _ _ _ (fun _ => .mcastArrives ..)))
  | multicastBranchSend => exact .next ((Keeps.advance ..).trans (.branchSend ..))
  | poisonedCompletion => exact .next ((Keeps.advance ..).trans (.chunkPoisoned ..))
  | chunkIssuePacket => exact .next (.ite (fun _ => (Keeps.advance ..).trans (.ctlArrives ..)) (fun _ => .advance ..))
  | poisonNotice => exact .next (.ite (fun _ => (Keeps.advance ..).trans (.ctlArrives ..)) (fun _ => .advance ..))
  | fence => exact .next (.ite (fun _ => (Keeps.advance ..).trans (.ctlArrives ..)) (fun _ => .advance ..))
  | towerEvent => exact .next (.ite (fun _ => ((Keeps.advance ..).trans (.ctlArrives ..)).trans (.raiseEvent ..)) (fun _ => .advance ..))
  | chunkArrival => exact .next ((Keeps.advance ..).trans (.chunkArrival ..))
  | regionBarrierArrival => exact .next (.ite (fun _ => (Keeps.advance ..).trans (.mapTower ..)) (fun _ => .advance ..))
  | ondieLinkRetry => exact .next ((Keeps.advance ..).trans (.linkRetry ..))
  | signal =>
    refine .next ?_
    refine .ite (fun _ => ?_) (fun _ => ?_)
    · exact (((Keeps.advance ..).trans (.syncTaken ..)).trans (.guestSync ..)).trans (.signalMsg ..)
    · exact (((Keeps.advance ..).trans (.syncTaken ..)).trans (.guestSync ..)).trans (.signalDropped ..)
  | signalAcknowledgement => exact .next (((Keeps.advance ..).trans (.syncTaken ..)).trans (.signalAcked ..))
  | watch =>
    refine .next ?_
    refine .ite (fun _ => ?_) (fun _ => ((Keeps.advance ..).trans (.syncTaken ..)).trans (.guestSync ..))
    exact (((Keeps.advance ..).trans (.syncTaken ..)).trans (.guestSync ..)).trans (.watchMsg ..)
  | notice => exact .next (((Keeps.advance ..).trans (.syncTaken ..)).trans (.foldl _ _ (fun _ _ _ => .noticeAt ..)))
  | reductionDone => exact .next (((Keeps.advance ..).trans (.syncTaken ..)).trans (.foldl _ _ (fun _ _ _ => .doneAt ..)))
  | reductionClosed => exact .next (((Keeps.advance ..).trans (.syncTaken ..)).trans (.foldl _ _ (fun _ _ _ => .closedAt ..)))
  | reducerBusy => exact .next (((Keeps.advance ..).trans (.syncTaken ..)).trans (.mapTower ..))
  | syncHostWrite => exact .next ((Keeps.advance ..).trans (.pcieWrite _ _ _ _ (fun _ => .syncWriteProc ..)))
  | syncAdd => exact .next ((Keeps.advance ..).trans (.pcieWrite _ _ _ _ (fun _ => .syncAddProc ..)))
  | admissionDecision => exact .next (.ite (fun _ => .advance ..) (fun _ => ((Keeps.advance ..).trans (.decide_ ..)).trans
      (.lateCheck ..)))
  | slotBoundary => exact .next ((Keeps.advance ..).trans (.slotBegins ..))
  | dFrameDeparture => exact .next (.ite (fun _ => .advance ..) (fun _ => (Keeps.advance ..).trans (.dFrameLeaves ..)))
  | promiseCompare => exact .next ((Keeps.advance ..).trans (.promiseMissed ..))
  | reportNonce => exact .next ((Keeps.advance ..).trans (.pcieWrite _ _ _ _ (fun _ => .reportNonceProc ..)))
  | reportReady => exact .next ((Keeps.advance ..).trans (.reportDone ..))
  | keyEnvelope => exact .next ((Keeps.advance ..).trans (.telling _ _ (.pcieWrite _ _ _ _ (fun _ => .keyEnvelopeProc ..))))
  | previousSlotRetire => exact .next ((Keeps.advance ..).trans (.telling _ _ (.retireSlot ..)))
  | close => exact .next ((Keeps.advance ..).trans (.pcieWrite _ _ _ _ (fun _ => .closeProc ..)))
  | closingSlotErase => exact .next ((Keeps.advance ..).trans (.telling _ _ (.eraseClosing ..)))
  | drbgReseed => exact .next (.ite (fun _ => .advance ..) (fun _ => (Keeps.advance ..).trans (.mapVault ..)))
  | pxLinkUp => exact .next ((Keeps.advance ..).trans (.handshake ..))
  | heartbeatSend => exact .next ((Keeps.advance ..).trans (.sendHeartbeat ..))
  | heartbeat => exact .next ((Keeps.advance ..).trans (.heartbeatIn ..))
  | pathSilence => exact .next ((Keeps.advance ..).trans (.pathSilence ..))
  | decision => exact .next ((Keeps.advance ..).trans
      (.sFrame _ _ _ (fun _ => (Keeps.ite (fun _ => .applyDecision ..) (fun _ => .refl _)).trans (.tryJoin ..))))
  | status => exact .next ((Keeps.advance ..).trans (.sFrame _ _ _ (fun _ => (Keeps.mapPair ..).trans
      (.foldl _ _ (fun _ _ _ => .ite (fun _ => .regrant ..) (fun _ => .refl _))))))
  | delivered => exact .next ((Keeps.advance ..).trans (.sFrame _ _ _ (fun _ => .mapReq ..)))
  | config => exact .next ((Keeps.advance ..).trans (.sFrame _ _ _ (fun _ => (Keeps.mapPair ..).trans (.tryJoin ..))))
  | delta => exact .next ((Keeps.advance ..).trans (.sFrame _ _ _ (fun _ => .takeDelta ..)))
  | checkpoint => exact .next ((Keeps.advance ..).trans (.checkpointFold ..))
  | restore => exact .next ((Keeps.advance ..).trans (.restoreSpool ..))
  | snapshot => exact .next ((Keeps.advance ..).trans (.sFrame _ _ _ (fun _ => .takeSnapshot ..)))
  | package => exact .next ((Keeps.advance ..).trans (.sFrame _ _ _ (fun _ => .takePackage ..)))
  | image => exact .next ((Keeps.advance ..).trans (.sFrame _ _ _ (fun _ => .takeImage ..)))
  | joinReady => exact .next ((Keeps.advance ..).trans (.sFrame _ _ _ (fun _ => .ite (fun _ => (Keeps.sendTwin ..).trans
      (.mapPair ..)) (fun _ => .refl _))))
  | join => exact .next ((Keeps.advance ..).trans (.sFrame _ _ _ (fun _ => .ite (fun _ => .mapPair ..) (fun _ => .refl _))))
  | joinTick => exact .next ((Keeps.advance ..).trans (.joins ..))
  | holdLimit => exact .next ((Keeps.advance ..).trans (.holdExpired ..))
  | endDeferral => exact .next ((Keeps.advance ..).trans (.deferredEnd ..))
  | seekLimit => exact .next ((Keeps.advance ..).trans (.seekExpired ..))
  | stepDown => exact .next ((Keeps.advance ..).trans (.pcieWrite _ _ _ _ (fun _ => .stepDownProc ..)))
  | isolationResume => exact .next ((Keeps.advance ..).trans (.resumeBeats ..))
  | guestPacket => exact .next ((Keeps.advance ..).trans (.underBank _ _ _ (fun _ => .guestPacket ..)))
  | grstLRelease => exact .next ((Keeps.advance ..).trans (.grstRelease ..))
  | gready => exact .next ((Keeps.advance ..).trans (.guestReady ..))
  | greadyTimeout => exact .next ((Keeps.advance ..).trans (.guestLate ..))
  | tamperMesh => exact .next (.ite (fun _ => .advance ..) (fun _ => (Keeps.advance ..).trans (.raiseAlarm ..)))
  | supplyGlitch => exact .next (.ite (fun _ => .advance ..) (fun _ => (Keeps.advance ..).trans (.raiseAlarm ..)))
  | clockGlitch => exact .next (.ite (fun _ => .advance ..) (fun _ => (Keeps.advance ..).trans (.raiseAlarm ..)))
  | ticket => exact .next ((Keeps.advance ..).trans (.pcieWrite _ _ _ _ (fun _ => .ticketProc ..)))
  | bypass => exact .next ((Keeps.advance ..).trans (.mapTap ..))
  | idcode => exact .next ((Keeps.advance ..).trans (.mapTap ..))
  | samplePreload => exact .next ((Keeps.advance ..).trans (.tapOpen ..))
  | extest => exact .next (.ite (fun _ => (Keeps.advance ..).trans (.tapOpen ..)) (fun _ => (Keeps.advance ..).trans (.mapTap ..)))
  | clamp => exact .next ((Keeps.advance ..).trans (.mapTap ..))
  | highz => exact .next ((Keeps.advance ..).trans (.mapTap ..))
  | testStatus => exact .next ((Keeps.advance ..).trans (.tapOpen ..))
  | testLogicReset => exact .next ((Keeps.advance ..).trans (.mapTap ..))
  | segsel => exact .next ((Keeps.advance ..).trans (.mapTap ..))
  | accessWrite =>
    refine .next ?_
    refine .ite (fun _ => .advance ..) (fun _ => ?_)
    exact (((Keeps.advance ..).trans (.discardWrites ..)).trans
        (.telling _ _ (.pcieWrite _ _ _ _ (fun _ => .writeProc ..)))).trans (.mapDict _ _ id)
  | accessRead => exact .next ((Keeps.advance ..).trans (.accessRead ..))
  | serviceBoundExpiry => exact .next ((Keeps.advance ..).trans (.boundExpires ..))
  | segmentIdleExpiry => exact .next ((Keeps.advance ..).trans (.segmentIdle ..))
  | i3cRead => exact .next ((Keeps.advance ..).trans (.i3cRead ..))
  | i3cWrite => exact .next ((Keeps.advance ..).trans (.i3cWrite ..))
  | entdaa => exact .next (.ite (fun _ => (Keeps.advance ..).trans (.mapDict _ _ id)) (fun _ => .advance ..))
  | rstdaa => exact .next (.ite (fun _ => (Keeps.advance ..).trans (.mapDict _ _ id)) (fun _ => .advance ..))
  | enec => exact .next (.ite (fun _ => (Keeps.advance ..).trans (.mapLog _ _ id)) (fun _ => .advance ..))
  | disec => exact .next (.ite (fun _ => (Keeps.advance ..).trans (.mapLog _ _ id)) (fun _ => .advance ..))
  | getpid => exact .next ((Keeps.advance ..).trans (.cccAnswer ..))
  | getbcr => exact .next ((Keeps.advance ..).trans (.cccAnswer ..))
  | getdcr => exact .next ((Keeps.advance ..).trans (.cccAnswer ..))
  | getmwl => exact .next ((Keeps.advance ..).trans (.cccAnswer ..))
  | getmrl => exact .next ((Keeps.advance ..).trans (.cccAnswer ..))
  | getstatus => exact .next (((Keeps.advance ..).trans (.drawFree ..)).trans (.cccAnswer ..))
  | vectorClear => exact .next ((Keeps.advance ..).trans (.vectorClear ..))
  | pePerstLFall => exact .next ((Keeps.advance ..).trans (.ite (fun _ => .mapDict _ _ (DictSt.abandon_length _ _ _)) (fun _ => .refl _)))
  | pePerstLRise => exact .next (.ite (fun _ => .advance ..) (fun _ => ((Keeps.advance ..).trans (.mapDict _ _ id)).trans
      (.mapLog _ _ id)))
  | fadd => exact .next (.onEngine ..)
  | fsub => exact .next (.onEngine ..)
  | fmul => exact .next (.onEngine ..)
  | ffma => exact .next (.onEngine ..)
  | fmin => exact .next (.onEngine ..)
  | fmax => exact .next (.onEngine ..)
  | fsgn => exact .next (.onEngine ..)
  | frnd => exact .next (.onEngine ..)
  | frcp => exact .next (.onEngine ..)
  | frsq => exact .next (.onEngine ..)
  | fexp2 => exact .next (.onEngine ..)
  | flog2 => exact .next (.onEngine ..)
  | ftanh => exact .next (.onEngine ..)
  | fcmp => exact .next (.onEngine ..)
  | iadd => exact .next (.onEngine ..)
  | isub => exact .next (.onEngine ..)
  | imul => exact .next (.onEngine ..)
  | imin => exact .next (.onEngine ..)
  | imax => exact .next (.onEngine ..)
  | and => exact .next (.onEngine ..)
  | or => exact .next (.onEngine ..)
  | xor => exact .next (.onEngine ..)
  | shl => exact .next (.onEngine ..)
  | shr => exact .next (.onEngine ..)
  | sra => exact .next (.onEngine ..)
  | icmp => exact .next (.onEngine ..)
  | cvt => exact .next (.onEngine ..)
  | mov => exact .next (.onEngine ..)
  | sel => exact .next (.onEngine ..)
  | movi => exact .next (.onEngine ..)
  | ldc => exact .next (.onEngine ..)
  | lidx => exact .next (.onEngine ..)
  | rsum => exact .next (.onEngine ..)
  | rmax => exact .next (.onEngine ..)
  | rmin => exact .next (.onEngine ..)
  | rot => exact .next (.onEngine ..)
  | bcst => exact .next (.onEngine ..)
  | pand => exact .next (.onEngine ..)
  | por => exact .next (.onEngine ..)
  | pnot => exact .next (.onEngine ..)
  | loop => exact .next (.onEngine ..)
  | matmul => exact .next ((Keeps.advance ..).trans (.runChunk ..))
  | matmulBatched => exact .next ((Keeps.advance ..).trans (.runChunk ..))
  | matmulGrouped => exact .next ((Keeps.advance ..).trans (.runChunk ..))
  | matmulRouted => exact .next ((Keeps.advance ..).trans (.runChunk ..))
  | conv => exact .next ((Keeps.advance ..).trans (.runChunk ..))
  | attn => exact .next ((Keeps.advance ..).trans (.runChunk ..))
  | norm => exact .next ((Keeps.advance ..).trans (.runChunk ..))
  | elementwise => exact .next ((Keeps.advance ..).trans (.runChunk ..))
  | reduce => exact .next ((Keeps.advance ..).trans (.runChunk ..))
  | gather => exact .next ((Keeps.advance ..).trans (.runChunk ..))
  | scatter => exact .next ((Keeps.advance ..).trans (.runChunk ..))
  | index => exact .next ((Keeps.advance ..).trans (.runChunk ..))
  | sort => exact .next ((Keeps.advance ..).trans (.runChunk ..))
  | topk => exact .next ((Keeps.advance ..).trans (.runChunk ..))
  | fft => exact .next ((Keeps.advance ..).trans (.runChunk ..))
  | resample => exact .next ((Keeps.advance ..).trans (.runChunk ..))
  | convert => exact .next ((Keeps.advance ..).trans (.runChunk ..))
  | reduceTo => exact .next ((Keeps.advance ..).trans (.runChunk ..))
  | multicast => exact .next ((Keeps.advance ..).trans (.runChunk ..))
  | allreduce => exact .next ((Keeps.advance ..).trans (.runChunk ..))
  | kvWrite => exact .next ((Keeps.advance ..).trans (.runChunk ..))
  | kvRead => exact .next ((Keeps.advance ..).trans (.runChunk ..))
  | backingCopy => exact .next ((Keeps.advance ..).trans (.runChunk ..))
  | deliver => exact .next ((Keeps.advance ..).trans (.runChunk ..))
  | optical => exact .next ((Keeps.advance ..).trans (.runOptical ..))
  | instructionWordError => exact .next ((Keeps.advance ..).trans (.wordError ..))

/-- The return of input power leaves memory and the logs as they stand, or empty (R572). -/
theorem powerOn_memory_rings (s : State) : s.powerOn.MemoryCanonical ∧ s.powerOn.RingsBounded :=
  ⟨reset_memory_wf, Nat.zero_le _, Nat.zero_le _, Nat.zero_le _⟩

theorem exec_inputCharged_memory_rings {s t : State} {at_ : Nat} (hm : s.MemoryCanonical) (hr : s.RingsBounded)
    (h : exec (.inputCharged at_) s = .next t) : t.MemoryCanonical ∧ t.RingsBounded := by
  have ht : (if (s.advance at_).power.shutdown || !(s.advance at_).power.charged then (s.advance at_).powerOn else s.advance at_) = t :=
    Host.Outcome.next.inj h
  subst ht
  have hadv := Keeps.advance s at_
  split
  · exact powerOn_memory_rings _
  · exact ⟨hadv.memory hm, hadv.rings hr⟩

/-- A step on a queue that does not begin with the return of input power is in `Keeps`. -/
theorem step_keeps {s t : State} (h : step s = .next t) (hc : ∀ at_ rest, s.pending ≠ .inputCharged at_ :: rest) : Keeps s t := by
  unfold step at h
  split at h
  next => cases h; exact .idle s
  next c rest hp =>
    obtain ⟨u, hu, hk⟩ := stepped_exec c { s with pending := rest } (fun at_ hat => hc at_ rest (by rw [hp, hat]))
    cases hu.symm.trans h
    have hqueue : Keeps s { s with pending := rest } := .of_same rfl rfl rfl rfl
    exact hqueue.trans hk

/-- Settles O59: the return of input power empties or keeps memory and the rings; every other step is in `Keeps`. -/
theorem everyStepKeepsMemoryAndRings : Obligations.EveryStepKeepsMemoryAndRings := by
  intro s t hm hr h
  by_cases hc : ∃ at_ rest, s.pending = .inputCharged at_ :: rest
  · obtain ⟨at_, rest, hp⟩ := hc
    have hexec : exec (.inputCharged at_) { s with pending := rest } = .next t := by rw [← h, step, hp]
    exact exec_inputCharged_memory_rings (s := { s with pending := rest }) hm hr hexec
  · have hk := step_keeps h (fun at_ rest hp => hc ⟨at_, rest, hp⟩)
    exact ⟨hk.memory hm, hk.rings hr⟩

/-- Settles O60: every step but the return of input power is in `Keeps`, which holds the tally. -/
theorem tallyNeverDecreases : Obligations.TallyNeverDecreases :=
  fun _ _ h hc => (step_keeps h hc).tally

end Sys2Proof.Machine

/-!
Lane instructions (R180 to R185, Tables LP-4 and LP-5): each engine operation is one that writes lanes or a predicate, LOOP repeats its body,
and an instruction word holds its fields.
-/
namespace Sys2Proof.Proofs.LaneInstructions

open Sys2Proof Sys2Proof.Machine

/-! ## Words -/

theorem toNat_low_bits (w n : Nat) (b : BitVec w) : (b.extractLsb' 0 n).toNat = b.toNat % 2 ^ n := by
  simp [BitVec.extractLsb'_toNat]

/-- A signed order of two words picks the word whose value is the lesser. -/
theorem ofInt_min_toInt (a b : Word) : BitVec.ofInt 32 (min a.toInt b.toInt) = if a.toInt ≤ b.toInt then a else b := by
  split
  next h => rw [Int.min_eq_left h, BitVec.ofInt_toInt]
  next h => rw [Int.min_eq_right (Int.le_of_not_le h), BitVec.ofInt_toInt]

theorem ofInt_max_toInt (a b : Word) : BitVec.ofInt 32 (max a.toInt b.toInt) = if a.toInt ≤ b.toInt then b else a := by
  split
  next h => rw [Int.max_eq_right h, BitVec.ofInt_toInt]
  next h => rw [Int.max_eq_left (Int.le_of_not_le h), BitVec.ofInt_toInt]

theorem zeroExtend_shiftLeft_eight (x : BitVec 24) : x.zeroExtend 32 <<< 8 = x ++ 0#8 := by
  refine BitVec.eq_of_toNat_eq ?_
  have hx := x.isLt
  rw [BitVec.toNat_append]
  simp
  omega

/-! ## Instructions that write lanes -/

/-- An instruction whose engine operation is `LaneSt.each` of the stated lane function. -/
theorem writesLanes_of_eq {c : Instr} {eng : Nat} {o : LaneOp} {cost : Nat} {f : LaneSt → Nat → Word × BitVec 8} {h : LaneSt → LaneSt}
    (hc : ∀ s, exec c s = .next (s.onEngine eng h)) (hh : ∀ l, h l = l.each o cost (f l)) : WritesLanes c eng o cost f :=
  writesLanes_of_each hc (fun l => .inl (hh l)) (fun _ _ _ => rfl)

/-- Settles O13: every floating-point instruction is `LaneSt.each` of its arithmetic. -/
theorem laneFloatInstructions : Obligations.LaneFloatInstructions := by
  intro eng o
  and_intros <;> exact writesLanes_of_eq (fun _ => rfl) (fun _ => rfl)

/-- Settles O14: every approximation and every reduction across lanes is `LaneSt.each` of its value, in four or eight cycles. -/
theorem laneApproximationsAndReductions : Obligations.LaneApproximationsAndReductions := by
  intro eng o
  and_intros <;> exact writesLanes_of_eq (fun _ => rfl) (fun _ => rfl)

/-- Settles O15: sums, differences, products and bitwise functions are the engine's own; minima, maxima and shift counts are rewritten to it. -/
theorem laneIntegerInstructions : Obligations.LaneIntegerInstructions := by
  intro eng o
  refine ⟨?iadd, ?isub, ?imul, ?imin, ?imax, ?and, ?or, ?xor, ?shl, ?shr, ?sra⟩
  case imin =>
    refine writesLanes_of_eq (h := fun l => l.imin o) (fun _ => rfl) (fun l => ?_)
    simp only [ofInt_min_toInt]
    rfl
  case imax =>
    refine writesLanes_of_eq (h := fun l => l.imax o) (fun _ => rfl) (fun l => ?_)
    simp only [ofInt_max_toInt]
    rfl
  case shl =>
    refine writesLanes_of_eq (h := fun l => l.shl o) (fun _ => rfl) (fun l => ?_)
    simp only [BitVec.shiftLeft_eq', toNat_low_bits]
    rfl
  case shr =>
    refine writesLanes_of_eq (h := fun l => l.shr o) (fun _ => rfl) (fun l => ?_)
    simp only [BitVec.ushiftRight_eq', toNat_low_bits]
    rfl
  case sra =>
    refine writesLanes_of_eq (h := fun l => l.sra o) (fun _ => rfl) (fun l => ?_)
    simp only [BitVec.sshiftRight', toNat_low_bits]
    rfl
  all_goals exact writesLanes_of_eq (fun _ => rfl) (fun _ => rfl)

/-! ## Moves and predicates -/

/-- SEL writes every lane, from VA where the lane is active and from VB elsewhere. -/
theorem exec_sel (eng : Nat) (o : LaneOp) (s : State) (l : LaneSt) (hl : l = s.engine eng) : Completes (.sel eng o) s (fun t =>
    (∀ i, i < 128 → (t.engine eng).lane o.vd i = if (l.active o).getLsbD i then l.lane o.va i else l.lane o.vb i)
    ∧ (∀ r, r ≠ o.vd → (t.engine eng).reg r = l.reg r) ∧ (t.engine eng).p = l.p ∧ (t.engine eng).flags = l.flags
    ∧ t = { s with engines := t.engines }) := by
  subst hl
  refine ⟨s.onEngine eng (fun l => l.sel o), rfl, ?_⟩
  simp only [State.engine_onEngine, if_true]
  refine ⟨fun i hi => ?lane, fun r hr => ?reg, rfl, rfl, rfl⟩
  case lane => simp [beats, LaneSt.sel, LaneSt.lane, LaneSt.reg, Vector.getD, hi]
  case reg =>
    have hne : o.vd.toNat ≠ r.toNat := fun h => hr (BitVec.eq_of_toNat_eq h.symm)
    simp [beats, LaneSt.sel, LaneSt.reg, hne]

/-- Settles O16: conversions and moves write lanes, comparisons and predicate logic write a predicate, and SEL writes every lane. -/
theorem laneMovesAndPredicates : Obligations.LaneMovesAndPredicates := by
  refine ⟨fun eng o => ⟨?cvt, ?mov, ?movi, ?ldc, ?lidx, ?rot, ?bcst, exec_sel eng o⟩, fun eng o => ⟨?fcmp, ?icmp, ?pand, ?por, ?pnot⟩⟩
  case cvt => exact writesLanes_of_each (fun _ => rfl) (fun _ => .inr ⟨_, rfl⟩) (fun _ _ _ => rfl)
  case mov => exact writesLanes_of_eq (fun _ => rfl) (fun _ => rfl)
  case movi =>
    refine writesLanes_of_eq (h := fun l => l.movi o) (fun _ => rfl) (fun l => ?_)
    simp only [zeroExtend_shiftLeft_eight]
    rfl
  case ldc =>
    refine writesLanes_of_eq (h := fun l => l.ldc o) (fun _ => rfl) (fun l => ?_)
    simp only [toNat_low_bits]
    rfl
  case lidx => exact writesLanes_of_eq (fun _ => rfl) (fun _ => rfl)
  case rot => exact writesLanes_of_eq (fun _ => rfl) (fun _ => rfl)
  case bcst =>
    refine writesLanes_of_eq (h := fun l => l.bcst o) (fun _ => rfl) (fun l => ?_)
    simp only [toNat_low_bits]
    rfl
  all_goals exact writesPredicate_of_eachPred (fun _ => rfl) (fun _ _ _ => rfl)

/-! ## Instruction words (Table LP-4) -/

/-- A field is read from its place: the fields below it are passed over, those above it are cut off. -/
theorem laneFields_laneWord (opc : BitVec 8) (o : LaneOp) : laneFields (laneWord opc o) = (opc, o) := by
  obtain ⟨pred, pneg, vd, va, vb, vc, rnd, sat, mode, imm⟩ := o
  simp only [laneFields, laneWord, Prod.mk.injEq, LaneOp.mk.injEq]
  refine ⟨by rw [BitVec.extractLsb'_append_eq_right], ?pred, ?pneg, ?vd, ?va, ?vb, ?vc, ?rnd, ?sat, ?mode, ?imm⟩
  case pneg => rw [BitVec.getLsbD_append]; simp only [BitVec.getLsbD_append]; simp
  case sat => rw [BitVec.getLsbD_append]; simp only [BitVec.getLsbD_append]; simp
  case pred =>
    rw [BitVec.extractLsb'_append_eq_of_le (by decide)]
    exact BitVec.extractLsb'_append_eq_right
  case imm =>
    rw [BitVec.extractLsb'_append_eq_of_le (by decide)]
    simp (disch := decide) only [BitVec.extractLsb'_append_eq_of_le]
    exact BitVec.extractLsb'_eq_self
  all_goals
    rw [BitVec.extractLsb'_append_eq_of_le (by decide)]
    simp (disch := decide) only [BitVec.extractLsb'_append_eq_of_le]
    exact BitVec.extractLsb'_append_eq_right

theorem ofBool_getLsbD {w : Nat} (x : BitVec w) (i : Nat) : BitVec.ofBool (x.getLsbD i) = x.extractLsb' i 1 := by
  ext k hk
  obtain rfl : k = 0 := by omega
  simp

/-- Fields that follow each other are one field, up to the whole word. -/
theorem laneWord_laneFields (w : BitVec 64) : laneWord (laneFields w).1 (laneFields w).2 = w := by
  simp only [laneFields, laneWord, ofBool_getLsbD]
  simp (disch := decide) only [BitVec.extractLsb'_append_extractLsb'_eq_extractLsb']
  exact BitVec.extractLsb'_eq_self

/-- Settles O18: fields and word are inverse to each other. -/
theorem laneWordCodec : Obligations.LaneWordCodec := ⟨laneFields_laneWord, laneWord_laneFields⟩

/-! ## LOOP (R185) -/

theorem iterate_congr {α : Type} {f g : α → α} (h : ∀ a, f a = g a) (n : Nat) (a : α) : iterate f n a = iterate g n a := by
  rw [show f = g from funext h]

/-- A program of one IADD word is that IADD. -/
theorem runLanes_iadd (eng : Nat) (p : LaneOp) (l : LaneSt) : runLanes eng 1 [laneWord 0x10 p] l = l.iadd p := by
  simp only [runLanes, laneFields_laneWord, LaneSt.step]
  rfl

theorem loop_iadd (eng : Nat) (o p : LaneOp) (l : LaneSt) (h : loopBody o = 1) :
    l.loop eng o [laneWord 0x10 p] = iterate (fun l => l.iadd p) (loopCount o) { l with cycles := l.cycles + 1 } := by
  rw [LaneSt.loop, h]
  exact iterate_congr (runLanes_iadd eng p) _ _

/-- Settles O17: the body is a program of one IADD word, which LOOP iterates on its engine. -/
theorem laneLoopRepeatsItsBody : Obligations.LaneLoopRepeatsItsBody := by
  intro eng o p s hbody
  refine ⟨s.onEngine eng (fun l => l.loop eng o [laneWord 0x10 p]), rfl, ?engine, fun k hk => ?others, rfl⟩
  case engine => rw [State.engine_onEngine, if_pos rfl, loop_iadd eng o p _ hbody]
  case others => rw [State.engine_onEngine, if_neg hk]

end Sys2Proof.Proofs.LaneInstructions

/-!
What stands in order stays in order: the sorted list of a strict order is an ordered permutation (R156), and a frame that is queued on a port
finds its place (R365).
-/
namespace Sys2Proof.Proofs.Orders

open Sys2Proof Sys2Proof.Machine

/-! ## Insertion by a strict order -/

section Insertion
variable {α : Type} {before : α → α → Bool}

/-- No element of the list goes before one that stands ahead of it. -/
abbrev Ordered (before : α → α → Bool) (l : List α) : Prop := l.Pairwise (fun a b => before b a = false)

theorem perm_insertBy (a : α) (l : List α) : (insertBy before a l).Perm (a :: l) := by
  induction l with
  | nil => exact .refl _
  | cons b rest ih =>
    rw [insertBy]
    split
    · exact .refl _
    · exact (ih.cons b).trans (.swap a b rest)

theorem perm_sortBy (l : List α) : (sortBy before l).Perm l := by
  have key : ∀ acc : List α, (l.foldl (fun acc a => insertBy before a acc) acc).Perm (acc ++ l) := by
    induction l with
    | nil => intro acc; simp
    | cons a l ih =>
      intro acc
      exact (ih _).trans (((perm_insertBy a acc).append_right l).trans List.perm_middle.symm)
  exact key []

/-- The place of an element is behind those that it does not go before. -/
theorem ordered_insertBy (hasymm : ∀ a b, before a b = true → before b a = false)
    (htrans : ∀ a b c, before a b = true → before b c = true → before a c = true) (a : α) {l : List α} (h : Ordered before l) :
    Ordered before (insertBy before a l) := by
  induction l with
  | nil => exact List.pairwise_singleton _ _
  | cons b rest ih =>
    obtain ⟨hb, hrest⟩ := List.pairwise_cons.mp h
    rw [insertBy]
    split
    next hab =>
      refine List.pairwise_cons.mpr ⟨fun c hc => ?_, h⟩
      rcases List.mem_cons.mp hc with rfl | hc
      · exact hasymm _ _ hab
      · refine Classical.byContradiction fun hca => ?_
        have hcb := htrans c a b (by simpa using hca) hab
        exact absurd (hb c hc) (by simp [hcb])
    next hab =>
      refine List.pairwise_cons.mpr ⟨fun c hc => ?_, ih hrest⟩
      rcases List.mem_cons.mp ((perm_insertBy a rest).mem_iff.mp hc) with rfl | hc
      · simpa using hab
      · exact hb c hc

theorem ordered_sortBy (hasymm : ∀ a b, before a b = true → before b a = false)
    (htrans : ∀ a b c, before a b = true → before b c = true → before a c = true) (l : List α) : Ordered before (sortBy before l) :=
  foldl_keeps (Ordered before) _ l [] List.Pairwise.nil (fun _ a _ h => ordered_insertBy hasymm htrans a h)

end Insertion

/-! ## The order of values (R156) -/

/-- The exponent of a finite value. -/
def exponent : FV → Int
  | .nan => 0
  | .inf _ => 0
  | .fin _ _ e => e

/-- Which of the classes a value stands in: negative infinity, the finite values, positive infinity. -/
def rank : FV → Int
  | .nan => 0
  | .inf n => if n then -1 else 1
  | .fin _ _ _ => 0

/-- A finite value as a multiple of `2 ^ q`. -/
def multiple (q : Int) : FV → Int
  | .nan => 0
  | .inf _ => 0
  | .fin n m e => signedAt n m e q

/-- A negative zero stands before a positive one. -/
def zeroPlace : FV → Int
  | .nan => 1
  | .inf _ => 1
  | .fin n m _ => if m = 0 ∧ n = true then 0 else 1

/-- Value `a` stands before `b`, their finite values taken as multiples of `2 ^ q`. -/
def Precedes (q : Int) (a b : FV) : Prop :=
  rank a < rank b ∨ (rank a = rank b
    ∧ (multiple q a < multiple q b ∨ (multiple q a = multiple q b ∧ zeroPlace a < zeroPlace b)))

/-- A value taken as a multiple of a smaller power of two is a greater multiple, by that factor. -/
theorem signedAt_of_le (n : Bool) (m : Nat) {e p q : Int} (hp : p ≤ e) (hq : q ≤ p) :
    signedAt n m e q = signedAt n m e p * ((2 ^ (p - q).toNat : Nat) : Int) := by
  have hsum : (e - q).toNat = (e - p).toNat + (p - q).toNat := by omega
  have hnat : ((m * 2 ^ (e - q).toNat : Nat) : Int) = ((m * 2 ^ (e - p).toNat : Nat) : Int) * ((2 ^ (p - q).toNat : Nat) : Int) := by
    rw [hsum, Nat.pow_add, ← Nat.mul_assoc, Int.natCast_mul]
  cases n with
  | false => exact hnat
  | true => exact (congrArg (- ·) hnat).trans (Int.neg_mul ..).symm

/-- The comparison of two finite values is that of their multiples of any power of two that divides both. -/
theorem cmp_fin (n₁ n₂ : Bool) (m₁ m₂ : Nat) {e₁ e₂ q : Int} (h₁ : q ≤ e₁) (h₂ : q ≤ e₂) :
    ((FV.fin n₁ m₁ e₁).cmp (.fin n₂ m₂ e₂) < 0 ↔ signedAt n₁ m₁ e₁ q < signedAt n₂ m₂ e₂ q)
    ∧ ((FV.fin n₁ m₁ e₁).cmp (.fin n₂ m₂ e₂) = 0 ↔ signedAt n₁ m₁ e₁ q = signedAt n₂ m₂ e₂ q)
    ∧ (0 < (FV.fin n₁ m₁ e₁).cmp (.fin n₂ m₂ e₂) ↔ signedAt n₂ m₂ e₂ q < signedAt n₁ m₁ e₁ q) := by
  have hpos : (0 : Int) < ((2 ^ (min e₁ e₂ - q).toNat : Nat) : Int) := Int.natCast_pos.mpr (Nat.two_pow_pos _)
  rw [signedAt_of_le n₁ m₁ (Int.min_le_left e₁ e₂) (by omega), signedAt_of_le n₂ m₂ (Int.min_le_right e₁ e₂) (by omega),
    Int.mul_lt_mul_right hpos, Int.mul_lt_mul_right hpos, Int.mul_eq_mul_right_iff (Int.ne_of_gt hpos)]
  simp only [FV.cmp]
  generalize signedAt n₁ m₁ e₁ (min e₁ e₂) = a, signedAt n₂ m₂ e₂ (min e₁ e₂) = b
  split
  · omega
  · split <;> omega

theorem signedAt_eq_zero_iff (n : Bool) (m : Nat) (e q : Int) : signedAt n m e q = 0 ↔ m = 0 := by
  have hpow : ((2 ^ (e - q).toNat : Nat) : Int) ≠ 0 := Int.ne_of_gt (Int.natCast_pos.mpr (Nat.two_pow_pos _))
  have hnat : ((m * 2 ^ (e - q).toNat : Nat) : Int) = 0 ↔ m = 0 := by
    rw [Int.natCast_mul, Int.mul_eq_zero, or_iff_left hpow, Int.natCast_eq_zero]
  cases n with
  | false => exact hnat
  | true => exact Int.neg_eq_zero.trans hnat

/-- Of two equal values one goes before the other only where they are zeros, the first negative and the second not. -/
theorem zeroPlace_lt_iff {n₁ n₂ : Bool} {m₁ m₂ : Nat} {e₁ e₂ : Int} (h : m₁ = 0 ↔ m₂ = 0) :
    zeroPlace (.fin n₁ m₁ e₁) < zeroPlace (.fin n₂ m₂ e₂) ↔ m₁ = 0 ∧ n₁ = true ∧ n₂ = false := by
  by_cases hm : m₁ = 0
  · cases n₁ <;> cases n₂ <;> simp [zeroPlace, hm, h.mp hm]
  · simp [zeroPlace, hm, mt h.mpr hm]

theorem precedes_fin {q : Int} {n₁ n₂ : Bool} {m₁ m₂ : Nat} {e₁ e₂ : Int} :
    Precedes q (.fin n₁ m₁ e₁) (.fin n₂ m₂ e₂) ↔ signedAt n₁ m₁ e₁ q < signedAt n₂ m₂ e₂ q
      ∨ (signedAt n₁ m₁ e₁ q = signedAt n₂ m₂ e₂ q ∧ m₁ = 0 ∧ n₁ = true ∧ n₂ = false) := by
  have hrank : ¬rank (.fin n₁ m₁ e₁) < rank (.fin n₂ m₂ e₂) := Int.lt_irrefl 0
  have hzero (h : signedAt n₁ m₁ e₁ q = signedAt n₂ m₂ e₂ q) : m₁ = 0 ↔ m₂ = 0 := by
    rw [← signedAt_eq_zero_iff n₁ m₁ e₁ q, h, signedAt_eq_zero_iff]
  have hsame : rank (.fin n₁ m₁ e₁) = rank (.fin n₂ m₂ e₂) := rfl
  rw [Precedes, or_iff_right hrank, and_iff_right hsame]
  exact or_congr_right (and_congr_right fun h => zeroPlace_lt_iff (hzero h))

theorem sortBefore_fin {q : Int} (desc : Bool) (n₁ n₂ : Bool) (m₁ m₂ : Nat) {e₁ e₂ : Int} (h₁ : q ≤ e₁) (h₂ : q ≤ e₂) :
    sortBefore desc (.fin n₁ m₁ e₁) (.fin n₂ m₂ e₂) = true ↔
      if desc then Precedes q (.fin n₂ m₂ e₂) (.fin n₁ m₁ e₁) else Precedes q (.fin n₁ m₁ e₁) (.fin n₂ m₂ e₂) := by
  obtain ⟨hlt, heq, hgt⟩ := cmp_fin n₁ n₂ m₁ m₂ h₁ h₂
  have hzero (h : signedAt n₁ m₁ e₁ q = signedAt n₂ m₂ e₂ q) : m₁ = 0 ↔ m₂ = 0 := by
    rw [← signedAt_eq_zero_iff n₁ m₁ e₁ q, h, signedAt_eq_zero_iff]
  cases desc <;> simp only [sortBefore, FV.isNan, FV.isZero, FV.isNeg, precedes_fin, Bool.or_eq_true, Bool.and_eq_true,
    decide_eq_true_eq, hlt, heq, hgt, if_true, if_false, Bool.false_eq_true, beq_iff_eq, Bool.not_eq_true', and_assoc]
  refine or_congr_right ⟨?_, ?_⟩
  · exact fun ⟨h, hm, hn₁, hn₂⟩ => ⟨h.symm, (hzero h).mp hm, hn₂, hn₁⟩
  · exact fun ⟨h, hm, hn₂, hn₁⟩ => ⟨h.symm, (hzero h.symm).mpr hm, hn₁, hn₂⟩

/-- R156: a key goes before another where it precedes it, or follows it where SORT descends; NaN goes before none and after every other. -/
theorem sortBefore_iff {q : Int} (desc : Bool) {a b : FV} (ha : q ≤ exponent a) (hb : q ≤ exponent b) : sortBefore desc a b = true ↔
    a.isNan = false ∧ (b.isNan = true ∨ if desc then Precedes q b a else Precedes q a b) := by
  rcases a with _ | x | ⟨n₁, m₁, e₁⟩ <;> rcases b with _ | y | ⟨n₂, m₂, e₂⟩
  case fin.fin => simpa [FV.isNan] using sortBefore_fin (e₁ := e₁) (e₂ := e₂) desc n₁ n₂ m₁ m₂ ha hb
  case inf.inf => cases desc <;> cases x <;> cases y <;> simp [sortBefore, FV.cmp, FV.isNan, FV.isZero, Precedes, rank, multiple, zeroPlace]
  case inf.fin => cases desc <;> cases x <;> simp [sortBefore, FV.cmp, FV.isNan, FV.isZero, Precedes, rank]
  case fin.inf => cases desc <;> cases y <;> simp [sortBefore, FV.cmp, FV.isNan, FV.isZero, Precedes, rank]
  all_goals simp [sortBefore, FV.isNan]

theorem Precedes.asymm {q : Int} {a b : FV} (h : Precedes q a b) : ¬Precedes q b a := by
  unfold Precedes at *
  omega

theorem Precedes.trans {q : Int} {a b c : FV} (h : Precedes q a b) (h' : Precedes q b c) : Precedes q a c := by
  unfold Precedes at *
  omega

theorem sortBefore_asymm (desc : Bool) (a b : FV) (h : sortBefore desc a b = true) : sortBefore desc b a = false := by
  have ha : min (exponent a) (exponent b) ≤ exponent a := Int.min_le_left ..
  have hb : min (exponent a) (exponent b) ≤ exponent b := Int.min_le_right ..
  refine Classical.byContradiction fun hba => ?_
  obtain ⟨hnan, hab⟩ := (sortBefore_iff desc ha hb).mp h
  obtain ⟨hnan', hba⟩ := (sortBefore_iff desc hb ha).mp ((Bool.not_eq_false _).mp hba)
  rw [hnan'] at hab
  rw [hnan] at hba
  cases desc with
  | false => exact (hab.resolve_left Bool.false_ne_true).asymm (hba.resolve_left Bool.false_ne_true)
  | true => exact (hab.resolve_left Bool.false_ne_true).asymm (hba.resolve_left Bool.false_ne_true)

theorem sortBefore_trans (desc : Bool) (a b c : FV) (h : sortBefore desc a b = true) (h' : sortBefore desc b c = true) :
    sortBefore desc a c = true := by
  obtain ⟨q, ha, hb, hc⟩ : ∃ q, q ≤ exponent a ∧ q ≤ exponent b ∧ q ≤ exponent c :=
    ⟨min (min (exponent a) (exponent b)) (exponent c), by omega, by omega, by omega⟩
  obtain ⟨hnan, hab⟩ := (sortBefore_iff desc ha hb).mp h
  obtain ⟨hnan', hbc⟩ := (sortBefore_iff desc hb hc).mp h'
  rw [hnan'] at hab
  refine (sortBefore_iff desc ha hc).mpr ⟨hnan, ?_⟩
  cases desc with
  | false => exact hbc.imp id (Precedes.trans (hab.resolve_left Bool.false_ne_true))
  | true => exact hbc.imp id (Precedes.trans · (hab.resolve_left Bool.false_ne_true))

/-- Settles O10: SORT inserts by `sortBefore`, which is a strict order of the places. -/
theorem sortedRowIsOrderedPermutation : Obligations.SortedRowIsOrderedPermutation := fun _ _ _ =>
  ⟨perm_sortBy _, ordered_sortBy (fun a b => sortBefore_asymm _ a.1 b.1) (fun a b c => sortBefore_trans _ a.1 b.1 c.1) _⟩

/-! ## Frames on a port (R365) -/

theorem before_iff (a b : OutFrame) : OutFrame.before a b = true ↔
    a.rank < b.rank ∨ (a.rank = 2 ∧ b.rank = 2 ∧ (a.tick < b.tick ∨ (a.tick = b.tick ∧ a.seq < b.seq))) := by
  simp [OutFrame.before, and_assoc]

theorem before_asymm (a b : OutFrame) (h : OutFrame.before a b = true) : OutFrame.before b a = false := by
  rw [before_iff] at h
  rw [← Bool.not_eq_true, before_iff]
  omega

theorem before_trans (a b c : OutFrame) (h : OutFrame.before a b = true) (h' : OutFrame.before b c = true) : OutFrame.before a c = true := by
  rw [before_iff] at *
  omega

/-- Frames leave a port from the head of its queue. -/
theorem queue_drain_suffix (p : Port) (now : Nat) (l : List OutFrame) : (p.drain now l).queue <:+ l := by
  induction l generalizing p with
  | nil => exact List.nil_suffix
  | cons f rest ih =>
    rw [Port.drain]
    split
    · exact (ih _).trans (List.suffix_cons f rest)
    · exact List.suffix_refl _

/-- Settles O36: a frame is inserted in its place, and what leaves at once leaves from the head. -/
theorem framesQueueInOrder : Obligations.FramesQueueInOrder := by
  intro p now f h
  have hins : Ordered OutFrame.before (insertBy OutFrame.before f p.queue) := ordered_insertBy before_asymm before_trans f h
  simp only [Port.enqueue]
  split
  · exact hins.sublist (queue_drain_suffix p now _).sublist
  · exact hins

end Sys2Proof.Proofs.Orders

/-!
Short facts of the whole module: the queue (log 3), power-on (R319, R515, R563), exact integer sums (R119), commits (R95, R319, R320), and the
search and the slot map (R377, R379, R382).
-/
namespace Sys2Proof.Proofs.WholeModule

open Sys2Proof Sys2Proof.Machine

/-! ## The queue -/

/-- Settles O1. -/
theorem stepRunsFrontCommand : Obligations.StepRunsFrontCommand := fun _ _ _ => rfl

/-- Settles O57: an empty queue steps by `idle`, which advances the tally or a hold. -/
theorem emptyQueueStepIsOneClockPeriod : Obligations.EmptyQueueStepIsOneClockPeriod := by
  intro s hp hstart
  have hstep : step s = .next (idle s) := by rw [step, hp]
  constructor
  · intro hh
    simp [hstep, idle, hstart, State.mapTime, hh]
  · intro hh
    simp [hstep, idle, hstart, State.mapTime, hh]

/-! ## Power-on -/

/-- Settles O58: every list of the power-on state is empty or made of fresh parts. -/
theorem powerOnStateIsEmpty : Obligations.PowerOnStateIsEmpty :=
  ⟨⟨rfl, rfl, rfl, fun _ => rfl, by decide +kernel, rfl, by decide +kernel, rfl, rfl, rfl, rfl, rfl, rfl, rfl, rfl, rfl, rfl, by decide +kernel, rfl, rfl⟩,
    reset_memory_wf, Nat.zero_le _, Nat.zero_le _, Nat.zero_le _⟩

/-! ## Integer reductions (R119) -/

theorem foldl_add_eq_sum {α : Type} (f : α → Int) (l : List α) : l.foldl (fun a p => a + f p) 0 = (l.map f).sum := by
  rw [List.sum_eq_foldl, List.foldl_map]

/-- Settles O11: the sum is taken over the integers and saturates after it. -/
theorem integerReductionIsExact : Obligations.IntegerReductionIsExact := by
  intro fa fb ps h
  simp only [reduceProducts, h, if_true]
  rw [foldl_add_eq_sum (fun p : FV × FV × List Nat => p.1.toInt * p.2.1.toInt)]

/-! ## Commits (R95, R319, R320) -/

/-- The bytes of a commit, before the poison that it covers is cleared. -/
def wroteKeys (s : State) (l : List (Nat × Byte)) : State := l.foldl (fun s p => s.writeMem p.1 [p.2]) s

theorem writeKeys_eq (s : State) (l : List (Nat × Byte)) :
    s.writeKeys l = (wroteKeys s l).mapMem (fun m => m.clearCovered (l.map (·.1))) := rfl

theorem memByte_writeMem_one (s : State) (k j : Nat) (b : Byte) : (s.writeMem j [b]).memByte k = if j = k then b else s.memByte k := by
  rw [State.memByte_writeMem]
  by_cases h : j = k
  · simp [h]
  · have hout : ¬(j ≤ k ∧ k < j + [b].length) := by rw [List.length_singleton]; omega
    rw [if_neg hout, if_neg h]

theorem memByte_wroteKeys (s : State) (l : List (Nat × Byte)) (k : Nat) :
    (wroteKeys s l).memByte k = ((l.reverse.find? (fun p => p.1 == k)).map (·.2)).getD (s.memByte k) := by
  induction l generalizing s with
  | nil => rfl
  | cons p l ih =>
    have hstep : wroteKeys s (p :: l) = wroteKeys (s.writeMem p.1 [p.2]) l := rfl
    rw [hstep, ih, List.reverse_cons, List.find?_append, memByte_writeMem_one]
    cases l.reverse.find? (fun q => q.1 == k) with
    | some q => simp
    | none => by_cases h : p.1 = k <;> simp [h]

/-- A commit touches bytes, valid bits and poison alone. -/
theorem wroteKeys_only (s : State) (l : List (Nat × Byte)) : ∃ c v p,
    wroteKeys s l = { s with mem := { s.mem with cells := c, valid := v, poison := p } } :=
  foldl_keeps (fun t => ∃ c v p, t = { s with mem := { s.mem with cells := c, valid := v, poison := p } }) _ l s ⟨_, _, _, rfl⟩
    (by rintro t q - ⟨c, v, p, rfl⟩; exact ⟨_, _, _, rfl⟩)

theorem writeKeys_only (s : State) (l : List (Nat × Byte)) :
    s.writeKeys l = { s with mem := { s.mem with cells := (s.writeKeys l).mem.cells, valid := (s.writeKeys l).mem.valid,
                                                 poison := (s.writeKeys l).mem.poison } } := by
  obtain ⟨c, v, p, h⟩ := wroteKeys_only s l
  rw [writeKeys_eq, h]
  rfl

/-- One byte covers no word whole. -/
theorem clearPoison_one (poison : List Nat) (key : Nat) : clearPoison poison key 1 = poison := by
  refine List.filter_eq_self.mpr fun p _ => ?_
  split <;> simp <;> omega

theorem poison_wroteKeys (s : State) (l : List (Nat × Byte)) : (wroteKeys s l).mem.poison = s.mem.poison :=
  foldl_keeps (fun t => t.mem.poison = s.mem.poison) _ l s rfl (fun t q _ h => (clearPoison_one t.mem.poison q.1).trans h)

/-- Poison of a word of bonded SRAM outlasts a commit exactly where the commit leaves a byte of the word unwritten. -/
theorem mem_poison_writeKeys {s : State} {l : List (Nat × Byte)} {p : Nat} (hp : p ∈ s.mem.poison) (hsram : p / 2 ^ 40 < 32) :
    p ∈ (s.writeKeys l).mem.poison ↔ ∃ i < 32, p + i ∉ l.map (·.1) := by
  have hspace : ¬(32 ≤ p / 2 ^ 40 ∧ p / 2 ^ 40 < 64) := by omega
  rw [writeKeys_eq, State.mapMem_mem, MemSt.clearCovered, List.mem_filter, poison_wroteKeys, if_neg hspace]
  simp [hp]

/-- Settles O12: the last byte of a key stands, and a word's poison goes with its last unwritten byte. -/
theorem commitWritesBytesOnce : Obligations.CommitWritesBytesOnce := by
  refine ⟨fun s l => ⟨fun k => memByte_wroteKeys s l k, writeKeys_only s l⟩, fun s l p hp hsram => ⟨fun hall => ?_, fun hnone => ?_⟩⟩
  · rw [mem_poison_writeKeys hp hsram]
    rintro ⟨i, hi, hout⟩
    obtain ⟨b, hb⟩ := hall i hi
    exact hout (List.mem_map_of_mem hb)
  · refine (mem_poison_writeKeys hp hsram).mpr ⟨0, by decide, fun hin => ?_⟩
    obtain ⟨⟨k, b⟩, hb, rfl : k = p + 0⟩ := List.mem_map.mp hin
    exact hnone 0 (by decide) b hb

/-! ## The search and the slot map (R377, R379, R382) -/

theorem search_at {s : State} {r : Req} {a b p : Nat} (h : s.search r a = .at_ b p) :
    s.fitsOwn r b = true ∧ p ≤ r.deadline ∧ p = s.promise r a b ∧ b ∈ candidates r a := by
  unfold State.search at h
  dsimp only at h
  generalize candidates r a = cs at h ⊢
  split at h
  next => cases h
  next b' hfind =>
    have hmem := List.mem_of_find?_eq_some hfind
    have hfit := List.find?_some hfind
    rw [Bool.and_eq_true] at hfit
    obtain ⟨hown, -⟩ := hfit
    split at h
    next => cases h
    next =>
      split at h
      next hp => cases h; exact ⟨hown, hp, rfl, hmem⟩
      next => split at h <;> cases h

theorem candidate_within {r : Req} {a b : Nat} (h : b ∈ candidates r a) : b + r.rec_.span ≤ a / 1024 + 65536 := by
  simpa using (List.mem_filter.mp h).2

theorem slotBound_le (s : State) (p : Pkg) (t : Nat) : s.slotBound p t ≤ 256 :=
  foldl_keeps (fun m => m ≤ 256) _ _ _ (Nat.le_refl _) (fun _ _ _ h => Nat.le_trans (Nat.min_le_left _ _) h)

theorem freeSlot_some {s : State} {p : Pkg} {t n : Nat} (h : s.freeSlot p t = some n) : (t, n) ∉ s.ledger.slots ∧ n < 256 := by
  have hfree := List.find?_some h
  have hlt := List.mem_range.mp (List.mem_of_find?_eq_some h)
  exact ⟨by simpa using hfree, Nat.lt_of_lt_of_le hlt (slotBound_le s p t)⟩

theorem assignSlots_some {s : State} {p : Pkg} {towers : List Nat} {m : List (Nat × Nat)} (h : s.assignSlots p towers = some m) :
    m.map (·.1) = towers ∧ ∀ q ∈ m, q ∉ s.ledger.slots ∧ q.2 < 256 := by
  induction towers generalizing m with
  | nil => cases h; simp
  | cons t rest ih =>
    rw [State.assignSlots] at h
    split at h
    next n m' hn hm' =>
      cases h
      obtain ⟨hmap, hall⟩ := ih hm'
      exact ⟨by rw [List.map_cons, hmap], List.forall_mem_cons.mpr ⟨freeSlot_some hn, hall⟩⟩
    next => cases h

/-- Settles O40: what the search answers it has found and checked, and a slot map is made of free slots. -/
theorem searchAndSlotsFit : Obligations.SearchAndSlotsFit := by
  refine ⟨fun s r a b p h => ?_, fun s p towers m => assignSlots_some⟩
  obtain ⟨hfit, hp, hpromise, hmem⟩ := search_at h
  exact ⟨hfit, hp, hpromise, hmem, candidate_within hmem⟩

end Sys2Proof.Proofs.WholeModule

/-!
How a clause completes: the effect of a command on the module at the tick of its sample, the writes that a served window answers (R544),
and what an entry of the event log leaves (R515, R563).
-/
namespace Sys2Proof.Machine

open Sys2Proof

/-! ## Commands and their effects -/

/-- A command whose meaning is `f` of the module at its tick. -/
theorem Completes.of_effect {c : Instr} {s u : State} {at_ : Nat} {P : State → Prop} (f : State → State) (hu : u = s.advance at_)
    (hexec : exec c s = .next (f (s.advance at_))) (h : P (f u)) : Completes c s P :=
  ⟨_, hexec, hu ▸ h⟩

/-- A served write all of whose checks pass has its effect and is done (R544). -/
theorem State.pcieWrite_checked {s : State} {index sub : Nat} {proc : State → Nat × State} {checks : List (Bool × Nat)}
    {effect : State → State} (hserves : s.Serves index)
    (hproc : proc (s.begun false index sub) = checked checks effect (s.begun false index sub)) (hpass : firstAbort checks = 0) :
    s.pcieWrite index sub proc = (effect (s.begun false index sub)).endAccess false index sub 0 := by
  have hrun := hproc.trans (checked_pass hpass)
  rw [State.pcieWrite_served sub proc hserves]
  exact congrArg (fun r : Nat × State => r.2.endAccess false index sub r.1) hrun

/-- A served write of which a check fails is aborted with that check's code, and its procedure changes nothing (R544). -/
theorem State.pcieWrite_refused {s : State} {index sub code : Nat} {proc : State → Nat × State} {checks : List (Bool × Nat)}
    {effect : State → State} (hserves : s.Serves index)
    (hproc : proc (s.begun false index sub) = checked checks effect (s.begun false index sub)) (hcode : firstAbort checks = code)
    (hne : code ≠ 0) : s.pcieWrite index sub proc = (s.begun false index sub).endAccess false index sub code := by
  subst hcode
  have hrun := hproc.trans (checked_fail hne)
  rw [State.pcieWrite_served sub proc hserves]
  exact congrArg (fun r : Nat × State => r.2.endAccess false index sub r.1) hrun

theorem Completes.of_checked {c : Instr} {s u : State} {at_ index sub : Nat} {P : State → Prop} {proc : State → Nat × State}
    {checks : List (Bool × Nat)} {effect : State → State} (hu : u = s.advance at_)
    (hexec : exec c s = .next ((s.advance at_).pcieWrite index sub proc)) (hserves : u.Serves index)
    (hproc : proc (u.begun false index sub) = checked checks effect (u.begun false index sub)) (hpass : firstAbort checks = 0)
    (h : P ((effect (u.begun false index sub)).endAccess false index sub 0)) : Completes c s P :=
  .of_effect (fun u => u.pcieWrite index sub proc) hu hexec (by rwa [State.pcieWrite_checked hserves hproc hpass])

theorem Completes.of_refused {c : Instr} {s u : State} {at_ index sub code : Nat} {P : State → Prop} {proc : State → Nat × State}
    {checks : List (Bool × Nat)} {effect : State → State} (hu : u = s.advance at_)
    (hexec : exec c s = .next ((s.advance at_).pcieWrite index sub proc)) (hserves : u.Serves index)
    (hproc : proc (u.begun false index sub) = checked checks effect (u.begun false index sub)) (hcode : firstAbort checks = code)
    (hne : code ≠ 0) (h : P ((u.begun false index sub).endAccess false index sub code)) : Completes c s P :=
  .of_effect (fun u => u.pcieWrite index sub proc) hu hexec (by rwa [State.pcieWrite_refused hserves hproc hcode hne])

@[simp] theorem State.endAccess_pcie_state (s : State) (index sub : Nat) : (s.endAccess false index sub 0).dict.pcie.state = 2 :=
  (s.endAccess_done index sub).1

@[simp] theorem State.endAccess_pcie_abort (s : State) (index sub : Nat) : (s.endAccess false index sub 0).dict.pcie.abort = 0 :=
  (s.endAccess_done index sub).2

/-- A command that is `g` and then `f`, after which the hub tells its twin what has changed (R462): the frames sent stand in the pair. -/
theorem Completes.of_telling_after {c : Instr} {s u : State} {at_ : Nat} {P : State → Prop} (g f : State → State) (hu : u = s.advance at_)
    (hexec : exec c s = .next ((g (s.advance at_)).telling f))
    (h : ∀ sent n, P ((f (g u)).mapPair (fun p => { p with sent := sent, sSeqOut := n }))) : Completes c s P := by
  refine ⟨_, hexec, ?_⟩
  rw [← hu, State.telling_only (g u) f]
  exact h _ _

theorem Completes.of_telling {c : Instr} {s u : State} {at_ : Nat} {P : State → Prop} (f : State → State) (hu : u = s.advance at_)
    (hexec : exec c s = .next ((s.advance at_).telling f))
    (h : ∀ sent n, P ((f u).mapPair (fun p => { p with sent := sent, sSeqOut := n }))) : Completes c s P :=
  .of_telling_after id f hu hexec h

section Begun
variable (s : State) (i3c : Bool) (index sub : Nat)

@[simp] theorem State.begun_time : (s.begun i3c index sub).time = s.time := rfl
@[simp] theorem State.begun_now : (s.begun i3c index sub).now = s.now := rfl
@[simp] theorem State.begun_pending : (s.begun i3c index sub).pending = s.pending := rfl
@[simp] theorem State.begun_ident : (s.begun i3c index sub).ident = s.ident := rfl
@[simp] theorem State.begun_towers : (s.begun i3c index sub).towers = s.towers := rfl
@[simp] theorem State.begun_base : (s.begun i3c index sub).base = s.base := rfl
@[simp] theorem State.begun_mem : (s.begun i3c index sub).mem = s.mem := rfl
@[simp] theorem State.begun_groups : (s.begun i3c index sub).groups = s.groups := rfl
@[simp] theorem State.begun_pkgs : (s.begun i3c index sub).pkgs = s.pkgs := rfl
@[simp] theorem State.begun_ports : (s.begun i3c index sub).ports = s.ports := rfl
@[simp] theorem State.begun_ledger : (s.begun i3c index sub).ledger = s.ledger := rfl
@[simp] theorem State.begun_vault : (s.begun i3c index sub).vault = s.vault := rfl
@[simp] theorem State.begun_pair : (s.begun i3c index sub).pair = s.pair := rfl
@[simp] theorem State.begun_power : (s.begun i3c index sub).power = s.power := rfl
@[simp] theorem State.begun_log : (s.begun i3c index sub).log = s.log := rfl
@[simp] theorem State.begun_boot : (s.begun i3c index sub).boot = s.boot := rfl
@[simp] theorem State.begun_tap : (s.begun i3c index sub).tap = s.tap := rfl

/-- The selections and the values held outlast the segments that an access abandons (R556, R557). -/
theorem DictSt.begin_keeps (d : DictSt) (t : Nat) : (d.begin_ i3c t index sub).pcie.sels = d.pcie.sels
    ∧ (d.begin_ i3c t index sub).held = d.held ∧ (d.begin_ i3c t index sub).heldOct = d.heldOct := by
  have habandon : (d.abandon i3c t).pcie.sels = d.pcie.sels ∧ (d.abandon i3c t).held = d.held ∧ (d.abandon i3c t).heldOct = d.heldOct := by
    unfold DictSt.abandon DictSt.mapTransport DictSt.abortRecord
    split
    · exact ⟨rfl, rfl, rfl⟩
    · cases i3c <;> exact ⟨rfl, rfl, rfl⟩
  have hmap : ∀ (d : DictSt) (c : Transport → Option (Nat × Nat × List Byte)),
      (d.mapTransport i3c (fun x => { x with copy := c x })).pcie.sels = d.pcie.sels
      ∧ (d.mapTransport i3c (fun x => { x with copy := c x })).held = d.held
      ∧ (d.mapTransport i3c (fun x => { x with copy := c x })).heldOct = d.heldOct := by
    intro d c
    unfold DictSt.mapTransport
    cases i3c <;> exact ⟨rfl, rfl, rfl⟩
  unfold DictSt.begin_
  dsimp only
  obtain ⟨hsels, hheld, hoct⟩ := hmap _ _
  rw [hsels, hheld, hoct]
  split
  · split
    · exact ⟨rfl, rfl, rfl⟩
    · exact habandon
  · exact ⟨rfl, rfl, rfl⟩

@[simp] theorem State.begun_sels : (s.begun i3c index sub).dict.pcie.sels = s.dict.pcie.sels :=
  (DictSt.begin_keeps i3c index sub s.dict s.now).1

@[simp] theorem State.begun_held (key d : Nat) : (s.begun i3c index sub).held key d = s.held key d :=
  congrArg (fun m => kvGet m key d) (DictSt.begin_keeps i3c index sub s.dict s.now).2.1

@[simp] theorem State.begun_calWindow : (s.begun i3c index sub).calWindow = s.calWindow := by
  simp only [State.calWindow, State.begun_sels]

end Begun

/-! ## Lists kept in order -/

section Insert
variable {α : Type} {before : α → α → Bool} {p q : α → Bool} {a : α} {l : List α}

theorem find?_insertBy_of_pos (ha : p a = true) (hl : ∀ b ∈ l, p b = false) : (insertBy before a l).find? p = some a := by
  induction l with
  | nil => simp [insertBy, ha]
  | cons b rest ih =>
    obtain ⟨hb, hrest⟩ := List.forall_mem_cons.mp hl
    rw [insertBy]
    split
    next => simp [ha]
    next => simp [hb, ih hrest]

theorem find?_insertBy_of_neg (ha : p a = false) : (insertBy before a l).find? p = l.find? p := by
  induction l with
  | nil => simp [insertBy, ha]
  | cons b rest ih =>
    rw [insertBy]
    split
    next => simp [ha]
    next => simp only [List.find?_cons, ih]

theorem find?_filter_not (h : ∀ x, p x = true → q x = false) : (l.filter (fun x => !q x)).find? p = l.find? p := by
  rw [List.find?_filter]
  congr 1
  funext x
  cases hp : p x with
  | false => simp
  | true => simp [h x hp]

theorem find?_insertBy_filter_self (ha : p a = true) : (insertBy before a (l.filter (fun x => !p x))).find? p = some a :=
  find?_insertBy_of_pos ha fun _ hb => (Bool.not_eq_eq_eq_not ..).mp (List.mem_filter.mp hb).2

theorem find?_insertBy_filter_of_ne (ha : p a = false) (h : ∀ x, p x = true → q x = false) :
    (insertBy before a (l.filter (fun x => !q x))).find? p = l.find? p :=
  (find?_insertBy_of_neg ha).trans (find?_filter_not h)

end Insert

/-! ## Towers -/

theorem State.tower_congr {s t : State} (h : t.towers = s.towers) (k : Nat) : t.tower k = s.tower k := by
  simp only [State.tower, h]

section Towers
variable (s : State) (k : Nat)

@[simp] theorem State.tower_mapTime (f : TimeSt → TimeSt) : (s.mapTime f).tower k = s.tower k := rfl
@[simp] theorem State.tower_mapBase (f : BaseSt → BaseSt) : (s.mapBase f).tower k = s.tower k := rfl
@[simp] theorem State.tower_mapMem (f : MemSt → MemSt) : (s.mapMem f).tower k = s.tower k := rfl
@[simp] theorem State.tower_mapLedger (f : LedgerSt → LedgerSt) : (s.mapLedger f).tower k = s.tower k := rfl
@[simp] theorem State.tower_mapVault (f : VaultSt → VaultSt) : (s.mapVault f).tower k = s.tower k := rfl
@[simp] theorem State.tower_mapPair (f : PairSt → PairSt) : (s.mapPair f).tower k = s.tower k := rfl
@[simp] theorem State.tower_mapPower (f : PowerSt → PowerSt) : (s.mapPower f).tower k = s.tower k := rfl
@[simp] theorem State.tower_mapBoot (f : BootSt → BootSt) : (s.mapBoot f).tower k = s.tower k := rfl
@[simp] theorem State.tower_mapDict (f : DictSt → DictSt) : (s.mapDict f).tower k = s.tower k := rfl
@[simp] theorem State.tower_mapLog (f : LogSt → LogSt) : (s.mapLog f).tower k = s.tower k := rfl
@[simp] theorem State.tower_mapPorts (f : List Port → List Port) : (s.mapPorts f).tower k = s.tower k := rfl
@[simp] theorem State.tower_mapPkgs (f : List Pkg → List Pkg) : (s.mapPkgs f).tower k = s.tower k := rfl
@[simp] theorem State.tower_mapGroups (f : List Group → List Group) : (s.mapGroups f).tower k = s.tower k := rfl
@[simp] theorem State.tower_raiseEvent (c : Nat) : (s.raiseEvent c).tower k = s.tower k := rfl
@[simp] theorem State.tower_raiseVector (v : Nat) : (s.raiseVector v).tower k = s.tower k := rfl
@[simp] theorem State.tower_logEv (code sev unit loc arg0 arg1 : Nat) : (s.logEv code sev unit loc arg0 arg1).tower k = s.tower k := rfl
@[simp] theorem State.tower_ctlTo (t type : Nat) (dst src : CtlStop) (tag : Nat) (arg : Option (BitVec 64)) : (s.ctlTo t type dst src tag arg).tower k = s.tower k := rfl
@[simp] theorem State.tower_endAccess (i3c : Bool) (index sub code arg : Nat) : (s.endAccess i3c index sub code arg).tower k = s.tower k := rfl
@[simp] theorem State.tower_begun (i3c : Bool) (index sub : Nat) : (s.begun i3c index sub).tower k = s.tower k := rfl

end Towers

/-- A change of a tower that is not there changes none. -/
theorem State.tower_mapTower_of_ge (s : State) (f : Tower → Tower) {t : Nat} (h : s.towers.length ≤ t) (k : Nat) :
    (s.mapTower t f).tower k = s.tower k := by
  simp only [State.tower, List.getD_eq_getElem?_getD, State.towers_mapTower, modAt_getElem?]
  split
  next hk => simp [hk, List.getElem?_eq_none h]
  next => rfl

/-- `State.tower_mapTower` without its hypothesis, as `simp` takes it. -/
theorem State.tower_mapTower_if (s : State) (t k : Nat) (f : Tower → Tower) :
    (s.mapTower t f).tower k = if k = t ∧ t < s.towers.length then f (s.tower t) else s.tower k := by
  by_cases h : t < s.towers.length
  · simp only [State.tower_mapTower _ _ _ _ h, h, and_true]
  · rw [State.tower_mapTower_of_ge _ _ (Nat.le_of_not_lt h), if_neg (fun hk => h hk.2)]

theorem OtherTowersSame.refl (t : Nat) (s : State) : OtherTowersSame t s s := fun _ _ => rfl

theorem OtherTowersSame.trans {t : Nat} {s s' s'' : State} (h : OtherTowersSame t s s') (h' : OtherTowersSame t s' s'') :
    OtherTowersSame t s s'' := fun k hk => (h' k hk).trans (h k hk)

theorem OtherTowersSame.of_towers {t : Nat} {s s' : State} (h : s'.towers = s.towers) : OtherTowersSame t s s' := fun _ _ => by rw [h]

/-- A module whose towers are those of `s` with tower `t` changed. -/
theorem OtherTowersSame.of_modAt {t : Nat} {s s' : State} {f : Tower → Tower} (h : s'.towers = modAt s.towers t f) :
    OtherTowersSame t s s' := by
  intro k hk
  simp [h, hk]

/-! ## The event log -/

@[simp] theorem LogSt.raise_count (l : LogSt) (v t : Nat) (up : Bool) : (l.raise v t up).count = l.count := rfl

@[simp] theorem LogSt.raiseClass_count (l : LogSt) (c sev t : Nat) (up : Bool) : (l.raiseClass c sev t up).count = l.count := by
  unfold LogSt.raiseClass; split <;> rfl

/-- R515: an entry of the event log counts once. -/
@[simp] theorem State.logEv_count (s : State) (code sev unit loc arg0 arg1 : Nat) :
    (s.logEv code sev unit loc arg0 arg1).log.count = s.log.count + 1 := by
  simp [State.logEv, State.mapLog, LogSt.record]

@[simp] theorem State.raiseVector_count (s : State) (v : Nat) : (s.raiseVector v).log.count = s.log.count := rfl

@[simp] theorem State.raiseEvent_count (s : State) (c : Nat) : (s.raiseEvent c).log.count = s.log.count :=
  LogSt.raiseClass_count ..

/-- R563: a raised vector stands in the PCIe copy. -/
theorem State.vecP_raiseVector (s : State) {v : Nat} (hv : v < 32) : (s.raiseVector v).log.vecP.getLsbD v = true := by
  simp [State.raiseVector, State.mapLog, LogSt.raise, hv]

end Sys2Proof.Machine

/-!
Time (chapter 02): the reference and its gates, EPOCH pulses and windows, the count's load, slews, the twin's count, the time reset and
the stretch of a region clock.
-/
namespace Sys2Proof.Proofs.TimeCommands
open Sys2Proof Sys2Proof.Machine

theorem refclkEdgeTimeout_completes {s u : State} {at_ e : Nat} (hu : u = s.advance at_) (he : e + 32 ≤ at_)
    (hlost : u.time.refLost = false) (hmode : u.time.mode = .locked) :
    Completes (.refclkEdgeTimeout at_ e) s (fun t => t.time.refLost = true ∧ t.time.mode = .holdover ∧ t.time.cause = 1
      ∧ t.time.holdStart = some u.now ∧ t.now = u.now) := by
  refine .of_effect State.refclkLoss hu (congrArg Host.Outcome.next (if_pos he)) ?_
  simp [State.refclkLoss, State.referenceLoss, State.setTimeMode, hlost, hmode, State.now]

theorem refclkGateEnd_completes {s u : State} {at_ : Nat} {ppb : Int} (hu : u = s.advance at_) (hlo : -100000 ≤ ppb) (hhi : ppb ≤ 100000)
    (hlost : u.time.refLost = true) (hgates : u.time.goodGates = 9) (hdue : u.time.gateDue = true)
    (hnext : u.time.started = true → u.time.gateNo + 1 = u.time.gateAt) :
    Completes (.refclkGateEnd at_ ppb false) s (fun t => t.time.refLost = false ∧ t.time.started = true ∧ t.time.refOffset = ppb) := by
  refine .of_effect (fun u => if u.time.gateDue then (u.mapTime TimeSt.nextGate).gateEnd ppb false else u) hu rfl ?_
  have hin : ¬(ppb < -100000 ∨ 100000 < ppb) := by omega
  have hgood : u.time.nextGate.goodGates = 9 := by
    unfold TimeSt.nextGate
    split <;> simp_all
  have hstill : u.time.nextGate.refLost = true := by
    unfold TimeSt.nextGate
    split <;> simp_all
  simp [State.gateEnd, hdue, hin, hgood, hstill]

theorem epochPulse_of_set {u : State} {width : Nat} (hstarted : u.time.started = true) (hwidth : ¬width < 4000)
    (hmode : u.time.mode ≠ .unset) :
    ∃ last : TimeSt → Option Nat, u.epochPulse width = u.pulseSet.mapTime (fun t => { t with lastPulse := last t }) := by
  refine ⟨fun t => some (if t.loadDone && !u.time.loadDone then t.epochCount * 1000000 else t.tally), ?_⟩
  simp only [State.epochPulse, hstarted, hwidth, hmode, Bool.not_true, Bool.false_eq_true, if_false]

/-- A module that is no pair's takes its count, and sends none (R64). -/
theorem assignCount_of_unbound {u : State} (n : Nat) (hbound : u.pair.bound = false) :
    u.assignCount n = u.mapTime (fun t => { t with epochCount := n }) := by
  simp only [State.assignCount, State.twinCountDue, State.sendCount, hbound, Bool.false_and, Bool.false_eq_true, if_false,
    State.mapTime_pair]

theorem acceptPulse_pair (u : State) (w : Nat) (e : Int) : (u.acceptPulse w e).pair = u.pair := rfl

/-- What an accepted pulse leaves, for any window, error and count, and whatever is noted of the pulse (R52, R55). -/
theorem fields_of_acceptPulse {u t : State} {w n : Nat} {e : Int} {last : TimeSt → Option Nat}
    (ht : t = (((u.acceptPulse w e).mapTime (fun t => { t with residual := e })).mapTime (fun t => { t with epochCount := n })).mapTime
      (fun t => { t with lastPulse := last t })) :
    t.time.mode = u.time.mode ∧ t.time.missRun = 0 ∧ t.now = u.now ∧ t.time.discarded = u.time.discarded ∧ t.time.epochCount = n
      ∧ t.time.phaseErr = e ∧ t.time.residual = e := by
  have htime : ∃ p, t.time = { u.time with missRun := 0, lastWindow := some w, phaseErr := e, residual := e, epochCount := n,
                                           lastPulse := p } := by
    rw [ht]
    exact ⟨_, rfl⟩
  obtain ⟨p, hp⟩ := htime
  simp only [State.now, hp, and_self]

theorem epochPulse_completes {s u : State} {at_ width : Nat} (hu : u = s.advance at_) (hstarted : u.time.started = true)
    (hwidth : 4000 ≤ width) (hmode : u.time.mode = .locked) (hin : u.time.inWindow = true) (hbound : u.pair.bound = false) :
    Completes (.epochPulse at_ width) s (fun t => t.time.mode = .locked ∧ t.time.missRun = 0 ∧ t.now = u.now
      ∧ t.time.discarded = u.time.discarded ∧ t.time.epochCount = nearestEpoch u.now
      ∧ t.time.phaseErr = phaseErrorAt u.now ∧ t.time.residual = phaseErrorAt u.now) := by
  refine .of_effect (·.epochPulse width) hu rfl ?_
  have hshift : u.time.shift = 0 := by simp only [TimeSt.shift, hmode]
  have hset : u.pulseSet = ((u.acceptPulse u.time.windowNo (phaseErrorAt u.now)).mapTime
      (fun t => { t with residual := phaseErrorAt u.now })).assignCount (nearestEpoch u.now) := by
    simp only [State.pulseSet, hmode, hin, hshift, if_true, Int.sub_zero]
  obtain ⟨last, hlast⟩ := epochPulse_of_set (u := u) hstarted (Nat.not_lt.mpr hwidth) (by rw [hmode]; decide)
  rw [hset, assignCount_of_unbound _ (by rw [State.mapTime_pair, acceptPulse_pair, hbound])] at hlast
  rw [← hmode]
  exact fields_of_acceptPulse hlast

theorem epochCountLoad_completes {s u : State} {at_ n : Nat} (hu : u = s.advance at_) (hserves : u.Serves 0x1201)
    (hfree : u.time.loadUsed = false) (hlo : 1 ≤ n) (hhi : n ≤ 18446744000000) (hnow : u.now < n * 1000000) :
    Completes (.epochCountLoad at_ n) s
      (fun t => t.time.loadN = some n ∧ t.time.loadUsed = true ∧ t.now = u.now ∧ t.AccessDone) := by
  refine .of_checked hu rfl hserves rfl ?pass ⟨rfl, rfl, rfl, State.endAccess_done ..⟩
  case pass => simp [hfree, Nat.not_le.mpr hnow, Nat.not_lt.mpr hhi, Nat.ne_of_gt hlo]

theorem tallySlew_completes {s u : State} {at_ : Nat} (hu : u = s.advance at_) (hstarted : u.time.started = true)
    (hmode : u.time.mode ≠ .fault) (hres : 0 < u.time.residual) (hlast : u.time.lastSlew = none) :
    Completes (.tallySlew at_) s (fun t => t.now = u.now ∧ t.time.hold = u.time.hold + 1 ∧ t.time.residual = u.time.residual - 1) := by
  refine .of_effect State.slew hu rfl ?_
  simp [State.slew, hstarted, hmode, hres, Int.ne_of_gt hres, hlast, State.now]

theorem twinEpochCount_completes {s u : State} {at_ count : Nat} (hu : u = s.advance at_) (hbound : u.pair.bound = true)
    (hown : u.time.hasOwnCount = true) (hcount : count = u.time.epochCount) :
    Completes (.twinEpochCount at_ count true) s (fun t => t.time.twinCount = count ∧ t.time.pairTime = 1
      ∧ t.time.mismatchRun = 0 ∧ t.pair.twinLocked = true) := by
  refine .of_effect (·.twinCount count true) hu rfl ?_
  have hown' : ∀ t : TimeSt, t.epochCount = u.time.epochCount → t.lastClosed = u.time.lastClosed → t.lastWindow = u.time.lastWindow →
      t.hasOwnCount = true := by
    intro t hcount hclosed hwindow
    rw [← hown, TimeSt.hasOwnCount, TimeSt.hasOwnCount, hcount, hclosed, hwindow]
  simp [State.twinCount, hbound, hown', hcount]

theorem timeReset_completes {s u : State} {at_ : Nat} (hu : u = s.advance at_) (hserves : u.Serves 0x1206) (hwork : u.holdsWork = false)
    (hmode : u.time.mode ≠ .unset) :
    Completes (.timeReset at_ 1) s (fun t => t.time.mode = .unset ∧ t.time.loadUsed = false ∧ t.time.cause = 0
      ∧ t.time.holdStart = none ∧ t.time.epochCount = 0 ∧ t.now = u.now ∧ t.pair.beating = false ∧ t.AccessDone) := by
  refine .of_checked hu rfl hserves rfl ?pass ?_
  case pass =>
    have hidle : (u.begun false 0x1206 1).holdsWork = false := hwork
    simp [hidle]
  simp [State.timeReset, State.setTimeMode, hmode, State.now, State.AccessDone]

theorem clockStretch_completes {s u : State} {at_ tower region : Nat} {ask : StretchIn} {r : Region} (hu : u = s.advance at_)
    (ht : tower < u.towers.length) (hr : (u.tower tower).regions[region]? = some r) :
    Completes (.clockStretch at_ tower region ask) s (fun t =>
      (t.tower tower).regions[region]? = some { r with
          supplyLow := if ask.path then r.supplyLow else decide (r.nominal < ask.period)
          pathLow := if ask.path then decide (r.nominal < ask.period) else r.pathLow
          period := if r.nominal < ask.period then min 833 ask.period
                    else if (if ask.path then r.supplyLow else r.pathLow) then r.period else r.nominal }
        ∧ OtherTowersSame tower u t) := by
  refine .of_effect (fun u => u.mapTower tower (fun t => { t with regions := modAt t.regions region (fun r => r.stretch ask) })) hu rfl
    ⟨?_, RegionBarrier.otherTowersSame_mapTower u tower _⟩
  rw [State.tower_mapTower _ _ _ _ ht, if_pos rfl]
  simp only [modAt_getElem?, hr, if_true, Option.map_some, Region.stretch, Region.lostMargin, decide_eq_true_eq]
  cases ask.path <;> by_cases hlow : r.nominal < ask.period <;> simp [hlow]

/-- The third window in a row without a pulse: the count of missing windows, then the loss of the reference. -/
theorem epochWindowClose_completes {s u : State} {at_ : Nat} (hu : u = s.advance at_) (hstarted : u.time.started = true)
    (hmode : u.time.mode = .locked) (hbound : u.pair.bound = false) (hmiss : u.time.missRun = 2) (hpos : 0 < u.time.closedWindow)
    (hwindow : ∀ w, u.time.lastWindow = some w → w < u.time.closedWindow.toNat)
    (hclosed : ∀ w, u.time.lastClosed = some w → w < u.time.closedWindow.toNat) :
    Completes (.epochWindowClose at_) s (fun t => t.time.mode = .holdover ∧ t.time.missRun = 3
      ∧ t.time.missTotal = u.time.missTotal + 1 ∧ t.time.cause = 2
      ∧ t.time.holdStart = some (1000000 * u.time.closedWindow.toNat - 2000000) ∧ t.log.count = u.log.count + 3) := by
  refine .of_effect State.windowClose hu rfl ?_
  have hshift : u.time.shift = 0 := by simp [TimeSt.shift, hmode]
  have hnext : u.windowClose = u.missWindow u.time.closedWindow.toNat := by
    have hw : u.time.lastWindow ≠ some u.time.closedWindow.toNat := fun h => absurd (hwindow _ h) (Nat.lt_irrefl _)
    have hw' : ¬u.time.closedWindow.toNat < u.time.lastWindow.getD 0 := by
      cases h : u.time.lastWindow with
      | none => simp
      | some w => simpa using Nat.le_of_lt (hwindow w h)
    have hc : ¬u.time.closedWindow.toNat ≤ u.time.lastClosed.getD 0 := by
      cases h : u.time.lastClosed with
      | none => simpa using hpos
      | some w => simpa using hclosed w h
    simp [State.windowClose, hstarted, hmode, hw, hw', hc, Int.not_le.mpr hpos]
  have hexpected : (u.time.expectedOf u.time.closedWindow.toNat).toNat = 1000000 * u.time.closedWindow.toNat := by
    simp only [TimeSt.expectedOf, hshift]
    omega
  rw [hnext]
  simp [State.missWindow, State.twinCountDue, State.referenceLoss, State.setTimeMode, hbound, hmode, hmiss, hexpected]

/-- Settles O2: each command's meaning is run on the state that its clause describes. -/
theorem timeCommandsComplete : Obligations.TimeCommandsComplete :=
  ⟨⟨fun _ _ _ _ => refclkEdgeTimeout_completes, fun _ _ _ _ => refclkGateEnd_completes, fun _ _ _ _ => epochPulse_completes,
      fun _ _ _ _ => epochCountLoad_completes, fun _ _ _ => tallySlew_completes, fun _ _ _ _ => twinEpochCount_completes,
      fun _ _ _ => timeReset_completes, fun _ _ _ _ _ _ _ => clockStretch_completes⟩,
    fun _ _ _ => epochWindowClose_completes⟩

end Sys2Proof.Proofs.TimeCommands

/-!
What the end of a request touches (R389, R390): what towers hold for requests, and of the hub the memory, ports, ledger, vault, pair and
event log. Modes, fences, regions and everything else of the towers, the reference, the base and the power stay.
-/
namespace Sys2Proof.Machine

open Sys2Proof

/-- Tower `y` is `x` but for records, operators, waiting chunks, synchronisation objects and the messages sent for them. -/
def Tower.SameButWork (x y : Tower) : Prop :=
  y = { x with records := y.records, ops := y.ops, queue := y.queue, signalsOut := y.signalsOut, tree := y.tree, sync := y.sync,
               gens := y.gens }

theorem Tower.SameButWork.refl (x : Tower) : x.SameButWork x := rfl

theorem Tower.SameButWork.trans {x y z : Tower} (h : x.SameButWork y) (h' : y.SameButWork z) : x.SameButWork z := by
  unfold Tower.SameButWork at h h' ⊢
  rw [h', h]

/-- Vault `y` is `x` but for the counters and references of its key slots. -/
def VaultSt.SameButKeys (x y : VaultSt) : Prop := y = { x with keys := y.keys }

theorem VaultSt.SameButKeys.trans {x y z : VaultSt} (h : x.SameButKeys y) (h' : y.SameButKeys z) : x.SameButKeys z := by
  unfold VaultSt.SameButKeys at h h' ⊢
  rw [h', h]

/-- What an end of requests leaves of the module. -/
structure Ends (s t : State) : Prop where
  time : t.time = s.time
  ident : t.ident = s.ident
  pending : t.pending = s.pending
  base : t.base = s.base
  power : t.power = s.power
  boot : t.boot = s.boot
  dict : t.dict = s.dict
  tap : t.tap = s.tap
  groups : t.groups = s.groups
  pkgs : t.pkgs = s.pkgs
  net : t.net = s.net
  vault : s.vault.SameButKeys t.vault
  length_towers : t.towers.length = s.towers.length
  tower : ∀ k, (s.tower k).SameButWork (t.tower k)

namespace Ends

theorem of_same {s t : State} (htime : t.time = s.time) (hident : t.ident = s.ident) (hpending : t.pending = s.pending)
    (hbase : t.base = s.base) (hpower : t.power = s.power) (hboot : t.boot = s.boot) (hdict : t.dict = s.dict) (htap : t.tap = s.tap)
    (hgroups : t.groups = s.groups) (hpkgs : t.pkgs = s.pkgs) (hnet : t.net = s.net) (hvault : t.vault = s.vault) (htowers : t.towers = s.towers) : Ends s t :=
  ⟨htime, hident, hpending, hbase, hpower, hboot, hdict, htap, hgroups, hpkgs, hnet, by rw [hvault]; rfl, congrArg List.length htowers,
    fun k => by simp only [State.tower, htowers]; exact .refl _⟩

theorem refl (s : State) : Ends s s := .of_same rfl rfl rfl rfl rfl rfl rfl rfl rfl rfl rfl rfl rfl

theorem trans {s t u : State} (h : Ends s t) (h' : Ends t u) : Ends s u :=
  ⟨h'.time.trans h.time, h'.ident.trans h.ident, h'.pending.trans h.pending, h'.base.trans h.base, h'.power.trans h.power,
    h'.boot.trans h.boot, h'.dict.trans h.dict, h'.tap.trans h.tap, h'.groups.trans h.groups, h'.pkgs.trans h.pkgs, h'.net.trans h.net, h.vault.trans h'.vault,
    h'.length_towers.trans h.length_towers, fun k => (h.tower k).trans (h'.tower k)⟩

theorem ite {s a b : State} {p : Prop} [Decidable p] (ha : p → Ends s a) (hb : ¬p → Ends s b) : Ends s (if p then a else b) := by
  split
  next h => exact ha h
  next h => exact hb h

theorem foldl {α : Type} (s : State) (l : List α) {f : State → α → State} (h : ∀ s a, Ends s (f s a)) : Ends s (l.foldl f s) :=
  foldl_keeps (Ends s) f l s (.refl s) (fun _ a _ hs => hs.trans (h _ a))

theorem mapLedger (s : State) (f : LedgerSt → LedgerSt) : Ends s (s.mapLedger f) := .of_same rfl rfl rfl rfl rfl rfl rfl rfl rfl rfl rfl rfl rfl
theorem mapPair (s : State) (f : PairSt → PairSt) : Ends s (s.mapPair f) := .of_same rfl rfl rfl rfl rfl rfl rfl rfl rfl rfl rfl rfl rfl
theorem mapSlot (s : State) (kind id epoch : Nat) (f : KeySlot → KeySlot) : Ends s (s.mapVault (fun v => v.mapSlot kind id epoch f)) :=
  ⟨rfl, rfl, rfl, rfl, rfl, rfl, rfl, rfl, rfl, rfl, rfl, rfl, rfl, fun _ => .refl _⟩
theorem mapPorts (s : State) (f : List Port → List Port) : Ends s (s.mapPorts f) := .of_same rfl rfl rfl rfl rfl rfl rfl rfl rfl rfl rfl rfl rfl
theorem mapMem (s : State) (f : MemSt → MemSt) : Ends s (s.mapMem f) := .of_same rfl rfl rfl rfl rfl rfl rfl rfl rfl rfl rfl rfl rfl

theorem logEv (s : State) (code sev unit loc arg0 arg1 : Nat) : Ends s (s.logEv code sev unit loc arg0 arg1) :=
  .of_same rfl rfl rfl rfl rfl rfl rfl rfl rfl rfl rfl rfl rfl

/-- A change of a tower's work ends no more than work. -/
theorem mapTower (s : State) (t : Nat) {f : Tower → Tower} (hf : ∀ x : Tower, x.SameButWork (f x)) : Ends s (s.mapTower t f) := by
  refine ⟨rfl, rfl, rfl, rfl, rfl, rfl, rfl, rfl, rfl, rfl, rfl, rfl, by simp, fun k => ?_⟩
  by_cases ht : t < s.towers.length
  · rw [State.tower_mapTower _ _ _ _ ht]
    split
    next hk => rw [hk]; exact hf _
    next => exact .refl _
  · rw [State.tower_mapTower_of_ge _ _ (Nat.le_of_not_lt ht)]
    exact .refl _

/-! ### The hub's frames, keys and messages -/

theorem keyUnref (s : State) (kind id epoch : Nat) : Ends s (s.keyUnref kind id epoch) := .mapSlot ..

theorem mapPort (s : State) (x : Nat) (f : Port → Port) : Ends s (s.mapPort x f) := .mapPorts ..

theorem queuePort (s : State) (y : Nat) (f : Port → Port) : Ends s (s.queuePort y f) :=
  (Ends.mapPort ..).trans (.foldl _ _ (fun _ _ => .keyUnref ..))

theorem sendFrame (s : State) (x : Nat) (f : OutFrame) : Ends s (s.sendFrame x f) := .queuePort ..

theorem sendNotice (s : State) (x reqid seq reason cls : Nat) : Ends s (s.sendNotice x reqid seq reason cls) :=
  .ite (fun _ => .sendFrame ..) (fun _ => .refl _)

theorem sendCredit (s : State) (x : Nat) : Ends s (s.sendCredit x) :=
  .ite (fun _ => (Ends.mapPort ..).trans (.sendFrame ..)) (fun _ => .refl _)

theorem sendAnswer (s : State) (x tenant model reqid seq kepoch resp reason detail tick cls : Nat) (unprot : Bool) :
    Ends s (s.sendAnswer x tenant model reqid seq kepoch resp reason detail tick cls unprot) := by
  unfold State.sendAnswer
  refine .ite (fun _ => .refl _) (fun _ => ?_)
  split
  · exact (Ends.mapSlot ..).trans (.sendFrame ..)
  · exact .sendNotice ..

theorem sendTwin (s : State) (m : TwinMsg) : Ends s (s.sendTwin m) :=
  .ite (fun _ => .ite (fun _ => .mapPair ..) (fun _ => .refl _)) (fun _ => .mapPair ..)

theorem mirror (s : State) (d : DecisionRec) : Ends s (s.mirror d) :=
  .ite (fun _ => (Ends.mapPair ..).trans (.sendTwin ..)) (fun _ => .refl _)

theorem freeIngress (s : State) (x units : Nat) : Ends s (s.freeIngress x units) :=
  (Ends.mapPort ..).trans (.ite (fun _ => (Ends.mapPort ..).trans (.sendCredit ..)) (fun _ => .refl _))

theorem mapReq (s : State) (tenant seq : Nat) (f : Req → Req) : Ends s (s.mapReq tenant seq f) := .mapLedger ..

theorem leaveBuffer (s : State) (tenant seq : Nat) : Ends s (s.leaveBuffer tenant seq) := by
  unfold State.leaveBuffer
  split
  · exact .refl _
  · exact .ite (fun _ => .refl _) (fun _ => (Ends.mapReq ..).trans (.freeIngress ..))

/-! ### Records withdrawn and retired -/

theorem amendEnd (s : State) (tenant seq reason detail site : Nat) : Ends s (s.amendEnd tenant seq reason detail site) :=
  (Ends.mapReq ..).trans (.mapPorts ..)

theorem clearSlotAreas (s : State) (t slot : Nat) : Ends s (s.clearSlotAreas t slot) := .foldl _ _ (fun _ _ => .mapMem ..)

theorem retireRecord (s : State) (t slot : Nat) : Ends s (s.retireRecord t slot) := by
  unfold State.retireRecord
  split
  · exact .refl _
  · refine (((Ends.clearSlotAreas ..).trans (.mapTower _ _ fun x => ?_)).trans (.mapLedger ..)).trans (.mapReq ..)
    cases x.isCache <;> rfl

theorem unreported (s : State) (t : Nat) (r : ActRec) : Ends s (s.unreported t r) := by
  unfold State.unreported
  refine .ite (fun _ => .refl _) (fun _ => .trans ?_ ((Ends.logEv ..).trans (.mapTower _ _ fun _ => rfl)))
  split
  · exact .ite (fun _ => .amendEnd ..) (fun _ => .refl _)
  · exact .refl _

theorem withdrawRecord (s : State) (t slot : Nat) : Ends s (s.withdrawRecord t slot) := by
  unfold State.withdrawRecord
  have hreport : Ends s (match (s.tower t).record? slot with
      | some r => s.unreported t r
      | none => s) := by
    split
    · exact .unreported ..
    · exact .refl _
  refine .ite (fun _ => hreport.trans (.mapTower _ _ fun _ => ?_)) (fun _ => (hreport.trans (.mapTower _ _ fun _ => ?_)).trans (.retireRecord ..))
  · rfl
  · rfl

theorem withdrawReq (s : State) (tenant seq : Nat) : Ends s (s.withdrawReq tenant seq) :=
  (Ends.mapLedger ..).trans (.foldl _ _ (fun _ _ => .foldl _ _ (fun _ _ => .withdrawRecord ..)))

theorem dropResult (s : State) (tenant seq : Nat) : Ends s (s.dropResult tenant seq) := .mapPorts ..

/-! ### The end of a request -/

theorem finishEnd (s : State) (r : Req) : Ends s (s.finishEnd r) := by
  unfold State.finishEnd
  have hwithdrawn : ∀ f, Ends s (((s.withdrawReq r.tenant r.seq).dropResult r.tenant r.seq).mapReq r.tenant r.seq f) := fun _ =>
    ((Ends.withdrawReq ..).trans (.dropResult ..)).trans (.mapReq ..)
  refine .trans ?_ ((Ends.leaveBuffer ..).trans (.keyUnref ..))
  refine .ite (fun _ => ?_) (fun _ => .trans ?_ (.mapLedger ..))
  · exact .ite (fun _ => (hwithdrawn _).trans (.mapLedger ..)) (fun _ => hwithdrawn _)
  · exact .ite (fun _ => (hwithdrawn _).trans (.mapLedger ..)) (fun _ => hwithdrawn _)

theorem sendEnd (s : State) (r : Req) (reason detail : Nat) : Ends s (s.sendEnd r reason detail) :=
  (((Ends.mirror ..).trans (.sendAnswer ..)).trans (.mapLedger ..)).trans (.finishEnd ..)

theorem endRequest (s : State) (tenant seq reason detail site : Nat) : Ends s (s.endRequest tenant seq reason detail site) := by
  unfold State.endRequest
  split
  · exact .refl _
  · refine .ite (fun _ => .amendEnd ..) (fun _ => ?_)
    refine .ite (fun _ => .refl _) (fun _ => ?_)
    refine .ite (fun _ => .ite (fun _ => .mapReq ..) (fun _ => .refl _)) (fun _ => ?_)
    refine .ite (fun _ => ((Ends.mapReq ..).trans (.withdrawReq ..)).trans (.dropResult ..)) (fun _ => ?_)
    exact .ite (fun _ => (Ends.mapReq ..).trans (.sendEnd ..)) (fun _ => (Ends.mapReq ..).trans (.finishEnd ..))

theorem endAll (s : State) (p : Req → Bool) (reason site : Nat) : Ends s (s.endAll p reason site) :=
  .foldl _ _ (fun _ _ => .endRequest ..)

end Ends
end Sys2Proof.Machine

/-!
Towers and tiles (chapters 03 and 19): a tile's fault and its spare, lost regions, shortfalls, failed schedulers and the host's fence (R66
to R70, R84 to R87, R101, R104).
-/
namespace Sys2Proof.Proofs.TowerFaults

open Sys2Proof Sys2Proof.Machine

/-! ## Chunks sent back, a region lost, a tower failed -/

/-- The chunks that go back to their scheduler are announced on the control ring; the tower changes, and nothing else (R77). -/
theorem returning_only (s : State) (t r : Nat) (p : Chunk → Bool) :
    ∃ c, s.returning t r p = ({ s with ctl := c } : State).mapTower t (fun x => x.returnChunks p) := by
  have hctl : ∃ c, (List.range ((s.tower t).running.filter p).length).foldl (fun s _ => s.ctlTo t 3 .scheduler (.region r)) s
      = { s with ctl := c } :=
    foldl_keeps (fun v => ∃ c, v = { s with ctl := c }) _ _ s ⟨_, rfl⟩ (by rintro _ _ - ⟨c, rfl⟩; exact ⟨_, rfl⟩)
  obtain ⟨c, hc⟩ := hctl
  exact ⟨c, congrArg (·.mapTower t (fun x => x.returnChunks p)) hc⟩

section Returning
variable (s : State) (t r : Nat) (p : Chunk → Bool)

@[simp] theorem towers_returning : (s.returning t r p).towers = modAt s.towers t (fun x => x.returnChunks p) := by
  obtain ⟨c, hc⟩ := returning_only s t r p
  rw [hc]
  rfl

@[simp] theorem log_returning : (s.returning t r p).log = s.log := by
  obtain ⟨c, hc⟩ := returning_only s t r p
  rw [hc]
  rfl

@[simp] theorem mem_returning : (s.returning t r p).mem = s.mem := by
  obtain ⟨c, hc⟩ := returning_only s t r p
  rw [hc]
  rfl

@[simp] theorem now_returning : (s.returning t r p).now = s.now := by
  obtain ⟨c, hc⟩ := returning_only s t r p
  rw [hc]
  rfl

theorem tower_returning (ht : t < s.towers.length) : (s.returning t r p).tower t = (s.tower t).returnChunks p := by
  obtain ⟨c, hc⟩ := returning_only s t r p
  rw [hc, State.tower_mapTower _ _ _ _ (by exact ht), if_pos rfl]
  rfl

end Returning

/-- The region is out of service (R86). -/
def withLost (r : Nat) (x : Tower) : Tower := x.mapRegion r (fun g => { g with st := .lost, subst := none })

/-- The oscillator of the region has stopped (R69). -/
def withStop (r : Nat) (x : Tower) : Tower := x.mapRegion r (fun g => { g with running := false })

/-- The module once region `r` of tower `t` is lost, before its tower is judged by what remains of it (R86). -/
def regionLost (s : State) (t r : Nat) : State :=
  (((s.returning t r (fun c => c.inRegion r)).mapTower t (withLost r)).logEv (lossCode t) sevCapacity t r).raiseEvent 2

theorem tower_regionLost {s : State} {t : Nat} (r : Nat) (ht : t < s.towers.length) :
    (regionLost s t r).tower t = withLost r ((s.tower t).returnChunks (fun c => c.inRegion r)) := by
  simp [regionLost, State.tower_mapTower, tower_returning, ht]

theorem loseRegion_eq {s : State} {t r : Nat} {g : Region} (hr : (s.tower t).regions[r]? = some g) (hst : g.st ≠ .lost)
    (hfalls : s.towerFalls t = false) : s.loseRegion t r =
      if ((regionLost s t r).tower t).floorCapacity = 0 then (regionLost s t r).failTower t else regionLost s t r := by
  simp only [State.loseRegion, hr, hst, hfalls, Bool.false_eq_true, or_self, if_false]
  rfl

/-- What `towerFalls` reads of the tower is its mode and its choice of sensor. -/
theorem towerFalls_mapTower {s : State} {t : Nat} (ht : t < s.towers.length) {f : Tower → Tower} (hmode : ∀ x, (f x).mode = x.mode)
    (hdiode : ∀ x, (f x).useDiode = x.useDiode) : (s.mapTower t f).towerFalls t = s.towerFalls t := by
  simp only [State.towerFalls, State.tower_mapTower s t t f ht, if_true, hmode, hdiode]
  rfl

theorem countP_modAt {α : Type} {p : α → Bool} {f : α → α} {l : List α} {i : Nat} {a : α} (ha : l[i]? = some a) (hp : p a = true)
    (hf : p (f a) = false) : (modAt l i f).countP p + 1 = l.countP p := by
  induction l generalizing i with
  | nil => simp at ha
  | cons b l ih =>
    cases i with
    | zero =>
      obtain rfl : b = a := by simpa using ha
      simp [modAt, hp, hf]
    | succ i =>
      have hrest := ih (by simpa using ha)
      simp only [modAt, List.countP_cons]
      omega

/-- R80, R81: a tower that loses a region in service has one active region less. -/
theorem activeRegions_withLost {x : Tower} {r : Nat} {g : Region} (p : Chunk → Bool) (hr : x.regions[r]? = some g) (hst : g.st ≠ .lost) :
    (withLost r (x.returnChunks p)).activeRegions + 1 = x.activeRegions := by
  rw [FloorCapacity.activeRegions_eq_countP, FloorCapacity.activeRegions_eq_countP]
  have hmap : (x.returnChunks p).regions.countP (fun g => g.st != .lost) = x.regions.countP (fun g => g.st != .lost) := by
    simp only [Tower.returnChunks, List.countP_map]
    rfl
  rw [← hmap]
  refine countP_modAt (a := { g with queue := g.queue.filter fun i => !(x.running.filter p).any fun c => c.id == i }) ?_ ?_ rfl
  · simp [Tower.returnChunks, hr]
  · simpa using hst

theorem countP_modAt_same {α : Type} {p : α → Bool} {f : α → α} (l : List α) (i : Nat) (hf : ∀ a, p (f a) = p a) :
    (modAt l i f).countP p = l.countP p := by
  induction l generalizing i with
  | nil => rfl
  | cons a l ih => cases i <;> simp [modAt, List.countP_cons, hf, ih]

theorem activeRegions_withStop (r : Nat) (x : Tower) : (withStop r x).activeRegions = x.activeRegions := by
  rw [FloorCapacity.activeRegions_eq_countP, FloorCapacity.activeRegions_eq_countP]
  exact countP_modAt_same _ _ fun _ => rfl

/-- The module once tower `t` is failed and fenced, before the requests that it holds end (R104). -/
def failing (s : State) (t : Nat) : State :=
  (((s.fenceTower t 5).mapTower t (fun x => { x with mode := .failed }.leaveRegions (s.replica t / 1024))).logEv 0x0205
    (if s.endsAt t then sevWork else sevCapacity) t).raiseEvent 2

theorem failTower_ends {s : State} {t : Nat} (hmode : (s.tower t).mode ≠ .failed) : Ends (failing s t) (s.failTower t) := by
  unfold State.failTower
  rw [if_neg hmode]
  exact .endAll ..

theorem tower_failing {s : State} {t : Nat} (ht : t < s.towers.length) : (failing s t).tower t =
    ({ s.tower t with fence := true, fenceCause := 5, mode := .failed } : Tower).leaveRegions (s.replica t / 1024) := by
  simp [failing, State.fenceTower, State.tower_mapTower, ht]

/-- R104: a tower that fails is fenced, and stays so while the requests that it holds end. -/
theorem failTower_fences {s : State} {t : Nat} (ht : t < s.towers.length) (hmode : (s.tower t).mode ≠ .failed) :
    ((s.failTower t).tower t).mode = .failed ∧ ((s.failTower t).tower t).fence = true ∧ ((s.failTower t).tower t).fenceCause = 5 := by
  rw [(failTower_ends hmode).tower t, tower_failing ht]
  exact ⟨rfl, rfl, rfl⟩

/-- A region as `leave` leaves it stands as it stood (R70). -/
theorem leave_keeps (g : Region) (slot : Nat) : (g.leave slot).st = g.st ∧ (g.leave slot).short = g.short := by
  unfold Region.leave
  split <;> exact ⟨rfl, rfl⟩

/-- The tile's fault is noted in its region and counted (R84). -/
def withFault (r i : Nat) (x : Tower) : Tower :=
  { x.mapRegion r (fun g => { g with faulted := g.faulted ||| (1#17 <<< i), map := g.map &&& ~~~(1#17 <<< i) }) with
    tileFaults := x.tileFaults + 1 }

/-- The spare tile of the region takes the place of tile `i` (R85). -/
def withSpare (r i now : Nat) (x : Tower) : Tower :=
  x.mapRegion r (fun g => { g with st := .spareInUse, map := g.map ||| 0x10000#17, subst := some (i, now) })

theorem faultTile_of_spare {u : State} {t r i : Nat} {g : Region} (hcache : (u.tower t).isCache = false) (hi : i < 16)
    (hr : (u.tower t).regions[r]? = some g) (hst : g.st = .inService) (hfault : g.faulted.getLsbD i = false) (hsubst : g.subst = none)
    (hloses : u.losesNow t r g = false) (hfalls : u.towerFalls t = false) :
    u.faultTile t r i = (((u.mapTower t (withFault r i)).returning t r (fun c => c.place == some (r, i))).mapTower t
      (withSpare r i u.now)).logEv 0x0201 sevLogged t r := by
  simp only [State.faultTile, hr, hcache, hst, hfault, hloses, hfalls, hsubst, hi, reduceCtorEq, Bool.false_eq_true, or_self, if_false,
    and_self, if_true, State.mapTower_now]
  rfl

/-- The regions of a tower that fails leave service, each with its state and its run of shortfalls. -/
theorem regions_failTower {s : State} {t : Nat} (ht : t < s.towers.length) : ∃ f : Region → Region,
    (∀ g, (f g).st = g.st ∧ (f g).short = g.short) ∧ ((s.failTower t).tower t).regions = (s.tower t).regions.map f
      ∧ ((s.failTower t).tower t).isCache = (s.tower t).isCache := by
  by_cases hmode : (s.tower t).mode = .failed
  · exact ⟨id, fun _ => ⟨rfl, rfl⟩, by simp [State.failTower, hmode], by simp [State.failTower, hmode]⟩
  · refine ⟨fun g => g.leave (s.replica t / 1024), fun g => leave_keeps g _, ?_, ?_⟩ <;>
      rw [(failTower_ends hmode).tower t, tower_failing ht] <;> rfl

theorem hwCapacity_of_map {x y : Tower} {f : Region → Region} (hf : ∀ g, (f g).st = g.st) (hregions : y.regions = x.regions.map f)
    (hcache : y.isCache = x.isCache) : y.hwCapacity = x.hwCapacity := by
  have hactive : y.activeRegions = x.activeRegions := by
    simp only [FloorCapacity.activeRegions_eq_countP, hregions, List.countP_map, Function.comp_def, hf]
  rw [Tower.hwCapacity, Tower.hwCapacity, hactive, hcache]

/-- R86: a region that is lost keeps its run of shortfalls, and takes its share of the tower's capacity with it. -/
theorem loseRegion_takes_share {s : State} {t r : Nat} {g : Region} (ht : t < s.towers.length) (hr : (s.tower t).regions[r]? = some g)
    (hst : g.st ≠ .lost) (hfalls : s.towerFalls t = false) :
    ∃ h, ((s.loseRegion t r).tower t).regions[r]? = some h ∧ h.st = .lost ∧ h.short = g.short
      ∧ ((s.loseRegion t r).tower t).hwCapacity + (if (s.tower t).isCache then 64 else 16) = (s.tower t).hwCapacity := by
  have hactive := activeRegions_withLost (fun c => c.inRegion r) hr hst
  have hcap : ((regionLost s t r).tower t).hwCapacity + (if (s.tower t).isCache then 64 else 16) = (s.tower t).hwCapacity := by
    rw [tower_regionLost r ht, Tower.hwCapacity, Tower.hwCapacity, ← hactive, Nat.mul_succ]
    rfl
  have hlost : ∃ h, ((regionLost s t r).tower t).regions[r]? = some h ∧ h.st = .lost ∧ h.short = g.short := by
    rw [tower_regionLost r ht]
    simp [withLost, Tower.mapRegion, Tower.returnChunks, hr]
  obtain ⟨h, hget, hlost, hshort⟩ := hlost
  rw [loseRegion_eq hr hst hfalls]
  split
  next =>
    have hlen : t < (regionLost s t r).towers.length := by simpa [regionLost] using ht
    obtain ⟨f, hf, hregions, hcache⟩ := regions_failTower hlen
    refine ⟨f h, by rw [hregions, List.getElem?_map, hget]; rfl, (hf h).1.trans hlost, (hf h).2.trans hshort, ?_⟩
    rw [hwCapacity_of_map (fun g => (hf g).1) hregions hcache, hcap]
  next => exact ⟨h, hget, hlost, hshort, hcap⟩

/-- The cycles of the slot that has closed (R69). -/
def withCycles (r cycles : Nat) (x : Tower) : Tower := x.mapRegion r (fun g => { g with cycles := cycles })

/-- A shortfall that is the `run`th in a row (R70). -/
def withShort (r run slot : Nat) (x : Tower) : Tower :=
  { x.mapRegion r (fun g => { g with short := run, shortSlot := slot }) with shortTotal := x.shortTotal + 1 }

/-- R70: a slot that is judged and falls short counts, and the fourth in a row loses the region. -/
theorem shortfall_eq {u : State} {t r cycles run : Nat} {g : Region} (ht : t < u.towers.length) (hr : (u.tower t).regions[r]? = some g)
    (hjudges : (u.tower t).judges g (u.slotClosed t) = true) (hcycles : cycles < 1489)
    (hrun : run = if 0 < g.short ∧ g.follows (u.slotClosed t) then g.short + 1 else 1) :
    u.shortfall t r cycles =
      if 4 ≤ run then ((u.mapTower t (withCycles r cycles)).mapTower t (withShort r run (u.slotClosed t))).loseRegion t r
      else (u.mapTower t (withCycles r cycles)).mapTower t (withShort r run (u.slotClosed t)) := by
  have hjudges' : ((u.mapTower t (withCycles r cycles)).tower t).judges g (u.slotClosed t) = true := by
    rw [State.tower_mapTower _ _ _ _ ht, if_pos rfl]
    exact hjudges
  simp only [State.shortfall, hr, Nat.not_le.mpr hcycles, if_false]
  rw [if_neg (by rw [Bool.not_eq_true, Bool.not_eq_false']; exact hjudges'), hrun]
  rfl

theorem hwCapacity_withShort (r cycles run slot : Nat) (x : Tower) :
    (withShort r run slot (withCycles r cycles x)).hwCapacity = x.hwCapacity := by
  have hactive : (withShort r run slot (withCycles r cycles x)).activeRegions = x.activeRegions := by
    rw [FloorCapacity.activeRegions_eq_countP, FloorCapacity.activeRegions_eq_countP]
    calc (withShort r run slot (withCycles r cycles x)).regions.countP (fun g => g.st != .lost)
        = (withCycles r cycles x).regions.countP (fun g => g.st != .lost) := countP_modAt_same _ r fun _ => rfl
      _ = x.regions.countP (fun g => g.st != .lost) := countP_modAt_same _ r fun _ => rfl
  rw [Tower.hwCapacity, Tower.hwCapacity, hactive]
  rfl

theorem tower_shortfall {u : State} {t r : Nat} (cycles run slot : Nat) (ht : t < u.towers.length) :
    ((u.mapTower t (withCycles r cycles)).mapTower t (withShort r run slot)).tower t
      = withShort r run slot (withCycles r cycles (u.tower t)) := by
  simp [State.tower_mapTower_if, ht]

/-! ## The clauses -/

theorem tileFault_completes :
    ∀ s at_ t r i g u, u = s.advance at_ → (u.tower t).isCache = false → t < u.towers.length → i < 16 →
      (u.tower t).regions[r]? = some g → g.st = .inService → g.faulted.getLsbD i = false → g.subst = none →
      u.losesNow t r g = false → u.towerFalls t = false →
      Completes (.tileFault at_ t r i) s (fun v =>
        (v.tower t).regions[r]? = some { g with st := .spareInUse, faulted := g.faulted ||| (1#17 <<< i),
                                                map := (g.map &&& ~~~(1#17 <<< i)) ||| 0x10000#17, subst := some (i, u.now),
                                                queue := g.queue.filter (fun id =>
                                                  !(u.tower t).running.any (fun c => c.place == some (r, i) && c.id == id)) }
        ∧ (v.tower t).tileFaults = (u.tower t).tileFaults + 1 ∧ v.log.count = u.log.count + 1
        ∧ (∀ c ∈ (v.tower t).running, c.place ≠ some (r, i)) ∧ OtherTowersSame t u v ∧ SameMemory u v) := by
  rintro s at_ t r i g u hu hcache ht hi hr hst hfault hsubst hloses hfalls
  refine .of_telling (fun u => if i < 17 then u.faultTile t r i else u) hu rfl fun sent n => ?_
  rw [if_pos (Nat.lt_succ_of_lt hi), faultTile_of_spare hcache hi hr hst hfault hsubst hloses hfalls]
  have htower : (((((u.mapTower t (withFault r i)).returning t r (fun c => c.place == some (r, i))).mapTower t
      (withSpare r i u.now)).logEv 0x0201 sevLogged t r).mapPair (fun p => { p with sent := sent, sSeqOut := n })).tower t
      = withSpare r i u.now ((withFault r i (u.tower t)).returnChunks (fun c => c.place == some (r, i))) := by
    simp [State.tower_mapTower, tower_returning, ht]
  refine ⟨?region, ?count, ?log, ?chunks, ?others, ?memory⟩
  case region =>
    rw [htower]
    simp [withSpare, withFault, Tower.mapRegion, Tower.returnChunks, hr, List.any_filter]
  case count => rw [htower]; rfl
  case log => simp
  case chunks =>
    rw [htower]
    simp [withSpare, withFault, Tower.mapRegion, Tower.returnChunks]
  case others =>
    exact ((OtherTowersSame.of_modAt rfl).trans (.of_modAt (towers_returning ..))).trans (.of_modAt rfl)
  case memory => exact .of_mem (mem_returning ..)

theorem chunkOverrun_completes :
    ∀ s at_ t id cycles c r i u, u = s.advance at_ → (u.tower t).running.find? (fun k => k.id == id) = some c →
      c.place = some (r, i) → i < 17 → 4 * c.cost < cycles →
      Completes (.chunkOverrun at_ t id cycles) s (fun v => exec (.tileFault at_ t r i) s = .next v) := by
  rintro s at_ t id cycles c r i u rfl hc hplace hi hcost
  refine ⟨_, rfl, ?_⟩
  simp only [State.chunkOverrun, hc, hplace, if_pos hcost]
  exact congrArg Host.Outcome.next (congrArg _ (funext fun s => if_pos hi))

theorem spareSelfTest_completes :
    ∀ s at_ t r g u, u = s.advance at_ → (u.tower t).isCache = false → t < u.towers.length →
      (u.tower t).regions[r]? = some g → g.st = .inService → g.selfTest + 100000000 ≤ u.replica t →
      Completes (.spareSelfTest at_ t r true) s (fun v => (v.tower t).regions[r]? = some { g with selfTest := u.replica t }
        ∧ v.log = u.log ∧ OtherTowersSame t u v) := by
  rintro s at_ t r g u hu hcache ht hr hst htest
  refine .of_effect (·.spareSelfTest t r true) hu rfl ?_
  simp [State.spareSelfTest, hr, hcache, hst, Nat.not_lt.mpr htest, State.tower_mapTower, ht, Tower.mapRegion]
  exact .of_modAt rfl

theorem regionOscillatorStop_completes :
    ∀ s at_ t r g u, u = s.advance at_ → (u.tower t).isCache = false → t < u.towers.length →
      (u.tower t).regions[r]? = some g → g.st ≠ .lost → 1 < (u.tower t).activeRegions → u.towerFalls t = false →
      Completes (.regionOscillatorStop at_ t r) s (fun v =>
        (v.tower t).regions[r]? = some { g with running := false, st := .lost, subst := none,
                                                queue := g.queue.filter (fun id =>
                                                  !(u.tower t).running.any (fun c => c.inRegion r && c.id == id)) }
        ∧ (v.tower t).activeRegions + 1 = (u.tower t).activeRegions ∧ v.log.count = u.log.count + 1
        ∧ (∀ c ∈ (v.tower t).running, c.inRegion r = false)) := by
  rintro s at_ t r g u hu hcache ht hr hst hactive hfalls
  refine .of_telling_after (·.mapTower t (withStop r)) (·.loseRegion t r) hu rfl
    fun sent n => ?_
  have hfalls' := (towerFalls_mapTower (f := withStop r) ht (fun _ => rfl) (fun _ => rfl)).trans hfalls
  have htower : (u.mapTower t (withStop r)).tower t = withStop r (u.tower t) := by simp [State.tower_mapTower, ht]
  have hlen : t < (u.mapTower t (withStop r)).towers.length := by simpa using ht
  have hr' : ((u.mapTower t (withStop r)).tower t).regions[r]? = some { g with running := false } := by
    simp [htower, withStop, Tower.mapRegion, hr]
  have hcount : (withLost r ((withStop r (u.tower t)).returnChunks (fun c => c.inRegion r))).activeRegions + 1
      = (u.tower t).activeRegions :=
    (activeRegions_withLost (g := { g with running := false }) _ (htower ▸ hr') hst).trans (activeRegions_withStop r _)
  have hcap : ((regionLost (u.mapTower t (withStop r)) t r).tower t).floorCapacity ≠ 0 := by
    rw [tower_regionLost r hlen, htower, FloorCapacity.floorCapacity_of_compute (by exact hcache)]
    omega
  rw [loseRegion_eq (g := { g with running := false }) hr' hst hfalls', if_neg hcap]
  have hfinal : ((regionLost (u.mapTower t (withStop r)) t r).mapPair (fun p => { p with sent := sent, sSeqOut := n })).tower t
      = withLost r ((withStop r (u.tower t)).returnChunks (fun c => c.inRegion r)) := by
    rw [State.tower_mapPair, tower_regionLost r hlen, htower]
  refine ⟨?region, hfinal ▸ hcount, ?log, ?chunks⟩
  case region =>
    rw [hfinal]
    simp [withLost, withStop, Tower.mapRegion, Tower.returnChunks, hr, List.any_filter]
  case log => simp [regionLost]
  case chunks =>
    rw [hfinal]
    simp [withLost, withStop, Tower.mapRegion, Tower.returnChunks]

theorem schedulerFault_completes :
    ∀ s at_ t u, u = s.advance at_ → t < 20 → t < u.towers.length → (u.tower t).mode ≠ .failed →
      Completes (.schedulerFault at_ t) s (fun v => (v.tower t).mode = .failed ∧ (v.tower t).fence = true
        ∧ (v.tower t).fenceCause = 5) := by
  rintro s at_ t u hu ht hlen hmode
  refine .of_telling (·.failTower t) hu (congrArg Host.Outcome.next (if_pos ht)) fun sent n => ?_
  simpa using failTower_fences hlen hmode

theorem shortfall_completes :
    ∀ s at_ t r cycles g u, u = s.advance at_ → t < u.towers.length → (u.tower t).regions[r]? = some g →
      (u.tower t).judges g (u.slotClosed t) = true → cycles < 1489 → g.short = 0 →
      Completes (.shortfall at_ t r cycles) s (fun v =>
        (v.tower t).regions[r]? = some { g with cycles := cycles, short := 1, shortSlot := u.slotClosed t }
        ∧ (v.tower t).shortTotal = (u.tower t).shortTotal + 1 ∧ v.log = u.log ∧ OtherTowersSame t u v) := by
  rintro s at_ t r cycles g u hu ht hr hjudges hcycles hshort
  refine .of_telling (·.shortfall t r cycles) hu rfl fun sent n => ?_
  have hrun : 1 = if 0 < g.short ∧ g.follows (u.slotClosed t) then g.short + 1 else 1 := by simp [hshort]
  rw [shortfall_eq ht hr hjudges hcycles hrun, if_neg (by decide)]
  refine ⟨?_, ?_, rfl, (OtherTowersSame.of_modAt rfl).trans (.of_modAt rfl)⟩ <;> rw [State.tower_mapPair, tower_shortfall _ _ _ ht]
  · simp [withShort, withCycles, Tower.mapRegion, hr]
  · rfl

theorem towerFenceWrite_completes :
    ∀ s at_ t u, u = s.advance at_ → t < 20 → t < u.towers.length → u.Serves (towerIndex t 0x08) → (u.tower t).fence = false →
      u.holdsBooked t = false → (u.tower t).group = none →
      Completes (.towerFenceWrite at_ t 1) s (fun v => (v.tower t).fence = true ∧ (v.tower t).fenceCause = 1 ∧ v.AccessDone
        ∧ ((u.tower t).mode = .ready → (v.tower t).mode = .fenced) ∧ OtherTowersSame t u v) := by
  rintro s at_ t u hu ht hlen hserves hfence hbooked hgroup
  refine .of_telling (·.pcieWrite (towerIndex t 0x08) 0x01 (towerFenceProc t 1)) hu (congrArg Host.Outcome.next (if_pos ht))
    fun sent n => ?_
  have hchecked : u.pcieWrite (towerIndex t 0x08) 0x01 (towerFenceProc t 1)
      = ((u.begun false (towerIndex t 0x08) 1).fenceTower t 1).endAccess false (towerIndex t 0x08) 1 0 := by
    rw [State.pcieWrite_served _ _ hserves]
    have hpass : towerFenceProc t 1 (u.begun false (towerIndex t 0x08) 1) = (0, (u.begun false (towerIndex t 0x08) 1).fenceTower t 1) := by
      have hfree : (u.begun false (towerIndex t 0x08) 1).holdsBooked t = false := hbooked
      simp [towerFenceProc, checked, hfree, hgroup, hfence]
    exact congrArg (fun p : Nat × State => p.2.endAccess false (towerIndex t 0x08) 1 p.1) hpass
  rw [hchecked]
  refine ⟨?_, ?_, ?_, ?_, .of_modAt rfl⟩
  · simp [State.fenceTower, State.tower_mapTower_if, hlen]
  · simp [State.fenceTower, State.tower_mapTower_if, hlen]
  · simp [State.AccessDone]
  · intro hready
    simp [State.fenceTower, State.tower_mapTower_if, hlen, hready]

theorem fourthShortfall_completes :
    ∀ (s : State) (at_ t r cycles : Nat) (g : Region) (u : State), u = s.advance at_ → t < u.towers.length →
      (u.tower t).regions[r]? = some g → (u.tower t).judges g (u.slotClosed t) = true → cycles < 1489 → g.short = 3 →
      g.follows (u.slotClosed t) = true → u.towerFalls t = false →
      Completes (.shortfall at_ t r cycles) s (fun v => ∃ h, (v.tower t).regions[r]? = some h ∧ h.st = .lost ∧ h.short = 4
        ∧ (v.tower t).hwCapacity + (if (u.tower t).isCache then 64 else 16) = (u.tower t).hwCapacity) := by
  rintro s at_ t r cycles g u hu ht hr hjudges hcycles hshort hfollows hfalls
  refine .of_telling (·.shortfall t r cycles) hu rfl fun sent n => ?_
  have hst : g.st ≠ .lost := by
    intro h
    simp [Tower.judges, h] at hjudges
  have hrun : 4 = if 0 < g.short ∧ g.follows (u.slotClosed t) then g.short + 1 else 1 := by simp [hshort, hfollows]
  rw [shortfall_eq ht hr hjudges hcycles hrun, if_pos (Nat.le_refl 4), State.tower_mapPair]
  have hlen : t < ((u.mapTower t (withCycles r cycles)).mapTower t (withShort r 4 (u.slotClosed t))).towers.length := by simpa using ht
  have hfalls' : ((u.mapTower t (withCycles r cycles)).mapTower t (withShort r 4 (u.slotClosed t))).towerFalls t = false := by
    rw [towerFalls_mapTower (f := withShort r 4 _) (by simpa using ht) (fun _ => rfl) (fun _ => rfl),
      towerFalls_mapTower (f := withCycles r cycles) ht (fun _ => rfl) (fun _ => rfl), hfalls]
  have hr' : (((u.mapTower t (withCycles r cycles)).mapTower t (withShort r 4 (u.slotClosed t))).tower t).regions[r]?
      = some { g with cycles := cycles, short := 4, shortSlot := u.slotClosed t } := by
    rw [tower_shortfall _ _ _ ht]
    simp [withShort, withCycles, Tower.mapRegion, hr]
  obtain ⟨h, hget, hlost, hfour, hcap⟩ := loseRegion_takes_share hlen hr' hst hfalls'
  refine ⟨h, hget, hlost, hfour, ?_⟩
  rw [tower_shortfall _ _ _ ht, hwCapacity_withShort] at hcap
  exact hcap

/-- Settles O3: each fault's path through its region and its tower is taken apart once, and the clauses read off what it leaves. -/
theorem towerFaultCommandsComplete : Obligations.TowerFaultCommandsComplete :=
  ⟨⟨tileFault_completes, chunkOverrun_completes, spareSelfTest_completes, regionOscillatorStop_completes, schedulerFault_completes,
    shortfall_completes, towerFenceWrite_completes⟩, fourthShortfall_completes⟩

end Sys2Proof.Proofs.TowerFaults

/-!
Coefficient sets and windows (chapters 09 and 10): a set is written to the shadow, armed, committed and verified (R281 to R284); a window
that is applied is in force and reads zero (R290, R291, R319).
-/
namespace Sys2Proof.Proofs.CoefficientSets

open Sys2Proof Sys2Proof.Machine

/-! ## The list of channels -/

/-- The channel stands under this kind and index. -/
def isChannel (kind index : Nat) (c : CalChannel) : Bool := c.kind == kind && c.index == index

theorem isChannel_iff {kind index : Nat} {c : CalChannel} : isChannel kind index c = true ↔ c.kind = kind ∧ c.index = index := by
  simp [isChannel]

/-- A channel is found under its own kind and index. -/
theorem calChannel_kind_index (s : State) (kind index : Nat) :
    (s.calChannel kind index).kind = kind ∧ (s.calChannel kind index).index = index := by
  unfold State.calChannel
  cases h : s.channel? kind index with
  | none => exact ⟨rfl, rfl⟩
  | some c =>
    have hc := List.find?_some h
    rwa [Bool.and_eq_true, beq_iff_eq, beq_iff_eq] at hc

theorem calChannel_putChannel (s : State) (c : CalChannel) (kind index : Nat) :
    (s.putChannel c).calChannel kind index = if (kind, index) = (c.kind, c.index) then c else s.calChannel kind index := by
  have hfind : (s.putChannel c).channel? kind index = if (kind, index) = (c.kind, c.index) then some c else s.channel? kind index := by
    change (insertBy _ c (s.base.cal.filter (fun x => !isChannel c.kind c.index x))).find? (isChannel kind index)
      = if _ then _ else s.base.cal.find? (isChannel kind index)
    split
    next h =>
      cases h
      exact find?_insertBy_filter_self (isChannel_iff.mpr ⟨rfl, rfl⟩)
    next h =>
      have hne : ¬(c.kind = kind ∧ c.index = index) := fun ⟨hkind, hindex⟩ => h (by rw [hkind, hindex])
      refine find?_insertBy_filter_of_ne (by rwa [← Bool.not_eq_true, isChannel_iff]) fun x hx => ?_
      rw [isChannel_iff] at hx
      rw [← Bool.not_eq_true, isChannel_iff, hx.1, hx.2]
      exact fun ⟨hkind, hindex⟩ => hne ⟨hkind.symm, hindex.symm⟩
  unfold State.calChannel
  rw [hfind]
  split <;> rfl

/-! ## What calibration leaves of the channels and of the commit in progress -/

/-- The channels' sets, the commit and what the unit counts of it, and all that the base does not hold, are as before. -/
structure KeepsSets (s t : State) : Prop where
  cal : t.base.cal = s.base.cal
  commitSt : t.base.commitSt = s.base.commitSt
  commitChecks : t.base.commitChecks = s.base.commitChecks
  restoresOk : t.base.restoresOk = s.base.restoresOk
  restoresBad : t.base.restoresBad = s.base.restoresBad
  ident : t.ident = s.ident
  time : t.time = s.time
  mem : t.mem = s.mem
  count : t.log.count = s.log.count

namespace KeepsSets

theorem refl (s : State) : KeepsSets s s := ⟨rfl, rfl, rfl, rfl, rfl, rfl, rfl, rfl, rfl⟩

theorem trans {s t u : State} (h : KeepsSets s t) (h' : KeepsSets t u) : KeepsSets s u :=
  ⟨h'.cal.trans h.cal, h'.commitSt.trans h.commitSt, h'.commitChecks.trans h.commitChecks, h'.restoresOk.trans h.restoresOk,
    h'.restoresBad.trans h.restoresBad, h'.ident.trans h.ident, h'.time.trans h.time, h'.mem.trans h.mem, h'.count.trans h.count⟩

theorem ite {s a b : State} {p : Prop} [Decidable p] (ha : p → KeepsSets s a) (hb : ¬p → KeepsSets s b) :
    KeepsSets s (if p then a else b) := by
  split
  next h => exact ha h
  next h => exact hb h

theorem setPair (s : State) (i j : Nat) (p : Pair) : KeepsSets s (s.setPair i j p) := ⟨rfl, rfl, rfl, rfl, rfl, rfl, rfl, rfl, rfl⟩

theorem raiseEvent (s : State) (c : Nat) : KeepsSets s (s.raiseEvent c) :=
  ⟨rfl, rfl, rfl, rfl, rfl, rfl, rfl, rfl, State.raiseEvent_count s c⟩

theorem putPair (s : State) (i j : Nat) (p : Pair) : KeepsSets s (s.putPair i j p) :=
  .ite (fun _ => .setPair ..) (fun _ => (KeepsSets.setPair ..).trans (.raiseEvent ..))

theorem markLock (s : State) (kind index : Nat) : KeepsSets s (s.markLock kind index) := ⟨rfl, rfl, rfl, rfl, rfl, rfl, rfl, rfl, rfl⟩

theorem mapBank (s : State) (index : Nat) (f : Bank → Bank) : KeepsSets s (s.mapBank index f) :=
  ⟨rfl, rfl, rfl, rfl, rfl, rfl, rfl, rfl, rfl⟩

theorem closeWindow (s : State) (w : Nat) : KeepsSets s (s.closeWindow w) :=
  .ite (fun _ => ⟨rfl, rfl, rfl, rfl, rfl, rfl, rfl, rfl, rfl⟩) (fun _ => .refl _)

theorem returnWavelength (s : State) (i j w : Nat) : KeepsSets s (s.returnWavelength i j w) :=
  .ite (fun _ => .refl _) (fun _ => (((KeepsSets.putPair ..).trans (.markLock ..)).trans (.markLock ..)).trans (.closeWindow ..))

end KeepsSets

theorem calChannel_congr {s t : State} (h : KeepsSets s t) (kind index : Nat) : t.calChannel kind index = s.calChannel kind index := by
  simp only [State.calChannel, State.channel?, h.cal, h.ident]

/-- A channel that is released goes back to service as the last step left it; its wavelength or bank comes back beside it (R279). -/
theorem releaseChannel_keeps (s : State) (kind index : Nat) :
    KeepsSets (s.putChannel { s.calChannel kind index with busy := false }) (s.releaseChannel kind index) :=
  .ite (fun _ => .ite (fun _ => .setPair ..) (fun _ => .returnWavelength ..)) (fun _ => .ite (fun _ => .mapBank ..) (fun _ => .refl _))

theorem activateSet_keeps (s : State) (kind index : Nat) (b : List Byte) :
    KeepsSets (s.putChannel { s.calChannel kind index with active := b, prev := (s.calChannel kind index).active })
      (s.activateSet kind index b) :=
  .ite (fun _ => .mapBank ..) (fun _ => .refl _)

theorem calChannel_releaseChannel (s : State) (kind index : Nat) :
    (s.releaseChannel kind index).calChannel kind index = { s.calChannel kind index with busy := false } := by
  rw [calChannel_congr (releaseChannel_keeps s kind index), calChannel_putChannel, if_pos]
  obtain ⟨hkind, hindex⟩ := calChannel_kind_index s kind index
  simp [hkind, hindex]

theorem calChannel_activateSet (s : State) (kind index : Nat) (b : List Byte) :
    (s.activateSet kind index b).calChannel kind index
      = { s.calChannel kind index with active := b, prev := (s.calChannel kind index).active } := by
  rw [calChannel_congr (activateSet_keeps s kind index b), calChannel_putChannel, if_pos]
  obtain ⟨hkind, hindex⟩ := calChannel_kind_index s kind index
  simp [hkind, hindex]

/-- The channel free of the background step that holds it (R282). -/
def stepAbandoned (s : State) (kind index : Nat) : State :=
  if (s.calChannel kind index).busy then
    (s.releaseChannel kind index).mapBase (fun b => { b with stepsAbandoned := b.stepsAbandoned + 1 })
  else s

theorem calChannel_stepAbandoned (s : State) (kind index : Nat) :
    (stepAbandoned s kind index).calChannel kind index = { s.calChannel kind index with busy := false } := by
  unfold stepAbandoned
  split
  next => exact calChannel_releaseChannel s kind index
  next hbusy => rw [← (Bool.not_eq_true _).mp hbusy]

theorem mem_stepAbandoned (s : State) (kind index : Nat) : (stepAbandoned s kind index).mem = s.mem := by
  unfold stepAbandoned
  split
  next => exact (releaseChannel_keeps s kind index).mem
  next => rfl

theorem time_stepAbandoned (s : State) (kind index : Nat) : (stepAbandoned s kind index).time = s.time := by
  unfold stepAbandoned
  split
  next => exact (releaseChannel_keeps s kind index).time
  next => rfl

/-- The wavelength of the channel out of its pair while the set is applied (R282). -/
def wavelengthOut (s : State) (kind index : Nat) : State :=
  if (kind = 1 ∨ kind = 2) ∧ ringPlane index < 5 then
    if s.pairExists (ringPair kind index).1 (ringPair kind index).2 then
      s.putPair (ringPair kind index).1 (ringPair kind index).2
        { (s.linkPair (ringPair kind index).1 (ringPair kind index).2).leave (sparePlane (ringPair kind index).1 (ringPair kind index).2)
            (ringPlane index) 1 with calibrating := some (ringPlane index) }
    else s
  else s

theorem wavelengthOut_keeps (s : State) (kind index : Nat) : KeepsSets s (wavelengthOut s kind index) :=
  .ite (fun _ => .ite (fun _ => .putPair ..) (fun _ => .refl _)) (fun _ => .refl _)

/-- The module in which a commit applies its set. -/
def readyToApply (s : State) (kind index : Nat) : State := wavelengthOut (stepAbandoned s kind index) kind index

theorem calChannel_readyToApply (s : State) (kind index : Nat) :
    (readyToApply s kind index).calChannel kind index = { s.calChannel kind index with busy := false } :=
  (calChannel_congr (wavelengthOut_keeps ..) kind index).trans (calChannel_stepAbandoned s kind index)

/-- The module after the set is applied, before the commit is noted (R282). -/
def applied (s : State) : State :=
  (readyToApply s s.base.commitKind s.base.commitIndex).activateSet s.base.commitKind s.base.commitIndex
    (((readyToApply s s.base.commitKind s.base.commitIndex).calChannel s.base.commitKind s.base.commitIndex).shadow.getD [])

theorem applyCommit_eq (s : State) : s.applyCommit = ((applied s).mapBase (fun b =>
    { b with commitSt := 2, appliedTick := (applied s).now
             commitChecks := b.commitChecks.filter (· != (s.base.commitKind, s.base.commitIndex))
               ++ [(s.base.commitKind, s.base.commitIndex)] })).raiseVector 0 := rfl

/-- R282: the shadow set of the channel is active, and the set before it stands as the previous one. -/
theorem calChannel_applied (s : State) : (applied s).calChannel s.base.commitKind s.base.commitIndex =
    { s.calChannel s.base.commitKind s.base.commitIndex with
      busy := false, active := (s.calChannel s.base.commitKind s.base.commitIndex).shadow.getD []
      prev := (s.calChannel s.base.commitKind s.base.commitIndex).active } := by
  rw [applied, calChannel_activateSet, calChannel_readyToApply]

theorem mem_applied (s : State) : (applied s).mem = s.mem :=
  ((activateSet_keeps ..).mem.trans (wavelengthOut_keeps ..).mem).trans (mem_stepAbandoned ..)

theorem now_applied (s : State) : (applied s).now = s.now :=
  congrArg TimeSt.tally (((activateSet_keeps ..).time.trans (wavelengthOut_keeps ..).time).trans (time_stepAbandoned ..))

/-! ## The clauses -/

theorem shadowSetWrite_completes :
    ∀ s at_ b kind index u, u = s.advance at_ → u.Serves 0x8400 → u.calWindow = (kind, index) → b.length = setLength kind →
      leAt b 28 4 = setCrc b → leAt b 0 4 = u.ident.bind → setReserved kind b = false → u.channelAbsent kind index = false →
      u.base.commitSt ≠ 1 → leAt b 4 1 = kind → leAt b 8 4 = index →
      Completes (.shadowSetWrite at_ b) s (fun t => t.calChannel kind index = { u.calChannel kind index with shadow := some b }
        ∧ (∀ k i, (k, i) ≠ (kind, index) → t.calChannel k i = u.calChannel k i)
        ∧ t.base = { u.base with cal := t.base.cal } ∧ t.AccessDone) := by
  rintro s at_ b kind index u hu hserves hwindow hlen hcrc hbind hreserved habsent hst hkind hindex
  refine .of_checked hu rfl hserves (by unfold shadowProc; rfl) ?pass ?_
  case pass =>
    have ha : (u.begun false 0x8400 5).channelAbsent kind index = false := habsent
    simp [hwindow, hlen, hcrc, hbind, hreserved, ha, hst, hkind, hindex]
  obtain ⟨hk, hi⟩ := calChannel_kind_index u kind index
  have hput : ∀ k i, (((u.begun false 0x8400 5).putChannel { u.calChannel kind index with shadow := some b }).endAccess
      false 0x8400 5 0).calChannel k i
      = if (k, i) = (kind, index) then { u.calChannel kind index with shadow := some b } else u.calChannel k i := by
    intro k i
    refine (calChannel_putChannel (u.begun false 0x8400 5) _ k i).trans ?_
    rw [hk, hi]
    rfl
  rw [State.begun_calWindow, hwindow]
  refine ⟨?own, ?others, ?base, by simp [State.AccessDone]⟩
  case own => exact (hput kind index).trans (if_pos rfl)
  case others => exact fun k i hne => (hput k i).trans (if_neg hne)
  case base => simp [State.putChannel]

theorem commitArm_completes :
    ∀ s at_ tick kind index u, u = s.advance at_ → u.Serves 0x8400 → u.now + 10000 ≤ tick → u.base.commitSt ≠ 1 →
      u.calWindow = (kind, index) → (u.calChannel kind index).shadow.isSome = true →
      Completes (.commitArm at_ tick) s (fun t => t.AccessDone
        ∧ t.base = { u.base with commitTick := tick, commitSt := 1, commitKind := kind, commitIndex := index }) := by
  rintro s at_ tick kind index u hu hserves htick hst hwindow hshadow
  refine .of_checked hu rfl hserves (by unfold commitArmProc; rfl) ?pass ⟨by simp [State.AccessDone], ?_⟩
  case pass =>
    have hc : ((u.begun false 0x8400 6).calChannel kind index).shadow.isNone = false := by
      simpa [State.calChannel, State.channel?] using hshadow
    simp [hwindow, hc, hst, Nat.not_lt.mpr htick]
  simp [hwindow]

theorem coefficientCommit_completes :
    ∀ s at_ u, u = s.advance at_ → u.commitReady = true →
      Completes (.coefficientCommit at_) s (fun t => t.base.commitSt = 2 ∧ t.base.appliedTick = u.now
        ∧ some (t.calChannel u.base.commitKind u.base.commitIndex).active = (u.calChannel u.base.commitKind u.base.commitIndex).shadow
        ∧ (t.calChannel u.base.commitKind u.base.commitIndex).prev = (u.calChannel u.base.commitKind u.base.commitIndex).active
        ∧ (u.base.commitKind, u.base.commitIndex) ∈ t.base.commitChecks ∧ t.log.vecP.getLsbD 0 = true ∧ SameMemory u t) := by
  rintro s at_ u hu hready
  refine .of_effect (fun u => if u.commitReady then u.applyCommit else u) hu rfl ?_
  have hsome : (u.calChannel u.base.commitKind u.base.commitIndex).shadow.isSome = true := by
    simp only [State.commitReady, Bool.and_eq_true] at hready
    exact hready.1.2
  obtain ⟨b, hb⟩ := Option.isSome_iff_exists.mp hsome
  have hchannel := calChannel_applied u
  rw [hb] at hchannel
  rw [if_pos hready, applyCommit_eq]
  refine ⟨rfl, now_applied u, ?active, congrArg CalChannel.prev hchannel, by simp, State.vecP_raiseVector _ (by decide),
    .of_mem (mem_applied u)⟩
  case active => rw [hb]; exact congrArg (fun c : CalChannel => some c.active) hchannel

theorem commitVerify_completes :
    ∀ s at_ kind index rest u, u = s.advance at_ → u.base.commitChecks = (kind, index) :: rest →
      Completes (.commitVerify at_ true) s (fun t => t.base.restoresOk = u.base.restoresOk + 1 ∧ t.base.commitChecks = rest
        ∧ (t.calChannel kind index).busy = false ∧ (t.calChannel kind index).active = (u.calChannel kind index).active) := by
  rintro s at_ kind index rest u hu hchecks
  refine .of_effect (·.verifyCommit true) hu rfl ?_
  simp only [State.verifyCommit, hchecks, if_true]
  have hkeeps := releaseChannel_keeps (u.mapBase (fun b => { b with commitChecks := rest })) kind index
  have hchannel := calChannel_releaseChannel (u.mapBase (fun b => { b with commitChecks := rest })) kind index
  have hbusy := congrArg CalChannel.busy hchannel
  have hactive := congrArg CalChannel.active hchannel
  exact ⟨congrArg (· + 1) hkeeps.restoresOk, hkeeps.commitChecks, hbusy, hactive⟩

theorem commitVerify_completes_of_fail :
    ∀ s at_ kind index rest u, u = s.advance at_ → u.base.commitChecks = (kind, index) :: rest →
      Completes (.commitVerify at_ false) s (fun t => t.base.restoresBad = u.base.restoresBad + 1 ∧ t.base.commitChecks = rest
        ∧ t.base.commitSt = (if u.base.commitSt = 1 then 1 else 3)
        ∧ (t.calChannel kind index).active = (u.calChannel kind index).prev ∧ t.log.count = u.log.count + 1) := by
  rintro s at_ kind index rest u hu hchecks
  refine .of_effect (·.verifyCommit false) hu rfl ?_
  simp only [State.verifyCommit, hchecks, Bool.false_eq_true, if_false]
  have hset := activateSet_keeps (u.mapBase (fun b => { b with commitChecks := rest })) kind index (u.calChannel kind index).prev
  have hkeeps := releaseChannel_keeps
    ((u.mapBase (fun b => { b with commitChecks := rest })).activateSet kind index (u.calChannel kind index).prev) kind index
  have hactive : ((((u.mapBase (fun b => { b with commitChecks := rest })).activateSet kind index
      (u.calChannel kind index).prev).releaseChannel kind index).calChannel kind index).active = (u.calChannel kind index).prev := by
    rw [calChannel_releaseChannel, calChannel_activateSet]
  have hbad := congrArg (· + 1) (hkeeps.restoresBad.trans hset.restoresBad)
  have hst := congrArg (fun n => if n = 1 then 1 else 3) (hkeeps.commitSt.trans hset.commitSt)
  have hcount := congrArg (· + 1) (hkeeps.count.trans hset.count)
  exact ⟨hbad, hkeeps.commitChecks.trans hset.commitChecks, hst, hactive,
    ((State.raiseVector_count ..).trans (State.logEv_count ..)).trans hcount⟩

/-- The window stands under this EID and space. -/
def isWindow (eid space : Nat) (w : Window) : Bool := w.eid == eid && w.space == space

theorem isWindow_iff {eid space : Nat} {w : Window} : isWindow eid space w = true ↔ w.eid = eid ∧ w.space = space := by
  simp [isWindow]

/-- The module before an applied window is in force: the bytes of the windows it replaces are cleared, their parked keys dropped (R291). -/
def windowDropped (s : State) (w : Window) : State :=
  if (s.mem.windows.filter (fun x => x.eid == w.eid && x.space == w.space)).any (·.park) then
    ((s.mem.windows.filter (fun x => x.eid == w.eid && x.space == w.space)).foldl (fun s x => s.clearWindow x) s).dropParked w.eid
  else (s.mem.windows.filter (fun x => x.eid == w.eid && x.space == w.space)).foldl (fun s x => s.clearWindow x) s

theorem windows_clearWindow (s : State) (w : Window) : (s.clearWindow w).mem.windows = s.mem.windows := by
  simp only [State.clearWindow, State.mapMem_mem]
  split <;> rfl

theorem windows_dropParked (s : State) (eid : Nat) : (s.dropParked eid).mem.windows = s.mem.windows :=
  foldl_keeps (fun t : State => t.mem.windows = s.mem.windows) (fun (s : State) (k : Nat × Nat) => s.keyUnref kindModel k.1 k.2)
    (s.mem.parkedKeys eid) s rfl (fun _ _ _ h => h)

theorem windows_windowDropped (s : State) (w : Window) : (windowDropped s w).mem.windows = s.mem.windows := by
  have hfold : ((s.mem.windows.filter (fun x => x.eid == w.eid && x.space == w.space)).foldl (fun s x => s.clearWindow x) s).mem.windows
      = s.mem.windows :=
    foldl_keeps (fun t => t.mem.windows = s.mem.windows) _ _ s rfl (fun t x _ h => (windows_clearWindow t x).trans h)
  unfold windowDropped
  split
  · refine Eq.trans ?_ hfold
    exact windows_dropParked _ _
  · exact hfold

/-- The order of the windows in force: by EID, then by space. -/
def windowBefore (a b : Window) : Bool := decide (a.eid < b.eid) || (decide (a.eid = b.eid) && decide (a.space < b.space))

theorem applyWindow_eq (s : State) {w : Window} (hlen : 0 < w.len) : s.applyWindow w =
    (((windowDropped s w).mapMem (fun m =>
        { m with windows := m.windows.filter (fun x => !isWindow w.eid w.space x) })).clearWindow w).mapMem (fun m =>
      { m with windows := insertBy windowBefore w m.windows }) :=
  if_neg (Nat.ne_of_gt hlen)

theorem windows_applyWindow (s : State) {w : Window} (hlen : 0 < w.len) : (s.applyWindow w).mem.windows =
    insertBy windowBefore w (s.mem.windows.filter (fun x => !isWindow w.eid w.space x)) := by
  rw [applyWindow_eq s hlen, State.mapMem_mem, windows_clearWindow, State.mapMem_mem, windows_windowDropped]

theorem window?_applyWindow_self (s : State) {w : Window} (hlen : 0 < w.len) : (s.applyWindow w).window? w.eid w.space = some w := by
  rw [State.window?, windows_applyWindow s hlen]
  exact find?_insertBy_filter_self (p := isWindow w.eid w.space) (isWindow_iff.mpr ⟨rfl, rfl⟩)

theorem window?_applyWindow_of_ne (s : State) {w : Window} (hlen : 0 < w.len) {eid space : Nat}
    (hne : ¬(eid = w.eid ∧ space = w.space)) : (s.applyWindow w).window? eid space = s.window? eid space := by
  rw [State.window?, windows_applyWindow s hlen]
  refine find?_insertBy_filter_of_ne (p := isWindow eid space) ?_ fun x hx => ?_
  · rw [← Bool.not_eq_true, isWindow_iff]
    exact fun ⟨heid, hspace⟩ => hne ⟨heid.symm, hspace.symm⟩
  · rw [isWindow_iff] at hx
    rwa [← Bool.not_eq_true, isWindow_iff, hx.1, hx.2]

/-- R319: every byte of a window of bonded SRAM reads zero once it is applied. -/
theorem memByte_applyWindow (s : State) {w : Window} (hlen : 0 < w.len) (hspace : w.space ≠ 2) {b : Nat} (hb : b < w.len * 65536) :
    (s.applyWindow w).memByte (sramKey w.tower w.base b) = 0 := by
  rw [applyWindow_eq s hlen]
  simp only [State.memByte, State.mapMem_mem, State.clearWindow, hspace, if_false, MemSt.clear, cellGet_cellClear]
  refine if_pos ⟨?_, ?_⟩ <;> unfold sramKey <;> omega

theorem applyWindow_completes :
    ∀ s at_ u k w, u = s.advance at_ → u.Serves 0x6001 → u.eidSite (u.held 0x600101 0x20) = some k → w = u.windowHeld k →
      (∀ p ∈ u.pkgs, p.uses w.eid = false) → (∀ x ∈ u.mem.windows, ¬(x.eid = w.eid ∧ x.space = w.space) → w.overlaps x = false) →
      0 < w.len → w.base + w.len ≤ poolPages k w.space → (w.space = 1 ∨ w.space = 2 ∨ w.space = 5) → (w.space = 5 → w.frames ≠ 0) →
      (w.space = 2 → w.frames = 0) → (w.park = true → w.space = 2) →
      (∀ x ∈ (u.tower k).withdrawnPages, ¬(x.1 = (if w.space = 2 then 2 else 1) ∧ w.base ≤ x.2 ∧ x.2 < w.base + w.len)) →
      Completes (.applyWindow at_ 1) s (fun t => t.window? w.eid w.space = some w ∧ t.AccessDone
        ∧ (w.space ≠ 2 → ∀ b, b < w.len * 65536 → t.memByte (sramKey k w.base b) = 0)
        ∧ (∀ eid space, ¬(eid = w.eid ∧ space = w.space) → t.window? eid space = u.window? eid space)) := by
  rintro s at_ u k w hu hserves hsite hw hpkgs hoverlap hlen hpages hspace hframes hnoframes hpark hwithdrawn
  refine .of_telling (·.pcieWrite 0x6001 0x07 (applyWindowProc 1)) hu rfl fun sent n => ?_
  have heid : u.held 0x600101 0x20 = w.eid := by rw [hw]; rfl
  have hsite' : (u.begun false 0x6001 7).eidSite w.eid = some k := heid ▸ hsite
  have hwin : (u.begun false 0x6001 7).windowHeld k = w := by simp [State.windowHeld, hw]
  rw [State.pcieWrite_checked hserves (by unfold applyWindowProc; rfl) ?pass]
  case pass =>
    have hfree : (u.pkgs.any fun p => p.uses w.eid) = false := by simpa using hpkgs
    have hclear : (u.mem.windows.any fun x => !(x.eid == w.eid && x.space == w.space) && w.overlaps x) = false := by
      simp only [List.any_eq_false, Bool.and_eq_true, Bool.not_eq_true', not_and, Bool.not_eq_true]
      exact fun x hx hne => hoverlap x hx (by simpa [← Bool.not_eq_true] using hne)
    have hpresent : ((u.tower k).withdrawnPages.any fun x =>
        x.1 == (if w.space = 2 then 2 else 1) && decide (w.base ≤ x.2) && decide (x.2 < w.base + w.len)) = false := by
      simpa [and_assoc] using hwithdrawn
    simp only [State.begun_held, heid, hsite', Option.getD_some, hwin, State.begun_pkgs, hfree, State.begun_mem, hclear, State.tower_begun,
      hpresent, Nat.not_lt.mpr hpages]
    have hbacked : (w.space == 1 || w.space == 2 || w.space == 5) = true := by simpa [or_assoc] using hspace
    have hkv : (w.space == 5 && w.frames == 0 || w.space == 2 && w.frames != 0) = false := by
      simpa [← Bool.not_eq_true] using ⟨hframes, hnoframes⟩
    have hparked : (w.park && w.space != 2) = false := by simpa [← Bool.not_eq_true] using hpark
    simp [hbacked, hkv, hparked]
  simp only [State.begun_held, heid, hsite', Option.getD_some, hwin, decide_true, if_true]
  have htower : w.tower = k := by rw [hw]; rfl
  refine ⟨?window, by simp [State.AccessDone], ?zero, ?others⟩
  case window => exact window?_applyWindow_self _ hlen
  case zero =>
    intro hne b hb
    rw [← htower]
    exact memByte_applyWindow _ hlen hne hb
  case others => exact fun eid space hne => window?_applyWindow_of_ne _ hlen hne

/-- Settles O29: the channel is followed through the steps of its commit, and the window through the list that it joins. -/
theorem restoreAndApplyComplete : Obligations.RestoreAndApplyComplete :=
  ⟨⟨shadowSetWrite_completes, commitArm_completes, coefficientCommit_completes, commitVerify_completes,
    commitVerify_completes_of_fail⟩, applyWindow_completes⟩

end Sys2Proof.Proofs.CoefficientSets

/-!
Bulk traffic of the on-die networks (chapter 07): a packet acts under the bank that it carries once it has come out of its buffer (R230,
R247); reads answer with what their checks leave (R194, R316, R317, R320), writes are written and acknowledged (R205), fenced writes change
nothing (R246, R251).
-/
namespace Sys2Proof.Proofs.BulkTraffic

open Sys2Proof Sys2Proof.Machine

/-! ## A packet on its way (R230, R247) -/

/-- The module with these buffers and streams of its interfaces. -/
def carrying (s : State) (rxs : KV LineRx) (lines : KV Line) : State := { s with rxs := rxs, lines := lines }

/-- The module with this routing bank active. -/
def inBank (s : State) (b : Bool) : State := s.mapBase (fun x => { x with activeB := b })

theorem handOff_eq (s : State) (i k : Nat) (p : Carried → Bool) : ∃ rxs lines, s.handOff i k p = carrying s rxs lines
    ∧ ∀ b, (inBank s b).handOff i k p = carrying (inBank s b) rxs lines := by
  unfold State.handOff
  cases h : (s.rx i k).buffer.find? p with
  | none => exact ⟨s.rxs, s.lines, rfl, fun b => by rw [show ((inBank s b).rx i k).buffer.find? p = none from h]; rfl⟩
  | some c => exact ⟨_, _, rfl, fun b => by rw [show ((inBank s b).rx i k).buffer.find? p = some c from h]; rfl⟩

/-- A packet acts on the module as it has landed, with the bank active that it carries; then the module's own bank is active again. -/
theorem arriving_eq {s : State} {at_ : Nat} {site : Option Nat} {p : Packet} (f : State → State) {u v : State}
    (hu : u = s.landed at_ site p) (hv : v = s.forPacket at_ p) (hcross : Crosses v site p) :
    ∃ a rxs lines, a = s.advance at_ ∧ v = inBank a p.tepoch ∧ u = carrying a rxs lines
      ∧ a.arriving site p f = inBank (f (carrying v rxs lines)) a.base.activeB := by
  subst hu hv
  refine ⟨s.advance at_, ?_⟩
  simp only [Crosses] at hcross
  unfold State.arriving State.underBank State.landed
  cases hk : site.or ((s.forPacket at_ p).eidSite p.dst) with
  | none =>
    refine ⟨(s.advance at_).rxs, (s.advance at_).lines, rfl, rfl, rfl, ?_⟩
    rw [State.forPacket] at hk
    simp only [hk]
    rfl
  | some k =>
    cases hi : (s.forPacket at_ p).eidSite p.src with
    | none =>
      refine ⟨(s.advance at_).rxs, (s.advance at_).lines, rfl, rfl, rfl, ?_⟩
      rw [State.forPacket] at hk hi
      simp only [hk, hi]
      rfl
    | some i =>
      obtain ⟨rxs, lines, hown, hbank⟩ := handOff_eq (s.advance at_) i k (Carried.isPacket p)
      have hpair : (s.forPacket at_ p).pairFailed i k = false := hcross k (by rw [hk]; rfl) i hi
      refine ⟨rxs, lines, rfl, rfl, hown, ?_⟩
      have hf := congrArg f (hbank p.tepoch)
      rw [State.forPacket] at hk hi hpair
      simp only [hk, hi, hpair, Bool.false_eq_true, if_false]
      exact congrArg (inBank · (s.advance at_).base.activeB) hf

theorem completes_of_arriving {c : Instr} {s u v : State} {at_ : Nat} {site : Option Nat} {p : Packet} {P : State → Prop}
    (f : State → State) (hu : u = s.landed at_ site p) (hv : v = s.forPacket at_ p) (hcross : Crosses v site p)
    (hexec : exec c s = .next ((s.advance at_).arriving site p f))
    (h : ∀ a rxs lines, v = inBank a p.tepoch → u = carrying a rxs lines → P (inBank (f (carrying v rxs lines)) a.base.activeB)) :
    Completes c s P := by
  obtain ⟨a, rxs, lines, rfl, hva, hua, harrive⟩ := arriving_eq f hu hv hcross
  exact ⟨_, hexec, harrive ▸ h _ rxs lines hva hua⟩

/-- A packet that reaches memory acts at its key (R251, R289). -/
theorem bulkArrives_of_reaches {v : State} {p : Packet} {key : Nat} (h : ReachesMemory v p key) (rxs : KV LineRx) (lines : KV Line)
    (go : Nat → Nat → State) : ∃ k, v.eidSite p.dst = some k ∧ (carrying v rxs lines).bulkArrives p go = go k key := by
  obtain ⟨hsite, hfence, hspace, hpark, hkv, hkey⟩ := h
  obtain ⟨k, hk⟩ := Option.isSome_iff_exists.mp hsite
  rw [hk, Option.getD_some] at hfence
  refine ⟨k, hk, ?_⟩
  have hk' : (carrying v rxs lines).eidSite p.dst = some k := hk
  have hfence' : (carrying v rxs lines).siteFenced k = false := hfence
  have hpark' : (carrying v rxs lines).parked p = false := hpark
  have hkv' : (carrying v rxs lines).kvRefused p = false := hkv
  have hkey' : (carrying v rxs lines).locateAddr p.addr = .key key := hkey
  simp only [State.bulkArrives, hk', hfence', State.reachMemory, hspace, hpark', hkv', hkey', Bool.false_and, Bool.not_true, Bool.or_self,
    Bool.false_eq_true, if_false]

/-! ## What a check of words finds (R316, R317, R320) -/

section Carrying
variable (s : State) (rxs : KV LineRx) (lines : KV Line)

theorem carrying_ite {c : Prop} [Decidable c] (s t : State) :
    carrying (if c then s else t) rxs lines = if c then carrying s rxs lines else carrying t rxs lines :=
  apply_ite (carrying · rxs lines) c s t

@[simp] theorem mem_carrying : (carrying s rxs lines).mem = s.mem := rfl
@[simp] theorem now_carrying : (carrying s rxs lines).now = s.now := rfl
@[simp] theorem keyPlace_carrying (key : Nat) : (carrying s rxs lines).keyPlace key = s.keyPlace key := rfl
@[simp] theorem carrying_mapMem (f : MemSt → MemSt) : (carrying s rxs lines).mapMem f = carrying (s.mapMem f) rxs lines := rfl
@[simp] theorem carrying_mapTower (k : Nat) (f : Tower → Tower) :
    (carrying s rxs lines).mapTower k f = carrying (s.mapTower k f) rxs lines := rfl
@[simp] theorem carrying_mapStack (k : Nat) (f : Stack → Stack) :
    (carrying s rxs lines).mapStack k f = carrying (s.mapStack k f) rxs lines := rfl
@[simp] theorem carrying_logEv (code sev unit loc arg0 arg1 : Nat) :
    (carrying s rxs lines).logEv code sev unit loc arg0 arg1 = carrying (s.logEv code sev unit loc arg0 arg1) rxs lines := rfl

@[simp] theorem carrying_eccRecord (r : EccRec) : (carrying s rxs lines).eccRecord r = carrying (s.eccRecord r) rxs lines := by
  cases hc : eccCopy r.event <;>
    simp only [State.eccRecord, hc, mem_carrying, now_carrying, carrying_mapMem, carrying_logEv, carrying_ite] <;>
    rfl

/-- What the buffers of the interfaces hold has no part in a check. -/
theorem carrying_finds (base n found : Nat) (f : WordFind) :
    (carrying s rxs lines).finds base n found f = carrying (s.finds base n found f) rxs lines := by
  have hcorrected : ∀ key n, (carrying s rxs lines).corrected key n found = carrying (s.corrected key n found) rxs lines := by
    intro key n
    by_cases harray : (s.keyPlace key).array = 3 <;>
      simp only [State.corrected, keyPlace_carrying, harray, if_true, if_false, carrying_mapStack, carrying_mapTower, now_carrying,
        carrying_eccRecord]
  have huncorrectable : ∀ key, (carrying s rxs lines).uncorrectable key found = carrying (s.uncorrectable key found) rxs lines := by
    intro key
    by_cases harray : (s.keyPlace key).array = 3 <;>
      simp only [State.uncorrectable, keyPlace_carrying, harray, if_true, if_false, carrying_mapMem, carrying_mapStack, carrying_mapTower,
        mem_carrying, now_carrying, carrying_eccRecord, carrying_ite]
  cases hf : f.what <;>
    simp only [State.finds, hf, State.validDisagrees, hcorrected, huncorrectable, mem_carrying, now_carrying, keyPlace_carrying,
      carrying_mapMem, carrying_mapTower, carrying_eccRecord, carrying_ite]

theorem carrying_readFinds (base n found : Nat) (l : List WordFind) :
    (carrying s rxs lines).readFinds base n found l = carrying (s.readFinds base n found l) rxs lines := by
  induction l generalizing s with
  | nil => rfl
  | cons f l ih =>
    have hstep : ∀ t : State, t.readFinds base n found (f :: l) = (t.finds base n found f).readFinds base n found l := fun _ => rfl
    rw [hstep, hstep, carrying_finds, ih]

end Carrying

/-- A check of words sends nothing and leaves the base alone. -/
def ChecksOnly (s t : State) : Prop := t.base = s.base ∧ t.net = s.net ∧ t.inbox = s.inbox

theorem checksOnly_eccRecord (s : State) (r : EccRec) : ChecksOnly s (s.eccRecord r) := by
  unfold State.eccRecord
  dsimp only
  split
  · exact ⟨rfl, rfl, rfl⟩
  · split <;> exact ⟨rfl, rfl, rfl⟩

theorem checksOnly_finds (s : State) (base n found : Nat) (f : WordFind) : ChecksOnly s (s.finds base n found f) := by
  have hcorrected : ∀ key n, ChecksOnly s (s.corrected key n found) := by
    intro key n
    unfold State.corrected
    dsimp only
    split <;> exact checksOnly_eccRecord ..
  have huncorrectable : ∀ key, ChecksOnly s (s.uncorrectable key found) := by
    intro key
    unfold State.uncorrectable
    dsimp only
    split
    · exact ⟨rfl, rfl, rfl⟩
    · split <;> exact checksOnly_eccRecord ..
  unfold State.finds
  dsimp only
  split
  · exact ⟨rfl, rfl, rfl⟩
  · split
    · exact checksOnly_eccRecord ..
    · split
      · exact ⟨rfl, rfl, rfl⟩
      · split
        · exact hcorrected ..
        · exact huncorrectable ..
    · split
      · exact ⟨rfl, rfl, rfl⟩
      · exact hcorrected ..

theorem poison_cells_eccRecord (s : State) (r : EccRec) :
    (s.eccRecord r).mem.poison = s.mem.poison ∧ (s.eccRecord r).mem.cells = s.mem.cells := by
  unfold State.eccRecord
  dsimp only
  split
  · exact ⟨rfl, rfl⟩
  · split <;> exact ⟨rfl, rfl⟩

/-- Three symbols or more that differ in a word written poison it; its bytes stand as they stood (R317, R320). -/
theorem finds_uncorrectable {v : State} {base n off k found : Nat} (hoff : off < n) (hk : 3 ≤ k)
    (hvalid : v.mem.isValid (base + off) = true) :
    poisonKey (base + off) ∈ (v.readFinds base n found [⟨off, .symbols k⟩]).mem.poison
      ∧ (v.readFinds base n found [⟨off, .symbols k⟩]).mem.cells = v.mem.cells := by
  change _ ∈ (v.finds base n found ⟨off, .symbols k⟩).mem.poison ∧ (v.finds base n found ⟨off, .symbols k⟩).mem.cells = _
  have hk0 : k ≠ 0 := by omega
  have hk2 : ¬k ≤ 2 := by omega
  simp only [State.finds, Nat.not_le.mpr hoff, if_false, hvalid, Bool.true_eq_false, hk0, hk2, false_or, or_false]
  split
  next hpoisoned => exact ⟨List.contains_iff_mem.mp hpoisoned, rfl⟩
  next hclean =>
    simp only [State.uncorrectable, hclean, Bool.false_eq_true, if_false]
    split <;> rw [(poison_cells_eccRecord _ _).1, (poison_cells_eccRecord _ _).2] <;>
      exact ⟨RegionBarrier.mem_insertNat.mpr (.inl rfl), rfl⟩

theorem checksOnly_readFinds (s : State) (base n found : Nat) (l : List WordFind) : ChecksOnly s (s.readFinds base n found l) :=
  foldl_keeps (ChecksOnly s) _ l s ⟨rfl, rfl, rfl⟩ fun t f _ ⟨hbase, hnet, hinbox⟩ =>
    let ⟨hbase', hnet', hinbox'⟩ := checksOnly_finds t base n found f
    ⟨hbase'.trans hbase, hnet'.trans hnet, hinbox'.trans hinbox⟩

/-! ## Replies -/

/-- A reply leaves from the site that the packet reached, back to the one it came from. -/
theorem reply_eq {v : State} {p : Packet} {k : Nat} (hk : v.eidSite p.dst = some k) (rxs : KV LineRx) (lines : KV Line) (type : Nat)
    (data : List Byte) : (carrying v rxs lines).reply p type p.dst data = (carrying v rxs lines).sendBulk ((v.eidSite p.dst).getD 20)
      (v.eidSite p.src) (mkPacket v.base.activeB { type, src := p.dst, dst := p.src, addr := p.addr, tag := p.tag } data) := by
  have hk' : (carrying v rxs lines).eidSite p.dst = some k := hk
  rw [State.reply, hk', Option.or_some, hk]
  rfl

/-- The bank under which a packet is sent has no part in where it leaves from. -/
theorem inBank_sendBulk (a : State) (b : Bool) (rxs : KV LineRx) (lines : KV Line) (site : Nat) (dst : Option Nat) (q : Packet) :
    inBank ((carrying (inBank a b) rxs lines).sendBulk site dst q) a.base.activeB = (carrying a rxs lines).sendBulk site dst q := by
  cases dst <;> rfl

@[simp] theorem net_reply (s : State) (p : Packet) (type src : Nat) (data : List Byte) : (s.reply p type src data).net =
    s.net ++ [mkPacket s.base.activeB { type, src, dst := p.src, addr := p.addr, tag := p.tag } data] := rfl

@[simp] theorem mem_reply (s : State) (p : Packet) (type src : Nat) (data : List Byte) : (s.reply p type src data).mem = s.mem := rfl

/-- A read answers with what its checks leave of the words (R194, R320). -/
theorem readRequest_eq {v : State} {p : Packet} {key : Nat} (h : ReachesMemory v p key) (rxs : KV LineRx) (lines : KV Line)
    (finds : List WordFind) : (carrying v rxs lines).readRequest p finds =
      if (v.readFinds key (64 * p.len) 0 finds).mem.poisoned key (64 * p.len) then
        (if v.mem.poisoned key (64 * p.len) then (carrying (v.readFinds key (64 * p.len) 0 finds) rxs lines).poisonRead key
         else carrying (v.readFinds key (64 * p.len) 0 finds) rxs lines).replyPoison p
      else (carrying (v.readFinds key (64 * p.len) 0 finds) rxs lines).reply p 2 p.dst
        ((v.readFinds key (64 * p.len) 0 finds).readMem key (64 * p.len)) := by
  obtain ⟨k, -, hgo⟩ := bulkArrives_of_reaches h rxs lines fun _ key =>
    if ((carrying v rxs lines).readFinds key (64 * p.len) 0 finds).mem.poisoned key (64 * p.len) then
      (if (carrying v rxs lines).mem.poisoned key (64 * p.len) then
        ((carrying v rxs lines).readFinds key (64 * p.len) 0 finds).poisonRead key
       else (carrying v rxs lines).readFinds key (64 * p.len) 0 finds).replyPoison p
    else ((carrying v rxs lines).readFinds key (64 * p.len) 0 finds).reply p 2 p.dst
      (((carrying v rxs lines).readFinds key (64 * p.len) 0 finds).readMem key (64 * p.len))
  refine Eq.trans hgo ?_
  simp only [carrying_readFinds, mem_carrying]
  rfl

theorem mem_readRequest {v : State} {p : Packet} {key : Nat} (h : ReachesMemory v p key) (rxs : KV LineRx) (lines : KV Line)
    (finds : List WordFind) : ((carrying v rxs lines).readRequest p finds).mem = (v.readFinds key (64 * p.len) 0 finds).mem := by
  rw [readRequest_eq h]
  generalize v.readFinds key (64 * p.len) 0 finds = w
  split
  · split <;> rfl
  · rfl

/-- A write acts once the words that it covers in part are checked (R194, R320). -/
theorem writePacket_eq {v : State} {p : Packet} {key : Nat} (h : ReachesMemory v p key) (rxs : KV LineRx) (lines : KV Line)
    (finds : List WordFind) : (carrying v rxs lines).writePacket p finds =
      ((carrying (if 32 ≤ key / 2 ^ 40 ∧ key / 2 ^ 40 < 64 ∧ p.data.length < 1024 then v.readFinds (key / 1024 * 1024) 1024 2 finds else v)
        rxs lines).writeMem key p.data).reply p 4 p.dst [] := by
  obtain ⟨k, -, hgo⟩ := bulkArrives_of_reaches h rxs lines fun _ key =>
    ((if 32 ≤ key / 2 ^ 40 ∧ key / 2 ^ 40 < 64 ∧ p.data.length < 1024 then (carrying v rxs lines).readFinds (key / 1024 * 1024) 1024 2 finds
      else carrying v rxs lines).writeMem key p.data).reply p 4 p.dst []
  refine Eq.trans hgo ?_
  rw [carrying_readFinds, ← carrying_ite]

/-! ## The clauses -/

theorem readRequest_completes :
    ∀ s at_ p u v key, u = s.landed at_ none p → v = s.forPacket at_ p → Crosses v none p → ReachesMemory v p key →
      u.mem.poisoned key (64 * p.len) = false →
      Completes (.readRequest at_ p []) s (fun t => t = u.sendBulk ((v.eidSite p.dst).getD 20) (v.eidSite p.src)
        (mkPacket p.tepoch { type := 2, src := p.dst, dst := p.src, addr := p.addr, tag := p.tag } (u.readMem key (64 * p.len)))) := by
  rintro s at_ p u v key hu hv hcross hreach hpoison
  refine completes_of_arriving (·.readRequest p []) hu hv hcross rfl fun a rxs lines hva hua => ?_
  obtain ⟨k, hk⟩ := Option.isSome_iff_exists.mp hreach.1
  subst hva hua
  rw [readRequest_eq hreach, if_neg (by rw [Bool.not_eq_true]; exact hpoison)]
  exact (congrArg (inBank · a.base.activeB) (reply_eq hk rxs lines 2 _)).trans (inBank_sendBulk ..)

theorem readRequest_completes_of_finds :
    ∀ s at_ p finds u v key w, u = s.landed at_ none p → v = s.forPacket at_ p → w = v.readFinds key (64 * p.len) 0 finds →
      Crosses v none p → ReachesMemory v p key →
      Completes (.readRequest at_ p finds) s (fun t => t.mem = w.mem ∧ t.net = u.net ++
        [if w.mem.poisoned key (64 * p.len) then
           mkPacket p.tepoch { type := 7, src := p.dst, dst := p.src, addr := p.addr, tag := p.tag } []
         else mkPacket p.tepoch { type := 2, src := p.dst, dst := p.src, addr := p.addr, tag := p.tag } (w.readMem key (64 * p.len))]) := by
  rintro s at_ p finds u v key w hu hv hw hcross hreach
  refine completes_of_arriving (·.readRequest p finds) hu hv hcross rfl fun a rxs lines hva hua => ?_
  obtain ⟨hbase, hnet, -⟩ := checksOnly_readFinds v key (64 * p.len) 0 finds
  rw [← hw] at hbase hnet
  have hbank : w.base.activeB = p.tepoch := by rw [hbase, hva]; rfl
  have hsent : w.net = u.net := by rw [hnet, hva, hua]; rfl
  rw [readRequest_eq hreach, ← hw]
  split
  next hpoison =>
    have hanswer : ∀ x : State, x.mem = w.mem → x.net = w.net → x.base = w.base → (inBank (x.replyPoison p) a.base.activeB).mem = w.mem
        ∧ (inBank (x.replyPoison p) a.base.activeB).net
          = u.net ++ [mkPacket p.tepoch { type := 7, src := p.dst, dst := p.src, addr := p.addr, tag := p.tag } []] := by
      intro x hmem hxnet hxbase
      refine ⟨hmem, ?_⟩
      rw [← hsent, ← hxnet, ← hbank, ← hxbase]
      rfl
    split <;> exact hanswer _ rfl rfl rfl
  next hclean =>
    refine ⟨rfl, ?_⟩
    rw [← hsent, ← hbank]
    rfl

theorem readRequest_poisons :
    ∀ s at_ p off n u v key, u = s.landed at_ none p → v = s.forPacket at_ p → Crosses v none p → ReachesMemory v p key →
      off < 64 * p.len → 3 ≤ n → u.mem.isValid (key + off) = true →
      Completes (.readRequest at_ p [⟨off, .symbols n⟩]) s (fun t => poisonKey (key + off) ∈ t.mem.poison ∧ SameMemory u t) := by
  rintro s at_ p off n u v key hu hv hcross hreach hoff hn hvalid
  refine completes_of_arriving (·.readRequest p [⟨off, .symbols n⟩]) hu hv hcross rfl fun a rxs lines hva hua => ?_
  have hvalid' : v.mem.isValid (key + off) = true := by rw [hva]; rw [hua] at hvalid; exact hvalid
  obtain ⟨hpoison, hcells⟩ := finds_uncorrectable (found := 0) hoff hn hvalid'
  have hmem : ∀ x : State, x.mem = (v.readFinds key (64 * p.len) 0 [⟨off, .symbols n⟩]).mem →
      poisonKey (key + off) ∈ x.mem.poison ∧ SameMemory u x := by
    intro x hx
    refine ⟨by rw [hx]; exact hpoison, .of_cells ?_⟩
    rw [hx, hua]
    exact hcells.trans (by rw [hva]; rfl)
  exact hmem _ (mem_readRequest hreach rxs lines _)

theorem write_completes :
    ∀ s at_ p u v key, u = s.landed at_ none p → v = s.forPacket at_ p → Crosses v none p → ReachesMemory v p key →
      Completes (.write at_ ⟨p, []⟩) s (fun t => Wrote u t key p.data
        ∧ t = { u.sendBulk ((v.eidSite p.dst).getD 20) (v.eidSite p.src)
                  (mkPacket p.tepoch { type := 4, src := p.dst, dst := p.src, addr := p.addr, tag := p.tag } []) with mem := t.mem }) := by
  rintro s at_ p u v key hu hv hcross hreach
  refine completes_of_arriving (·.writePacket p []) hu hv hcross rfl fun a rxs lines hva hua => ?_
  obtain ⟨k, hk⟩ := Option.isSome_iff_exists.mp hreach.1
  have hnone :
      (if 32 ≤ key / 2 ^ 40 ∧ key / 2 ^ 40 < 64 ∧ p.data.length < 1024 then v.readFinds (key / 1024 * 1024) 1024 2 [] else v) = v :=
    ite_self v
  rw [writePacket_eq hreach, hnone]
  have hreply := reply_eq (v := v.writeMem key p.data) (p := p) (k := k) hk rxs lines 4 []
  subst hva hua
  exact ⟨State.wrote_writeMem (carrying a rxs lines) key p.data,
    (congrArg (inBank · a.base.activeB) hreply).trans (inBank_sendBulk (a.writeMem key p.data) p.tepoch rxs lines _ _ _)⟩

theorem write_completes_of_finds :
    ∀ s at_ p finds u v key w, u = s.landed at_ none p → v = s.forPacket at_ p →
      w = (if 32 ≤ key / 2 ^ 40 ∧ key / 2 ^ 40 < 64 ∧ p.data.length < 1024 then v.readFinds (key / 1024 * 1024) 1024 2 finds else v) →
      Crosses v none p → ReachesMemory v p key →
      Completes (.write at_ ⟨p, finds⟩) s (fun t => Wrote w t key p.data
        ∧ t.net = u.net ++ [mkPacket p.tepoch { type := 4, src := p.dst, dst := p.src, addr := p.addr, tag := p.tag } []]) := by
  rintro s at_ p finds u v key w hu hv hw hcross hreach
  refine completes_of_arriving (·.writePacket p finds) hu hv hcross rfl fun a rxs lines hva hua => ?_
  have honly : ChecksOnly v w := by
    rw [hw]
    split
    · exact checksOnly_readFinds ..
    · exact ⟨rfl, rfl, rfl⟩
  obtain ⟨hbase, hnet, -⟩ := honly
  have hbank : w.base.activeB = p.tepoch := by rw [hbase, hva]; rfl
  have hsent : w.net = u.net := by rw [hnet, hva, hua]; rfl
  rw [writePacket_eq hreach, ← hw]
  refine ⟨State.wrote_writeMem w key p.data, ?_⟩
  rw [← hsent, ← hbank]
  rfl

theorem readResponse_completes :
    ∀ s at_ p u v k, u = s.landed at_ none p → v = s.forPacket at_ p → Crosses v none p → v.eidSite p.dst = some k →
      v.siteFenced k = false → Completes (.readResponse at_ p) s (fun t => t = { u with inbox := u.inbox ++ [p] }) := by
  rintro s at_ p u v k hu hv hcross hk hfence
  refine completes_of_arriving (·.responseArrives p) hu hv hcross rfl fun a rxs lines hva hua => ?_
  have hk' : (carrying v rxs lines).eidSite p.dst = some k := hk
  have hfence' : (carrying v rxs lines).siteFenced k = false := hfence
  simp only [State.responseArrives, hk', hfence', Bool.false_and, Bool.false_eq_true, if_false]
  rw [hva, hua]
  rfl

theorem write_completes_of_fenced :
    ∀ s at_ p finds u v, u = s.landed at_ none p → v = s.forPacket at_ p → Crosses v none p →
      (∀ k ∈ v.eidSite p.dst, v.siteFenced k = true ∧ p.mgmt k = false) →
      Completes (.write at_ ⟨p, finds⟩) s (fun t => SameMemory u t ∧ t.net = u.net ++
        [mkPacket p.tepoch { type := 8, src := p.dst, dst := p.src, addr := p.addr, tag := p.tag } []]) := by
  rintro s at_ p finds u v hu hv hcross hfenced
  refine completes_of_arriving (·.writePacket p finds) hu hv hcross rfl fun a rxs lines hva hua => ?_
  have hsent : ∀ x : State, x.mem = u.mem → x.net = u.net → x.base.activeB = p.tepoch →
      SameMemory u (inBank (x.replyFenced p p.dst) a.base.activeB) ∧ (inBank (x.replyFenced p p.dst) a.base.activeB).net = u.net ++
        [mkPacket p.tepoch { type := 8, src := p.dst, dst := p.src, addr := p.addr, tag := p.tag } []] := by
    intro x hmem hnet hbank
    refine ⟨.of_mem hmem, ?_⟩
    rw [← hnet, ← hbank]
    rfl
  have hmem : v.mem = u.mem := by rw [hva, hua]; rfl
  have hnet : v.net = u.net := by rw [hva, hua]; rfl
  have hbank : v.base.activeB = p.tepoch := by rw [hva]; rfl
  unfold State.writePacket State.bulkArrives
  cases hk : v.eidSite p.dst with
  | none =>
    have hk' : (carrying v rxs lines).eidSite p.dst = none := hk
    simp only [hk']
    exact hsent _ hmem hnet hbank
  | some k =>
    obtain ⟨hfence, hmgmt⟩ := hfenced k hk
    have hk' : (carrying v rxs lines).eidSite p.dst = some k := hk
    have hfence' : (carrying v rxs lines).siteFenced k = true := hfence
    simp only [hk', hfence', hmgmt, Bool.not_false, Bool.and_self, if_true]
    exact hsent _ hmem hnet hbank

/-- Settles O19: the packet's path to memory is followed once, and each clause is what the packet does there. -/
theorem bulkReadsAndWrites : Obligations.BulkReadsAndWrites :=
  ⟨⟨readRequest_completes, readRequest_completes_of_finds, readRequest_poisons, write_completes, write_completes_of_finds,
    readResponse_completes⟩, write_completes_of_fenced⟩

end Sys2Proof.Proofs.BulkTraffic

/-!
The routing switch (chapter 08): armed for a tick, happening, drained, and refused with the code of the first check that fails (R248, R249).
-/
namespace Sys2Proof.Proofs.RoutingSwitch

open Sys2Proof Sys2Proof.Machine

theorem routingSwitchArm_completes :
    ∀ s at_ tick u, u = s.advance at_ → u.Serves 0x5100 → u.now + 100000 ≤ tick → u.base.switchSt = 0 → u.routingConflict = false →
      Completes (.routingSwitchArm at_ tick) s (fun t => t.base = { u.base with switchTick := tick, switchSt := 1 } ∧ t.AccessDone) := by
  intro s at_ tick u hu hserves htick hst hconflict
  have hfree : (u.begun false 0x5100 5).routingConflict = false := hconflict
  refine .of_checked hu rfl hserves rfl ?_ ⟨rfl, by simp [State.AccessDone]⟩
  simp [firstAbort, hst, hfree, Nat.not_lt.mpr htick]

theorem routingSwitch_completes :
    ∀ s at_ u, u = s.advance at_ → u.base.switchSt = 1 → u.base.switchTick ≤ u.now →
      Completes (.routingSwitch at_) s (fun t => t = { u with base := { u.base with activeB := !u.base.activeB, switchSt := 2 } }) :=
  fun _ _ _ hu hst htick => .of_effect State.routingSwitch hu rfl (if_pos ⟨hst, htick⟩)

theorem oldBankDrained_completes :
    ∀ s at_ u, u = s.advance at_ → u.base.switchSt = 2 → (∀ k, k < 23 → u.drainCount k = 0) →
      Completes (.oldBankDrained at_) s (fun t => t = { u with base := { u.base with switchSt := 0 } }) :=
  fun _ _ _ hu hst hdrained => .of_effect State.bankDrained hu rfl (if_pos ⟨hst, by simpa using hdrained⟩)

/-- Once copied, an entry reads the same in both banks: R245's fixed entries stand in neither. -/
theorem routingEntry_copied {t u : State} (hident : t.ident = u.ident)
    (hA : t.base.bankA = if u.base.activeB then u.base.bankB else u.base.bankA)
    (hB : t.base.bankB = if u.base.activeB then u.base.bankB else u.base.bankA) (b : Bool) (e : Nat) :
    t.routingEntry b e = u.routingEntry u.base.activeB e := by
  unfold State.routingEntry State.siteMask
  rw [hident, hA, hB, ite_self]

theorem copyActiveToInactive_completes :
    ∀ s at_ u, u = s.advance at_ → u.Serves 0x5100 → u.base.switchSt ≠ 2 →
      Completes (.copyActiveToInactive at_ 1) s (fun t => t.AccessDone ∧ ∀ e, t.routingEntry true e = u.routingEntry u.base.activeB e
        ∧ t.routingEntry false e = u.routingEntry u.base.activeB e) := by
  intro s at_ u hu hserves hst
  refine .of_checked hu rfl hserves rfl (by simp [firstAbort, hst]) ⟨by simp [State.AccessDone], fun e => ?_⟩
  constructor <;>
  · refine routingEntry_copied (u := u) ?_ ?_ ?_ _ e
    · rfl
    · exact apply_ite BaseSt.bankA ..
    · exact apply_ite BaseSt.bankB ..

theorem routingSwitchArm_refused :
    ∀ s at_ tick u, u = s.advance at_ → u.Serves 0x5100 →
      (tick < u.now + 100000 → Completes (.routingSwitchArm at_ tick) s (fun t => t.AccessAborted 0x05510007 ∧ t = { u with dict := t.dict }))
      ∧ (u.now + 100000 ≤ tick → u.base.switchSt = 1 →
          Completes (.routingSwitchArm at_ tick) s (fun t => t.AccessAborted 0x05510003 ∧ t = { u with dict := t.dict }))
      ∧ (u.now + 100000 ≤ tick → u.base.switchSt = 2 →
          Completes (.routingSwitchArm at_ tick) s (fun t => t.AccessAborted 0x05510008 ∧ t = { u with dict := t.dict })) := by
  intro s at_ tick u hu hserves
  have hrefused : ∀ code, code ≠ 0 →
      firstAbort [(decide (tick < u.now + 100000), stateAbort 0x5100 7), (decide (u.base.switchSt = 1), stateAbort 0x5100 3),
        (decide (u.base.switchSt = 2), stateAbort 0x5100 8), ((u.begun false 0x5100 5).routingConflict, stateAbort 0x5100 5)] = code →
      Completes (.routingSwitchArm at_ tick) s (fun t => t.AccessAborted code ∧ t = { u with dict := t.dict }) :=
    fun code hne hcode => .of_refused hu rfl hserves rfl hcode hne ⟨State.endAccess_aborted _ _ _ _ _ hne, rfl⟩
  refine ⟨fun hnear => hrefused _ (by decide) ?_, fun htick hst => hrefused _ (by decide) ?_, fun htick hst => hrefused _ (by decide) ?_⟩
  · simp [firstAbort, hnear, stateAbort]
  · simp [firstAbort, hst, stateAbort, Nat.not_lt.mpr htick]
  · simp [firstAbort, hst, stateAbort, Nat.not_lt.mpr htick]

/-- Settles O26: each command is its effect on the routing fields, and a switch that cannot be armed fails the first check that refuses
it (R248, R249). -/
theorem routingSwitchCommandsComplete : Obligations.RoutingSwitchCommandsComplete :=
  ⟨⟨routingSwitchArm_completes, routingSwitch_completes, oldBankDrained_completes, copyActiveToInactive_completes⟩,
    routingSwitchArm_refused⟩

end Sys2Proof.Proofs.RoutingSwitch

/-!
The test access port (chapter 20): what each instruction loads (R537, R538, Tables BR-7 and BR-8).
-/
namespace Sys2Proof.Proofs.TestPort

open Sys2Proof Sys2Proof.Machine

/-- The port as an instruction finds it: out of Test-Logic-Reset a session begins (R537). -/
theorem wake_eq (t : TapSt) : t.wake = { t with reset := false, sessions := t.sessions + (if t.reset then 1 else 0) } := by
  unfold TapSt.wake
  split
  next => rfl
  next h => rw [← (Bool.not_eq_true _).mp h]; rfl

theorem load_eq (t : TapSt) (code : BitVec 8) (dr : Nat) :
    t.load code dr = { t with ir := code, dr, reset := false, sessions := t.sessions + (if t.reset then 1 else 0) } := by
  rw [TapSt.load, wake_eq]

theorem refuse_eq (t : TapSt) (code : BitVec 8) : t.refuse code =
    { t with ir := 0xFF, dr := 0, refused := code, reset := false, sessions := t.sessions + (if t.reset then 1 else 0) } := by
  rw [TapSt.refuse, load_eq]

theorem tapOpen_eq (s : State) (code : BitVec 8) :
    s.tapOpen code = { s with tap := s.tap.load code (Config.freeValue s.freeCtr).toNat, freeCtr := s.freeCtr + 1 } := rfl

section
variable {s u : State} {at_ : Nat} (hu : u = s.advance at_)
include hu

theorem bypass_completes :
    Completes (.bypass at_) s (fun t => t = { u with tap := { u.tap with
      ir := 0xFF, dr := 0, reset := false, sessions := u.tap.sessions + (if u.tap.reset then 1 else 0) } }) :=
  .of_effect (fun u => u.mapTap (fun t => t.load 0xFF 0)) hu rfl (by rw [State.mapTap, load_eq])

theorem idcode_completes :
    Completes (.idcode at_) s (fun t => t = { u with tap := { u.tap with
      ir := 0x01, dr := u.ident.idcode, reset := false, sessions := u.tap.sessions + (if u.tap.reset then 1 else 0) } }) :=
  .of_effect (fun u => u.mapTap (fun t => t.load 0x01 u.ident.idcode)) hu (by simp [exec, execIdcode]) (by rw [State.mapTap, load_eq])

theorem testLogicReset_completes :
    Completes (.testLogicReset at_) s (fun t => t = { u with tap := { u.tap with ir := 0x01, dr := 0, segments := 0, reset := true } }) :=
  .of_effect (fun u => u.mapTap (fun t => { t with ir := 0x01, dr := 0, segments := 0, reset := true })) hu rfl rfl

/-- What the port captures of the pins or of the status is a free value. -/
theorem capture_completes :
    ∀ code c, (code, c) ∈ [(0x02#8, Instr.samplePreload at_), (0x11#8, .testStatus at_)] →
    Completes c s (fun t => ∃ dr, t = { u with
      tap := { u.tap with ir := code, dr := dr, reset := false, sessions := u.tap.sessions + (if u.tap.reset then 1 else 0) }
      freeCtr := u.freeCtr + 1 }) := by
  intro code c hc
  have hopen : exec c s = .next ((s.advance at_).tapOpen code) := by
    simp only [List.mem_cons, Prod.mk.injEq, List.not_mem_nil, or_false] at hc
    obtain ⟨rfl, rfl⟩ | ⟨rfl, rfl⟩ := hc <;> rfl
  exact .of_effect (fun u => u.tapOpen code) hu hopen ⟨_, by rw [tapOpen_eq, load_eq]⟩

/-- R538: EXTEST, CLAMP and HIGHZ take the pins where they are free, and are refused otherwise. -/
theorem exec_pins (code : BitVec 8) (c : Instr)
    (hc : (code, c) ∈ [(0x03#8, Instr.extest at_), (0x04#8, .clamp at_), (0x05#8, .highz at_)]) :
    (u.pinsFree = true → exec c s = .next (u.tapOpen code) ∨ exec c s = .next (u.mapTap (fun t => t.load code 0)))
    ∧ (u.pinsFree = false → exec c s = .next (u.mapTap (fun t => t.refuse code))) := by
  subst hu
  simp only [List.mem_cons, Prod.mk.injEq, List.not_mem_nil, or_false] at hc
  obtain ⟨rfl, rfl⟩ | ⟨rfl, rfl⟩ | ⟨rfl, rfl⟩ := hc
  · exact ⟨fun h => .inl (by simp [exec, execExtest, h]), fun h => by simp [exec, execExtest, h]⟩
  · exact ⟨fun h => .inr (by simp [exec, execClamp, h]), fun h => by simp [exec, execClamp, h]⟩
  · exact ⟨fun h => .inr (by simp [exec, execHighz, h]), fun h => by simp [exec, execHighz, h]⟩

theorem pins_completes :
    ∀ code c, (code, c) ∈ [(0x03#8, Instr.extest at_), (0x04#8, .clamp at_), (0x05#8, .highz at_)] →
    (u.pinsFree = true → Completes c s (fun t => t.tap.ir = code ∧ t.tap.refused = u.tap.refused ∧ t.tap.segments = u.tap.segments
      ∧ t = { u with tap := t.tap, freeCtr := t.freeCtr }))
    ∧ (u.pinsFree = false → Completes c s (fun t => t = { u with tap := { u.tap with
      ir := 0xFF, dr := 0, refused := code, reset := false, sessions := u.tap.sessions + (if u.tap.reset then 1 else 0) } })) := by
  intro code c hc
  obtain ⟨hfree, hused⟩ := exec_pins hu code c hc
  refine ⟨fun h => ?_, fun h => ⟨_, hused h, by rw [State.mapTap, refuse_eq]⟩⟩
  obtain hopen | hload := hfree h
  · exact ⟨_, hopen, by simp only [tapOpen_eq, load_eq, and_self]⟩
  · exact ⟨_, hload, by simp only [State.mapTap, load_eq, and_self]⟩

/-- R538: the insertion holds or not whatever the port loads. -/
theorem segsel_eq (bits : BitVec 40) : ∃ dr, exec (.segsel at_ bits) s = .next { u with tap := { u.tap with
    ir := 0x10, dr, reset := false, sessions := u.tap.sessions + (if u.tap.reset then 1 else 0)
    segments := if bits &&& 0x7FFFFFFFFF#40 = 0 ∨ u.insertionHolds (bits &&& 0x7FFFFFFFFF#40) then bits &&& 0x7FFFFFFFFF#40
      else u.tap.segments } } := by
  subst hu
  refine ⟨(s.advance at_).tap.segments.toNat, ?_⟩
  simp only [exec, execSegsel, State.mapTap, load_eq]

theorem segsel_inserted :
    ∀ bits, u.insertionHolds (bits &&& 0x7FFFFFFFFF#40) = true → Completes (.segsel at_ bits) s (fun t =>
    t.tap.ir = 0x10 ∧ t.tap.segments = bits &&& 0x7FFFFFFFFF#40 ∧ t.inserted = t.tap.segments ∧ t = { u with tap := t.tap }) := by
  intro bits h
  obtain ⟨dr, hexec⟩ := segsel_eq hu bits
  rw [if_pos (.inr h)] at hexec
  exact ⟨_, hexec, rfl, rfl, if_pos h, rfl⟩

theorem segsel_refused :
    ∀ bits, u.insertionHolds (bits &&& 0x7FFFFFFFFF#40) = false → bits &&& 0x7FFFFFFFFF#40 ≠ 0 →
    Completes (.segsel at_ bits) s (fun t => t.tap.ir = 0x10 ∧ t.tap.segments = u.tap.segments ∧ t = { u with tap := t.tap }) := by
  intro bits h hbits
  obtain ⟨dr, hexec⟩ := segsel_eq hu bits
  rw [if_neg (by rw [h]; exact fun hz => hz.elim hbits Bool.false_ne_true)] at hexec
  exact ⟨_, hexec, rfl, rfl, rfl⟩

end

/-- Settles O53: each instruction is what it loads into the port, and an insertion that does not hold leaves the segments (R538). -/
theorem testPortCommandsComplete : Obligations.TestPortCommandsComplete := by
  rintro s at_ u n hu rfl
  exact ⟨bypass_completes hu, idcode_completes hu, capture_completes hu, pins_completes hu, segsel_inserted hu, segsel_refused hu,
    testLogicReset_completes hu⟩

end Sys2Proof.Proofs.TestPort

/-!
Vertical channels (chapter 10): bursts resent, wires replaced, channels narrowed, clocks and retiming changed (R293, R296 to R302).
-/
namespace Sys2Proof.Proofs.VerticalChannels

open Sys2Proof Sys2Proof.Machine

theorem channel_mapChannel (x : Tower) (l c : Nat) (f : Channel → Channel) : (x.mapChannel l c f).channel l c = f (x.channel l c) := by
  simp only [Tower.channel, Tower.mapChannel, kvGet_kvMod, if_true]

/-- The module with channel `c` of layer `l` of tower `t` changed. -/
def onChannel (s : State) (t l c : Nat) (f : Channel → Channel) : State := s.mapTower t (fun x => x.mapChannel l c f)

section
variable (s : State) (t l c : Nat) (f : Channel → Channel)

@[simp] theorem length_towers_onChannel : (onChannel s t l c f).towers.length = s.towers.length := by simp [onChannel]

@[simp] theorem log_onChannel : (onChannel s t l c f).log = s.log := rfl

theorem onChannel_others : OtherTowersSame t s (onChannel s t l c f) := .of_modAt rfl

theorem sameMemory_onChannel : SameMemory s (onChannel s t l c f) := .of_mem rfl

end

theorem channel_onChannel {s : State} {t : Nat} (ht : t < s.towers.length) (l c : Nat) (f : Channel → Channel) :
    ((onChannel s t l c f).tower t).channel l c = f ((s.tower t).channel l c) := by
  rw [onChannel, State.tower_mapTower _ _ _ _ ht, if_pos rfl, channel_mapChannel]

/-! ## A channel that narrows (R301, R302) -/

/-- The channel with one wire more failed, as each failure of a wire leaves it first. -/
def failedOnce (s : State) (t l c : Nat) : State := onChannel s t l c (fun k => { k with failed := k.failed + 1 })

/-- What becomes of a channel that narrows to `width` wires. -/
def narrowed (width : Nat) (k : Channel) : Channel := { k with width, gen := (k.gen + 1) % 65536, attempts := 0 }

theorem narrow_eq (s : State) (t l c width : Nat) : s.narrow t l c width
    = ((onChannel s t l c (narrowed width)).logEv (if width = 0 then 0x0603 else 0x0602) sevCapacity t (channelLoc l c)).raiseEvent 2 := rfl

theorem narrow_count (s : State) (t l c width : Nat) : (s.narrow t l c width).log.count = s.log.count + 1 := by
  rw [narrow_eq, State.raiseEvent_count, State.logEv_count, log_onChannel]

theorem narrow_others (s : State) (t l c width : Nat) : OtherTowersSame t s (s.narrow t l c width) := .of_modAt rfl

theorem channel_narrow {s : State} {t : Nat} (ht : t < s.towers.length) (l c width : Nat) :
    ((s.narrow t l c width).tower t).channel l c = narrowed width ((s.tower t).channel l c) := by
  rw [narrow_eq, State.tower_raiseEvent, State.tower_logEv, channel_onChannel ht]

/-! ## The failure of a wire, of which no sampled fault of the tower is the cause -/

section WireFails
variable {s : State} {t l c wire : Nat} (ht : t < 20) (hhas : (s.tower t).hasChannel l c = true) (hwire : wire < 1056)
  (hfalls : s.towerFalls t = false)
include ht hhas hwire hfalls

/-- R297: a spare wire takes the failed one's place. -/
theorem wireFails_spare (trains : Bool) (hwidth : ((s.tower t).channel l c).width = 1024)
    (hspares : ((s.tower t).channel l c).spares.length < 32) : s.wireFails t l c wire trains
      = (onChannel (failedOnce s t l c) t l c (fun k =>
          { k with spares := k.spares ++ [wire], gen := (k.gen + 1) % 65536, attempts := 0 })).logEv 0x0601 sevLogged t (channelLoc l c) := by
  simp only [State.wireFails, hhas, hfalls, hwidth, hspares]
  simp only [Nat.not_le.mpr ht, Nat.not_le.mpr hwire, Bool.not_true, Bool.false_eq_true, or_self, if_false, and_self, if_true,
    Nat.reduceEqDiff]
  rfl

/-- R301, R302: without a spare the channel narrows to half its width, or is out. -/
theorem wireFails_narrow {trains : Bool} {width : Nat} (hwidth : ((s.tower t).channel l c).width ≠ 0)
    (hspares : 32 ≤ ((s.tower t).channel l c).spares.length)
    (hto : trains = false ∧ width = 0
      ∨ trains = true ∧ width = 512 ∧ ((s.tower t).channel l c).width = 1024 ∧ ((s.tower t).channel l c).failed < 544) :
    s.wireFails t l c wire trains = (failedOnce s t l c).narrow t l c width := by
  have hfull : ¬(((s.tower t).channel l c).width = 1024 ∧ ((s.tower t).channel l c).spares.length < 32) := fun h =>
    Nat.not_le.mpr h.2 hspares
  simp only [State.wireFails, hhas, hfalls, hwidth, hfull]
  simp only [Nat.not_le.mpr ht, Nat.not_le.mpr hwire, Bool.not_true, Bool.false_eq_true, or_self, if_false]
  obtain ⟨rfl, rfl⟩ | ⟨rfl, rfl, h1024, hfailed⟩ := hto
  · simp only [Bool.not_false, true_or, if_true]; rfl
  · simp only [Bool.not_true, Bool.false_eq_true, Nat.not_lt.mpr (Nat.succ_le_of_lt hfailed), or_self, if_false, h1024, if_true]; rfl

end WireFails

section Clauses
variable {s u : State} {at_ t l c : Nat} (hu : u = s.advance at_) (ht : t < 20) (htowers : t < u.towers.length)
  (hhas : (u.tower t).hasChannel l c = true)
include hu htowers

/-- R296: a burst that fails its check is sent again. -/
theorem burstRetry_completes (ht : t < 20) (hhas : (u.tower t).hasChannel l c = true) (good : Bool)
    (hattempts : ((u.tower t).channel l c).attempts < 4) (hwidth : ((u.tower t).channel l c).width ≠ 0) :
    Completes (.burstRetry at_ t l c good) s (fun v => (v.tower t).channel l c = { (u.tower t).channel l c with
        retries := ((u.tower t).channel l c).retries + 1, attempts := if good then 0 else ((u.tower t).channel l c).attempts + 1 }
      ∧ v.log = u.log ∧ OtherTowersSame t u v ∧ SameMemory u v) := by
  have heq : u.burstRetry t l c good
      = onChannel u t l c (fun k => { k with retries := k.retries + 1, attempts := if good then 0 else k.attempts + 1 }) :=
    if_neg (by simp [hhas, hwidth, Nat.not_le.mpr ht, Nat.not_le.mpr hattempts])
  refine .of_effect (fun u => u.burstRetry t l c good) hu rfl ?_
  rw [heq, channel_onChannel htowers]
  exact ⟨rfl, rfl, onChannel_others _ _ _ _ _, sameMemory_onChannel _ _ _ _ _⟩

theorem wireFailure_spare (ht : t < 20) (hhas : (u.tower t).hasChannel l c = true) (wire : Nat) (ok : Bool) (hwire : wire < 1056)
    (hfalls : u.towerFalls t = false) (hwidth : ((u.tower t).channel l c).width = 1024)
    (hspares : ((u.tower t).channel l c).spares.length < 32) :
    Completes (.wireFailure at_ t l c wire ok) s (fun v => (v.tower t).channel l c = { (u.tower t).channel l c with
        failed := ((u.tower t).channel l c).failed + 1, spares := ((u.tower t).channel l c).spares ++ [wire]
        gen := (((u.tower t).channel l c).gen + 1) % 65536, attempts := 0 }
      ∧ v.log.count = u.log.count + 1 ∧ OtherTowersSame t u v ∧ SameMemory u v) := by
  refine .of_telling (fun u => u.wireFails t l c wire ok) hu rfl fun sent n => ?_
  rw [wireFails_spare ht hhas hwire hfalls ok hwidth hspares]
  refine ⟨?_, ?_, ?_, .of_mem rfl⟩
  · rw [State.tower_mapPair, State.tower_logEv, channel_onChannel (by simpa [failedOnce] using htowers), failedOnce, channel_onChannel htowers]
  · exact State.logEv_count ..
  · exact (onChannel_others _ _ _ _ _).trans ((onChannel_others _ _ _ _ _).trans (.of_towers rfl))

theorem wireFailure_halves (ht : t < 20) (hhas : (u.tower t).hasChannel l c = true) (wire : Nat) (hwire : wire < 1056)
    (hfalls : u.towerFalls t = false) (hwidth : ((u.tower t).channel l c).width = 1024)
    (hspares : 32 ≤ ((u.tower t).channel l c).spares.length) (hfailed : ((u.tower t).channel l c).failed < 544) :
    Completes (.wireFailure at_ t l c wire true) s (fun v => ((v.tower t).channel l c).width = 512
      ∧ ((v.tower t).channel l c).gen = (((u.tower t).channel l c).gen + 1) % 65536 ∧ v.log.count = u.log.count + 1
      ∧ OtherTowersSame t u v) := by
  refine .of_telling (fun u => u.wireFails t l c wire true) hu rfl fun sent n => ?_
  rw [wireFails_narrow ht hhas hwire hfalls (by rw [hwidth]; decide) hspares (.inr ⟨rfl, rfl, hwidth, hfailed⟩), State.tower_mapPair,
    channel_narrow (by simpa [failedOnce] using htowers), failedOnce, channel_onChannel htowers]
  refine ⟨rfl, rfl, narrow_count .., ?_⟩
  exact (onChannel_others _ _ _ _ _).trans ((narrow_others _ _ _ _ _).trans (.of_towers rfl))

theorem wireFailure_out (ht : t < 20) (hhas : (u.tower t).hasChannel l c = true) (wire : Nat) (hwire : wire < 1056)
    (hfalls : u.towerFalls t = false) (hwidth : ((u.tower t).channel l c).width ≠ 0)
    (hspares : 32 ≤ ((u.tower t).channel l c).spares.length) :
    Completes (.wireFailure at_ t l c wire false) s (fun v => ((v.tower t).channel l c).width = 0 ∧ v.log.count = u.log.count + 1) := by
  refine .of_telling (fun u => u.wireFails t l c wire false) hu rfl fun sent n => ?_
  rw [wireFails_narrow ht hhas hwire hfalls hwidth hspares (.inl ⟨rfl, rfl⟩), State.tower_mapPair,
    channel_narrow (by simpa [failedOnce] using htowers)]
  exact ⟨rfl, narrow_count ..⟩

/-- R293: the regions that a lost region's oscillator clocked go over to its neighbour's. -/
theorem channelClockChange_completes (r : Nat) (g h : Region) (heven : r % 2 = 0) (hr : (u.tower t).regions[r]? = some g)
    (hlost : g.st = .lost) (hnext : (u.tower t).regions[r + 1]? = some h) (hup : h.st ≠ .lost) :
    Completes (.channelClockChange at_ t r) s (fun v => (∀ q ∈ (v.tower t).regions, q.clock = r → False)
      ∧ (v.tower t).regions.length = (u.tower t).regions.length ∧ OtherTowersSame t u v) := by
  have hclock : (u.tower t).clockFor r = r + 1 := by simp [Tower.clockFor, heven, hnext, hup]
  refine ⟨_, rfl, ?_⟩
  rw [← hu]
  refine ⟨?_, ?_, .of_modAt rfl⟩
  · rw [State.tower_mapTower _ _ _ _ htowers, if_pos rfl]
    simp only [hr, hlost, if_true, hclock, List.forall_mem_map]
    intro q hq
    split
    next => simp
    next hq => exact hq
  · rw [State.tower_mapTower _ _ _ _ htowers, if_pos rfl]
    simp [hr, hlost]

theorem bandChange_completes (hhas : (u.tower t).hasChannel l c = true) (hattempts : ((u.tower t).channel l c).attempts = 0) :
    Completes (.bandChange at_ t l c) s (fun v => (v.tower t).channel l c
      = { (u.tower t).channel l c with retiming := if (u.tower t).band < 2 then 1 else 2 } ∧ OtherTowersSame t u v) := by
  refine ⟨_, rfl, ?_⟩
  rw [← hu]
  refine ⟨?_, .of_modAt rfl⟩
  rw [State.tower_mapTower _ _ _ _ htowers, if_pos rfl, if_pos (by simp [hhas, hattempts]), channel_mapChannel]
  rfl

end Clauses

/-- Settles O30: each command changes the one channel, or the clocks of the one tower, as its rule says. -/
theorem verticalChannelCommandsComplete : Obligations.VerticalChannelCommandsComplete := by
  rintro s at_ t l c u k hu ht htowers hhas rfl
  exact ⟨burstRetry_completes hu htowers ht hhas, wireFailure_spare hu htowers ht hhas, wireFailure_halves hu htowers ht hhas,
    wireFailure_out hu htowers ht hhas, channelClockChange_completes hu htowers, bandChange_completes hu htowers hhas⟩

end Sys2Proof.Proofs.VerticalChannels

/-!
Calibration (chapter 09): combs that are switched, feed-forward, heater ramps, and the background step of a bank (R275 to R286).
-/
namespace Sys2Proof.Proofs.CalibrationSteps

open Sys2Proof Sys2Proof.Machine Sys2Proof.Proofs.CoefficientSets

theorem getD_modAt {α : Type} (l : List α) (i k : Nat) (f : α → α) (d : α) :
    (modAt l i f).getD k d = if k = i ∧ i < l.length then f (l.getD i d) else l.getD k d := by
  simp only [List.getD_eq_getElem?_getD, modAt_getElem?]
  by_cases hk : k = i
  · subst hk
    by_cases hlt : k < l.length
    · simp [hlt]
    · simp [hlt]
  · simp [hk]

/-! ## Lasers -/

theorem laser_mapLaser (s : State) (m k : Nat) (f : Laser → Laser) :
    (s.mapLaser m f).laser k = if k = m ∧ m < s.base.lasers.length then f (s.laser m) else s.laser k :=
  getD_modAt ..

@[simp] theorem length_lasers_mapLaser (s : State) (m : Nat) (f : Laser → Laser) :
    (s.mapLaser m f).base.lasers.length = s.base.lasers.length :=
  modAt_length ..

/-- No module stands beyond the last: one that is not out of service is one of the module's own. -/
theorem lt_of_laser_st {s : State} {k : Nat} (h : (s.laser k).st ≠ 5) : k < s.base.lasers.length := by
  refine Classical.byContradiction fun hk => ?_
  exact h (by rw [State.laser, List.getD_eq_getElem?_getD, List.getElem?_eq_none (Nat.le_of_not_lt hk)]; rfl)

/-- R252: the spare of a module is one that stands by, of the same kind. -/
theorem spareModule_spec {s : State} {m new : Nat} (h : s.spareModule m = some new) : (s.laser new).st = 0 ∧ (new < 8 ↔ m < 8) := by
  unfold State.spareModule at h
  split at h
  next hm =>
    split at h
    next => exact absurd h (by simp)
    next => exact ⟨by simpa using List.find?_some h, by simpa [hm] using List.mem_of_find?_eq_some h⟩
  next hm =>
    split at h
    next => exact absurd h (by simp)
    next =>
      refine ⟨by simpa using List.find?_some h, ?_⟩
      have hmem := List.mem_of_find?_eq_some h
      simp only [List.mem_map, List.mem_range] at hmem
      omega

theorem laser_congr {s t : State} (h : t.base.lasers = s.base.lasers) (k : Nat) : t.laser k = s.laser k := by simp only [State.laser, h]

theorem ne_of_spare {s : State} {m new : Nat} (hspare : (s.laser new).st = 0) (hused : (s.laser m).st ≠ 0) : m ≠ new :=
  fun h => hused (h ▸ hspare)

/-- A module and the spare that takes its place: the one leaves for `st`, the other shines. -/
theorem laser_switched {s : State} {m new : Nat} (st : Nat) (hm : m < s.base.lasers.length) (hspare : (s.laser new).st = 0)
    (hne : m ≠ new) :
    (((s.mapLaser m (fun l => { l with st })).mapLaser new (fun l => { l with st := 1 })).laser m).st = st
    ∧ (((s.mapLaser m (fun l => { l with st })).mapLaser new (fun l => { l with st := 1 })).laser new).st = 1 := by
  have hnew : new < s.base.lasers.length := lt_of_laser_st (by rw [hspare]; decide)
  simp only [laser_mapLaser, length_lasers_mapLaser, hm, hnew, hne, hne.symm, and_true, if_true, if_false, and_self]

/-! ## Banks -/

theorem bankSet_mapBank (s : State) {index : Nat} (f : Bank → Bank) {k : Bank} (hset : index / 256 < s.base.bankSets.length)
    (hbank : (s.bankSet (index / 256)).banks[index % 256]? = some k) :
    ((s.mapBank index f).bankSet (index / 256)).banks[index % 256]? = some (f k) := by
  have hset : (s.mapBank index f).bankSet (index / 256)
      = { s.bankSet (index / 256) with banks := modAt (s.bankSet (index / 256)).banks (index % 256) f } :=
    (getD_modAt ..).trans (if_pos ⟨rfl, hset⟩)
  simp [hset, hbank]

@[simp] theorem length_bankSets_mapBank (s : State) (index : Nat) (f : Bank → Bank) :
    (s.mapBank index f).base.bankSets.length = s.base.bankSets.length :=
  modAt_length ..

/-! ## The combs of the weight banks (R275) -/

/-- What a feed that is not run again leaves of its banks is their images alone. -/
theorem clearFeed_base (s : State) (feed : Nat) : ∃ sets, s.clearFeed feed false = s.mapBase (fun b => { b with bankSets := sets }) :=
  ⟨_, rfl⟩

theorem switchFeed_eq (s : State) (feed new st : Nat) : ∃ sets, s.switchFeed feed new st false
    = ((s.mapLaser (s.feedModule feed) (fun l => { l with st })).mapLaser new (fun l => { l with st := 1 })).mapBase (fun b =>
        { b with feedMap := setAt b.feedMap feed (new - 8), bankSets := sets }) :=
  (clearFeed_base _ feed).imp fun _ h => h

theorem weightCombSwitch_completes :
    ∀ s at_ feed new u, u = s.advance at_ → feed < 8 → feed < u.base.feedMap.length → u.feedModule feed < u.base.lasers.length →
      (u.laser (u.feedModule feed)).st = 3 → u.spareModule (u.feedModule feed) = some new → 8 ≤ u.feedModule feed →
      (u.tower (2 * feed)).opticalQueued = false → (u.tower (2 * feed + 1)).opticalQueued = false →
      Completes (.weightCombSwitch at_ feed false) s (fun t => t.feedModule feed = new ∧ (t.laser (u.feedModule feed)).st = 4
        ∧ (t.laser new).st = 1 ∧ SameMemory u t) := by
  intro s at_ feed new u hu hfeed hmap hm hst hspare h8 hidle hidle'
  have heq : u.combSwitch feed false = u.switchFeed feed new 4 false := by
    simp only [State.combSwitch, hspare, hst]
    simp [Nat.not_le.mpr hfeed, hidle, hidle']
  obtain ⟨hfree, hkind⟩ := spareModule_spec hspare
  obtain ⟨sets, hswitch⟩ := switchFeed_eq u feed new 4
  obtain ⟨hleft, hshines⟩ := laser_switched 4 hm hfree (ne_of_spare hfree (by rw [hst]; decide))
  refine .of_effect (fun u => u.combSwitch feed false) hu rfl ?_
  rw [heq, hswitch]
  refine ⟨?_, hleft, hshines, .of_mem rfl⟩
  have hmapped : (setAt u.base.feedMap feed (new - 8)).getD feed 99 = new - 8 := by simp [setAt, hmap]
  have hnew : 8 ≤ new := Nat.le_of_not_lt fun h => Nat.not_lt.mpr h8 (hkind.mp h)
  exact (congrArg (8 + ·) hmapped).trans (Nat.add_sub_cancel' hnew)

/-! ## Feed-forward and heaters (R285, R286) -/

theorem feedForwardStep_completes :
    ∀ s at_ field temp u, u = s.advance at_ → field < u.base.feedFwd.length →
      Completes (.feedForwardStep at_ field temp) s (fun t => t.base.feedFwd[field]? = some temp
        ∧ (∀ k, k ≠ field → t.base.feedFwd[k]? = u.base.feedFwd[k]?) ∧ t = { u with base := { u.base with feedFwd := t.base.feedFwd } }) := by
  intro s at_ field temp u hu hfield
  refine .of_effect (fun u => u.mapBase (fun b => { b with feedFwd := setAt b.feedFwd field temp })) hu rfl ⟨?_, fun k hk => ?_, rfl⟩
  · simp [setAt, hfield]
  · exact List.getElem?_set_ne hk.symm

theorem heaterRamp_completes :
    ∀ s at_ field h u, u = s.advance at_ → u.base.heaterOff[field]? = some h →
      Completes (.heaterRamp at_ field) s (fun t => t.base.heaterOff[field]? = some (
          if h < bandOffset (u.power.fieldBand.getD field 0) then h + 1
          else if bandOffset (u.power.fieldBand.getD field 0) < h then h - 1 else h)
        ∧ t = { u with base := { u.base with heaterOff := t.base.heaterOff } }) := by
  intro s at_ field h u hu hoff
  refine ⟨_, rfl, ?_⟩
  rw [← hu]
  exact ⟨by simp [hoff], rfl⟩

/-! ## A background step of a bank (R277, R278) -/

/-- A step of a bank's channel that is due, and whose bank is idle, takes the bank out for calibration. -/
theorem calStep_bank {s : State} {index : Nat} {k : Bank} (hexists : channelExists 3 index = true)
    (hsuspended : s.base.calSuspended = false) (hbusy : (s.calChannel 3 index).busy = false) (hnear : s.commitNear 3 index = false)
    (hdue : s.stepDue (s.calChannel 3 index) = true) (hbank : (s.bankSet (index / 256)).banks[index % 256]? = some k)
    (hservice : k.inService = true) (hcal : (s.bankSet (index / 256)).banks.any (·.calibrating) = false)
    (hidle : s.bankIdle (index / 256) (index % 256) = true) :
    s.calStep 3 index = (s.mapBank index (fun k => { k with calibrating := true })).stepBegins (s.calChannel 3 index) := by
  have habsent : s.channelAbsent 3 index = false := rfl
  have hgetD : ∀ d, (s.bankSet (index / 256)).banks.getD (index % 256) d = k := fun d => by
    rw [List.getD_eq_getElem?_getD, hbank, Option.getD_some]
  unfold State.calStep
  simp only [hsuspended, hbusy, hexists, habsent, hnear, hdue, hgetD, hservice, hcal, hidle]
  rfl

theorem calibrationStep_completes :
    ∀ s at_ index k u, u = s.advance at_ → index / 256 < u.base.bankSets.length → channelExists 3 index = true →
      u.base.calSuspended = false → (u.calChannel 3 index).busy = false → u.commitNear 3 index = false → u.stepDue (u.calChannel 3 index) = true →
      (u.bankSet (index / 256)).banks[index % 256]? = some k → k.inService = true →
      (u.bankSet (index / 256)).banks.any (·.calibrating) = false → u.bankIdle (index / 256) (index % 256) = true →
      Completes (.calibrationStep at_ 3 index) s (fun t => (t.calChannel 3 index).busy = true
        ∧ (t.bankSet (index / 256)).banks[index % 256]? = some { k with calibrating := true }
        ∧ (t.calChannel 3 index).active = (u.calChannel 3 index).active ∧ SameMemory u t) := by
  intro s at_ index k u hu hset hexists hsuspended hbusy hnear hdue hbank hservice hcal hidle
  have hchannel : ∀ t : State, (t.stepBegins (u.calChannel 3 index)).calChannel 3 index
      = { u.calChannel 3 index with busy := true, last := some t.now } := fun t => by
    obtain ⟨hkind, hindex⟩ := calChannel_kind_index u 3 index
    exact (calChannel_putChannel ..).trans (if_pos (by rw [hkind, hindex]))
  refine .of_effect (fun u => u.calStep 3 index) hu rfl ?_
  rw [calStep_bank hexists hsuspended hbusy hnear hdue hbank hservice hcal hidle, hchannel]
  exact ⟨rfl, bankSet_mapBank u _ hset hbank, rfl, .of_mem rfl⟩

/-! ## The end of a step of a bank (R284) -/

/-- What a bank's step that ends leaves: the set it found is in force, the bank is released without an image. -/
theorem calStepEnd_bank {s : State} {index : Nat} {result : List Byte} (hexists : channelExists 3 index = true)
    (hlength : result.length + 32 = setLength 3) (hdue : s.commitDue 3 index = false) (hbusy : (s.calChannel 3 index).busy = true)
    (hfree : s.base.engineTick ≠ some s.now) :
    s.calStepEnd 3 index result = (((s.engineCommit 3 index result).releaseChannel 3 index).markLock 3 index).mapBase (fun b =>
      { b with stepsDone := b.stepsDone + 1 }) := by
  unfold State.calStepEnd
  simp only [hexists, hlength, hdue, hbusy, hfree]
  rfl


theorem calChannel_engineCommit (s : State) (kind index : Nat) (result : List Byte) :
    (s.engineCommit kind index result).calChannel kind index = { s.calChannel kind index with
      active := s.captureSet kind index result, prev := (s.calChannel kind index).active, shadow := some (s.captureSet kind index result) } := by
  obtain ⟨hkind, hindex⟩ := calChannel_kind_index s kind index
  refine (calChannel_activateSet ..).trans ?_
  rw [calChannel_putChannel, if_pos (by rw [hkind, hindex])]

/-- The bank of a set that the engine commits loses its image. -/
theorem engineCommit_bank (s : State) (index : Nat) (result : List Byte) :
    ∃ cal, s.engineCommit 3 index result
      = (s.mapBank index (fun k => { k with image := none })).mapBase (fun b => { b with cal, engineTick := some s.now }) :=
  ⟨_, rfl⟩

theorem releaseChannel_bank (s : State) (index : Nat) :
    ∃ cal, s.releaseChannel 3 index = (s.mapBank index (fun k => { k with calibrating := false })).mapBase (fun b => { b with cal }) :=
  ⟨_, rfl⟩

/-- What the end of a bank's step leaves beside its channel. -/
theorem stepEnd_bank (s : State) (index : Nat) (result : List Byte) :
    ∃ cal, (s.engineCommit 3 index result).releaseChannel 3 index
      = ((s.mapBank index (fun k => { k with image := none })).mapBank index (fun k => { k with calibrating := false })).mapBase (fun b =>
          { b with cal, engineTick := some s.now }) := by
  obtain ⟨_, hcommit⟩ := engineCommit_bank s index result
  obtain ⟨cal, hrelease⟩ := releaseChannel_bank (s.engineCommit 3 index result) index
  refine ⟨cal, ?_⟩
  rw [hrelease, hcommit]
  rfl

/-- The bank sets after a bank's step has ended. -/
theorem stepEnd_bankSet (s : State) (index : Nat) (result : List Byte) (t : Nat) :
    ((((s.engineCommit 3 index result).releaseChannel 3 index).markLock 3 index).mapBase (fun b =>
      { b with stepsDone := b.stepsDone + 1 })).bankSet t
      = ((s.mapBank index (fun k => { k with image := none })).mapBank index (fun k => { k with calibrating := false })).bankSet t := by
  obtain ⟨cal, hleft⟩ := stepEnd_bank s index result
  have hsame : ∀ u : State, ((u.markLock 3 index).mapBase (fun b => { b with stepsDone := b.stepsDone + 1 })).bankSet t = u.bankSet t :=
    fun _ => rfl
  rw [hsame, hleft]
  rfl

theorem calibrationStepEnd_completes :
    ∀ s at_ index result k u, u = s.advance at_ → index / 256 < u.base.bankSets.length → channelExists 3 index = true →
      result.length + 32 = setLength 3 → u.commitDue 3 index = false → (u.calChannel 3 index).busy = true → u.base.engineTick ≠ some u.now →
      (u.bankSet (index / 256)).banks[index % 256]? = some k →
      Completes (.calibrationStepEnd at_ 3 index result) s (fun t => (t.calChannel 3 index).active = u.captureSet 3 index result
        ∧ (t.calChannel 3 index).prev = (u.calChannel 3 index).active ∧ (t.calChannel 3 index).busy = false
        ∧ t.base.stepsDone = u.base.stepsDone + 1
        ∧ (t.bankSet (index / 256)).banks[index % 256]? = some { k with image := none, calibrating := false }) := by
  intro s at_ index result k u hu hset hexists hlength hdue hbusy hfree hbank
  refine .of_effect (fun u => u.calStepEnd 3 index result) hu rfl ?_
  have hchannel : (((u.engineCommit 3 index result).releaseChannel 3 index)).calChannel 3 index = { u.calChannel 3 index with
      active := u.captureSet 3 index result, prev := (u.calChannel 3 index).active, shadow := some (u.captureSet 3 index result)
      busy := false } := by rw [calChannel_releaseChannel, calChannel_engineCommit]
  obtain ⟨cal, hleft⟩ := stepEnd_bank u index result
  rw [calStepEnd_bank hexists hlength hdue hbusy hfree]
  have hsame : ∀ t : State, ((t.markLock 3 index).mapBase (fun b => { b with stepsDone := b.stepsDone + 1 })).calChannel 3 index
      = t.calChannel 3 index := fun _ => rfl
  have hsteps : ((u.engineCommit 3 index result).releaseChannel 3 index).base.stepsDone = u.base.stepsDone := by rw [hleft]; rfl
  rw [hsame, hchannel]
  refine ⟨rfl, rfl, rfl, congrArg (· + 1) hsteps, ?_⟩
  · have hbanks := bankSet_mapBank (u.mapBank index (fun k => { k with image := none })) (fun k => { k with calibrating := false })
      (by simpa using hset) (bankSet_mapBank u _ hset hbank)
    rwa [← stepEnd_bankSet] at hbanks

/-- Settles O28: each step changes what it calibrates and nothing beside. -/
theorem calibrationStepsComplete : Obligations.CalibrationStepsComplete :=
  ⟨weightCombSwitch_completes, feedForwardStep_completes, heaterRamp_completes, calibrationStep_completes, calibrationStepEnd_completes⟩

end Sys2Proof.Proofs.CalibrationSteps

/-!
Comb lasers and planes (chapter 08): modules that fade, fail and are switched, and the window in which a plane moves (R252 to R256, R275).
-/
namespace Sys2Proof.Proofs.LasersAndPlanes

open Sys2Proof Sys2Proof.Machine Sys2Proof.Proofs.CalibrationSteps

/-! ## What wavelengths that leave keep of the planes and the lasers -/

/-- The modules, the planes and the window are as before. -/
structure KeepsPlanes (s t : State) : Prop where
  lasers : t.base.lasers = s.base.lasers
  linkMap : t.base.linkMap = s.base.linkMap
  planeSt : t.base.planeSt = s.base.planeSt
  window : t.base.window = s.base.window
  windowQueue : t.base.windowQueue = s.base.windowQueue
  calSuspended : t.base.calSuspended = s.base.calSuspended

namespace KeepsPlanes

theorem refl (s : State) : KeepsPlanes s s := ⟨rfl, rfl, rfl, rfl, rfl, rfl⟩

theorem trans {s t u : State} (h : KeepsPlanes s t) (h' : KeepsPlanes t u) : KeepsPlanes s u :=
  ⟨h'.lasers.trans h.lasers, h'.linkMap.trans h.linkMap, h'.planeSt.trans h.planeSt, h'.window.trans h.window,
    h'.windowQueue.trans h.windowQueue, h'.calSuspended.trans h.calSuspended⟩

theorem ite {s a b : State} {p : Prop} [Decidable p] (ha : p → KeepsPlanes s a) (hb : ¬p → KeepsPlanes s b) :
    KeepsPlanes s (if p then a else b) := by
  split
  next h => exact ha h
  next h => exact hb h

theorem foldl {α : Type} (f : State → α → State) (hf : ∀ s a, KeepsPlanes s (f s a)) (l : List α) (s : State) :
    KeepsPlanes s (l.foldl f s) := by
  induction l generalizing s with
  | nil => exact .refl s
  | cons a rest ih => exact (hf s a).trans (ih _)

theorem setPair (s : State) (i j : Nat) (p : Pair) : KeepsPlanes s (s.setPair i j p) := ⟨rfl, rfl, rfl, rfl, rfl, rfl⟩

theorem mapLog (s : State) (f : LogSt → LogSt) : KeepsPlanes s (s.mapLog f) := ⟨rfl, rfl, rfl, rfl, rfl, rfl⟩

theorem putPair (s : State) (i j : Nat) (p : Pair) : KeepsPlanes s (s.putPair i j p) :=
  .ite (fun _ => .setPair ..) (fun _ => (KeepsPlanes.setPair ..).trans (.mapLog ..))

theorem resendOff (s : State) (i j w : Nat) : KeepsPlanes s (s.resendOff i j w) := ⟨rfl, rfl, rfl, rfl, rfl, rfl⟩

theorem abandonCalOn (s : State) (i j : Nat) (on : Nat → Bool) : KeepsPlanes s (s.abandonCalOn i j on) := by
  unfold State.abandonCalOn
  dsimp only
  split
  · exact .ite (fun _ => .refl _) (fun _ => ⟨rfl, rfl, rfl, rfl, rfl, rfl⟩)
  · exact .refl _

theorem planeLeaves (s : State) (w : Nat) (lost : Bool) : KeepsPlanes s (s.planeLeaves w lost) :=
  .foldl _ (fun s x => by
    cases lost with
    | false => exact .putPair ..
    | true => exact ((KeepsPlanes.abandonCalOn ..).trans (.putPair ..)).trans (.resendOff ..)) ..

end KeepsPlanes

/-! ## Fading (R252 to R254) -/

theorem fadeLevelA_completes {s u : State} {at_ m : Nat} (hu : u = s.advance at_) (hm : m < u.base.lasers.length) (out : Int) (drive : Nat)
    (hst : (u.laser m).st = 1) (hout : out < -50) :
    Completes (.fadeLevelA at_ m out drive) s (fun t =>
      t.laser m = { u.laser m with output := out, st := 2, drive := max (u.laser m).drive (min 1000 drive) } ∧ t.log = u.log) := by
  refine .of_effect (fun u => u.fadeA m out drive) hu rfl ⟨?_, rfl⟩
  rw [State.fadeA, laser_mapLaser, if_pos ⟨rfl, hm⟩, if_pos ⟨hout, .inl hst⟩]

theorem fadeLevelB_completes {s u : State} {at_ m : Nat} (hu : u = s.advance at_) (hm : m < u.base.lasers.length) (out : Int)
    (hbank : 8 ≤ m) (hst : (u.laser m).st = 2) (hlevel : u.levelB m out = true) :
    Completes (.fadeLevelB at_ m out) s (fun t => t.laser m = { u.laser m with output := out, st := 3, since := u.now }
      ∧ t.log.count = u.log.count + 1) := by
  refine .of_effect (fun u => u.fadeB m out) hu rfl ?_
  rw [State.fadeB, if_pos ⟨hlevel, .inr hst⟩, if_neg (Nat.not_lt.mpr hbank)]
  refine ⟨?_, State.logEv_count ..⟩
  refine (laser_mapLaser ..).trans ?_
  rw [if_pos ⟨rfl, by simpa using hm⟩, laser_mapLaser, if_pos ⟨rfl, hm⟩]

/-! ## Planes that degrade -/

theorem planeSt_set (l : List Nat) (w k : Nat) (h : k ≠ w → l.getD k 2 = 2) : (setAt l w 2).getD k 2 = 2 := by
  simp only [setAt, List.getD_eq_getElem?_getD, List.getElem?_set] at h ⊢
  split
  next => split <;> rfl
  next hk => exact h (Ne.symm hk)

/-- The module with plane `w` out for good and no longer waited for, before the pairs take it (R255). -/
def planeOut (s : State) (w : Nat) : State :=
  s.mapBase (fun b =>
    { b with planeSt := setAt b.planeSt w 2, window := b.window.filter (fun x => x.1 != w), windowQueue := b.windowQueue.filter (· != w)
             calSuspended := b.calSuspended && !b.window.any (fun x => x.1 == w) })

theorem degradePlane_keeps {s : State} {w : Nat} (h : s.base.planeSt.getD w 2 ≠ 2) : KeepsPlanes (planeOut s w) (s.degradePlane w) := by
  unfold State.degradePlane
  rw [if_neg h]
  refine .trans ?_ ((KeepsPlanes.mapLog ..).trans (.mapLog ..))
  refine .trans ?_ (.foldl _ (fun t x => .ite (fun _ => .mapLog ..) (fun _ => .refl _)) _ _)
  refine .ite (fun _ => ⟨rfl, rfl, rfl, rfl, rfl, rfl⟩) (fun _ => .foldl _ (fun t x => ?_) _ _)
  exact ((KeepsPlanes.abandonCalOn ..).trans (.putPair ..)).trans (.resendOff ..)

/-- A plane that degrades is out, and so are those that were. -/
theorem degradePlane_planeSt (s : State) (w k : Nat) (h : k ≠ w → s.base.planeSt.getD k 2 = 2) :
    (s.degradePlane w).base.planeSt.getD k 2 = 2 := by
  by_cases hout : s.base.planeSt.getD w 2 = 2
  · rw [State.degradePlane, if_pos hout]
    by_cases hk : k = w
    · exact hk ▸ hout
    · exact h hk
  · rw [(degradePlane_keeps hout).planeSt]
    exact planeSt_set _ _ _ h

theorem degradePlanes_planeSt (l : List Nat) (s : State) (k : Nat) (h : k ∉ l → s.base.planeSt.getD k 2 = 2) :
    (l.foldl (fun s w => s.degradePlane w) s).base.planeSt.getD k 2 = 2 := by
  induction l generalizing s with
  | nil => exact h List.not_mem_nil
  | cons w rest ih =>
    refine ih _ fun hrest => degradePlane_planeSt s w k fun hk => h fun hmem => ?_
    exact (List.mem_cons.mp hmem).elim hk hrest

theorem fadeLevelC_completes {s u : State} {at_ m : Nat} (hu : u = s.advance at_) (hlink : m < 8) (hspare : u.spareModule m = none)
    (hst : (u.laser m).st = 3) :
    Completes (.fadeLevelC at_ m) s (fun t => ∀ w ∈ u.base.planesOf m, t.base.planeSt.getD w 2 = 2) := by
  refine .of_telling (fun u => u.fadeC m) hu rfl fun sent n w hw => ?_
  rw [State.fadeC, if_neg (by simp [hspare, hst]), if_pos hlink]
  exact degradePlanes_planeSt _ u w fun h => absurd hw h

/-! ## Modules switched (R254, R256) -/

/-- A module that loses its light is no spare of its own. -/
theorem spareModule_dark {s : State} {m : Nat} (hst : (s.laser m).st ≠ 0) :
    (s.mapLaser m (fun l => { l with st := 5 })).spareModule m = s.spareModule m := by
  have hsame : ∀ k, (((s.mapLaser m (fun l => { l with st := 5 })).laser k).st == 0) = ((s.laser k).st == 0) := by
    intro k
    rw [laser_mapLaser]
    split
    next h => simp [h.1, hst]
    next => rfl
  unfold State.spareModule
  simp only [hsame]
  rfl

/-- Taking wavelengths off the planes of a module that is dark leaves the modules as the switch left them. -/
theorem planesLeave_lasers (l : List Nat) (s : State) :
    let t := l.foldl (fun s w => (s.mapBase (fun b => { b with planeSt := setAt b.planeSt w 1, calSuspended := true })).planeLeaves w true) s
    t.base.lasers = s.base.lasers ∧ t.base.linkMap = s.base.linkMap := by
  induction l generalizing s with
  | nil => exact ⟨rfl, rfl⟩
  | cons w rest ih =>
    obtain ⟨hlasers, hmap⟩ := ih ((s.mapBase (fun b => { b with planeSt := setAt b.planeSt w 1, calSuspended := true })).planeLeaves w true)
    exact ⟨hlasers.trans (KeepsPlanes.planeLeaves ..).lasers, hmap.trans (KeepsPlanes.planeLeaves ..).linkMap⟩

theorem lossOfLight_completes {s u : State} {at_ m : Nat} (hu : u = s.advance at_) (hm : m < u.base.lasers.length) (new : Nat)
    (hlink : m < 8) (hst : (u.laser m).st = 1) (hspare : u.spareModule m = some new) :
    Completes (.lossOfLight at_ m) s (fun t => (t.laser m).st = 5 ∧ (t.laser new).st = 1
      ∧ t.base.linkMap = u.base.linkMap.map (fun k => if k = m then new else k)) := by
  refine .of_telling (fun u => u.lossOfLight m) hu rfl fun sent n => ?_
  have hspare' := (spareModule_dark (by rw [hst]; decide)).trans hspare
  have hdark : ((u.mapLaser m (fun l => { l with st := 5 })).laser m).st = 5 := by rw [laser_mapLaser, if_pos ⟨rfl, hm⟩]
  obtain ⟨hleft, hshines⟩ := laser_switched 5 (by simpa using hm) (spareModule_spec hspare').1
    (ne_of_spare (spareModule_spec hspare').1 (by rw [hdark]; decide))
  rw [State.lossOfLight, if_neg (by simp [hst]), if_pos hlink]
  dsimp only
  rw [hspare']
  obtain ⟨hlasers, hmap⟩ := planesLeave_lasers ((u.base.planesOf m).filter (· < 5))
    (((u.mapLaser m (fun l => { l with st := 5 })).switchLink m new 5).mapBase (fun b =>
      { b with windowQueue := b.windowQueue.filter (fun w => !(u.base.planesOf m).contains w) }))
  refine ⟨?_, ?_, hmap⟩
  · exact (congrArg Laser.st (laser_congr hlasers m)).trans hleft
  · exact (congrArg Laser.st (laser_congr hlasers new)).trans hshines

theorem planeCalibrationWindow_completes {s u : State} {at_ m : Nat} (hu : u = s.advance at_) (w : Nat) (hw : w < u.base.planeSt.length)
    (hmodule : u.base.linkMap.getD w 99 = m) (hclosed : u.base.window = none) (hfirst : u.base.windowQueue.head? = some w)
    (hspare : u.spareModule m ≠ none) (hquiet : u.calQuiet = true) :
    Completes (.planeCalibrationWindow at_ w) s (fun t => t.base.window = some (w, u.now) ∧ t.base.calSuspended = true
      ∧ t.base.planeSt.getD w 9 = 1 ∧ w ∉ t.base.windowQueue) := by
  refine .of_telling (fun u => u.openWindow w) hu rfl fun sent n => ?_
  rw [State.openWindow, hmodule, if_neg (by simp [hclosed, hfirst, hspare, hquiet])]
  obtain ⟨-, -, hplanes, hwindow, hqueue, hsuspended⟩ : KeepsPlanes (u.mapBase (fun b =>
      { b with window := some (w, u.now), windowQueue := b.windowQueue.filter (· != w), calSuspended := true, planeSt := setAt b.planeSt w 1 })) _ :=
    KeepsPlanes.ite (p := w < 5) (fun _ => .planeLeaves _ w false) (fun _ => .refl _)
  refine ⟨hwindow, hsuspended, ?_, ?_⟩
  · refine (congrArg (List.getD · w 9) hplanes).trans ?_
    simp [setAt, hw]
  · refine fun h => ?_
    have hmem := (congrArg (w ∈ ·) hqueue).mp h
    simp at hmem

theorem closeWindow_lasers (s : State) (w : Nat) :
    (s.closeWindow w).base.lasers = s.base.lasers ∧ (s.closeWindow w).base.linkMap = s.base.linkMap := by
  unfold State.closeWindow
  split <;> exact ⟨rfl, rfl⟩

theorem planeSwitch_completes {s u : State} {at_ m : Nat} (hu : u = s.advance at_) (hm : m < u.base.lasers.length) (w tick new : Nat)
    (hw : w < 5) (hmodule : u.base.linkMap.getD w 99 = m) (_ : m < 8) (hopen : u.base.window = some (w, tick))
    (hspare : u.spareModule m = some new) (hne : new ≠ m) (hdrained : ∀ x ∈ u.allPairs, (u.line x.1 x.2).buffer w = []) :
    Completes (.planeSwitch at_ w) s (fun t => t.base.linkMap = u.base.linkMap.map (fun k => if k = m then new else k)
      ∧ (t.laser m).st = 4 ∧ (t.laser new).st = 1) := by
  refine .of_effect (fun u => u.planeSwitch w) hu rfl ?_
  have hall : u.allPairs.all (fun y => (u.line y.1 y.2).buffer w == []) = true := by simpa using hdrained
  have hclose : u.planeSwitch w = (u.switchLink m new 4).closeWindow w := by
    simp only [State.planeSwitch, hopen, hmodule, hspare, hall]
    simp [Nat.ne_of_lt hw]
  obtain ⟨hleft, hshines⟩ := laser_switched 4 hm (spareModule_spec hspare).1 hne.symm
  obtain ⟨hlasers, hmap⟩ := closeWindow_lasers (u.switchLink m new 4) w
  rw [hclose, laser_congr hlasers, laser_congr hlasers]
  exact ⟨hmap, hleft, hshines⟩

/-- Settles O25: a module that fades or goes dark is switched where it has a spare, and its planes degrade where it has none. -/
theorem laserAndPlaneCommandsComplete : Obligations.LaserAndPlaneCommandsComplete :=
  fun _ _ _ _ hu hm => ⟨fadeLevelA_completes hu hm, fadeLevelB_completes hu hm, fadeLevelC_completes hu, lossOfLight_completes hu hm,
    planeCalibrationWindow_completes hu, planeSwitch_completes hu hm⟩

end Sys2Proof.Proofs.LasersAndPlanes

/-!
What the scheduler of a tower changes when it looks at its operators anew (R89 to R100): whether each is entered and cut, the chunks it is cut
into, and the watches sent for those that enter.
-/
namespace Sys2Proof.Machine

open Sys2Proof

/-- An operator but for what entering and cutting it change. -/
def OpInst.unscheduled (o : OpInst) : OpInst :=
  { o with entered := false, stalled := false, ranges := [], cut := false, chunks := 0, keyCount := 0 }

/-- Tower `y` is `x` after its scheduler has looked at its operators. -/
structure Tower.Scheduled (x y : Tower) : Prop where
  frame : ∃ ops queue nextId sbHigh sbStalls, y = { x with ops, queue, nextId, sbHigh, sbStalls }
  ops : y.ops.map OpInst.unscheduled = x.ops.map OpInst.unscheduled

namespace Tower.Scheduled

theorem refl (x : Tower) : x.Scheduled x := ⟨⟨_, _, _, _, _, rfl⟩, rfl⟩

theorem trans {x y z : Tower} (h : x.Scheduled y) (h' : y.Scheduled z) : x.Scheduled z := by
  refine ⟨?_, h'.ops.trans h.ops⟩
  obtain ⟨⟨_, _, _, _, _, rfl⟩, -⟩ := h
  obtain ⟨⟨ops, queue, nextId, sbHigh, sbStalls, rfl⟩, -⟩ := h'
  exact ⟨ops, queue, nextId, sbHigh, sbStalls, rfl⟩

variable {x y : Tower} (h : x.Scheduled y)
include h

theorem fence : y.fence = x.fence := by obtain ⟨⟨_, _, _, _, _, rfl⟩, -⟩ := h; rfl
theorem mode : y.mode = x.mode := by obtain ⟨⟨_, _, _, _, _, rfl⟩, -⟩ := h; rfl
theorem channels : y.channels = x.channels := by obtain ⟨⟨_, _, _, _, _, rfl⟩, -⟩ := h; rfl
theorem layerReset : y.layerReset = x.layerReset := by obtain ⟨⟨_, _, _, _, _, rfl⟩, -⟩ := h; rfl
theorem records : y.records = x.records := by obtain ⟨⟨_, _, _, _, _, rfl⟩, -⟩ := h; rfl
theorem regions : y.regions = x.regions := by obtain ⟨⟨_, _, _, _, _, rfl⟩, -⟩ := h; rfl
theorem reductions : y.reductions = x.reductions := by obtain ⟨⟨_, _, _, _, _, rfl⟩, -⟩ := h; rfl
theorem fencedCopies : y.fencedCopies = x.fencedCopies := by obtain ⟨⟨_, _, _, _, _, rfl⟩, -⟩ := h; rfl
theorem syncObj (i : Nat) : y.syncObj i = x.syncObj i := by obtain ⟨⟨_, _, _, _, _, rfl⟩, -⟩ := h; rfl

/-- What is found of an operator by what scheduling leaves of it is found after it too. -/
theorem find? {p : OpInst → Bool} (hp : ∀ o, p o.unscheduled = p o) :
    (y.ops.find? p).map OpInst.unscheduled = (x.ops.find? p).map OpInst.unscheduled := by
  have hcomp : ∀ l : List OpInst, (l.map OpInst.unscheduled).find? p = (l.find? p).map OpInst.unscheduled := fun l => by
    rw [List.find?_map]
    exact congrArg (fun q => (l.find? q).map OpInst.unscheduled) (funext hp)
  rw [← hcomp, ← hcomp, h.ops]

end Tower.Scheduled

theorem enterOps_unscheduled (now pause free : Nat) (ops : List OpInst) :
    (enterOps now pause free ops).map OpInst.unscheduled = ops.map OpInst.unscheduled := by
  induction ops generalizing free with
  | nil => rfl
  | cons o rest ih =>
    have hstall : (rest.map (fun p => if p.entered || !p.open_ now pause then p else { p with stalled := true })).map OpInst.unscheduled
        = rest.map OpInst.unscheduled := by
      rw [List.map_map]
      refine List.map_congr_left fun p _ => ?_
      dsimp only [Function.comp_apply]
      split <;> rfl
    rw [enterOps]
    split
    next => rw [List.map_cons, ih, List.map_cons]
    next =>
      split
      next => rw [List.map_cons, ih]; rfl
      next => rw [List.map_cons, hstall]; rfl

theorem freshRanges_unscheduled (s : State) (t : Nat) (o : OpInst) : (s.freshRanges t o).unscheduled = o.unscheduled := by
  unfold State.freshRanges
  split <;> rfl

/-- `s'` is `s` after the scheduler of tower `t` has looked at its operators. -/
structure Schedules (t : Nat) (s s' : State) : Prop where
  frame : ∃ towers syncOut spSites lines, s' = { s with towers, syncOut, spSites, lines }
  others : OtherTowersSame t s s'
  length_towers : s'.towers.length = s.towers.length
  tower : (s.tower t).Scheduled (s'.tower t)

namespace Schedules

theorem refl (t : Nat) (s : State) : Schedules t s s := ⟨⟨_, _, _, _, rfl⟩, .refl _ _, rfl, .refl _⟩

theorem trans {t : Nat} {s s' s'' : State} (h : Schedules t s s') (h' : Schedules t s' s'') : Schedules t s s'' := by
  refine ⟨?_, h.others.trans h'.others, h'.length_towers.trans h.length_towers, h.tower.trans h'.tower⟩
  obtain ⟨_, _, _, _, rfl⟩ := h.frame
  obtain ⟨towers, syncOut, spSites, lines, rfl⟩ := h'.frame
  exact ⟨towers, syncOut, spSites, lines, rfl⟩

theorem foldl {α : Type} {t : Nat} (f : State → α → State) (hf : ∀ s a, Schedules t s (f s a)) (l : List α) (s : State) :
    Schedules t s (l.foldl f s) := by
  induction l generalizing s with
  | nil => exact .refl t s
  | cons a rest ih => exact (hf s a).trans (ih _)

theorem ite {t : Nat} {s a b : State} {p : Prop} [Decidable p] (ha : Schedules t s a) (hb : Schedules t s b) :
    Schedules t s (if p then a else b) := by
  split
  · exact ha
  · exact hb

theorem mapTower (s : State) (t : Nat) {f : Tower → Tower} (hf : (s.tower t).Scheduled (f (s.tower t))) : Schedules t s (s.mapTower t f) := by
  refine ⟨⟨_, _, _, _, rfl⟩, .of_modAt rfl, modAt_length .., ?_⟩
  rw [State.tower_mapTower_if]
  split
  next => exact hf
  next => exact .refl _

theorem sendSync (s : State) (t : Nat) (m : BitVec 128) : Schedules t s (s.sendSync m) :=
  ⟨⟨_, _, _, _, rfl⟩, .of_towers rfl, rfl, .refl _⟩

theorem sendWatches (s : State) (t : Nat) (entered : List OpInst) : Schedules t s (s.sendWatches t entered) :=
  .foldl _ (fun _ _ => .foldl _ (fun _ _ => .ite (.refl ..) (.sendSync ..)) ..) ..

theorem cutOp (s : State) (t : Nat) (o : OpInst) : Schedules t s (s.cutOp t o) := by
  refine .mapTower _ _ ⟨⟨_, _, _, _, _, rfl⟩, ?_⟩
  simp only [modWhere, List.map_map]
  refine List.map_congr_left fun p _ => ?_
  dsimp only [Function.comp_apply]
  split <;> rfl

theorem enterTower (s : State) (t : Nat) : Schedules t s (s.enterTower t) := by
  refine .mapTower _ _ ⟨⟨_, _, _, _, _, rfl⟩, ?_⟩
  simp only [enterOps_unscheduled, List.map_map]
  exact List.map_congr_left fun o _ => freshRanges_unscheduled s t o

theorem schedule (s : State) (t : Nat) : Schedules t s (s.schedule t) :=
  ((Schedules.enterTower ..).trans (.sendWatches ..)).trans (.foldl _ (fun _ _ => .ite (.cutOp ..) (.refl ..)) ..)

variable {t : Nat} {s s' : State} (h : Schedules t s s')
include h

theorem mem : s'.mem = s.mem := by obtain ⟨_, _, _, _, rfl⟩ := h.frame; rfl
theorem log : s'.log = s.log := by obtain ⟨_, _, _, _, rfl⟩ := h.frame; rfl
theorem time : s'.time = s.time := by obtain ⟨_, _, _, _, rfl⟩ := h.frame; rfl
theorem base : s'.base = s.base := by obtain ⟨_, _, _, _, rfl⟩ := h.frame; rfl
theorem boot : s'.boot = s.boot := by obtain ⟨_, _, _, _, rfl⟩ := h.frame; rfl
theorem power : s'.power = s.power := by obtain ⟨_, _, _, _, rfl⟩ := h.frame; rfl
theorem dict : s'.dict = s.dict := by obtain ⟨_, _, _, _, rfl⟩ := h.frame; rfl
theorem ident : s'.ident = s.ident := by obtain ⟨_, _, _, _, rfl⟩ := h.frame; rfl

/-- Another tower is as before. -/
theorem tower_of_ne {k : Nat} (hk : k ≠ t) : s'.tower k = s.tower k := by
  rw [State.tower, State.tower, List.getD_eq_getElem?_getD, List.getD_eq_getElem?_getD, h.others k hk]

end Schedules
end Sys2Proof.Machine

/-!
Layers and stacks (chapter 10): the course of a layer reset (R303 to R305), and what serves a stack (R306, R308).
-/
namespace Sys2Proof.Proofs.LayersAndStacks

open Sys2Proof Sys2Proof.Machine

/-! ## Channels, one after another -/

theorem kvGet_foldl_kvMod {α : Type} {P : α → Prop} {f : α → α} {d : α} (hf : ∀ a, P (f a)) (l : List Nat) (m : KV α) (k : Nat)
    (h : k ∉ l → P (kvGet m k d)) : P (kvGet (l.foldl (fun m k => kvMod m k d f) m) k d) := by
  induction l generalizing m with
  | nil => exact h List.not_mem_nil
  | cons a rest ih =>
    refine ih _ fun hrest => ?_
    rw [kvGet_kvMod]
    split
    next => exact hf _
    next hk => exact h fun hmem => (List.mem_cons.mp hmem).elim (fun ha => hk ha) hrest

/-- `s'` is `s` with channels of tower `t` trained, none untrained. -/
structure Trains (t : Nat) (s s' : State) : Prop where
  mem : s'.mem = s.mem
  power : s'.power = s.power
  length_towers : s'.towers.length = s.towers.length
  tower : ∃ channels, s'.tower t = { s.tower t with channels }
  trained : ∀ l c, ((s.tower t).channel l c).trained = true → ((s'.tower t).channel l c).trained = true

namespace Trains

theorem refl (t : Nat) (s : State) : Trains t s s := ⟨rfl, rfl, rfl, ⟨_, rfl⟩, fun _ _ h => h⟩

theorem trans {t : Nat} {s s' s'' : State} (h : Trains t s s') (h' : Trains t s' s'') : Trains t s s'' := by
  refine ⟨h'.mem.trans h.mem, h'.power.trans h.power, h'.length_towers.trans h.length_towers, ?_, fun l c hl => h'.trained l c (h.trained l c hl)⟩
  obtain ⟨_, htower⟩ := h.tower
  obtain ⟨channels, htower'⟩ := h'.tower
  exact ⟨channels, by rw [htower', htower]⟩

theorem mapLog (t : Nat) (s : State) (f : LogSt → LogSt) : Trains t s (s.mapLog f) := ⟨rfl, rfl, rfl, ⟨_, rfl⟩, fun _ _ h => h⟩

theorem ite {t : Nat} {s a b : State} {p : Prop} [Decidable p] (ha : Trains t s a) (hb : Trains t s b) : Trains t s (if p then a else b) := by
  split
  · exact ha
  · exact hb

theorem mapChannel (t : Nat) (s : State) (l c : Nat) {n : Channel} (hn : n.trained = true) :
    Trains t s (s.mapTower t (fun x => x.mapChannel l c (fun _ => n))) := by
  refine ⟨rfl, rfl, modAt_length .., ?_, fun l' c' h => ?_⟩ <;> rw [State.tower_mapTower_if] <;> split
  · exact ⟨_, rfl⟩
  · exact ⟨_, rfl⟩
  · simp only [Tower.channel, Tower.mapChannel, kvGet_kvMod]
    split
    · exact hn
    · exact h
  · exact h

end Trains

/-- One channel's training, as a layer's takes them in turn. -/
def trainOne (t : Nat) (widths : List (Nat × Nat × Nat)) (towerReset : Bool) (s : State) (lc : Nat × Nat) : State :=
  let k := (s.tower t).channel lc.1 lc.2
  let rep := (widths.filter (fun w => w.1 == lc.1 && w.2.1 == lc.2)).map (·.2.2)
  let n := k.train rep towerReset (bandRetiming (s.tower t).band)
  let s := s.mapTower t (fun x => x.mapChannel lc.1 lc.2 (fun _ => n))
  let s := if n.width < k.width then s.logEv (if n.width = 0 then 0x0603 else 0x0602) sevCapacity t (channelLoc lc.1 lc.2) else s
  if n.width = k.width then s else s.raiseEvent 2

theorem trainChannels_eq (s : State) (t top : Nat) (widths : List (Nat × Nat × Nat)) (towerReset : Bool) :
    s.trainChannels t top widths towerReset
      = ((List.range top).flatMap (fun l => (List.range 32).map (fun c => (l + 1, c)))).foldl (trainOne t widths towerReset) s := rfl

theorem trainOne_trains (t : Nat) (widths : List (Nat × Nat × Nat)) (towerReset : Bool) (s : State) (lc : Nat × Nat) :
    Trains t s (trainOne t widths towerReset s lc) :=
  ((Trains.mapChannel t s lc.1 lc.2 rfl).trans (.ite (.mapLog ..) (.refl ..))).trans (.ite (.refl ..) (.mapLog ..))

theorem trainOne_trained {t : Nat} (widths : List (Nat × Nat × Nat)) (towerReset : Bool) {s : State} (ht : t < s.towers.length)
    (lc : Nat × Nat) : (((trainOne t widths towerReset s lc).tower t).channel lc.1 lc.2).trained = true := by
  refine ((Trains.ite (.mapLog ..) (.refl ..)).trans (.ite (.refl ..) (.mapLog ..))).trained lc.1 lc.2 ?_
  rw [State.tower_mapTower _ _ _ _ ht, if_pos rfl]
  simp only [Tower.channel, Tower.mapChannel, kvGet_kvMod, if_true]
  rfl

/-- R305: the channels listed are trained; the tower is otherwise as before. -/
theorem trainAll_trains {t : Nat} (widths : List (Nat × Nat × Nat)) (towerReset : Bool) (l : List (Nat × Nat)) (s : State)
    (ht : t < s.towers.length) : Trains t s (l.foldl (trainOne t widths towerReset) s)
      ∧ ∀ lc ∈ l, (((l.foldl (trainOne t widths towerReset) s).tower t).channel lc.1 lc.2).trained = true := by
  induction l generalizing s with
  | nil => exact ⟨.refl t s, fun _ h => absurd h List.not_mem_nil⟩
  | cons a rest ih =>
    have hstep := trainOne_trains t widths towerReset s a
    obtain ⟨hrest, hall⟩ := ih (trainOne t widths towerReset s a) (hstep.length_towers ▸ ht)
    refine ⟨hstep.trans hrest, fun lc hlc => ?_⟩
    obtain rfl | hlc := List.mem_cons.mp hlc
    · exact hrest.trained _ _ (trainOne_trained widths towerReset ht lc)
    · exact hall lc hlc

theorem mem_layerChannels {top l c : Nat} (hl : l < top) (hc : c < 32) :
    (l + 1, c) ∈ (List.range top).flatMap (fun l => (List.range 32).map (fun c => (l + 1, c))) :=
  List.mem_flatMap.mpr ⟨l, List.mem_range.mpr hl, List.mem_map.mpr ⟨c, List.mem_range.mpr hc, rfl⟩⟩

/-- A layer that is powered on has its channels untrained. -/
theorem trained_untrained (channels : KV Channel) {top l c : Nat} (hl : l < top) (hc : c < 32) :
    (kvGet ((List.range top).foldl (fun cs l => (List.range 32).foldl (fun cs c =>
      kvMod cs (chanKey (l + 1) c) Channel.fresh (fun k => { k with trained := false })) cs) channels) (chanKey (l + 1) c)
      Channel.fresh).trained = false := by
  have hmem : chanKey (l + 1) c ∈ (List.range top).flatMap (fun l => (List.range 32).map (chanKey (l + 1))) :=
    List.mem_flatMap.mpr ⟨l, List.mem_range.mpr hl, List.mem_map.mpr ⟨c, List.mem_range.mpr hc, rfl⟩⟩
  have hall := kvGet_foldl_kvMod (P := fun k : Channel => k.trained = false) (d := Channel.fresh)
    (f := fun k => { k with trained := false }) (fun _ => rfl) _ channels _ fun h => absurd hmem h
  simpa only [List.foldl_flatMap, List.foldl_map] using hall

/-- The layer reset is over: the tower's fence is lifted (R305). -/
def lifted (t : Nat) (s : State) : State :=
  ((s.mapTower t (fun x => { x with layerReset := .idle, layerNo := 0 })).raiseVector 0).unfenceTower t

theorem tower_lifted {s : State} {t : Nat} (ht : t < s.towers.length) : ∃ mode, (lifted t s).tower t
    = { s.tower t with layerReset := .idle, layerNo := 0, fence := false, fenceCause := 0, mode } := by
  have hlength : t < ((s.mapTower t (fun x => { x with layerReset := .idle, layerNo := 0 })).raiseVector 0).towers.length := by
    simpa [State.raiseVector] using ht
  rw [lifted, State.unfenceTower, State.tower_mapTower _ _ _ _ hlength, if_pos rfl, State.tower_raiseVector, State.tower_mapTower _ _ _ _ ht,
    if_pos rfl]
  exact ⟨_, rfl⟩

theorem layerTrained_eq {s : State} {t : Nat} (htraining : (s.tower t).layerReset = .training)
    (hqueue : ((s.trainChannels t (s.tower t).layerNo [] false).tower t).layerQueue = [])
    (hcause : ((s.trainChannels t (s.tower t).layerNo [] false).tower t).fenceCause = 2)
    (ht : t < (s.trainChannels t (s.tower t).layerNo [] false).towers.length) :
    s.layerTrained t [] [] = (lifted t (s.trainChannels t (s.tower t).layerNo [] false)).schedule t := by
  have hnone : ∀ v : State, v.failWires t [] = v := fun _ => rfl
  rw [State.layerTrained, if_neg (by simp [htraining])]
  dsimp only
  rw [hnone]
  generalize s.trainChannels t (s.tower t).layerNo [] false = v at *
  have htower : ((v.mapTower t (fun x => { x with layerReset := .idle, layerNo := 0 })).raiseVector 0).tower t
      = { v.tower t with layerReset := .idle, layerNo := 0 } := by
    rw [State.tower_raiseVector, State.tower_mapTower _ _ _ _ ht, if_pos rfl]
  rw [htower]
  dsimp only
  rw [hqueue, hcause]
  rfl

/-! ## The course of a layer reset (R303 to R305) -/

section LayerReset
variable {s u : State} {at_ t : Nat} (hu : u = s.advance at_) (htowers : t < u.towers.length)
include hu htowers

theorem layerResetRequest_completes (ht : t < 20) (k : Nat) (hserves : u.Serves 0x6003) (hk : 1 ≤ k) (hlayers : k ≤ (u.tower t).layers)
    (hfree : u.holdsBooked t = false) (hgroup : (u.tower t).group = none) (hreset : (u.tower t).resetState = .idle)
    (hlayer : (u.tower t).layerReset = .idle) (hfence : (u.tower t).fence = false) :
    Completes (.layerResetRequest at_ (8 * t + k) false) s (fun v => (v.tower t).layerReset = .draining ∧ (v.tower t).layerNo = k
      ∧ (v.tower t).layerTick = u.now + 100000 ∧ (v.tower t).fence = true ∧ (v.tower t).fenceCause = 2 ∧ v.AccessDone
      ∧ OtherTowersSame t u v) := by
  have h8 : k < 8 := Nat.lt_of_le_of_lt hlayers (by unfold Tower.layers; split <;> decide)
  have hdiv : (8 * t + k) / 8 = t := by omega
  have hmod : (8 * t + k) % 8 = k := by omega
  have hbooked : (u.begun false 0x6003 1).holdsBooked t = false := hfree
  have hbegin : (u.begun false 0x6003 1).requestLayerReset t k = ((u.begun false 0x6003 1).fenceTower t 2).mapTower t (fun x =>
      { x with layerReset := .draining, layerNo := k, layerTick := u.now + 100000 }) := by
    rw [State.requestLayerReset, State.tower_begun, if_pos hlayer, State.beginLayerReset, State.tower_begun, hfence]
    rfl
  refine .of_checked hu rfl hserves (by unfold layerResetProc; rfl) ?_ ?_
  · simp only [hdiv, hmod, hbooked, State.tower_begun, hgroup, hreset]
    simp [firstAbort, Nat.not_le.mpr ht, Nat.not_lt.mpr hlayers, Nat.ne_of_gt hk]
  · have hlength : t < ((u.begun false 0x6003 1).fenceTower t 2).towers.length := by simpa [State.fenceTower] using htowers
    rw [hdiv, hmod, hbegin, State.tower_endAccess, State.tower_mapTower _ _ _ _ hlength, if_pos rfl, State.fenceTower,
      State.tower_mapTower (u.begun false 0x6003 1) _ _ _ htowers, if_pos rfl]
    refine ⟨rfl, rfl, rfl, rfl, rfl, by simp [State.AccessDone], ?_⟩
    exact OtherTowersSame.trans (s' := (u.begun false 0x6003 1).fenceTower t 2) (.of_modAt rfl) (.of_modAt rfl)

theorem layerDrainComplete_completes (hdraining : (u.tower t).layerReset = .draining) (_ : 1 ≤ (u.tower t).layerNo)
    (_ : (u.tower t).layerNo ≤ 4) :
    Completes (.layerDrainComplete at_ t) s (fun v => (v.tower t).layerReset = .off ∧ (v.tower t).layerTick = u.now + 10000
      ∧ (v.tower t).gates.getLsbD ((u.tower t).layerNo - 1) = false ∧ OtherTowersSame t u v ∧ SameMemory u v) := by
  refine .of_effect (fun u => u.mapTower t (fun x => x.layerOff u.now)) hu rfl ?_
  rw [State.tower_mapTower _ _ _ _ htowers, if_pos rfl, Tower.layerOff, if_pos (.inl hdraining)]
  refine ⟨rfl, rfl, ?_, .of_modAt rfl, .of_mem rfl⟩
  simp

theorem layerResetForced_completes (hdraining : (u.tower t).layerReset = .draining) (hlate : (u.tower t).layerTick ≤ u.now) :
    Completes (.layerResetForced at_ t) s (fun v => (v.tower t).layerReset = .forced
      ∧ (v.tower t).running = (u.tower t).running.filter (fun c => !(u.tower t).holdsTransfer c)
      ∧ (v.tower t).queue = ((u.tower t).running.filter (u.tower t).holdsTransfer).map Chunk.restart ++ (u.tower t).queue
      ∧ v.mem.poisonedTransfers = u.mem.poisonedTransfers + ((u.tower t).running.filter (u.tower t).holdsTransfer).length
      ∧ SameMemory u v) := by
  refine .of_effect (fun u => u.forceLayerReset t) hu rfl ?_
  rw [State.forceLayerReset, if_pos ⟨hdraining, hlate⟩, State.tower_mapMem, State.tower_mapTower _ _ _ _ htowers, if_pos rfl]
  exact ⟨rfl, rfl, rfl, rfl, .of_cells rfl⟩

theorem layerPowerOn_completes (hoff : (u.tower t).layerReset = .off) (htick : (u.tower t).layerTick ≤ u.now)
    (h1 : 1 ≤ (u.tower t).layerNo) (h4 : (u.tower t).layerNo ≤ 4) :
    Completes (.layerPowerOn at_ t) s (fun v => (v.tower t).layerReset = .training
      ∧ (v.tower t).gates.getLsbD ((u.tower t).layerNo - 1) = true
      ∧ ∀ l c, l < (u.tower t).layerNo → c < 32 → ((v.tower t).channel (l + 1) c).trained = false) := by
  refine .of_effect (fun u => u.mapTower t (fun x => x.layerOn u.now)) hu rfl ?_
  rw [State.tower_mapTower _ _ _ _ htowers, if_pos rfl, Tower.layerOn, if_pos ⟨hoff, htick⟩]
  refine ⟨rfl, ?_, fun l c hl hc => ?_⟩
  · simp
    omega
  · exact trained_untrained _ hl hc

theorem layerTrained_completes (htraining : (u.tower t).layerReset = .training) (hqueue : (u.tower t).layerQueue = [])
    (hcause : (u.tower t).fenceCause = 2) :
    Completes (.layerTrained at_ t ⟨[], []⟩) s (fun v => (v.tower t).layerReset = .idle ∧ (v.tower t).fence = false
      ∧ (∀ l c, l < (u.tower t).layerNo → c < 32 → ((v.tower t).channel (l + 1) c).trained = true) ∧ v.log.vecP.getLsbD 0 = true
      ∧ SameMemory u v) := by
  obtain ⟨htrains, hall⟩ := trainAll_trains [] false
    ((List.range (u.tower t).layerNo).flatMap (fun l => (List.range 32).map (fun c => (l + 1, c)))) u htowers
  rw [← trainChannels_eq] at htrains hall
  obtain ⟨channels, htower⟩ := htrains.tower
  refine .of_telling (fun u => u.layerTrained t [] []) hu rfl fun sent n => ?_
  rw [layerTrained_eq htraining (by rw [htower]; exact hqueue) (by rw [htower]; exact hcause) (htrains.length_towers ▸ htowers)]
  obtain ⟨mode, hlifted⟩ := tower_lifted (htrains.length_towers ▸ htowers)
  generalize hv : u.trainChannels t (u.tower t).layerNo [] false = v at *
  have hsched := Schedules.schedule (lifted t v) t
  rw [State.tower_mapPair]
  refine ⟨?_, ?_, fun l c hl hc => ?_, ?_, ?_⟩
  · exact hsched.tower.layerReset.trans (by rw [hlifted])
  · exact hsched.tower.fence.trans (by rw [hlifted])
  · have hchannel : (((lifted t v).schedule t).tower t).channel (l + 1) c = (v.tower t).channel (l + 1) c := by
      simp only [Tower.channel, hsched.tower.channels, hlifted]
    exact (congrArg Channel.trained hchannel).trans (hall (l + 1, c) (mem_layerChannels hl hc))
  · exact (congrArg (fun l => l.vecP.getLsbD 0) hsched.log).trans (State.vecP_raiseVector _ (by decide))
  · exact .of_mem (hsched.mem.trans htrains.mem)

end LayerReset

/-! ## Stacks in service (R306, R308) -/

section Stacks
variable {s u : State} {at_ m : Nat} {k : Stack} (hu : u = s.advance at_) (hstack : u.mem.dram[m]? = some k) (hserves : k.st = 1)

theorem mapStack_eq (s : State) (m : Nat) (f : Stack → Stack) :
    s.mapStack m f = { s with mem := { s.mem with dram := (s.mapStack m f).mem.dram } } := rfl

theorem dram_mapStack {s : State} {m : Nat} {k : Stack} (hstack : s.mem.dram[m]? = some k) (f : Stack → Stack) :
    (s.mapStack m f).mem.dram[m]? = some (f k) := by
  simp [State.mapStack, hstack]

theorem serves_of_st {k : Stack} (h : k.st = 1) : k.serves = true := by simp [Stack.serves, h]

include hu hstack hserves

theorem refresh_completes :
    Completes (.refresh at_ m) s (fun t => t = { u with mem := { u.mem with dram := t.mem.dram } } ∧ t.mem.dram[m]? = some { k with
      refreshes := k.refreshes + 1
      refresh := max (bandRefresh (u.power.fieldBand.getD (8 + m / 2) 0)) (Config.mr4Rate k.mr4) }) := by
  refine ⟨_, rfl, ?_⟩
  rw [← hu]
  refine ⟨mapStack_eq .., ?_⟩
  rw [dram_mapStack hstack, if_pos (serves_of_st hserves)]

theorem mr4Poll_completes (v : Nat) (hv : v < 256) :
    Completes (.mr4Poll at_ m v) s (fun t => t = { u with mem := { u.mem with dram := t.mem.dram } }
      ∧ t.mem.dram[m]? = some { k with mr4 := v }) := by
  refine ⟨_, rfl, ?_⟩
  rw [← hu]
  refine ⟨mapStack_eq .., ?_⟩
  rw [dram_mapStack hstack, if_pos (serves_of_st hserves), Nat.mod_eq_of_lt hv]

omit hu in
theorem retrainStack_eq (failed : Option Nat) : u.retrainStack ⟨m, failed⟩ =
    match failed with
    | some c => (u.mapStack m (fun x => { x with retrainings := x.retrainings + 1 })).stackChannelFails m c
    | none => u.mapStack m (fun x => { x with retrainings := x.retrainings + 1 }) := by
  have hup : (u.mem.dram.getD m Stack.fresh).serves = true := by
    rw [List.getD_eq_getElem?_getD, hstack]
    exact serves_of_st hserves
  exact if_pos hup

theorem wck2dqRetraining_completes :
    Completes (.wck2dqRetraining at_ ⟨m, none⟩) s (fun t => t = { u with mem := { u.mem with dram := t.mem.dram } }
      ∧ t.mem.dram[m]? = some { k with retrainings := k.retrainings + 1 }) := by
  refine .of_effect (fun u => u.retrainStack ⟨m, none⟩) hu rfl ?_
  rw [retrainStack_eq hstack hserves]
  exact ⟨mapStack_eq .., dram_mapStack hstack _⟩

theorem wck2dqRetraining_fails (c : Nat) (hm : m < 8) (hc : c < 16) (hfailed : c ∉ k.failed) :
    Completes (.wck2dqRetraining at_ ⟨m, some c⟩) s (fun t => t.mem.dram[m]? = some { k with
        retrainings := k.retrainings + 1, failed := insertNat k.failed c, st := if 15 ≤ k.failed.length then 3 else 2 }
      ∧ t.log.count = u.log.count + 1) := by
  refine .of_effect (fun u => u.retrainStack ⟨m, some c⟩) hu rfl ?_
  have hretrained := dram_mapStack hstack (fun x => { x with retrainings := x.retrainings + 1 })
  rw [retrainStack_eq hstack hserves]
  dsimp only
  rw [State.stackChannelFails, if_neg]
  · exact ⟨dram_mapStack hretrained _, State.logEv_count ..⟩
  · simp [List.getD_eq_getElem?_getD, hretrained, hfailed, Nat.not_le.mpr hm, Nat.not_le.mpr hc]

end Stacks

/-- Settles O31: each command takes a layer's reset one stage on, or serves the one stack. -/
theorem layerAndStackCommandsComplete : Obligations.LayerAndStackCommandsComplete := by
  refine ⟨?_, fun s at_ m u k hu hstack hserves => ⟨refresh_completes hu hstack hserves, mr4Poll_completes hu hstack hserves,
    wck2dqRetraining_completes hu hstack hserves, wck2dqRetraining_fails hu hstack hserves⟩⟩
  rintro s at_ t u x hu ht htowers rfl
  exact ⟨layerResetRequest_completes hu htowers ht, layerDrainComplete_completes hu htowers, layerResetForced_completes hu htowers,
    layerPowerOn_completes hu htowers, layerTrained_completes hu htowers⟩

end Sys2Proof.Proofs.LayersAndStacks

/-!
Memory integrity (chapter 11): patrol, remap, retirement and the checker's test (R319 to R328).
-/
namespace Sys2Proof.Proofs.MemoryIntegrity

open Sys2Proof Sys2Proof.Machine Sys2Proof.Proofs.BulkTraffic

/-! ## Records of the error log (R328) -/

section EccRecord
variable (s : State) (r : EccRec)

@[simp] theorem towers_eccRecord : (s.eccRecord r).towers = s.towers := by
  unfold State.eccRecord
  dsimp only
  split
  · rfl
  · split <;> rfl

@[simp] theorem tower_eccRecord (k : Nat) : (s.eccRecord r).tower k = s.tower k := State.tower_congr (towers_eccRecord s r) k

theorem sameMemory_eccRecord : SameMemory s (s.eccRecord r) := .of_cells (poison_cells_eccRecord s r).2

variable {r}

/-- A record that is not of a correction stands by itself. -/
theorem logCount_eccRecord (h : r.event ≠ 1) : (s.eccRecord r).mem.logCount = s.mem.logCount + 1 := by
  unfold State.eccRecord
  dsimp only
  rw [if_neg (fun hr => h hr.1)]
  split <;> rfl

theorem log_eccRecord {code : Nat} (h : r.event ≠ 1) (hcopy : eccCopy r.event = some code) :
    (s.eccRecord r).log.count = s.log.count + 1 := by
  unfold State.eccRecord
  dsimp only
  rw [if_neg (fun hr => h hr.1), hcopy]
  exact State.logEv_count ..

end EccRecord

theorem logCount_mapStack (s : State) (m : Nat) (f : Stack → Stack) : (s.mapStack m f).mem.logCount = s.mem.logCount := rfl

/-- A word found uncorrectable that is not poisoned yet is recorded (R320, R328). -/
theorem logCount_uncorrectable {s : State} {key : Nat} (found : Nat) (h : poisonKey key ∉ s.mem.poison) :
    (s.uncorrectable key found).mem.logCount = s.mem.logCount + 1 := by
  unfold State.uncorrectable
  rw [if_neg (by simpa using h)]
  dsimp only
  rw [logCount_eccRecord _ (by exact (by decide : (2 : Nat) ≠ 1))]
  split <;> rfl

theorem readFinds_uncorrectable {s : State} {base n off k found : Nat} (hoff : off < n) (hk : 3 ≤ k)
    (hvalid : s.mem.isValid (base + off) = true) (hpoison : poisonKey (base + off) ∉ s.mem.poison) :
    s.readFinds base n found [⟨off, .symbols k⟩] = s.uncorrectable (base + off) found := by
  change s.finds base n found ⟨off, .symbols k⟩ = _
  have hk0 : k ≠ 0 := by omega
  have hk2 : ¬k ≤ 2 := by omega
  simp [State.finds, Nat.not_le.mpr hoff, hvalid, hk0, hk2, hpoison]

/-! ## Patrol (R321) -/

section Patrol
variable {s u : State} {at_ t l c : Nat} (hu : u = s.advance at_) (hl : 1 ≤ l) (ht : t < 20) (htowers : t < u.towers.length)
  (hhas : (u.tower t).hasChannel l c = true) (hidle : (u.tower t).layerReset = .idle) (hcopying : (u.tower t).retireState ≠ .copying)
  (hwidth : ((u.tower t).channel l c).width ≠ 0)
  (hnext : ((u.tower t).channel l c).patrol + 1 < 256 * channelPages (u.tower t).isCache l c)

/-- The module whose patrol of a channel stands one word further. -/
def patrolled (s : State) (t l c : Nat) : State :=
  s.mapTower t (fun x => x.mapChannel l c (fun k => { k with patrol := ((s.tower t).channel l c).patrol + 1 }))

include ht hhas hidle hcopying hwidth hnext in
theorem patrolSram_eq (finds : List WordFind) : u.patrolSram t l c finds = (patrolled u t l c).readFinds
    (sramKey t (channelPage (u.tower t).isCache l c (((u.tower t).channel l c).patrol / 256)) (((u.tower t).channel l c).patrol % 256 * 256))
    256 1 finds := by
  have hskip : (decide ((u.tower t).retireState = .copying)
      && decide ((u.tower t).retirePage = channelPage (u.tower t).isCache l c (((u.tower t).channel l c).patrol / 256))) = false := by
    simp [hcopying]
  unfold State.patrolSram
  rw [if_neg (by simp [hhas, hidle, hwidth, Nat.not_le.mpr ht])]
  dsimp only
  rw [hskip]
  simp only [Bool.false_eq_true, if_false, decide_eq_true_eq, Nat.not_le.mpr hnext]
  rfl

include hu hl ht htowers hhas hidle hcopying hwidth hnext

theorem patrolVisit_completes : Completes (.patrolVisit at_ t l c [] 0) s (fun v =>
    (v.tower t).channel l c = { (u.tower t).channel l c with patrol := ((u.tower t).channel l c).patrol + 1 }
    ∧ v.mem = u.mem ∧ v.log = u.log ∧ OtherTowersSame t u v) := by
  refine .of_effect (fun u => if l = 0 then u.patrolStack t c [] 0 else u.patrolSram t l c []) hu rfl ?_
  rw [if_neg (Nat.ne_of_gt hl), patrolSram_eq ht hhas hidle hcopying hwidth hnext]
  refine ⟨?_, rfl, rfl, .of_modAt rfl⟩
  change ((patrolled u t l c).tower t).channel l c = _
  rw [patrolled, State.tower_mapTower _ _ _ _ htowers, if_pos rfl]
  simp only [Tower.channel, Tower.mapChannel, kvGet_kvMod, if_true]

omit htowers in
theorem patrolVisit_poisons (off n key : Nat)
    (hkey : key = sramKey t (channelPage (u.tower t).isCache l c (((u.tower t).channel l c).patrol / 256))
      (((u.tower t).channel l c).patrol % 256 * 256) + off) (hoff : off < 256) (hn : 3 ≤ n) (hvalid : u.mem.isValid key = true)
    (hpoison : poisonKey key ∉ u.mem.poison) : Completes (.patrolVisit at_ t l c [⟨off, .symbols n⟩] 0) s (fun v =>
      poisonKey key ∈ v.mem.poison ∧ v.mem.logCount = u.mem.logCount + 1 ∧ SameMemory u v) := by
  subst hkey
  refine .of_effect (fun u => if l = 0 then u.patrolStack t c [⟨off, .symbols n⟩] 0 else u.patrolSram t l c [⟨off, .symbols n⟩]) hu rfl ?_
  rw [if_neg (Nat.ne_of_gt hl), patrolSram_eq ht hhas hidle hcopying hwidth hnext]
  obtain ⟨hpoisoned, hcells⟩ := finds_uncorrectable (v := patrolled u t l c) (found := 1) hoff hn hvalid
  refine ⟨hpoisoned, ?_, .of_cells hcells⟩
  rw [readFinds_uncorrectable (s := patrolled u t l c) hoff hn hvalid hpoison]
  exact logCount_uncorrectable (s := patrolled u t l c) 1 hpoison

end Patrol

/-! ## Words of small arrays (R323, R324) -/

/-- A word of tower `t` takes a spare of its bank; the rest of the tower's account stands. -/
theorem remapWord_takes {s : State} {t unit bank : Nat} (word : Nat) (ht : t < s.towers.length)
    (h : (kvGet (s.tower t).remaps (remapKey unit bank) []).length < 8) :
    kvGet ((s.remapWord t unit bank word).tower t).remaps (remapKey unit bank) []
        = kvGet (s.tower t).remaps (remapKey unit bank) [] ++ [word]
      ∧ ((s.remapWord t unit bank word).tower t).remapUsed = (s.tower t).remapUsed + 1
      ∧ ((s.remapWord t unit bank word).tower t).smallFixed = (s.tower t).smallFixed
      ∧ (s.remapWord t unit bank word).mem.logCount = s.mem.logCount + 1
      ∧ SameMemory s (s.remapWord t unit bank word) ∧ OtherTowersSame t s (s.remapWord t unit bank word) := by
  unfold State.remapWord
  dsimp only
  rw [if_pos h]
  generalize hforgotten : s.mapTower t (fun x =>
    { x with smallSeen := x.smallSeen.filter (fun q => q.1 != (remapKey unit bank, word)) }) = v
  have htower : v.tower t = { s.tower t with
      smallSeen := (s.tower t).smallSeen.filter (fun q => q.1 != (remapKey unit bank, word)) } := by
    rw [← hforgotten, State.tower_mapTower _ _ _ _ ht, if_pos rfl]
  have hlength : t < v.towers.length := by simpa [← hforgotten] using ht
  have hothers : OtherTowersSame t s v := by rw [← hforgotten]; exact .of_modAt rfl
  have hmem : v.mem = s.mem := by rw [← hforgotten]; rfl
  have hevent : (remapRecord v t unit bank word 3).event ≠ 1 := by exact (by decide : (3 : Nat) ≠ 1)
  rw [tower_eccRecord, State.tower_mapTower _ _ _ _ hlength, if_pos rfl, htower, logCount_eccRecord _ hevent]
  refine ⟨by simp [kvGet_kvSet], rfl, rfl, congrArg (·.logCount + 1) hmem, ?_, ?_⟩
  · exact SameMemory.trans (t := v) (.of_mem hmem) (SameMemory.trans (.of_mem rfl) (sameMemory_eccRecord _ _))
  · exact (hothers.trans (.of_modAt rfl)).trans (.of_towers (towers_eccRecord ..))

/-- A correction is noted with its tick, that the next one of the word within the window is known by (R324). -/
def noted (t unit bank word : Nat) (s : State) : State :=
  s.mapTower t (fun x =>
    { x with smallFixed := x.smallFixed + 1
             smallSeen := ((remapKey unit bank, word), s.now) :: x.smallSeen.filter (fun q => q.1 != (remapKey unit bank, word)) })

theorem telling_congr {s : State} {f g : State → State} (h : f s = g s) : s.telling f = s.telling g := by
  unfold State.telling
  dsimp only
  rw [h]

section Remap
variable {s u : State} {at_ t unit bank : Nat} (hu : u = s.advance at_) (ht : t < 20) (htowers : t < u.towers.length) (hunit : unit ≤ 33)

include ht hunit in
theorem smallWord_eq (word : Nat) (fault : WordFault) : u.smallWord t unit bank ⟨word, fault⟩ =
    match fault with
    | .uncorrectable => u.arrayFault t unit bank
    | .wrongAfterRewrite => u.remapWord t unit bank word
    | .corrected => if (u.tower t).fixedLately (remapKey unit bank) word u.now then (noted t unit bank word u).remapWord t unit bank word
        else noted t unit bank word u := by
  rw [State.smallWord, if_neg (by omega)]
  cases fault <;> rfl

include hu ht htowers hunit

theorem remap_wrong (word : Nat) (h : (kvGet (u.tower t).remaps (remapKey unit bank) []).length < 8) :
    Completes (.remap at_ t unit bank ⟨word, .wrongAfterRewrite⟩) s (fun v =>
      kvGet (v.tower t).remaps (remapKey unit bank) [] = kvGet (u.tower t).remaps (remapKey unit bank) [] ++ [word]
      ∧ (v.tower t).remapUsed = (u.tower t).remapUsed + 1
      ∧ v.mem.logCount = u.mem.logCount + 1 ∧ SameMemory u v ∧ OtherTowersSame t u v) := by
  refine .of_telling (fun u => u.smallWord t unit bank ⟨word, .wrongAfterRewrite⟩) hu rfl fun sent n => ?_
  rw [smallWord_eq ht hunit]
  obtain ⟨hremaps, hused, -, hcount, hmem, hothers⟩ := remapWord_takes word htowers h
  exact ⟨hremaps, hused, hcount, hmem, hothers⟩

theorem remap_again (word : Nat) (h : (kvGet (u.tower t).remaps (remapKey unit bank) []).length < 8)
    (hlately : (u.tower t).fixedLately (remapKey unit bank) word u.now = true) :
    Completes (.remap at_ t unit bank ⟨word, .corrected⟩) s (fun v =>
      kvGet (v.tower t).remaps (remapKey unit bank) [] = kvGet (u.tower t).remaps (remapKey unit bank) [] ++ [word]
      ∧ (v.tower t).remapUsed = (u.tower t).remapUsed + 1 ∧ (v.tower t).smallFixed = (u.tower t).smallFixed + 1
      ∧ v.mem.logCount = u.mem.logCount + 1 ∧ SameMemory u v ∧ OtherTowersSame t u v) := by
  refine .of_telling (fun u => u.smallWord t unit bank ⟨word, .corrected⟩) hu rfl fun sent n => ?_
  rw [smallWord_eq ht hunit]
  dsimp only
  rw [if_pos hlately]
  have htower : (noted t unit bank word u).tower t = _ := (State.tower_mapTower _ _ _ _ htowers).trans (if_pos rfl)
  obtain ⟨hremaps, hused, hfixed, hcount, hmem, hothers⟩ := remapWord_takes (s := noted t unit bank word u) word
    (by simpa [noted] using htowers) (by rwa [htower])
  rw [htower] at hremaps hused hfixed
  exact ⟨hremaps, hused, hfixed, hcount, hmem, OtherTowersSame.trans (s' := noted t unit bank word u) (.of_modAt rfl) hothers⟩

theorem remap_first (word : Nat) (hlately : (u.tower t).fixedLately (remapKey unit bank) word u.now = false) :
    Completes (.remap at_ t unit bank ⟨word, .corrected⟩) s (fun v =>
      (v.tower t).remaps = (u.tower t).remaps ∧ (v.tower t).smallFixed = (u.tower t).smallFixed + 1
      ∧ (v.tower t).fixedLately (remapKey unit bank) word u.now = true ∧ v.mem = u.mem ∧ OtherTowersSame t u v) := by
  refine .of_telling (fun u => u.smallWord t unit bank ⟨word, .corrected⟩) hu rfl fun sent n => ?_
  rw [smallWord_eq ht hunit]
  dsimp only
  rw [hlately, if_neg Bool.false_ne_true, State.tower_mapPair, noted, State.tower_mapTower _ _ _ _ htowers, if_pos rfl]
  exact ⟨rfl, rfl, by simp [Tower.fixedLately], rfl, .of_modAt rfl⟩

omit htowers in
/-- R323: an array whose word cannot be corrected is a fault of its tile. -/
theorem remap_uncorrectable (word : Nat) (htile : unit < 16) (hbank : bank / 16 < 17) :
    Completes (.remap at_ t unit bank ⟨word, .uncorrectable⟩) s (fun v => exec (.tileFault at_ t unit (bank / 16)) s = .next v) := by
  have hfault : u.smallWord t unit bank ⟨word, .uncorrectable⟩
      = if bank / 16 < 17 then u.faultTile t unit (bank / 16) else u := by
    rw [smallWord_eq ht hunit, if_pos hbank]
    exact if_pos htile
  refine ⟨_, rfl, ?_⟩
  change Host.Outcome.next ((s.advance at_).telling (fun s => if bank / 16 < 17 then s.faultTile t unit (bank / 16) else s))
    = .next ((s.advance at_).telling (fun s => s.smallWord t unit bank ⟨word, .uncorrectable⟩))
  rw [← hu]
  exact congrArg _ (telling_congr hfault.symm)

end Remap

/-! ## Retirement (R325, R326) -/

section Retire
variable {s u : State} {at_ t page : Nat}

/-- D:6200 names a page that may be retired: no check refuses it. -/
structure Retires (u : State) (t page : Nat) : Prop where
  serves : u.Serves 0x6200
  tower : t = u.held 0x620001 0
  space : u.held 0x620002 1 = 1
  pageNo : page = u.held 0x620003 0
  present : t < u.towers.length
  range : page < towerPages (u.tower t).isCache
  kept : page ∉ (u.tower t).replacedPages
  unlost : (1, page) ∉ (u.tower t).withdrawnPages
  free : (u.tower t).retireState ≠ .copying
  layer : (u.tower t).layerReset = .idle
  reset : (u.tower t).resetState = .idle
  room : ((u.tower t).withdrawnPages.filter (fun w => w.1 == 1)).length < 1024

theorem Retires.completes (h : Retires u t page) {P : State → Prop} (hu : u = s.advance at_)
    (hP : P (((u.begun false 0x6200 4).retirePageOf t 1 page).endAccess false 0x6200 4 0)) : Completes (.retire at_ 1) s P := by
  obtain ⟨hserves, rfl, hspace, rfl, -, hrange, hkept, hunlost, hfree, hlayer, hreset, hroom⟩ := h
  refine .of_checked hu rfl hserves (by unfold retireProc; rfl) ?_ ?_
  · simp only [State.begun_held, State.tower_begun, hspace]
    simp [firstAbort, Nat.not_le.mpr hrange, hkept, hunlost, hfree, hlayer, hreset, Nat.not_le.mpr hroom]
  · simpa only [State.begun_held, hspace, decide_true, if_true] using hP

/-- The page is copied to a reserve page of its channel by an operator of the tower. -/
def copying (t page : Nat) (s : State) : State :=
  s.mapTower t (fun x =>
    { x with retireState := .copying, retirePage := page, ops := x.ops ++ [copyOp s t page], nextIssue := x.nextIssue + 1
             reserveUsed := kvMod x.reserveUsed (chanKey (pageLayer x.isCache page) (pageChannel x.isCache page)) 0 (· + 1) })

theorem retire_copies (hu : u = s.advance at_) (h : Retires u t page) (hreserve : (u.tower t).reserveOf page < 8) :
    Completes (.retire at_ 1) s (fun v => (v.tower t).retireState = .copying ∧ (v.tower t).retirePage = page
      ∧ (v.tower t).reserveOf page = (u.tower t).reserveOf page + 1 ∧ SameMemory u v ∧ v.AccessDone) := by
  refine h.completes hu ?_
  have hsched := Schedules.schedule (copying t page (u.begun false 0x6200 4)) t
  have hcopying : (u.begun false 0x6200 4).retirePageOf t 1 page = (copying t page (u.begun false 0x6200 4)).schedule t :=
    if_pos ⟨rfl, hreserve⟩
  have htower : (copying t page (u.begun false 0x6200 4)).tower t = _ :=
    (State.tower_mapTower (u.begun false 0x6200 4) t t _ h.present).trans (if_pos rfl)
  obtain ⟨_, _, _, _, _, hscheduled⟩ := hsched.tower.frame
  rw [hcopying, State.tower_endAccess, hscheduled, htower]
  refine ⟨rfl, rfl, ?_, .of_mem hsched.mem, by simp [State.AccessDone]⟩
  simp only [Tower.reserveOf, kvGet_kvMod, if_true]
  rfl

/-- The page is cleared and named among those withdrawn. -/
def withdrawn (t page : Nat) (s : State) : State :=
  (s.mapMem (fun m => m.clear (sramKey t page 0) (sramKey t page 0 + 65536))).mapTower t (fun x =>
    { x with retireState := .withdrawn, retirePage := page, withdrawnPages := x.withdrawnPages ++ [(1, page)] })

theorem withdrawPage_eq (s : State) (t page : Nat) :
    ∃ r : EccRec, r.event = 7 ∧ s.withdrawPage t 1 page = ((withdrawn t page s).eccRecord r).raiseVector 0 :=
  ⟨_, rfl, rfl⟩

/-- Without a reserve page the page is withdrawn: cleared, recorded, and no longer usable (R319, R325). -/
theorem retire_withdraws (hu : u = s.advance at_) (h : Retires u t page) (hreserve : 8 ≤ (u.tower t).reserveOf page) :
    Completes (.retire at_ 1) s (fun v => (1, page) ∈ (v.tower t).withdrawnPages ∧ (v.tower t).retireState = .withdrawn
      ∧ (∀ b, b < 65536 → v.memByte (sramKey t page b) = 0) ∧ v.pageOk t page = false
      ∧ v.mem.logCount = u.mem.logCount + 1 ∧ v.log.count = u.log.count + 1 ∧ v.AccessDone) := by
  refine h.completes hu ?_
  have hwithdraw : (u.begun false 0x6200 4).retirePageOf t 1 page = (u.begun false 0x6200 4).withdrawPage t 1 page :=
    if_neg fun hlt => Nat.not_lt.mpr hreserve hlt.2
  obtain ⟨r, hevent, heq⟩ := withdrawPage_eq (u.begun false 0x6200 4) t page
  have hne : r.event ≠ 1 := by rw [hevent]; decide
  have htower : ((withdrawn t page (u.begun false 0x6200 4)).eccRecord r).tower t = _ :=
    (tower_eccRecord ..).trans ((State.tower_mapTower ((u.begun false 0x6200 4).mapMem _) t t _ h.present).trans (if_pos rfl))
  have hcells : ((withdrawn t page (u.begun false 0x6200 4)).eccRecord r).mem.cells
      = cellClear u.mem.cells (sramKey t page 0) (sramKey t page 0 + 65536) := (poison_cells_eccRecord ..).2
  have hlogged : ((withdrawn t page (u.begun false 0x6200 4)).eccRecord r).log.count = u.log.count + 1 :=
    log_eccRecord _ hne (code := 0x0607) (by rw [hevent]; rfl)
  have hrecorded : ((withdrawn t page (u.begun false 0x6200 4)).eccRecord r).mem.logCount = u.mem.logCount + 1 := logCount_eccRecord _ hne
  rw [hwithdraw, heq]
  generalize (withdrawn t page (u.begun false 0x6200 4)).eccRecord r = v at *
  have hlisted : (1, page) ∈ (v.tower t).withdrawnPages := by rw [htower]; simp
  refine ⟨hlisted, by rw [State.tower_endAccess, State.tower_raiseVector, htower], fun b hb => ?_, ?_, hrecorded, hlogged, ?_⟩
  · change cellGet v.mem.cells _ = 0
    rw [hcells, cellGet_cellClear, if_pos (by unfold sramKey; omega)]
  · change v.pageOk t page = false
    have hany : (v.tower t).withdrawnPages.any (fun w => w.1 == 1 && w.2 == page) = true := List.any_eq_true.mpr ⟨_, hlisted, by simp⟩
    simp [State.pageOk, hany]
  · simp [State.AccessDone]

end Retire

/-! ## The checker test (R327) -/

section Selected
variable (s : State) (index sub : Nat)

/-- What the test has selected is the same while the access runs and after it. -/
theorem begun_testSel : (s.begun false index sub).testSel = s.testSel := by simp only [State.testSel, State.begun_held]

theorem begun_heldBytes (key : Nat) (d : List Byte) : (s.begun false index sub).heldBytes key d = s.heldBytes key d :=
  congrArg (fun m => kvGet m key d) (DictSt.begin_keeps false index sub s.dict s.now).2.2

theorem begun_testRow : (s.begun false index sub).testRow = s.testRow := by
  simp only [State.testRow, begun_testSel]
  rfl

theorem begun_testData : (s.begun false index sub).testData = s.testData := by simp only [State.testData, begun_testSel, begun_heldBytes]

end Selected

section CheckerTest
variable {s u : State} {at_ : Nat}

/-- The row that the test selects can be reached: no check refuses it. -/
structure Tests (u : State) : Prop where
  serves : u.Serves 0x6101
  range : u.testRange = false
  sram : u.testSel.1 = 1 → ((u.heldBytes 0x610106 []).drop 32).any (· != 0) = false ∧ (u.tower u.testSel.2.1).layerReset = .idle
  dram : u.testSel.1 = 2 → (u.mem.dram.getD u.testSel.2.1 Stack.fresh).st = 1

theorem Tests.proc (h : Tests u) {value : Nat} (h1 : 1 ≤ value) (h2 : value ≤ 2) :
    ∃ checks, testProc value (u.begun false 0x6101 8)
        = checked checks (fun s => if value = 1 then s.testWrite else s.testReadRow) (u.begun false 0x6101 8) ∧ firstAbort checks = 0 := by
  refine ⟨_, by unfold testProc; rfl, ?_⟩
  have hrange : (u.begun false 0x6101 8).testRange = u.testRange := by simp only [State.testRange, begun_testSel, State.tower_begun]
  rw [h.range] at hrange
  simp only [hrange, begun_testSel, begun_heldBytes, State.tower_begun, State.begun_mem]
  by_cases hsram : u.testSel.1 = 1
  · obtain ⟨hbytes, hidle⟩ := h.sram hsram
    rw [hbytes]
    simp [firstAbort, hsram, hidle, Nat.ne_of_gt h1, Nat.not_lt.mpr h2]
  · by_cases hdram : u.testSel.1 = 2
    · have hserves := h.dram hdram
      rw [List.getD_eq_getElem?_getD] at hserves
      simp [firstAbort, hdram, hserves, Nat.ne_of_gt h1, Nat.not_lt.mpr h2]
    · simp [firstAbort, hsram, hdram, Nat.ne_of_gt h1, Nat.not_lt.mpr h2]

theorem testWriteRaw_completes (hu : u = s.advance at_) (h : Tests u) : Completes (.testWriteRaw at_) s (fun v =>
    v.testRow = (u.testData, u.heldBytes 0x610107 [0, 0, 0, 0]) ∧ SameMemory u v
    ∧ v.log = u.log ∧ v.mem.log = u.mem.log ∧ v.AccessDone) := by
  obtain ⟨checks, hproc, hpass⟩ := h.proc (value := 1) (by decide) (by decide)
  refine .of_checked hu rfl h.serves hproc hpass ⟨?_, .of_cells rfl, rfl, rfl, by simp [State.AccessDone]⟩
  change kvGet (kvSet u.mem.testRows (testKey (u.begun false 0x6101 8).testSel) _) (testKey (u.begun false 0x6101 8).testSel) _ = _
  rw [kvGet_kvSet, if_pos rfl, begun_testData, begun_heldBytes]

theorem testReadChecker_completes (hu : u = s.advance at_) (h : Tests u) : Completes (.testReadChecker at_) s (fun v =>
    v.mem.testStatus = Config.checkerStatus u.testRow.1 u.testRow.2 % 4
    ∧ SameMemory u v ∧ v.log = u.log ∧ v.mem.log = u.mem.log ∧ v.AccessDone) := by
  obtain ⟨checks, hproc, hpass⟩ := h.proc (value := 2) (by decide) (by decide)
  refine .of_checked hu rfl h.serves hproc hpass ⟨?_, .of_cells rfl, rfl, rfl, by simp [State.AccessDone]⟩
  rw [← begun_testRow u 0x6101 8]
  rfl

end CheckerTest

/-- Settles O32: each command finds, moves or withdraws what it names, and records it. -/
theorem integrityCommandsComplete : Obligations.IntegrityCommandsComplete := by
  refine ⟨⟨?_, ?_, ?_, ?_⟩, ?_⟩
  · rintro s at_ t l c u k hu hl ht htowers hhas hidle hcopying rfl hwidth hnext
    exact ⟨patrolVisit_completes hu hl ht htowers hhas hidle hcopying hwidth hnext,
      patrolVisit_poisons hu hl ht hhas hidle hcopying hwidth hnext⟩
  · rintro s at_ t unit bank word u l hu ht htowers hunit rfl
    exact ⟨remap_wrong hu ht htowers hunit word, remap_again hu ht htowers hunit word, remap_first hu ht htowers hunit word,
      remap_uncorrectable hu ht hunit word⟩
  · intro s at_ u t page hu hserves ht hspace hpage htowers hrange hkept hunlost hfree hlayer hreset hroom
    exact retire_copies hu ⟨hserves, ht, hspace, hpage, htowers, hrange, hkept, hunlost, hfree, hlayer, hreset, hroom⟩
  · intro s at_ u hu hserves hrange hsram hdram
    exact ⟨testWriteRaw_completes hu ⟨hserves, hrange, hsram, hdram⟩, testReadChecker_completes hu ⟨hserves, hrange, hsram, hdram⟩⟩
  · intro s at_ u t page hu hserves ht hspace hpage htowers hrange hkept hunlost hfree hlayer hreset hroom
    exact retire_withdraws hu ⟨hserves, ht, hspace, hpage, htowers, hrange, hkept, hunlost, hfree, hlayer, hreset, hroom⟩

end Sys2Proof.Proofs.MemoryIntegrity

/-!
A previous key slot that does not read zero raises the alarm of source 9 (R416, Table SK-1). Under action 1 of its policy the alarm ends the
work of every tenant (R448): records retire, and a record that retires has its slot areas cleared. So the retirement of a slot does not
always leave memory as it is.
-/
namespace Sys2Proof.Proofs.SlotRetirement

open Sys2Proof Sys2Proof.Machine

def slotOf (epoch : Nat) : KeySlot := { epoch, refs := 0, closing := false, since := 0, install := epoch, counter := 0 }

/-- Tenant 5's key: the slot of epoch 2 in force, that of epoch 1 to be retired. -/
def tenantKey : KeyId := { kind := 1, id := 5, cur := some (slotOf 2), prev := some (slotOf 1) }

/-- A record of tenant 5 in slot 0, none of whose operators is left. -/
def heldRecord : ActRec :=
  { slot := 0, tenant := 5, seq := 1, reqid := 0, model := 0, bases := [], windows := [], slotMap := [], bank := false, booked := false,
    status := 0, code := 0, codeDesc := 0, done := 0, total := 1, unacked := 0, reported := false, withdrawn := false, stamps := [],
    spooled := [] }

/-- The request that the record runs for. -/
def acceptedReq : Req :=
  { tenant := 5, seq := 1, reqid := 0, model := 0, cls := 1, port := 0, kepoch := 2, deadline := 0, shape := 0, length := 0, arrival := 0,
    phase := .accepted, bestEffort := false, prot := false, promised := 0, commit := 0, base := 0, slotMap := [], bank := false,
    rec_ := { shape := 0, clg := true, clb := true, span := 0, tail := 0, recov := 0, wins := [], pairs := [] }
    sentRecords := false, here := true, buffered := false, payload := none, payloadTick := 0, payloadGood := false, words := [],
    retired := [], reason := 0, detail := 0, reasonSite := 0, endTick := 0, parts := [], framesLeft := 0, lastLeft := false,
    twinDelivered := false, byCompare := false, delta := [] }

/-- A module whose policy of source 9 is action 1, with one request at work and the byte 7 in its slot area on tower 0. -/
def atWork : State :=
  (((State.reset.mapVault (fun v => { v with keys := [tenantKey], grace := 0, policy := [3, 2, 2, 1, 1, 2, 0, 0, 1] })).mapLedger
    (fun l => { l with reqs := [acceptedReq] })).mapTower 0 (fun x => { x with mode := .active, records := [heldRecord] })).mapMem (fun m =>
      { m with cells := [(0, 7)], windows := [{ eid := 0x20, space := 1, base := 0, len := 1, frames := 1, park := false, tower := 0 }] })

/-- The byte at key 0 after a command. -/
def firstByteAfter (c : Instr) (s : State) : Option Byte :=
  match exec c s with
  | .next t => some (t.memByte 0)
  | .fault _ => none
  | .refused _ => none

theorem firstByteAfter_next {c : Instr} {s t : State} (h : exec c s = .next t) : firstByteAfter c s = some (t.memByte 0) := by
  simp only [firstByteAfter, h]

/-- The slot that does not read zero costs the tenant's record, and with it the byte. -/
theorem firstByteAfter_retire : firstByteAfter (.previousSlotRetire 0 1 ⟨5, false⟩) atWork = some 0 := by decide +kernel

/-- Refutes O41: tenant 5's previous slot does not read zero, the alarm's action 1 ends the tenant's request, and the record that retires
clears its slot area, whose byte was 7 (R416, R448). -/
theorem not_vaultCommandsComplete : ¬ Obligations.VaultCommandsComplete := by
  intro h
  obtain ⟨-, -, -, -, hretire, -⟩ := h
  obtain ⟨t, hexec, hsame, -⟩ := hretire atWork 0 1 ⟨5, false⟩ tenantKey (slotOf 1) _ rfl (by decide +kernel) rfl rfl rfl (by decide +kernel)
    (by decide +kernel)
  have hzero : t.memByte 0 = 0 := Option.some.inj ((firstByteAfter_next hexec).symm.trans firstByteAfter_retire)
  have hseven : (atWork.advance 0).memByte 0 = 7 := by decide +kernel
  have hkept := (hsame 0).symm.trans hzero
  rw [hseven] at hkept
  exact absurd hkept (by decide)

end Sys2Proof.Proofs.SlotRetirement

/-!
What an alarm does (R448, Table SK-8): its action fences tenants and ends their work, erases their keys, or erases the vault and fences the
towers; then the alarm is counted and recorded.
-/
namespace Sys2Proof.Machine

open Sys2Proof

/-- Vault `y` is `x` but for what an alarm's action takes or fences. -/
def VaultSt.SameButAlarm (x y : VaultSt) : Prop :=
  ∃ mode keys secrets releaseGen pairKey reportHashes reportSt reportEntries fenceAll fenceExcept policyTick,
    y = { x with mode, keys, secrets, releaseGen, pairKey, reportHashes, reportSt, reportEntries, fenceAll, fenceExcept, policyTick }

theorem VaultSt.SameButAlarm.refl (x : VaultSt) : x.SameButAlarm x := ⟨_, _, _, _, _, _, _, _, _, _, _, rfl⟩

theorem VaultSt.SameButAlarm.trans {x y z : VaultSt} (h : x.SameButAlarm y) (h' : y.SameButAlarm z) : x.SameButAlarm z := by
  obtain ⟨_, _, _, _, _, _, _, _, _, _, _, rfl⟩ := h
  obtain ⟨a, b, c, d, e, f, g, h, i, j, k, rfl⟩ := h'
  exact ⟨a, b, c, d, e, f, g, h, i, j, k, rfl⟩

theorem VaultSt.SameButKeys.alarm {x y : VaultSt} (h : x.SameButKeys y) : x.SameButAlarm y := ⟨_, _, _, _, _, _, _, _, _, _, _, h⟩

/-- What an alarm's action leaves of the module beside towers, memory, ports, ledger, pair and event log. -/
structure Alarms (s t : State) : Prop where
  time : t.time = s.time
  base : t.base = s.base
  boot : t.boot = s.boot
  dict : t.dict = s.dict
  net : t.net = s.net
  vault : s.vault.SameButAlarm t.vault

namespace Alarms

theorem refl (s : State) : Alarms s s := ⟨rfl, rfl, rfl, rfl, rfl, .refl _⟩

theorem trans {s t u : State} (h : Alarms s t) (h' : Alarms t u) : Alarms s u :=
  ⟨h'.time.trans h.time, h'.base.trans h.base, h'.boot.trans h.boot, h'.dict.trans h.dict, h'.net.trans h.net, h.vault.trans h'.vault⟩

theorem of_ends {s t : State} (h : Ends s t) : Alarms s t :=
  ⟨h.time, h.base, h.boot, h.dict, h.net, h.vault.alarm⟩

theorem mapVault (s : State) {f : VaultSt → VaultSt} (h : s.vault.SameButAlarm (f s.vault)) : Alarms s (s.mapVault f) :=
  ⟨rfl, rfl, rfl, rfl, rfl, h⟩

theorem foldl {α : Type} (s : State) (l : List α) {f : State → α → State} (h : ∀ s a, Alarms s (f s a)) : Alarms s (l.foldl f s) :=
  foldl_keeps (Alarms s) f l s (.refl s) (fun _ a _ hs => hs.trans (h _ a))

theorem dropEmpty (s : State) : Alarms s s.dropEmpty := ⟨rfl, rfl, rfl, rfl, rfl, ⟨_, _, _, _, _, _, _, _, _, _, _, rfl⟩⟩

theorem eraseVault (s : State) : Alarms s s.eraseVault :=
  ((Alarms.mapVault s ⟨_, _, _, _, _, _, _, _, _, _, _, rfl⟩).trans (.dropEmpty _)).trans ⟨rfl, rfl, rfl, rfl, rfl, .refl _⟩

theorem fenceTowers (s : State) (cause : Nat) : Alarms s (s.fenceTowers cause) := by
  refine .foldl _ _ fun s t => ?_
  split
  · exact .refl s
  · exact ⟨rfl, rfl, rfl, rfl, rfl, .refl _⟩

theorem endTenants (s : State) (p : Nat → Bool) : Alarms s (s.endTenants p) :=
  Alarms.trans (t := s.mapTowers (fun l => l.map (fun t => t.fenceRecords p))) ⟨rfl, rfl, rfl, rfl, rfl, .refl _⟩ (.of_ends (.endAll ..))

theorem eraseTenants (s : State) (p : Nat → Bool) : Alarms s (s.eraseTenants p) :=
  (Alarms.mapVault s ⟨_, _, _, _, _, _, _, _, _, _, _, rfl⟩).trans (.dropEmpty _)

theorem setFences (v : VaultSt) (tenants : List Nat) : v.SameButAlarm (tenants.foldl (fun v t => v.setFence t true) v) :=
  foldl_keeps v.SameButAlarm _ tenants v (.refl v) (fun _ _ _ h => h.trans ⟨_, _, _, _, _, _, _, _, _, _, _, rfl⟩)

theorem fences (s : State) (all : Bool) (tenants : List Nat) :
    Alarms s (s.mapVault (fun v => if all then v.fenceEvery else tenants.foldl (fun v t => v.setFence t true) v)).policyChanged := by
  refine (Alarms.mapVault s ?_).trans (.mapVault _ ⟨_, _, _, _, _, _, _, _, _, _, _, rfl⟩)
  cases all with
  | false => exact setFences ..
  | true => exact ⟨_, _, _, _, _, _, _, _, _, _, _, rfl⟩

theorem alarmAct (s : State) (act : Nat) (all : Bool) (tenants : List Nat) : Alarms s (s.alarmAct act all tenants) := by
  unfold State.alarmAct
  dsimp only
  split
  · exact .refl s
  · split
    · exact (fences ..).trans (.endTenants ..)
    · split
      · exact ((fences ..).trans (.eraseTenants ..)).trans (.endTenants ..)
      · exact (eraseVault ..).trans (.fenceTowers ..)

end Alarms

/-- `t` is `s` after an alarm of `source` whose action was `act`. -/
structure Alarmed (s t : State) (source act : Nat) : Prop where
  time : t.time = s.time
  base : t.base = s.base
  boot : t.boot = s.boot
  dict : t.dict = s.dict
  net : t.net = s.net
  policy : s.rw2Now.policy.getD (source - 1) 0 ≤ act
  vault : ∃ x tickAll tickTenants, s.vault.SameButAlarm x ∧ t.vault = { x with
    alarms := s.vault.alarms + 1, lastSource := source, lastAlarmTick := s.now, lastAction := act, tickAll, tickTenants }

/-- The action of an alarm of `source`: what the policy says, or what an alarm of the same tick has done (R448). -/
def State.alarmActionOf (s : State) (source : Nat) : Nat :=
  max (s.rw2Now.policy.getD (source - 1) 0) (if decide (s.vault.lastAlarmTick = s.now) && decide (0 < s.vault.alarms) then s.vault.lastAction else 0)

/-- An alarm is its action, its account and its entry of the log. -/
theorem State.raiseAlarm_eq (s : State) (source : Nat) (all : Bool) (tenants : List Nat) :
    ∃ uAll uTen sev arg0 arg1, s.raiseAlarm source all tenants
      = (((s.alarmAct (s.alarmActionOf source) uAll uTen).mapVault (fun v =>
          { v with alarms := v.alarms + 1, lastSource := source, lastAlarmTick := (s.alarmAct (s.alarmActionOf source) uAll uTen).now
                   lastAction := s.alarmActionOf source, tickAll := uAll, tickTenants := uTen })).mapLog (fun l =>
            l.alarmAction (s.alarmAct (s.alarmActionOf source) uAll uTen).now (s.alarmActionOf source) sev)).logEv alarmCode sev unitHub source
              arg0 arg1 :=
  ⟨_, _, _, _, _, rfl⟩

theorem State.raiseAlarm_alarmed (s : State) (source : Nat) (all : Bool) (tenants : List Nat) :
    Alarmed s (s.raiseAlarm source all tenants) source (s.alarmActionOf source) := by
  obtain ⟨uAll, uTen, sev, arg0, arg1, heq⟩ := s.raiseAlarm_eq source all tenants
  have hact := Alarms.alarmAct s (s.alarmActionOf source) uAll uTen
  have hnow : (s.alarmAct (s.alarmActionOf source) uAll uTen).now = s.now := congrArg TimeSt.tally hact.time
  rw [heq, hnow]
  generalize s.alarmAct (s.alarmActionOf source) uAll uTen = t at *
  obtain ⟨htime, hbase, hboot, hdict, hnet, hvault⟩ := hact
  have halarms : t.vault.alarms = s.vault.alarms := by
    obtain ⟨_, _, _, _, _, _, _, _, _, _, _, hv⟩ := hvault
    rw [hv]
  exact ⟨htime, hbase, hboot, hdict, hnet, Nat.le_max_left .., t.vault, _, _, hvault, by rw [← halarms]; rfl⟩

/-- Action 3 erases the vault and fences the towers, and the alarm is the one entry of the log (R448). -/
theorem State.raiseAlarm_erases {s : State} {source : Nat} (all : Bool) (tenants : List Nat)
    (h : 3 ≤ s.rw2Now.policy.getD (source - 1) 0) :
    (s.raiseAlarm source all tenants).vault.mode = .erased ∧ (s.raiseAlarm source all tenants).vault.keys = []
      ∧ (s.raiseAlarm source all tenants).vault.secrets = 0 ∧ (s.raiseAlarm source all tenants).vault.releaseGen = 0
      ∧ (s.raiseAlarm source all tenants).vault.pairKey = false ∧ (s.raiseAlarm source all tenants).vault.reportHashes = []
      ∧ (s.raiseAlarm source all tenants).log.count = s.log.count + 1 := by
  obtain ⟨uAll, uTen, sev, arg0, arg1, heq⟩ := s.raiseAlarm_eq source all tenants
  have hact : s.alarmAct (s.alarmActionOf source) uAll uTen = s.eraseVault.fenceTowers 4 := by
    have h3 : 3 ≤ s.alarmActionOf source := Nat.le_trans h (Nat.le_max_left ..)
    unfold State.alarmAct
    rw [if_neg (by omega), if_neg (by omega), if_neg (by omega)]
  have hfenced := foldl_keeps (fun t => t.vault = s.eraseVault.vault ∧ t.log = s.eraseVault.log)
    (fun s t => if (s.tower t).fence then s else s.fenceTower t 4) (List.range 20) s.eraseVault ⟨rfl, rfl⟩ (fun t k _ ht => by
      split
      · exact ht
      · exact ht)
  change (s.eraseVault.fenceTowers 4).vault = _ ∧ (s.eraseVault.fenceTowers 4).log = _ at hfenced
  rw [heq, hact]
  generalize s.eraseVault.fenceTowers 4 = t at *
  obtain ⟨hvault, hlog⟩ := hfenced
  refine ⟨?_, ?_, ?_, ?_, ?_, ?_, ?_⟩
  case refine_7 =>
    rw [State.logEv_count]
    change t.log.count + 1 = _
    rw [hlog]
    rfl
  all_goals
    simp only [State.logEv_vault, State.mapLog_vault, State.mapVault_vault, hvault]
    rfl

end Sys2Proof.Machine

/-!
Firmware (chapter 20): images are staged, activated, given up, started and measured (R406, R409, R525 to R528).
-/
namespace Sys2Proof.Proofs.Firmware

open Sys2Proof Sys2Proof.Machine

/-! ## Staging (R525, R526) -/

theorem begun_stageCheck (u : State) (i : ImageIn) (index sub : Nat) : (u.begun false index sub).stageCheck i = u.stageCheck i := by
  have hlayer : (u.begun false index sub).stageLayer = u.stageLayer := u.begun_held false index sub stageLayerKey 1
  unfold State.stageCheck
  rw [hlayer]
  rfl

/-- A served write whose procedure answers `code` ends with it. -/
theorem pcieWrite_of_proc {u v : State} {index sub code : Nat} {proc : State → Nat × State} (hserves : u.Serves index)
    (hproc : proc (u.begun false index sub) = (code, v)) : u.pcieWrite index sub proc = v.endAccess false index sub code := by
  rw [State.pcieWrite_served sub proc hserves]
  exact congrArg (fun r : Nat × State => r.2.endAccess false index sub r.1) hproc

theorem stage_boot (s : State) (i : ImageIn) : ∃ copies marked, (s.stage i).boot
    = { s.boot with copies, marked, pending := some (Image.layer i, Image.copy i), stageSt := 2, stageCheck := 0 } :=
  ⟨_, _, rfl⟩

theorem stage_mem (s : State) (i : ImageIn) : (s.stage i).mem = s.mem := rfl

/-- A staged image makes the vault transitional, unless it is erased (R406). -/
theorem stage_mode {s : State} {i : ImageIn} (h : s.vault.mode ≠ .erased) : (s.stage i).vault.mode = .transitional := by
  unfold State.stage
  simp [VaultSt.remode, h]

theorem stageImage_completes :
    ∀ s at_ i u, u = s.advance at_ → u.Serves 0x1020 → u.stageCheck i = 0 →
    Completes (.stageImage at_ i) s (fun t => t.boot.pending = some (Image.layer i, Image.copy i) ∧ t.boot.stageSt = 2
      ∧ t.vault.mode = .transitional ∧ t.boot.running = u.boot.running ∧ t.boot.minSvn = u.boot.minSvn ∧ t.AccessDone ∧ SameMemory u t) := by
  intro s at_ i u hu hserves hcheck
  have hmode : u.vault.mode ≠ .erased := fun h => by simp [State.stageCheck, firstAbort, h] at hcheck
  refine .of_effect (fun u => u.pcieWrite 0x1020 2 (stageImageProc i)) hu rfl ?_
  have hproc : stageImageProc i (u.begun false 0x1020 2) = (0, (u.begun false 0x1020 2).stage i) := by
    unfold stageImageProc
    dsimp only
    rw [begun_stageCheck, if_pos hcheck]
  rw [pcieWrite_of_proc hserves hproc]
  obtain ⟨copies, marked, hboot⟩ := stage_boot (u.begun false 0x1020 2) i
  rw [State.endAccess_boot, State.endAccess_vault, hboot, stage_mode (by exact hmode)]
  exact ⟨rfl, rfl, rfl, rfl, rfl, by simp [State.AccessDone], .of_mem (stage_mem (u.begun false 0x1020 2) i)⟩

theorem stageImage_refused :
    ∀ s at_ i u, u = s.advance at_ → u.Serves 0x1020 → u.stageCheck i ≠ 0 →
    Completes (.stageImage at_ i) s (fun t => t.boot = { u.boot with stageSt := 3, stageCheck := u.stageCheck i } ∧ t.vault = u.vault
      ∧ t.AccessAborted (0x06030000 + u.stageCheck i)) := by
  intro s at_ i u hu hserves hcheck
  refine .of_effect (fun u => u.pcieWrite 0x1020 2 (stageImageProc i)) hu rfl ?_
  have hproc : stageImageProc i (u.begun false 0x1020 2) = (0x06030000 + u.stageCheck i, ((u.begun false 0x1020 2).mapBoot (fun b =>
      { b with stageSt := 3, stageCheck := u.stageCheck i })).raiseVector 0) := by
    unfold stageImageProc
    dsimp only
    rw [begun_stageCheck, if_neg hcheck]
  rw [pcieWrite_of_proc hserves hproc]
  exact ⟨rfl, rfl, State.endAccess_aborted _ _ _ _ _ (by omega)⟩

/-- The copy that a layer runs, once it is set. -/
theorem runsB_setRunning (b : BootSt) {l : Nat} (h : l - 1 < b.running.length) (slotB : Bool) : (b.setRunning l slotB).runsB l = slotB := by
  simp [BootSt.runsB, BootSt.setRunning, setAt, h]

/-! ## Activation (R527, R528) -/

theorem activate_completes :
    ∀ s at_ l c u, u = s.advance at_ → u.Serves 0x1020 → u.boot.pending = some (l, c) → l = 1 ∨ l = 2 → u.vault.mode ≠ .erased →
    u.vault.referenced = false → l - 1 < u.boot.running.length →
    Completes (.activate at_ 1) s (fun t => t.boot.pending = none ∧ t.boot.stageSt = 4
      ∧ (c.raise = false → t.boot.minSvn = u.boot.minSvn)
      ∧ (l = 1 → t.boot.marked = true ∧ t.boot.running = u.boot.running ∧ t.vault = u.vault)
      ∧ (l = 2 → t.boot.runsB l = !u.boot.runsB l ∧ t.vault.keys = [] ∧ t.vault.secrets = u.vault.secrets + 1 ∧ t.vault.releaseGen = u.vault.releaseGen + 1
        ∧ t.boot.activating = some (2, u.now)) ∧ t.AccessDone) := by
  intro s at_ l c u hu hserves hpending hl hmode hrefs hrunning
  have hproc : activateProc 1 (u.begun false 0x1020 5) = (0, (u.begun false 0x1020 5).activate l c) := by
    simp only [activateProc, State.begun_boot, hpending]
    rw [if_neg (by decide), if_neg (by decide)]
    refine checked_pass ?_
    obtain rfl | rfl := hl <;> simp [firstAbort, hmode, hrefs]
  refine .of_effect (fun u => u.pcieWrite 0x1020 5 (activateProc 1)) hu rfl ?_
  rw [pcieWrite_of_proc hserves hproc]
  obtain rfl | rfl := hl
  · refine ⟨rfl, rfl, fun hraise => ?_, fun _ => ⟨rfl, rfl, rfl⟩, fun h => absurd h (by decide), by simp [State.AccessDone]⟩
    exact if_neg (by simp [hraise])
  · refine ⟨rfl, rfl, fun hraise => ?_, fun h => absurd h (by decide), fun _ => ⟨?_, rfl, rfl, rfl, rfl⟩, by simp [State.AccessDone]⟩
    · exact if_neg (by simp [hraise])
    · exact runsB_setRunning u.boot hrunning _

theorem abandon_completes :
    ∀ s at_ u, u = s.advance at_ → u.Serves 0x1020 → u.boot.pending.isSome →
    Completes (.abandon at_ 1) s (fun t => t.boot = { u.boot with pending := none, stageSt := 0 } ∧ t.vault.pendingLayers = []
      ∧ (u.vault.mode ≠ .erased → u.vault.reloading = [] → t.vault.mode = .normal) ∧ t.AccessDone) := by
  intro s at_ u hu hserves hpending
  refine .of_checked hu rfl hserves rfl ?_ ⟨rfl, rfl, fun hmode hreloading => ?_, by simp [State.AccessDone]⟩
  · simp [firstAbort, Option.isSome_iff_ne_none.mp hpending]
  · simp [VaultSt.remode, hmode, hreloading]

theorem activationStartLimit_completes :
    ∀ s at_ l x u, u = s.advance at_ → u.boot.activating = some (l, x) → x + 1000000 ≤ u.now → l - 1 < u.boot.running.length →
    Completes (.activationStartLimit at_) s (fun t => t.boot.activating = none ∧ t.boot.runsB l = !u.boot.runsB l ∧ t.boot.stageSt = 0
      ∧ t.log.count = u.log.count + 1 ∧ SameMemory u t) := by
  intro s at_ l x u hu hactivating hlate hrunning
  refine .of_effect State.startLimit hu rfl ?_
  have hfails : u.startLimit = u.activationFails l := by
    unfold State.startLimit
    rw [hactivating]
    exact if_pos hlate
  rw [hfails]
  exact ⟨rfl, runsB_setRunning u.boot hrunning _, rfl, State.logEv_count .., .of_mem rfl⟩

/-! ## Reloads measured (R406, R409) -/

theorem imageReloadMeasure_completes :
    ∀ s at_ unit u, u = s.advance at_ → unit ∈ u.vault.reloading → unit ≠ 64 →
    Completes (.imageReloadMeasure at_ unit true) s (fun t => unit ∉ t.vault.reloading ∧ t.vault.alarms = u.vault.alarms ∧ SameMemory u t)
    ∧ Completes (.imageReloadMeasure at_ unit false) s (fun t => unit ∈ t.vault.reloading ∧ t.vault.alarms = u.vault.alarms + 1
      ∧ t.vault.lastSource = 6) := by
  intro s at_ unit u hu hreloading hunit
  have heq : ∀ agrees, u.reloadMeasured unit agrees = if agrees then
      (u.reloadDone unit).mapTower unit (fun x => if x.resetState = .idle then x else { x with resetState := .selfTest })
    else (u.mapTower unit (fun x =>
      { x with resetFrom := if x.resetState = .idle then x.mode else x.resetFrom, heldInReset := true, resetState := .image
               mode := .training })).raiseAlarm 6 true [] := fun agrees => if_neg (by simp [hreloading, hunit])
  constructor
  · refine .of_effect (fun u => u.reloadMeasured unit true) hu rfl ?_
    rw [heq]
    exact ⟨by simp [State.reloadDone, VaultSt.remode], rfl, .of_mem rfl⟩
  · refine .of_effect (fun u => u.reloadMeasured unit false) hu rfl ?_
    rw [heq, if_neg Bool.false_ne_true]
    generalize hheld : u.mapTower unit (fun x =>
      { x with resetFrom := if x.resetState = .idle then x.mode else x.resetFrom, heldInReset := true, resetState := .image
               mode := .training }) = v
    have hvault : v.vault = u.vault := by rw [← hheld]; rfl
    obtain ⟨x, _, _, ⟨_, _, _, _, _, _, _, _, _, _, _, rfl⟩, halarmed⟩ := (v.raiseAlarm_alarmed 6 true []).vault
    rw [halarmed]
    exact ⟨by rw [hvault]; exact hreloading, by rw [hvault], rfl⟩

/-- Settles O51: an image is staged, activated or given up as its checks allow; a die that measures wrong raises the alarm of source 6. -/
theorem firmwareCommandsComplete : Obligations.FirmwareCommandsComplete :=
  ⟨stageImage_completes, stageImage_refused, activate_completes, abandon_completes, activationStartLimit_completes,
    imageReloadMeasure_completes⟩

end Sys2Proof.Proofs.Firmware

/-!
Resets (chapter 20): what the reset of the module, of a tower, of a field and of a guest leaves, and what brings a tower up again (R529 to
R532).
-/
namespace Sys2Proof.Proofs.Resets

open Sys2Proof Sys2Proof.Machine Sys2Proof.Proofs.LayersAndStacks

/-! ## The module's reset (R530, R532) -/

/-- A change of the time state is logged once (R60); the tally, the memory, the towers and the policy stand. -/
theorem setTimeMode_unset (s : State) : ∃ time pair log, s.setTimeMode .unset = { s with time, pair, log } ∧ time.tally = s.time.tally
    ∧ log.count = s.log.count + (if s.time.mode = .unset then 0 else 1) ∧ (s.time.mode = .unset → log = s.log) := by
  unfold State.setTimeMode
  by_cases h : s.time.mode = .unset
  · rw [if_pos h]
    exact ⟨_, _, _, rfl, rfl, by rw [if_pos h]; rfl, fun _ => rfl⟩
  · rw [if_neg h]
    exact ⟨_, _, _, rfl, rfl, by rw [if_neg h]; exact State.logEv_count .., fun hu => absurd hu h⟩

/-- R530, R532, R515, R60: what a module reset leaves. -/
theorem moduleReset_leaves (s : State) :
    (s.moduleReset.now = s.now ∧ s.moduleReset.log.count = s.log.count + (if s.time.mode = .unset then 0 else 1)
      ∧ (s.time.mode = .unset → s.moduleReset.log = s.log))
    ∧ s.moduleReset.towers = s.towers.map Tower.moduleReset ∧ s.moduleReset.mem.cells = [] ∧ s.moduleReset.mem.log = s.mem.log
    ∧ s.moduleReset.vault.keys = [] ∧ s.moduleReset.pkgs = [] ∧ s.moduleReset.vault.policy = s.vault.policy
    ∧ s.moduleReset.time.mode = .unset ∧ s.moduleReset.dict.pcieUp = false := by
  obtain ⟨time, pair, log, heq, htally, hcount, hlog⟩ := setTimeMode_unset s
  unfold State.moduleReset
  rw [heq]
  exact ⟨⟨htally, hcount, hlog⟩, rfl, rfl, rfl, rfl, rfl, rfl, rfl, rfl⟩

theorem endAccess_pcieUp (s : State) (index sub : Nat) : (s.endAccess false index sub 0).dict.pcieUp = s.dict.pcieUp := rfl

theorem moduleReset_completes :
    ∀ s at_ u, u = s.advance at_ → u.Serves 0x1022 → u.holdsWork = false →
    Completes (.moduleReset at_ 1) s (fun t => t.now = u.now
      ∧ t.log.count = u.log.count + (if u.time.mode = .unset then 0 else 1) ∧ (u.time.mode = .unset → t.log = u.log) ∧ (∀ x ∈ t.towers, x.mode = .off ∧ x.records = [])
      ∧ t.towers.length = u.towers.length ∧ (∀ k, t.memByte k = 0) ∧ t.mem.log = u.mem.log ∧ t.vault.keys = [] ∧ t.pkgs = []
      ∧ t.vault.policy = u.vault.policy ∧ t.time.mode = .unset ∧ t.dict.pcieUp = false) := by
  intro s at_ u hu hserves hwork
  have hfree : (u.begun false 0x1022 2).holdsWork = false := hwork
  refine .of_checked hu rfl hserves rfl (by simp [firstAbort, hfree]) ?_
  obtain ⟨⟨hnow, hcount, hlog⟩, htowers, hcells, hmem, hkeys, hpkgs, hpolicy, hmode, hdown⟩ := moduleReset_leaves (u.begun false 0x1022 2)
  rw [if_pos rfl]
  generalize (u.begun false 0x1022 2).moduleReset = t at *
  refine ⟨hnow, hcount, hlog, ?_, ?_, fun k => ?_, hmem, hkeys, hpkgs, hpolicy, hmode, hdown⟩
  · rw [State.endAccess_towers, htowers]
    simp only [List.forall_mem_map]
    exact fun _ _ => ⟨rfl, rfl⟩
  · rw [State.endAccess_towers, htowers, List.length_map]
    rfl
  · rw [State.memByte, State.endAccess_mem, hcells]
    rfl

/-! ## A tower's reset begins (R531) -/

theorem domain_setDomain (s : State) (d st k : Nat) : ((s.setDomain d st).domain k).st
    = if k = d ∧ d < s.power.domains.length then st else (s.domain k).st := by
  have hdomains : (s.setDomain d st).power.domains = modAt s.power.domains d (fun x => { x with st }) := by
    unfold State.setDomain
    dsimp only
    split <;> rfl
  simp only [State.domain, hdomains, List.getD_eq_getElem?_getD, modAt_getElem?]
  by_cases hk : k = d
  · subst hk
    by_cases hd : k < s.power.domains.length
    · simp [hd]
    · simp [hd]
  · simp [hk]

section SetDomain
variable (s : State) (d st : Nat)

@[simp] theorem towers_setDomain : (s.setDomain d st).towers = s.towers := by
  unfold State.setDomain
  dsimp only
  split <;> rfl

theorem cells_setDomain : (s.setDomain d st).mem.cells = s.mem.cells := by
  unfold State.setDomain
  dsimp only
  split <;> rfl

@[simp] theorem tower_setDomain (k : Nat) : (s.setDomain d st).tower k = s.tower k := State.tower_congr (towers_setDomain s d st) k

end SetDomain

/-- A domain that is set off is off. -/
theorem domainOn_setDomain_off (s : State) (d k : Nat) (h : k ≠ d → s.domainOn k = false) : (s.setDomain d 0).domainOn k = false := by
  rw [State.domainOn, domain_setDomain]
  split
  next => rfl
  next hk =>
    by_cases hkd : k = d
    · have hout : s.power.domains.length ≤ d := Nat.le_of_not_lt fun hd => hk ⟨hkd, hd⟩
      rw [State.domain, List.getD_eq_getElem?_getD, hkd, List.getElem?_eq_none hout]
      rfl
    · exact h hkd

theorem length_towers_emptyTower (s : State) (t : Nat) : (s.emptyTower t).towers.length = s.towers.length :=
  (modAt_length ..).trans (Ends.foldl s _ (fun _ _ => .retireRecord ..)).length_towers

/-- The tower holds nothing of its scheduler's. -/
theorem tower_emptyTower {s : State} {t : Nat} (ht : t < s.towers.length) : ((s.emptyTower t).tower t).records = []
    ∧ ((s.emptyTower t).tower t).running = [] ∧ ((s.emptyTower t).tower t).queue = [] := by
  have hlength := (Ends.foldl s (s.tower t).records (f := fun s r => s.retireRecord t r.slot) (fun _ _ => .retireRecord ..)).length_towers
  rw [State.emptyTower]
  dsimp only
  rw [State.tower_mapTower _ _ _ _ (by rw [hlength]; exact ht), if_pos rfl]
  exact ⟨rfl, rfl, rfl⟩

/-- What a cold reset loses beside (R531): the tower's memory. -/
def lost (s : State) (t : Nat) (cold : Bool) : State := if cold then (s.coldLoss t).setDomain (memDomain t) 0 else s

theorem tower_coldLoss {s : State} {t : Nat} (ht : t < s.towers.length) : ((s.coldLoss t).tower t).records = (s.tower t).records
    ∧ ((s.coldLoss t).tower t).running = (s.tower t).running ∧ ((s.coldLoss t).tower t).queue = (s.tower t).queue := by
  have hlost : (s.loseMemory t).tower t = { s.tower t with sync := [], coldClean := true } :=
    (State.tower_mapTower (s.mapMem _) t t _ ht).trans (if_pos rfl)
  rw [State.coldLoss, State.tower_mapTower _ _ _ _ (by simpa [State.loseMemory] using ht), if_pos rfl, hlost]
  exact ⟨rfl, rfl, rfl⟩

theorem cells_coldLoss (s : State) (t k : Nat) (hlow : t * 2 ^ 40 ≤ k) (hhigh : k < (t + 1) * 2 ^ 40) : cellGet (s.coldLoss t).mem.cells k = 0 := by
  unfold State.coldLoss State.loseMemory
  simp only [State.mapTower_mem, State.mapMem_mem, MemSt.clear, -Nat.reducePow]
  rw [cellGet_cellClear, cellGet_cellClear]
  split
  next => rfl
  next => exact if_pos ⟨hlow, hhigh⟩

theorem lost_leaves {s : State} {t : Nat} (cold : Bool) (ht : t < s.towers.length)
    (hempty : (s.tower t).records = [] ∧ (s.tower t).running = [] ∧ (s.tower t).queue = []) {d : Nat} (hoff : s.domainOn d = false) :
    t < (lost s t cold).towers.length
    ∧ (((lost s t cold).tower t).records = [] ∧ ((lost s t cold).tower t).running = [] ∧ ((lost s t cold).tower t).queue = [])
    ∧ (lost s t cold).domainOn d = false
    ∧ (cold = true → ∀ k, t * 2 ^ 40 ≤ k → k < (t + 1) * 2 ^ 40 → (lost s t cold).memByte k = 0) := by
  cases cold with
  | false => exact ⟨ht, hempty, hoff, fun h => absurd h Bool.false_ne_true⟩
  | true =>
    obtain ⟨hrecords, hrunning, hqueue⟩ := hempty
    obtain ⟨hrecords', hrunning', hqueue'⟩ := tower_coldLoss ht
    have hlost : lost s t true = (s.coldLoss t).setDomain (memDomain t) 0 := rfl
    rw [hlost, towers_setDomain, tower_setDomain]
    refine ⟨by simpa [State.coldLoss, State.loseMemory] using ht, ⟨hrecords'.trans hrecords, hrunning'.trans hrunning, hqueue'.trans hqueue⟩,
      domainOn_setDomain_off _ _ _ fun _ => hoff, fun _ k hlow hhigh => ?_⟩
    rw [State.memByte, cells_setDomain]
    exact cells_coldLoss s t k hlow hhigh

/-- The tower as a reset begins it, once it is empty and off. -/
def resetting (s : State) (t : Nat) (cold : Bool) : State :=
  s.mapTower t (fun x =>
    { x with resetFrom := if x.heldInReset then x.resetFrom else x.mode, mode := .training, resetState := .off, resetCold := cold
             heldInReset := false, gates := if cold then 0 else x.gates, barrier := (0, [])
             regions := x.regions.map (fun g => g.leave (s.replica t / 1024)) })

theorem beginTowerReset_eq (s : State) (t : Nat) (cold : Bool) : s.beginTowerReset t cold
    = (resetting (lost (((s.endAll (fun r => s.holdsRecord t r) 0x85 t).emptyTower t).setDomain (logicDomain t) 0) t cold) t cold).reloads t :=
  rfl

/-- R531: what the beginning of a tower's reset leaves. -/
theorem beginTowerReset_leaves {s : State} {t : Nat} (cold : Bool) (ht : t < s.towers.length) :
    (((s.beginTowerReset t cold).tower t).mode = .training ∧ ((s.beginTowerReset t cold).tower t).resetState = .off
      ∧ ((s.beginTowerReset t cold).tower t).resetCold = cold)
    ∧ (((s.beginTowerReset t cold).tower t).records = [] ∧ ((s.beginTowerReset t cold).tower t).running = []
      ∧ ((s.beginTowerReset t cold).tower t).queue = [])
    ∧ (s.beginTowerReset t cold).domainOn (logicDomain t) = false ∧ t ∈ (s.beginTowerReset t cold).vault.reloading
    ∧ (cold = true → ∀ k, t * 2 ^ 40 ≤ k → k < (t + 1) * 2 ^ 40 → (s.beginTowerReset t cold).memByte k = 0) := by
  rw [beginTowerReset_eq]
  have hended := (Ends.endAll s (fun r => s.holdsRecord t r) 0x85 t).length_towers
  generalize hended' : s.endAll (fun r => s.holdsRecord t r) 0x85 t = a at *
  have hempty := tower_emptyTower (s := a) (t := t) (hended ▸ ht)
  have hlength : t < (a.emptyTower t).towers.length := by rwa [length_towers_emptyTower, hended]
  generalize a.emptyTower t = b at *
  have hoff : (b.setDomain (logicDomain t) 0).domainOn (logicDomain t) = false := domainOn_setDomain_off _ _ _ fun h => absurd rfl h
  have hempty' : ((b.setDomain (logicDomain t) 0).tower t).records = [] ∧ ((b.setDomain (logicDomain t) 0).tower t).running = []
      ∧ ((b.setDomain (logicDomain t) 0).tower t).queue = [] := by rwa [tower_setDomain]
  have hlength' : t < (b.setDomain (logicDomain t) 0).towers.length := by rwa [towers_setDomain]
  generalize b.setDomain (logicDomain t) 0 = c at *
  obtain ⟨hlostlen, hlostempty, hlostoff, hzero⟩ := lost_leaves cold hlength' hempty' hoff
  generalize lost c t cold = d at *
  have htower : ((resetting d t cold).reloads t).tower t = _ := (State.tower_mapTower d t t _ hlostlen).trans (if_pos rfl)
  rw [htower]
  exact ⟨⟨rfl, rfl, rfl⟩, hlostempty, hlostoff, RegionBarrier.mem_insertNat.mpr (.inl rfl), hzero⟩

theorem begun_resetAllowed (u : State) (index sub t : Nat) (cold : Bool) :
    (u.begun false index sub).resetAllowed t cold = u.resetAllowed t cold := rfl

/-- Tower `t` may be reset: no check refuses it. -/
theorem towerResetProc_passes {u : State} {t : Nat} (cold : Bool) (index sub : Nat) (hfree : u.holdsBooked t = false)
    (hallowed : u.resetAllowed t cold = true) (hblocked : u.resetBlocked t = false) :
    ∃ checks, towerResetProc t (if cold then 2 else 1) (u.begun false index sub) = checked checks (fun s =>
        (if (u.tower t).mode = .tripped then s.setTrip t 0 none else s).beginTowerReset t cold) (u.begun false index sub)
      ∧ firstAbort checks = 0 := by
  have hfree' : (u.begun false index sub).holdsBooked t = false := hfree
  have hallowed' : (u.begun false index sub).resetAllowed t cold = true := hallowed
  have hblocked' : (u.begun false index sub).resetBlocked t = false := hblocked
  cases cold with
  | false => exact ⟨_, rfl, by simp [firstAbort, hfree', hallowed', hblocked']⟩
  | true => exact ⟨_, rfl, by simp [firstAbort, hfree', hallowed', hblocked']⟩

theorem length_towers_setTrip (s : State) (u st : Nat) (since : Option Nat) : (s.setTrip u st since).towers.length = s.towers.length := by
  unfold State.setTrip
  split
  · exact modAt_length ..
  · split <;> rfl

theorem towerReset_completes :
    ∀ s at_ t cold u, u = s.advance at_ → t < 20 → t < u.towers.length → u.Serves (towerIndex t 0x0F) → u.holdsBooked t = false →
    u.resetAllowed t cold = true → u.resetBlocked t = false →
    Completes (if cold then .towerResetCold at_ t else .towerResetWarm at_ t) s (fun v =>
      (v.tower t).mode = .training ∧ (v.tower t).resetState = .off ∧ (v.tower t).resetCold = cold ∧ (v.tower t).records = []
      ∧ (v.tower t).running = [] ∧ (v.tower t).queue = [] ∧ v.domainOn (logicDomain t) = false ∧ t ∈ v.vault.reloading
      ∧ (cold = true → ∀ k, t * 2 ^ 40 ≤ k → k < (t + 1) * 2 ^ 40 → v.memByte k = 0) ∧ v.AccessDone) := by
  intro s at_ t cold u hu ht htowers hserves hfree hallowed hblocked
  have hexec : exec (if cold then .towerResetCold at_ t else .towerResetWarm at_ t) s = .next ((s.advance at_).telling (fun s =>
      s.pcieWrite (towerIndex t 0x0F) 0x01 (towerResetProc t (if cold then 2 else 1)))) := by
    cases cold <;> exact congrArg _ (if_pos ht)
  obtain ⟨checks, hproc, hpass⟩ := towerResetProc_passes cold (towerIndex t 0x0F) 0x01 hfree hallowed hblocked
  refine .of_telling (fun s => s.pcieWrite (towerIndex t 0x0F) 0x01 (towerResetProc t (if cold then 2 else 1))) hu hexec fun sent n => ?_
  rw [State.pcieWrite_checked hserves hproc hpass]
  have hlength : t < (if (u.tower t).mode = .tripped then (u.begun false (towerIndex t 0x0F) 0x01).setTrip t 0 none
      else u.begun false (towerIndex t 0x0F) 0x01).towers.length := by
    split
    · rwa [length_towers_setTrip]
    · exact htowers
  obtain ⟨⟨hmode, hstate, hcold⟩, ⟨hrecords, hrunning, hqueue⟩, hoff, hreloading, hzero⟩ := beginTowerReset_leaves cold hlength
  generalize State.beginTowerReset _ t cold = w at *
  exact ⟨hmode, hstate, hcold, hrecords, hrunning, hqueue, hoff, hreloading, hzero, by simp [State.AccessDone]⟩

/-! ## A tower's reset completes (R522, R531) -/

theorem tower_trainStacks (s : State) (t k : Nat) : (s.trainStacks t).tower k = s.tower k := by
  unfold State.trainStacks
  dsimp only
  split <;> rfl

theorem power_trainStacks (s : State) (t : Nat) : (s.trainStacks t).power = s.power := by
  unfold State.trainStacks
  dsimp only
  split <;> rfl

/-- Coming up, the unit changes its module state alone, and keeps the vectors raised. -/
theorem checkReady_keeps (s : State) : s.checkReady.towers = s.towers ∧ s.checkReady.power = s.power
    ∧ (s.log.vecP.getLsbD 0 = true → s.checkReady.log.vecP.getLsbD 0 = true) := by
  unfold State.checkReady State.setModState
  split
  · split
    · exact ⟨rfl, rfl, id⟩
    · refine ⟨rfl, rfl, fun h => ?_⟩
      change (s.log.vecP ||| _).getLsbD 0 = true
      rw [BitVec.getLsbD_or, h, Bool.true_or]
  · exact ⟨rfl, rfl, id⟩

/-- The tower with its domains up, its regions entered and its gates open, before its channels are trained. -/
def poweredUp (s : State) (t : Nat) : State :=
  ((s.setDomain (memDomain t) 2).setDomain (logicDomain t) 2).mapTower t (fun x =>
    { (x.restoreRegions.enterRegions (((s.setDomain (memDomain t) 2).setDomain (logicDomain t) 2).replica t / 1024)) with gates := x.allGates })

/-- The tower with its channels and stacks trained. -/
def trainedUp (s : State) (t : Nat) : State :=
  ((poweredUp s t).trainChannels t (if (s.tower t).isCache then 4 else 3) [] true).trainStacks t

theorem resetCompletes_eq {s : State} {t : Nat} (ht : t < 20) (hstate : (s.tower t).resetState ≠ .idle)
    (hheld : (s.tower t).heldInReset = false) (hreloaded : t ∉ s.vault.reloading) :
    ∃ w, (w = trainedUp s t ∨ w = (trainedUp s t).raiseEvent 2)
      ∧ s.resetCompletes t [] [] [] false = (((w.mapTower t Tower.leaveReset).raiseVector 0).checkReady).schedule t := by
  refine ⟨if ((trainedUp s t).tower t).floorCapacity = (s.tower t).floorCapacity then trainedUp s t else (trainedUp s t).raiseEvent 2, ?_, ?_⟩
  · split
    · exact .inl rfl
    · exact .inr rfl
  · exact if_neg (by simp [hstate, hheld, hreloaded, Nat.not_le.mpr ht])

theorem tower_poweredUp {s : State} {t : Nat} (ht : t < s.towers.length) :
    ∃ regions, (poweredUp s t).tower t = { s.tower t with regions, gates := (s.tower t).allGates } := by
  rw [poweredUp, State.tower_mapTower _ _ _ _ (by simpa using ht), if_pos rfl, tower_setDomain, tower_setDomain]
  exact ⟨_, rfl⟩

theorem length_domains_setDomain (s : State) (d st : Nat) : (s.setDomain d st).power.domains.length = s.power.domains.length := by
  unfold State.setDomain
  dsimp only
  split <;> exact modAt_length ..

theorem domainOn_poweredUp {s : State} {t : Nat} (hlogic : logicDomain t < s.power.domains.length)
    (hmem : memDomain t < s.power.domains.length) :
    (poweredUp s t).domainOn (logicDomain t) = true ∧ (poweredUp s t).domainOn (memDomain t) = true := by
  have hon : ∀ d, (poweredUp s t).domainOn d = ((s.setDomain (memDomain t) 2).setDomain (logicDomain t) 2).domainOn d := fun _ => rfl
  rw [hon, hon]
  simp [State.domainOn, domain_setDomain, length_domains_setDomain, hlogic, hmem]

/-- What the tower is before it leaves reset. -/
theorem trainedUp_leaves {s : State} {t : Nat} (htowers : t < s.towers.length) :
    (∃ regions channels, (trainedUp s t).tower t = { s.tower t with regions, channels, gates := (s.tower t).allGates })
    ∧ (trainedUp s t).power = (poweredUp s t).power ∧ t < (trainedUp s t).towers.length := by
  have hlength : t < (poweredUp s t).towers.length := by simpa [poweredUp] using htowers
  obtain ⟨htrains, -⟩ := trainAll_trains [] true
    ((List.range (if (s.tower t).isCache then 4 else 3)).flatMap (fun l => (List.range 32).map (fun c => (l + 1, c)))) (poweredUp s t) hlength
  rw [← trainChannels_eq] at htrains
  obtain ⟨regions, hpowered⟩ := tower_poweredUp htowers
  obtain ⟨channels, htower⟩ := htrains.tower
  have hstacks : (trainedUp s t).towers = ((poweredUp s t).trainChannels t (if (s.tower t).isCache then 4 else 3) [] true).towers := by
    unfold trainedUp State.trainStacks
    dsimp only
    split <;> rfl
  refine ⟨⟨regions, channels, ?_⟩, (power_trainStacks ..).trans htrains.power, by rw [hstacks, htrains.length_towers]; exact hlength⟩
  rw [State.tower_congr hstacks, htower, hpowered]

/-- A tower that was fenced leaves reset fenced. -/
theorem leaveReset_fenced {x : Tower} (hmode : x.mode = .training) (hfrom : x.resetFrom = .fenced) (hfence : x.fence = true) :
    x.leaveReset = { x with resetState := .idle, resetCount := x.resetCount + 1, mode := .fenced } := by
  simp [Tower.leaveReset, hmode, hfrom, hfence]

theorem towerResetComplete_completes :
    ∀ s at_ t u, u = s.advance at_ → t < 20 → t < u.towers.length → (u.tower t).resetState ≠ .idle → (u.tower t).heldInReset = false →
    t ∉ u.vault.reloading → (u.tower t).mode = .training → (u.tower t).resetFrom = .fenced → (u.tower t).fence = true →
    logicDomain t < u.power.domains.length → memDomain t < u.power.domains.length →
    Completes (.towerResetComplete at_ t [] ⟨[], []⟩ false) s (fun v => (v.tower t).resetState = .idle ∧ (v.tower t).mode = .fenced
      ∧ (v.tower t).resetCount = (u.tower t).resetCount + 1 ∧ (v.tower t).gates = (u.tower t).allGates
      ∧ v.domainOn (logicDomain t) = true ∧ v.domainOn (memDomain t) = true ∧ v.log.vecP.getLsbD 0 = true) := by
  intro s at_ t u hu ht htowers hstate hheld hreloaded hmode hfrom hfence hlogic hmem
  obtain ⟨hlogicOn, hmemOn⟩ := domainOn_poweredUp hlogic hmem
  obtain ⟨⟨regions, channels, htower⟩, hpower, hlength⟩ := trainedUp_leaves htowers
  obtain ⟨w, hw, heq⟩ := resetCompletes_eq ht hstate hheld hreloaded
  have hwtower : w.tower t = (trainedUp u t).tower t := by obtain rfl | rfl := hw <;> rfl
  have hwpower : w.power = (poweredUp u t).power := by obtain rfl | rfl := hw <;> exact hpower
  have hwlength : t < w.towers.length := by obtain rfl | rfl := hw <;> exact hlength
  refine .of_telling (fun u => u.resetCompletes t [] [] [] false) hu rfl fun sent n => ?_
  have hleft : ((w.mapTower t Tower.leaveReset).raiseVector 0).tower t = ((trainedUp u t).tower t).leaveReset := by
    rw [State.tower_raiseVector, State.tower_mapTower _ _ _ _ hwlength, if_pos rfl, hwtower]
  have hraised : ((w.mapTower t Tower.leaveReset).raiseVector 0).log.vecP.getLsbD 0 = true := State.vecP_raiseVector _ (by decide)
  have hpowered : ((w.mapTower t Tower.leaveReset).raiseVector 0).power = (poweredUp u t).power := hwpower
  rw [heq]
  generalize (w.mapTower t Tower.leaveReset).raiseVector 0 = x at *
  obtain ⟨hreadyTowers, hreadyPower, hreadyLog⟩ := checkReady_keeps x
  have hsched := Schedules.schedule x.checkReady t
  obtain ⟨_, _, _, _, _, hscheduled⟩ := hsched.tower.frame
  have hdomain : ∀ d, (x.checkReady.schedule t).domainOn d = (poweredUp u t).domainOn d := fun d => by
    simp only [State.domainOn, State.domain, hsched.power, hreadyPower, hpowered]
  have hlog := (congrArg (fun l => l.vecP.getLsbD 0) hsched.log).trans (hreadyLog hraised)
  rw [State.tower_mapPair, hscheduled, State.tower_congr hreadyTowers, hleft, leaveReset_fenced (by rw [htower]; exact hmode)
    (by rw [htower]; exact hfrom) (by rw [htower]; exact hfence), htower]
  generalize x.checkReady.schedule t = y at *
  exact ⟨rfl, rfl, rfl, rfl, (hdomain _).trans hlogicOn, (hdomain _).trans hmemOn, hlog⟩

/-! ## A field's reset (R529) -/

theorem mem_lockLoss (s : State) (i j w : Nat) : (s.lockLoss i j w).mem = s.mem := by
  have habandon : ∀ s : State, ∀ on, (s.abandonCalOn i j on).mem = s.mem := by
    intro s on
    unfold State.abandonCalOn
    dsimp only
    split
    · split <;> rfl
    · rfl
  have hput : ∀ (s : State) (p : Pair), (s.putPair i j p).mem = s.mem := by
    intro s p
    unfold State.putPair
    dsimp only
    split <;> rfl
  unfold State.lockLoss
  split
  · rfl
  · exact (hput ..).trans (habandon ..)

theorem mem_locksLost (s : State) (sites : List Nat) : (s.locksLost sites).mem = s.mem :=
  foldl_keeps (fun t => t.mem = s.mem) _ sites s rfl fun t _ _ ht =>
    foldl_keeps (fun t => t.mem = s.mem) _ _ t ht fun t _ _ ht =>
      foldl_keeps (fun t => t.mem = s.mem) _ _ t ht fun _ _ _ ht => (mem_lockLoss ..).trans ((mem_lockLoss ..).trans ht)

theorem beginFieldReset_leaves (s : State) (n : Nat) : (s.beginFieldReset n).base.fieldReset = some n
    ∧ (32 + n) ∈ (s.beginFieldReset n).vault.reloading ∧ (∀ c ∈ (s.beginFieldReset n).base.cal, channelField c.kind c.index ≠ n)
    ∧ (s.beginFieldReset n).mem = s.mem := by
  have hemptied : ((fieldSites n).foldl (fun s k => s.mapTower k (fun x => { x with reductions := [], heldReductions := [] })) s).mem = s.mem :=
    foldl_keeps (fun t => t.mem = s.mem) (fun s k => s.mapTower k (fun x => { x with reductions := [], heldReductions := [] })) _ s rfl
      fun _ _ _ h => h
  refine ⟨rfl, RegionBarrier.mem_insertNat.mpr (.inl rfl), fun c hc => ?_, (mem_locksLost ..).trans hemptied⟩
  simpa using (List.mem_filter.mp hc).2

theorem fieldReset_completes :
    ∀ s at_ n u, u = s.advance at_ → u.Serves 0x5006 → n ≤ 15 → n ≠ 13 → n ≠ 14 → (fieldSites n).all u.siteOut = true →
    u.base.fieldReset = none →
    Completes (.fieldReset at_ n) s (fun t => t.base.fieldReset = some n ∧ (32 + n) ∈ t.vault.reloading
      ∧ (∀ c ∈ t.base.cal, channelField c.kind c.index ≠ n) ∧ t.AccessDone ∧ SameMemory u t) := by
  intro s at_ n u hu hserves hn h13 h14 hout hnone
  have hout' : (fieldSites n).all (u.begun false 0x5006 1).siteOut = true := hout
  obtain ⟨hreset, hreloading, hcal, hmem⟩ := beginFieldReset_leaves (u.begun false 0x5006 1) n
  refine .of_checked hu rfl hserves rfl ?_ ?_
  · rw [hout']
    simp [firstAbort, Nat.not_lt.mpr hn, h13, h14, hnone]
  · generalize (u.begun false 0x5006 1).beginFieldReset n = t at *
    exact ⟨hreset, hreloading, hcal, by simp [State.AccessDone], .of_mem hmem⟩

theorem fieldResetComplete_completes :
    ∀ s at_ n u, u = s.advance at_ → u.base.fieldReset = some n → (32 + n) ∉ u.vault.reloading → n < u.base.fieldBankClean.length →
    Completes (.fieldResetComplete at_) s (fun t => t.base.fieldReset = none ∧ t.base.fieldBankClean[n]? = some true
      ∧ t.log.vecP.getLsbD 0 = true ∧ SameMemory u t) := by
  intro s at_ n u hu hreset hreloaded hn
  have hdone : u.fieldCompletes
      = (u.mapBase (fun b => { b with fieldReset := none, fieldBankClean := setAt b.fieldBankClean n true })).raiseVector 0 := by
    unfold State.fieldCompletes
    rw [hreset]
    exact if_neg (by simpa using hreloaded)
  refine .of_effect State.fieldCompletes hu rfl ?_
  rw [hdone]
  exact ⟨rfl, by simp [setAt, hn], State.vecP_raiseVector _ (by decide), .of_mem rfl⟩

/-! ## A guest's reset (R532) -/

theorem guestReset_completes :
    ∀ s at_ g u, u = s.advance at_ → u.Serves 0x7304 → u.hasGuest g = true → u.siteFenced (guestSite g) = true →
    Completes (.guestReset at_ (guestSite g)) s (fun t => t.vault.grstHigh.getLsbD g = false ∧ t.vault.gready.getLsbD g = false
      ∧ t.vault.guestReset.getLsbD g = true ∧ guestSite g ∈ t.vault.reloading ∧ t.AccessDone ∧ SameMemory u t) := by
  intro s at_ g u hu hserves hguest hfenced
  have hg : g < 2 := by
    simp only [State.hasGuest, Bool.and_eq_true, decide_eq_true_eq] at hguest
    exact hguest.2
  have hsite : guestSite g - 21 = g := by unfold guestSite; omega
  have hguest' : (u.begun false 0x7304 1).hasGuest g = true := hguest
  have hfenced' : (u.begun false 0x7304 1).siteFenced (guestSite g) = true := hfenced
  refine .of_checked hu rfl hserves rfl ?_ ?_
  · rw [hsite, hguest', hfenced']
    simp [firstAbort, guestSite]
    omega
  · rw [hsite]
    refine ⟨?_, ?_, ?_, RegionBarrier.mem_insertNat.mpr (.inl rfl), by simp [State.AccessDone], .of_mem ?_⟩
    · change (u.vault.grstHigh &&& ~~~(1#2 <<< g)).getLsbD g = false
      simp
    · change (u.vault.gready &&& ~~~(1#2 <<< g)).getLsbD g = false
      simp
    · change (u.vault.guestReset ||| (1#2 <<< g)).getLsbD g = true
      simp [hg]
    · simp only [State.endAccess_mem, State.reloads, State.mapVault_mem, State.holdGuest, State.begun_mem]

/-- Settles O52: a reset leaves the unit, the tower, the field or the guest as its rule says, and a reset that completes brings it up. -/
theorem resetCommandsComplete : Obligations.ResetCommandsComplete :=
  ⟨moduleReset_completes, towerReset_completes, towerResetComplete_completes, fieldReset_completes, fieldResetComplete_completes,
    guestReset_completes⟩

end Sys2Proof.Proofs.Resets

/-!
Bring-up (chapter 20): input power returns, domains are switched on, layers boot or the unit recovers, towers come up (R520 to R523, R572).
-/
namespace Sys2Proof.Proofs.BringUp

open Sys2Proof Sys2Proof.Machine Sys2Proof.Proofs.LayersAndStacks Sys2Proof.Proofs.Resets Sys2Proof.Proofs.TowerFaults

/-! ## Input power returns (R572) -/

theorem powerOn_leaves (s : State) : s.powerOn.towers = s.towers.map Tower.powerOn ∧ s.powerOn.mem.cells = []
    ∧ s.powerOn.pair = s.pair.restart 0 ∧ s.powerOn.vault = s.vault.restart := ⟨rfl, rfl, rfl, rfl⟩

theorem inputCharged_completes :
    ∀ s at_ u, u = s.advance at_ → u.power.shutdown = true ∨ u.power.charged = false →
    Completes (.inputCharged at_) s (fun t => t.power.charged = true ∧ t.power.shutdown = false ∧ t.power.hubFailed = false
      ∧ (∀ x ∈ t.towers, x.mode = .off ∧ x.records = []) ∧ t.towers.length = u.towers.length ∧ (∀ k, t.memByte k = 0)
      ∧ t.vault.keys = [] ∧ t.vault.install = u.vault.install ∧ t.vault.policy = u.vault.policy ∧ t.ident = u.ident
      ∧ t.pair.mode = (if u.pair.bound then .seeking else .unbound)) := by
  intro s at_ u hu hdown
  refine .of_effect (fun u => if u.power.shutdown || !u.power.charged then u.powerOn else u) hu rfl ?_
  rw [if_pos (by simpa using hdown)]
  obtain ⟨htowers, hcells, hpair, hvault⟩ := powerOn_leaves u
  refine ⟨rfl, rfl, rfl, ?_, ?_, fun k => ?_, ?_, ?_, ?_, rfl, ?_⟩
  · rw [htowers]
    simp only [List.forall_mem_map]
    exact fun _ _ => ⟨rfl, rfl⟩
  · rw [htowers, List.length_map]
  · rw [State.memByte, hcells]
    rfl
  · rw [hvault]
    rfl
  · rw [hvault]
    rfl
  · rw [hvault]
    rfl
  · rw [hpair]
    rfl

/-! ## A domain is switched on (R520) -/

/-- The domain `d` alone is set. -/
theorem domain_setDomain_of_ne (s : State) {d k : Nat} (st : Nat) (h : k ≠ d) : (s.setDomain d st).domain k = s.domain k := by
  have hdomains : (s.setDomain d st).power.domains = modAt s.power.domains d (fun x => { x with st }) := by
    unfold State.setDomain
    dsimp only
    split <;> rfl
  simp only [State.domain, hdomains, List.getD_eq_getElem?_getD, modAt_getElem?, if_neg h]

/-- A domain that is set on leaves memory, and the stacks, as they stood. -/
theorem mem_setDomain_on (s : State) (d : Nat) : (s.setDomain d 2).mem = s.mem := by
  unfold State.setDomain
  rw [if_neg (by simp)]
  rfl

/-- What comes on with a domain: neither power nor memory (R520). -/
theorem domainComesOn_keeps (s : State) (d straps : Nat) : (s.domainComesOn d straps).power = s.power
    ∧ (s.domainComesOn d straps).mem = s.mem := by
  unfold State.domainComesOn
  split
  · exact ⟨rfl, rfl⟩
  · split
    · exact ⟨rfl, rfl⟩
    · split <;> exact ⟨rfl, rfl⟩

/-- The logic domain of a tower brings the tower up to training (R522). -/
theorem mode_domainComesOn {s : State} {d : Nat} (straps : Nat) (hd : d < 40) (hlogic : d ≠ memDomain (domainTower d))
    (ht : domainTower d < s.towers.length) : ((s.domainComesOn d straps).tower (domainTower d)).mode = .training := by
  unfold State.domainComesOn
  rw [if_neg (by omega), if_neg (by omega), if_pos hd]
  dsimp only
  rw [State.tower_mapTower _ _ _ _ ht, if_pos rfl, if_neg hlogic]

theorem domainSwitchOn_completes :
    ∀ s at_ d straps u, u = s.advance at_ → u.sequencerFree = true → u.nextDomain = some d → d < u.power.domains.length →
    (d < 40 → domainTower d < u.towers.length) →
    Completes (.domainSwitchOn at_ d straps) s (fun t => t.domainOn d = true ∧ t.power.lastOn = some u.now
      ∧ (∀ k, k ≠ d → t.domain k = u.domain k) ∧ (d < 40 → d ≠ memDomain (domainTower d) → (t.tower (domainTower d)).mode = .training)
      ∧ SameMemory u t) := by
  intro s at_ d straps u hu hfree hnext hd htower
  refine .of_effect (fun u => u.switchOn d straps) hu rfl ?_
  rw [State.switchOn, if_pos (by simp [hfree, hnext])]
  obtain ⟨hpower, hmem⟩ := domainComesOn_keeps ((u.setDomain d 2).mapPower (fun p => { p with lastOn := some u.now })) d straps
  have hdomain : ∀ k, State.domain (((u.setDomain d 2).mapPower (fun p => { p with lastOn := some u.now })).domainComesOn d straps) k
      = (u.setDomain d 2).domain k := fun k => by
    rw [State.domain, hpower]
    rfl
  have hnow : (u.setDomain d 2).now = u.now := by
    unfold State.setDomain
    dsimp only
    split <;> rfl
  refine ⟨?_, ?_, fun k hk => ?_, fun hlow hlogic => ?_, ?_⟩
  · rw [State.domainOn, hdomain, domain_setDomain, if_pos ⟨rfl, hd⟩]
    rfl
  · rw [hpower]
    rfl
  · rw [hdomain, domain_setDomain_of_ne u 2 hk]
  · exact mode_domainComesOn straps hlow hlogic (by simpa using htower hlow)
  · exact .of_mem (hmem.trans (mem_setDomain_on u d))

/-! ## Layers boot, or the unit recovers (R521, R523) -/

/-- The module state is changed, and its vector raised; nothing else. -/
theorem setModState_eq (s : State) (n : Nat) : ∃ log, s.setModState n = { s with boot := { s.boot with modState := n }, log } := by
  unfold State.setModState
  split
  next h => exact ⟨s.log, by rw [← h]⟩
  next => exact ⟨_, rfl⟩

/-- The measurement of layer `l` that stands once the layer runs. -/
def layerMeasure (s : State) (l : Nat) : Measure :=
  { kind := 1, pend := false, index := l, version := (s.boot.copy l (s.boot.runsB l)).svn, tick := s.now
    hash := (s.boot.copy l (s.boot.runsB l)).hash }

/-- The module once layer `l` is measured and counted. -/
def counted (s : State) (l : Nat) : State :=
  ((s.measureLayer l).mapVault (fun v => { v with secrets := v.secrets + 1 })).mapBoot (fun b => { b with layers := l })

theorem counted_leaves (s : State) (l : Nat) : (counted s l).boot = { s.boot with layers := l } ∧ (counted s l).mem = s.mem
    ∧ (counted s l).vault.secrets = s.vault.secrets + 1 ∧ layerMeasure s l ∈ (counted s l).vault.measures :=
  ⟨rfl, rfl, rfl, List.mem_append_right _ (List.mem_singleton.mpr rfl)⟩

/-- Layer 3 makes the base ready, and drops no measurement of a layer (R523). -/
theorem baseReady_leaves (s : State) :
    ∃ vault, (((s.mapVault (fun v => { v with releaseGen := v.releaseGen + 1, reportHashes := [] })).measureGuests.mapBoot (fun b =>
      { b with baseReady := true })).reloadDone 64) = { s with boot := { s.boot with baseReady := true }, vault }
      ∧ vault.secrets = s.vault.secrets ∧ ∀ m ∈ s.vault.measures, m.kind = 1 → m ∈ vault.measures :=
  ⟨_, rfl, rfl, fun _ hm hkind => List.mem_append_left _ (List.mem_filter.mpr ⟨hm, by simp [hkind]⟩)⟩

theorem layerRuns_eq (s : State) (l : Nat) : s.layerRuns l =
    if l = 2 then ((counted s l).setModState 2).mapDict (fun d => { d with pcieUp := d.perst })
    else if l = 3 then
      ((((counted s l).mapVault (fun v => { v with releaseGen := v.releaseGen + 1, reportHashes := [] })).measureGuests.mapBoot (fun b =>
        { b with baseReady := true })).reloadDone 64)
    else counted s l := rfl

/-- R521, R523: what stands once layer `l` runs. -/
theorem layerRuns_leaves (s : State) (l : Nat) : (s.layerRuns l).boot.layers = l ∧ (s.layerRuns l).boot.running = s.boot.running
    ∧ (s.layerRuns l).vault.secrets = s.vault.secrets + 1 ∧ layerMeasure s l ∈ (s.layerRuns l).vault.measures
    ∧ (l = 3 → (s.layerRuns l).boot.baseReady = true) ∧ (s.layerRuns l).mem = s.mem := by
  obtain ⟨hboot, hmem, hsecrets, hmeasured⟩ := counted_leaves s l
  rw [layerRuns_eq]
  generalize counted s l = c at *
  split
  next h2 =>
    obtain ⟨log, heq⟩ := setModState_eq c 2
    rw [heq]
    exact ⟨congrArg (·.layers) hboot, congrArg (·.running) hboot, hsecrets, hmeasured, fun h3 => absurd (h2.symm.trans h3) (by decide),
        hmem⟩
  next =>
    split
    next =>
      obtain ⟨vault, heq, hsecrets', hkept⟩ := baseReady_leaves c
      rw [heq]
      exact ⟨congrArg (·.layers) hboot, congrArg (·.running) hboot, hsecrets'.trans hsecrets, hkept _ hmeasured rfl, fun _ => rfl, hmem⟩
    next h3 => exact ⟨congrArg (·.layers) hboot, congrArg (·.running) hboot, hsecrets, hmeasured, fun h => absurd h h3, hmem⟩

theorem bootLayer_starts :
    ∀ s at_ l okA okB u, u = s.advance at_ → u.dead = false → u.domainOn 40 = true → u.boot.activating = none → u.boot.recovery = false →
    1 ≤ l → l ≤ 3 → l = u.boot.layers + 1 → (if u.boot.runsB l then okB else okA) = true →
    Completes (.bootLayer at_ l okA okB) s (fun t => t.boot.layers = l ∧ t.boot.running = u.boot.running
      ∧ t.vault.secrets = u.vault.secrets + 1 ∧ (∃ m ∈ t.vault.measures, m.kind = 1 ∧ m.index = l ∧ m.tick = u.now)
      ∧ (l = 3 → t.boot.baseReady = true) ∧ SameMemory u t) := by
  intro s at_ l okA okB u hu hdead hon hidle hrec hlow hhigh hnext hok
  have hruns : u.bootLayer l okA okB = u.layerRuns l := by
    simp [State.bootLayer, hdead, hon, hidle, hrec, hok, ← hnext]
    omega
  refine .of_effect (fun u => u.bootLayer l okA okB) hu rfl ?_
  rw [hruns]
  obtain ⟨hlayers, hrunning, hsecrets, hmeasured, hready, hmem⟩ := layerRuns_leaves u l
  exact ⟨hlayers, hrunning, hsecrets, ⟨_, hmeasured, rfl, rfl, rfl⟩, hready, .of_mem hmem⟩

theorem bootLayer_recovers :
    ∀ s at_ l u, u = s.advance at_ → u.dead = false → u.domainOn 40 = true → u.boot.activating = none → u.boot.recovery = false →
    1 ≤ l → l ≤ 3 → l = u.boot.layers + 1 →
    Completes (.bootLayer at_ l false false) s (fun t => t.boot.recovery = true ∧ t.boot.bootFails = u.boot.bootFails + 1
      ∧ t.boot.modState = 1 ∧ t.boot.layers = u.boot.layers ∧ t.vault = u.vault ∧ SameMemory u t) := by
  intro s at_ l u hu hdead hon hidle hrec hlow hhigh hnext
  have hrecovers : u.bootLayer l false false = u.recover := by
    simp [State.bootLayer, hdead, hon, hidle, hrec, ← hnext]
    omega
  refine .of_effect (fun u => u.bootLayer l false false) hu rfl ?_
  obtain ⟨log, heq⟩ := setModState_eq (u.mapBoot (fun b => { b with recovery := true, bootFails := b.bootFails + 1 })) 1
  rw [hrecovers, State.recover, heq]
  exact ⟨rfl, rfl, rfl, rfl, rfl, .of_mem rfl⟩

/-! ## A tower comes up (R522) -/

/-- The tower with its channels and stacks trained and its wires as they are. -/
def wired (s : State) (t : Nat) : State := (s.trainChannels t (if (s.tower t).isCache then 4 else 3) [] false).trainStacks t

/-- Training changes the channels of the tower alone. -/
theorem wired_leaves {s : State} {t : Nat} (ht : t < s.towers.length) :
    (∃ channels, (wired s t).tower t = { s.tower t with channels }) ∧ t < (wired s t).towers.length := by
  obtain ⟨htrains, -⟩ := trainAll_trains [] false
    ((List.range (if (s.tower t).isCache then 4 else 3)).flatMap (fun l => (List.range 32).map (fun c => (l + 1, c)))) s ht
  rw [← trainChannels_eq] at htrains
  obtain ⟨channels, htower⟩ := htrains.tower
  have hstacks : (wired s t).towers = (s.trainChannels t (if (s.tower t).isCache then 4 else 3) [] false).towers := by
    unfold wired State.trainStacks
    dsimp only
    split <;> rfl
  exact ⟨⟨channels, (State.tower_congr hstacks t).trans htower⟩, by rw [hstacks, htrains.length_towers]; exact ht⟩

/-- The tower as its self-test leaves it, where no tile and no wire failed. -/
def tested (s : State) (t : Nat) (other : Bool) : State := if other then (wired s t).failTower t else wired s t

theorem tested_leaves {s : State} {t : Nat} (other : Bool) (ht : t < s.towers.length) (hmode : (s.tower t).mode = .training) :
    ((tested s t other).tower t).mode = (if other then .failed else .training) ∧ t < (tested s t other).towers.length := by
  obtain ⟨⟨channels, htower⟩, hlength⟩ := wired_leaves ht
  have hmode' : ((wired s t).tower t).mode = .training := by rw [htower]; exact hmode
  cases other with
  | false => exact ⟨hmode', hlength⟩
  | true =>
    have hends := failTower_ends (s := wired s t) (t := t) (by rw [hmode']; decide)
    refine ⟨(failTower_fences hlength (by rw [hmode']; decide)).1, ?_⟩
    rw [show tested s t true = (wired s t).failTower t from rfl, hends.length_towers]
    simpa [failing, State.fenceTower] using hlength

/-- The regions enter, and a tower that is still training is READY. -/
def entered (s : State) (t : Nat) : State :=
  if ((s.mapTower t (fun x => x.enterRegions (s.replica t / 1024))).tower t).mode = .training then
    (s.mapTower t (fun x => x.enterRegions (s.replica t / 1024))).mapTower t (fun x => { x with mode := .ready })
  else s.mapTower t (fun x => x.enterRegions (s.replica t / 1024))

theorem mode_entered {s : State} {t : Nat} (ht : t < s.towers.length) :
    ((entered s t).tower t).mode = if (s.tower t).mode = .training then .ready else (s.tower t).mode := by
  have hregions : ((s.mapTower t (fun x => x.enterRegions (s.replica t / 1024))).tower t).mode = (s.tower t).mode := by
    rw [State.tower_mapTower _ _ _ _ ht, if_pos rfl]
    rfl
  rw [entered, hregions]
  split
  · rw [State.tower_mapTower _ _ _ _ (by simpa using ht), if_pos rfl]
  · exact hregions

theorem towerComesUp_eq {s : State} {t : Nat} (other : Bool) (ht : t < 20) (hmode : (s.tower t).mode = .training)
    (hstate : (s.tower t).resetState = .idle) (hheld : (s.tower t).heldInReset = false) (hgroup : (s.tower t).group = none)
    (hready : s.boot.baseReady = true) : s.towerComesUp t [] [] other = (entered (tested s t other) t).checkReady :=
  if_neg (by simp [hmode, hstate, hheld, hready, Tower.waiting, hgroup]; omega)

theorem towerReady_completes :
    ∀ s at_ t other u, u = s.advance at_ → t < 20 → t < u.towers.length → (u.tower t).mode = .training → (u.tower t).resetState = .idle →
    (u.tower t).heldInReset = false → (u.tower t).group = none → u.boot.baseReady = true →
    Completes (.towerReady at_ t [] [] other) s (fun v => (v.tower t).mode = (if other then .failed else .ready)) := by
  intro s at_ t other u hu ht htowers hmode hstate hheld hgroup hready
  obtain ⟨htested, hlength⟩ := tested_leaves other htowers hmode
  refine .of_effect (fun u => u.towerComesUp t [] [] other) hu rfl ?_
  rw [towerComesUp_eq other ht hmode hstate hheld hgroup hready, State.tower_congr (checkReady_keeps _).1, mode_entered hlength, htested]
  cases other <;> rfl

/-- Settles O50: power returns to an empty module, its domains and layers come up one by one, and a tower is READY or FAILED by its
self-test. -/
theorem bringUpCommandsComplete : Obligations.BringUpCommandsComplete :=
  ⟨inputCharged_completes, domainSwitchOn_completes, bootLayer_starts, bootLayer_recovers, towerReady_completes⟩

end Sys2Proof.Proofs.BringUp

/-!
Guests and alarms (chapter 16): a guest's packets and its reset line, and the alarm monitors (R427, R440 to R446, R523).
-/
namespace Sys2Proof.Machine
open Sys2Proof

/-- A number whose fields stand at the places of Table NS-2 gives each of them back. -/
theorem header_fields {type low src dst mid addr tag high : Nat} (htype : type < 16) (hlow : low < 16) (hsrc : src < 65536) (hdst :
    dst < 65536)
    (hmid : mid < 2 ^ 24) (haddr : addr < 2 ^ 64) (htag : tag < 65536) (hhigh : high < 2 ^ 36) {v : Nat}
    (hv : v = type + low * 2 ^ 4 + src * 2 ^ 8 + dst * 2 ^ 24 + mid * 2 ^ 40 + addr * 2 ^ 64 + tag * 2 ^ 128 + high * 2 ^ 144) :
    v < 2 ^ 512 ∧ field v 3 0 = type ∧ field v 23 8 = src ∧ field v 39 24 = dst ∧ field v 127 64 = addr ∧ field v 143 128 = tag := by
  simp only [field, Nat.shiftRight_eq_div_pow]
  refine ⟨?_, ?_, ?_, ?_, ?_, ?_⟩ <;> omega

/-- What a packet's header says of its type, its ends, its place and its tag is what it was made with (Table NS-2). -/
theorem mkPacket_fields (tepoch : Bool) (f : PktFields) (data : List Byte) :
    (mkPacket tepoch f data).type = f.type % 16 ∧ (mkPacket tepoch f data).src = f.src % 65536
        ∧ (mkPacket tepoch f data).dst = f.dst % 65536
      ∧ (mkPacket tepoch f data).addr = f.addr % 2 ^ 64 ∧ (mkPacket tepoch f data).tag = f.tag % 65536 := by
  have hbank : (if tepoch then 16 else 0) = (if tepoch then 1 else 0) * 2 ^ 4 := by cases tepoch <;> rfl
  have hslot : (if f.slot.isSome then 2 ^ 48 else 0) = (if f.slot.isSome then 1 else 0) * 2 ^ 48 := by split <;> rfl
  have hbank1 : (if tepoch then 1 else 0) ≤ 1 := by split <;> omega
  have hslot1 : (if f.slot.isSome then 1 else 0) ≤ 1 := by split <;> omega
  obtain ⟨hlt, htype, hsrc, hdst, haddr, htag⟩ := header_fields (type := f.type % 16)
    (low := (if tepoch then 1 else 0) + data.length / 64 % 8 * 2) (src := f.src % 65536) (dst := f.dst % 65536)
    (mid := f.slot.getD 0 % 256 + (if f.slot.isSome then 1 else 0) * 2 ^ 8) (addr := f.addr % 2 ^ 64) (tag := f.tag % 65536)
    (high := f.redid % 65536 + f.rop % 4 * 2 ^ 16 + f.rfmt % 4 * 2 ^ 18 + f.ccount % 32 * 2 ^ 20 + f.rgran % 2048 * 2 ^ 25)
    (by omega) (by omega) (by omega) (by omega) (by omega) (by omega) (by omega) (by omega) rfl
  have hhdr : (mkPacket tepoch f data).hdr.toNat = f.type % 16 + ((if tepoch then 1 else 0) + data.length / 64 % 8 * 2) * 2 ^ 4
      + f.src % 65536 * 2 ^ 8 + f.dst % 65536 * 2 ^ 24 + (f.slot.getD 0 % 256 + (if f.slot.isSome then 1 else 0) * 2 ^ 8) * 2 ^ 40
      + f.addr % 2 ^ 64 * 2 ^ 64 + f.tag % 65536 * 2 ^ 128
      + (f.redid % 65536 + f.rop % 4 * 2 ^ 16 + f.rfmt % 4 * 2 ^ 18 + f.ccount % 32 * 2 ^ 20 + f.rgran % 2048 * 2 ^ 25) * 2 ^ 144 := by
    refine Eq.trans ?_ (Nat.mod_eq_of_lt hlt)
    rw [mkPacket, BitVec.toNat_ofNat, hbank, hslot]
    exact congrArg (· % 2 ^ 512) (by omega)
  simp only [Packet.type, Packet.src, Packet.dst, Packet.addr, Packet.tag, Packet.f, hhdr]
  exact ⟨htype, hsrc, hdst, haddr, htag⟩

end Sys2Proof.Machine

namespace Sys2Proof.Proofs.GuestsAndAlarms

open Sys2Proof Sys2Proof.Machine Sys2Proof.Proofs.Resets

/-! ## Packets of a guest (R440 to R443) -/

theorem hasGuest_lt {s : State} {g : Nat} (h : s.hasGuest g = true) : g < 2 := by
  simp only [State.hasGuest, Bool.and_eq_true, decide_eq_true_eq] at h
  exact h.2

/-- A guest's packet runs under the routing bank of its header, and the bank in force comes back. -/
theorem completes_of_guestPacket {s u : State} {at_ g : Nat} {fromGuest : Bool} {p : Packet} {P : State → Prop} (hu : u = s.forPacket at_ p)
    (h : P ((u.guestPacket g fromGuest p).mapBase (fun b => { b with activeB := (s.advance at_).base.activeB }))) :
    Completes (.guestPacket at_ g fromGuest p) s P :=
  ⟨_, rfl, by subst hu; exact h⟩

/-- What the packet of a guest in service comes to, once its rules are judged. -/
theorem guestPacket_passes {u : State} {g : Nat} {p : Packet} (fromGuest : Bool) (hguest : u.hasGuest g = true)
    (hfence : u.siteFenced (guestSite g) = false) (hpass : u.packetPasses g fromGuest p = true) : u.guestPacket g fromGuest p
      = if fromGuest then (u.notePassed g fromGuest p).sendFrom (guestSite g) p else (u.notePassed g fromGuest p).sendPacket p := by
  simp [State.guestPacket, hguest, hfence, hpass]

theorem guestPacket_refuses {u : State} {g : Nat} {p : Packet} (fromGuest : Bool) (hguest : u.hasGuest g = true)
    (hfence : u.siteFenced (guestSite g) = false) (hpass : u.packetPasses g fromGuest p = false) : u.guestPacket g fromGuest p
      = if fromGuest then (u.fencedReply p).breach g (if p.slotv then u.slotTenant (u.eidSite p.dst) p.slot else [])
        else (u.fencedReply p).countRefusal g := by
  simp [State.guestPacket, hguest, hfence, hpass]

/-- A packet that passes is noted in the vault alone; one that asks for an answer waits for it (R441). -/
theorem notePassed_eq (s : State) (g : Nat) (fromGuest : Bool) (p : Packet) :
    ∃ guestPkts, s.notePassed g fromGuest p = { s with vault := { s.vault with guestPkts } }
      ∧ ((opsBit p.type).isSome = true → p.type ≠ 6 → ∃ e ∈ guestPkts, e.guest = g ∧ e.fromGuest = fromGuest
        ∧ e.src = p.src ∧ e.dst = p.dst ∧ e.tag = p.tag) := by
  refine ⟨_, rfl, fun hops h6 => ?_⟩
  have hanswer : answerType p.type = false := by
    unfold opsBit at hops
    unfold answerType
    grind
  rw [hanswer, if_neg Bool.false_ne_true, if_pos hops]
  refine ⟨{ guest := g, fromGuest, src := p.src, dst := p.dst, tag := p.tag, bank := p.tepoch, left := s.answersTo p },
    List.mem_filter.mpr ⟨List.mem_append_right _ (List.mem_singleton.mpr rfl), ?_⟩, rfl, rfl, rfl, rfl, rfl⟩
  simp [State.answersTo, h6]

theorem guestPacket_to_guest :
    ∀ s at_ g p u, u = s.forPacket at_ p → u.hasGuest g = true → u.siteFenced (guestSite g) = false → u.packetPasses g false p = true →
    Completes (.guestPacket at_ g false p) s (fun t => t.net = s.net ++ [p] ∧ t.vault.guestFence = u.vault.guestFence
      ∧ t.vault.alarms = u.vault.alarms ∧ t.vault.refusals0 = u.vault.refusals0 ∧ t.vault.refusals1 = u.vault.refusals1
      ∧ ((opsBit p.type).isSome = true → p.type ≠ 6 → (∃ e ∈ t.vault.guestPkts, e.guest = g ∧ e.fromGuest = false
        ∧ e.src = p.src ∧ e.dst = p.dst ∧ e.tag = p.tag)) ∧ SameMemory u t) := by
  intro s at_ g p u hu hguest hfence hpass
  obtain ⟨guestPkts, hnoted, hwaits⟩ := notePassed_eq u g false p
  refine completes_of_guestPacket hu ?_
  rw [guestPacket_passes false hguest hfence hpass, if_neg Bool.false_ne_true, hnoted]
  have hnet : u.net = s.net := by
    rw [hu]
    exact State.advance_net ..
  exact ⟨congrArg (· ++ [p]) hnet, rfl, rfl, rfl, rfl, hwaits, .of_mem rfl⟩

theorem guestPacket_from_guest :
    ∀ s at_ g p u, u = s.forPacket at_ p → u.hasGuest g = true → u.siteFenced (guestSite g) = false → u.packetPasses g true p = true →
    field (u.routingEntry p.tepoch p.dst).toNat 1 0 ≠ 0 →
    Completes (.guestPacket at_ g true p) s (fun t => t.net = (u.sendBulk (guestSite g) (u.eidSite p.dst) p).net
      ∧ t.lines = (u.sendBulk (guestSite g) (u.eidSite p.dst) p).lines ∧ t.vault.guestFence = u.vault.guestFence
      ∧ t.vault.alarms = u.vault.alarms ∧ t.vault.refusals0 = u.vault.refusals0 ∧ t.vault.refusals1 = u.vault.refusals1
      ∧ ((opsBit p.type).isSome = true → p.type ≠ 6 → (∃ e ∈ t.vault.guestPkts, e.guest = g ∧ e.fromGuest = true
        ∧ e.src = p.src ∧ e.dst = p.dst ∧ e.tag = p.tag)) ∧ SameMemory u t) := by
  intro s at_ g p u hu hguest hfence hpass hroute
  obtain ⟨guestPkts, hnoted, hwaits⟩ := notePassed_eq u g true p
  refine completes_of_guestPacket hu ?_
  rw [guestPacket_passes true hguest hfence hpass, if_pos rfl, hnoted]
  have hbank : { u with base := { u.base with activeB := p.tepoch } } = u := by rw [hu]; rfl
  have hsent : ({ u with vault := { u.vault with guestPkts } } : State).sendFrom (guestSite g) p
      = ({ u with vault := { u.vault with guestPkts } } : State).sendBulk (guestSite g)
        (({ u with base := { u.base with activeB := p.tepoch } } : State).eidSite p.dst) p := by
    have hfence' : ({ u with vault := { u.vault with guestPkts } } : State).siteFenced (guestSite g) = false := hfence
    have hroute' : field (({ u with vault := { u.vault with guestPkts } } : State).routingEntry p.tepoch p.dst).toNat 1 0 ≠ 0 := hroute
    unfold State.sendFrom
    rw [hfence', if_neg (by simp), if_pos hroute']
    rfl
  rw [hsent, hbank]
  exact ⟨rfl, rfl, rfl, rfl, rfl, rfl, hwaits, .of_mem rfl⟩

/-- A fenced acknowledgement is of type 8, for the sender of the packet and its tag (R251). -/
theorem fencedReply_spec (s : State) (p : Packet) : ∃ q, s.fencedReply p = s.sendPacket q ∧ q.type = 8 ∧ q.dst = p.src ∧ q.tag = p.tag := by
  obtain ⟨htype, -, hdst, -, htag⟩ := mkPacket_fields p.tepoch { type := 8, src := p.dst, dst := p.src, addr := p.addr, tag := p.tag } []
  exact ⟨_, rfl, htype, hdst.trans (Nat.mod_eq_of_lt (Nat.mod_lt _ (by decide))), htag.trans (Nat.mod_eq_of_lt (Nat.mod_lt _ (by decide)))⟩

/-- A refusal is counted for its guest alone. -/
theorem countRefusal_eq (s : State) (g : Nat) : ∃ refusals0 refusals1,
    s.countRefusal g = s.mapVault (fun v => { v with refusals0, refusals1 })
        ∧ refusals0 + refusals1 = s.vault.refusals0 + s.vault.refusals1 + 1 := by
  by_cases hg : g = 0
  · exact ⟨s.vault.refusals0 + 1, s.vault.refusals1, by simp [State.countRefusal, State.mapVault, hg], by omega⟩
  · exact ⟨s.vault.refusals0, s.vault.refusals1 + 1, by simp [State.countRefusal, State.mapVault, hg], by omega⟩

theorem guestPacket_breaches :
    ∀ s at_ g p u, u = s.forPacket at_ p → u.hasGuest g = true → u.siteFenced (guestSite g) = false → u.packetPasses g true p = false →
    Completes (.guestPacket at_ g true p) s (fun t => t.vault.guestFence.getLsbD g = true ∧ t.vault.alarms = u.vault.alarms + 1
      ∧ t.vault.lastSource = 4 + g ∧ t.vault.refusals0 + t.vault.refusals1 = u.vault.refusals0 + u.vault.refusals1 + 1
      ∧ (∃ q, t.net = s.net ++ [q] ∧ q.type = 8 ∧ q.dst = p.src ∧ q.tag = p.tag)) := by
  intro s at_ g p u hu hguest hfence hpass
  have hnet : u.net = s.net := by
    rw [hu]
    exact State.advance_net ..
  obtain ⟨q, hreply, htype, hdst, htag⟩ := fencedReply_spec u p
  obtain ⟨refusals0, refusals1, hcount, hsum⟩ := countRefusal_eq (u.sendPacket q) g
  refine completes_of_guestPacket hu ?_
  rw [guestPacket_refuses true hguest hfence hpass, if_pos rfl, hreply, State.breach, hcount]
  generalize (if p.slotv then u.slotTenant (u.eidSite p.dst) p.slot else []) = tenants
  generalize hw : ((((u.sendPacket q).mapVault (fun v => { v with refusals0, refusals1 })).mapVault (fun v =>
    { v with guestFence := v.guestFence ||| (1#2 <<< g) })).policyChanged) = w
  have hfenced : w.vault.guestFence.getLsbD g = true := by
    rw [← hw]
    change (u.vault.guestFence ||| (1#2 <<< g)).getLsbD g = true
    simp [hasGuest_lt hguest]
  have halarms : w.vault.alarms = u.vault.alarms := hw ▸ rfl
  have hrefusals : w.vault.refusals0 + w.vault.refusals1 = u.vault.refusals0 + u.vault.refusals1 + 1 := hw ▸ hsum
  have hwnet : w.net = s.net ++ [q] := hw ▸ congrArg (· ++ [q]) hnet
  obtain ⟨_, _, _, _, hnet', _, x, _, _, ⟨_, _, _, _, _, _, _, _, _, _, _, rfl⟩, hvault⟩ := State.raiseAlarm_alarmed w (4 + g) false tenants
  simp only [State.mapBase_vault, State.mapBase_net, hvault]
  exact ⟨hfenced, congrArg (· + 1) halarms, trivial, hrefusals, q, hnet'.trans hwnet, htype, hdst, htag⟩

theorem guestPacket_refused :
    ∀ s at_ g p u, u = s.forPacket at_ p → u.hasGuest g = true → u.siteFenced (guestSite g) = false → u.packetPasses g false p = false →
    Completes (.guestPacket at_ g false p) s (fun t => t.vault.guestFence = u.vault.guestFence ∧ t.vault.alarms = u.vault.alarms
      ∧ t.vault.refusals0 + t.vault.refusals1 = u.vault.refusals0 + u.vault.refusals1 + 1 ∧ SameMemory u t) := by
  intro s at_ g p u hu hguest hfence hpass
  obtain ⟨refusals0, refusals1, hcount, hsum⟩ := countRefusal_eq (u.fencedReply p) g
  refine completes_of_guestPacket hu ?_
  rw [guestPacket_refuses false hguest hfence hpass, if_neg Bool.false_ne_true, hcount]
  exact ⟨rfl, rfl, hsum, .of_mem rfl⟩

/-! ## The alarm monitors (R445, R446) -/

/-- The commands of the three monitors are the alarms of the sources 1 to 3 (Table SK-8). -/
theorem exec_monitor {n at_ : Nat} {c : Instr} (hc : (n, c) ∈ [(1, Instr.tamperMesh at_), (2, .supplyGlitch at_), (3, .clockGlitch at_)])
    (s : State) : exec c s = .next (if (s.advance at_).dead then s.advance at_ else (s.advance at_).raiseAlarm n true []) := by
  simp only [List.mem_cons, Prod.mk.injEq, List.not_mem_nil, or_false] at hc
  obtain ⟨rfl, rfl⟩ | ⟨rfl, rfl⟩ | ⟨rfl, rfl⟩ := hc <;> rfl

theorem monitor_completes :
    ∀ s at_ n c u, u = s.advance at_ → (n, c) ∈ [(1, Instr.tamperMesh at_), (2, .supplyGlitch at_), (3, .clockGlitch at_)] →
    u.dead = false →
    Completes c s (fun t => t.vault.alarms = u.vault.alarms + 1 ∧ t.vault.lastSource = n ∧ t.vault.lastAlarmTick = u.now
      ∧ u.rw2Now.policy.getD (n - 1) 0 ≤ t.vault.lastAction
      ∧ (3 ≤ u.rw2Now.policy.getD (n - 1) 0 → t.vault.mode = .erased ∧ t.vault.keys = [] ∧ t.vault.secrets = 0 ∧ t.vault.releaseGen = 0
        ∧ t.vault.pairKey = false ∧ t.vault.reportHashes = [] ∧ t.log.count = u.log.count + 1)) := by
  intro s at_ n c u hu hc hdead
  refine .of_effect (fun u => if u.dead then u else u.raiseAlarm n true []) hu (exec_monitor hc s) ?_
  rw [if_neg (by simp [hdead])]
  obtain ⟨_, _, _, _, _, hpolicy, x, _, _, _, hvault⟩ := State.raiseAlarm_alarmed u n true []
  exact ⟨congrArg (·.alarms) hvault, congrArg (·.lastSource) hvault, congrArg (·.lastAlarmTick) hvault, by rw [hvault]; exact hpolicy,
    State.raiseAlarm_erases true []⟩

/-! ## Guests come up, or are fenced (R427, R523) -/

theorem grstLRelease_completes :
    ∀ s at_ g u, u = s.advance at_ → u.hasGuest g = true → u.vault.grstHigh.getLsbD g = false →
    (guestDomains g).all u.domainOn = true → u.vault.grstTick.getD g 0 + 10000 ≤ u.now →
    Completes (.grstLRelease at_ g) s (fun t => t.vault.grstHigh.getLsbD g = true ∧ t.vault.gready = u.vault.gready
      ∧ t = { u with vault := t.vault }) := by
  intro s at_ g u hu hguest hlow hon hpast
  refine .of_effect (fun u => u.grstRelease g) hu rfl ?_
  rw [State.grstRelease, if_pos (by rw [hguest, hlow, hon]; simpa using hpast)]
  refine ⟨?_, rfl, rfl⟩
  change (u.vault.grstHigh ||| (1#2 <<< g)).getLsbD g = true
  simp [hasGuest_lt hguest]

/-- Coming up changes the module's state and its log alone, and the count of the log stands (R521). -/
theorem checkReady_eq (s : State) : ∃ boot log, s.checkReady = { s with boot, log } ∧ log.count = s.log.count := by
  unfold State.checkReady State.setModState
  split
  · split
    · exact ⟨_, _, rfl, rfl⟩
    · exact ⟨_, _, rfl, rfl⟩
  · exact ⟨_, _, rfl, rfl⟩

theorem gready_completes :
    ∀ s at_ g u, u = s.advance at_ → u.hasGuest g = true → u.vault.grstHigh.getLsbD g = true → u.vault.gready.getLsbD g = false →
    Completes (.gready at_ g) s (fun t => t.vault.gready.getLsbD g = true ∧ t.vault.guestReset.getLsbD g = false
      ∧ (u.vault.guestReset.getLsbD g = true → t.base.guestSiteFence.getLsbD g = false)
      ∧ (u.vault.guestReset.getLsbD g = false → t.base.guestSiteFence = u.base.guestSiteFence) ∧ SameMemory u t) := by
  intro s at_ g u hu hguest hhigh hlow
  refine .of_effect (fun u => u.guestReady g) hu rfl ?_
  rw [State.guestReady, if_pos (by rw [hguest, hhigh, hlow]; rfl)]
  have hready : (u.vault.gready ||| (1#2 <<< g)).getLsbD g = true := by simp [hasGuest_lt hguest]
  have hreset : (u.vault.guestReset &&& ~~~(1#2 <<< g)).getLsbD g = false := by simp
  dsimp only
  cases hwas : u.vault.guestReset.getLsbD g with
  | true =>
    rw [if_pos rfl]
    obtain ⟨boot, log, heq, -⟩ := checkReady_eq ((u.mapVault (fun v =>
      { v with gready := v.gready ||| (1#2 <<< g), guestReset := v.guestReset &&& ~~~(1#2 <<< g) })).mapBase (fun b =>
        { b with guestSiteFence := b.guestSiteFence &&& ~~~(1#2 <<< g) }))
    rw [heq]
    refine ⟨hready, hreset, fun _ => ?_, fun h => absurd h (by decide), .of_mem rfl⟩
    change (u.base.guestSiteFence &&& ~~~(1#2 <<< g)).getLsbD g = false
    simp
  | false =>
    rw [if_neg Bool.false_ne_true]
    obtain ⟨boot, log, heq, -⟩ := checkReady_eq (u.mapVault (fun v =>
      { v with gready := v.gready ||| (1#2 <<< g), guestReset := v.guestReset &&& ~~~(1#2 <<< g) }))
    rw [heq]
    exact ⟨hready, hreset, fun h => absurd h (by decide), fun _ => rfl, .of_mem rfl⟩

theorem greadyTimeout_completes :
    ∀ s at_ g u, u = s.advance at_ → u.hasGuest g = true → u.vault.grstHigh.getLsbD g = true → u.vault.gready.getLsbD g = false →
    u.base.guestSiteFence.getLsbD g = false → u.vault.grstTick.getD g 0 + 1000000 ≤ u.now → u.greadyArrives g = false →
    Completes (.greadyTimeout at_ g) s (fun t => t.base.guestSiteFence.getLsbD g = true ∧ t.log.count = u.log.count + 1
        ∧ SameMemory u t) := by
  intro s at_ g u hu hguest hhigh hlow hunfenced hlate hnever
  refine .of_effect (fun u => u.guestLate g) hu rfl ?_
  rw [State.guestLate, if_pos (by rw [hguest, hhigh, hlow, hunfenced, hnever]; simpa using hlate)]
  obtain ⟨boot, log, heq, hcount⟩ := checkReady_eq ((u.fenceGuestSite g).logEv 0x0B03 sevCapacity (unitGuest g) (42 + 2 * g))
  rw [heq]
  refine ⟨?_, hcount.trans (State.logEv_count ..), .of_mem rfl⟩
  change (u.base.guestSiteFence ||| (1#2 <<< g)).getLsbD g = true
  simp [hasGuest_lt hguest]

/-- Settles O43: a guest's packet passes and is noted or is refused and counted, a monitor raises its alarm, and a guest comes up or is
fenced. -/
theorem guestAndAlarmCommandsComplete : Obligations.GuestAndAlarmCommandsComplete :=
  ⟨guestPacket_to_guest, guestPacket_from_guest, guestPacket_breaches, guestPacket_refused, monitor_completes, grstLRelease_completes,
    gready_completes, greadyTimeout_completes⟩

end Sys2Proof.Proofs.GuestsAndAlarms

/-!
A trip ends the requests that the tower holds (R504, R505). A record that is withdrawn with a fault code it has not yet reported brings a
log record of its own (code 0x0242), so a trip may add more than the one record of code 0x0C01.
-/
namespace Sys2Proof.Proofs.TripRecords

open Sys2Proof Sys2Proof.Machine Sys2Proof.Proofs.SlotRetirement

/-- A module whose tower 0 holds a record of tenant 5 with an unreported fault code, under an accepted request. -/
def faulted : State :=
  (State.reset.mapLedger (fun l => { l with reqs := [acceptedReq] })).mapTower 0 (fun x =>
    { x with mode := .active, records := [{ heldRecord with code := 0x82 }] })

/-- The number of records logged after a command. -/
def logCountAfter (c : Instr) (s : State) : Option Nat :=
  match exec c s with
  | .next t => some t.log.count
  | .fault _ => none
  | .refused _ => none

theorem logCountAfter_next {c : Instr} {s t : State} (h : exec c s = .next t) : logCountAfter c s = some t.log.count := by
  simp only [logCountAfter, h]

/-- The trip at 120.0 °C logs itself and the late code of the record. -/
theorem logCountAfter_trip : logCountAfter (.modelStep 0 0 1200) faulted = some 2 := by decide +kernel

/-- Refutes O49: tower 0 trips while it holds a record whose fault code 0x82 has not been reported; the request ends, the late code is
logged beside the trip, and the log grows by two records. -/
theorem not_thermalCommandsComplete : ¬ Obligations.ThermalCommandsComplete := by
  intro h
  obtain ⟨hstep, -⟩ := h
  obtain ⟨-, htrip⟩ := hstep faulted 0 0 1200 _ _ rfl (by decide) (by decide +kernel) rfl (by decide +kernel)
  obtain ⟨t, hexec, -, -, -, -, -, -, hcount⟩ := htrip (by decide) (by decide +kernel) (by decide +kernel) (by decide +kernel)
  have htwo : t.log.count = 2 := Option.some.inj ((logCountAfter_next hexec).symm.trans logCountAfter_trip)
  have hzero : (faulted.advance 0).log.count = 0 := by decide +kernel
  rw [htwo, hzero] at hcount
  exact absurd hcount (by decide)

end Sys2Proof.Proofs.TripRecords

/-!
Supplies (chapter 18): what the module loses with its input, a converter, a domain, a regulator phase, a laser driver or a switch supply
(R86, R484 to R490).
-/
namespace Sys2Proof.Proofs.SupplyFaults

open Sys2Proof Sys2Proof.Machine Sys2Proof.Proofs.TowerFaults Sys2Proof.Proofs.CalibrationSteps Sys2Proof.Proofs.LasersAndPlanes

/-! ## The input voltage (R484, R485) -/

/-- A module that falls silent sends no heartbeat and holds no frame; its links are down. -/
theorem silence_leaves (s : State) : s.silence.pair.beating = false ∧ (∀ p ∈ s.silence.ports, p.queue = [] ∧ p.up = false)
    ∧ s.silence.power = s.power ∧ s.silence.log = s.log ∧ s.silence.mem = s.mem := by
  refine ⟨rfl, fun p hp => ?_, rfl, rfl, rfl⟩
  obtain ⟨q, -, rfl⟩ := List.mem_map.mp hp
  exact ⟨rfl, rfl⟩

theorem inputLoss_completes :
    ∀ s at_ mv dur u, u = s.advance at_ → u.power.shutdown = false → u.power.charged = true → mv < 38000 ∨ 63000 < mv → 10000 ≤ dur →
    Completes (.inputVoltageEvent at_ mv dur) s (fun t => t.power.shutdown = true ∧ (∀ d ∈ t.power.domains, d.st = 0)
      ∧ t.pair.beating = false ∧ (∀ p ∈ t.ports, p.queue = [] ∧ p.up = false) ∧ t.log = u.log ∧ SameMemory u t) := by
  intro s at_ mv dur u hu hon hcharged hmv hdur
  have hlost : u.inputEvent mv dur = (u.mapPower (fun p => { p with inputmV := mv })).shutDown := by
    simp [State.inputEvent, hon, hcharged, inputLost, hmv, hdur]
  refine .of_effect (fun u => u.inputEvent mv dur) hu rfl ?_
  rw [hlost, State.shutDown]
  obtain ⟨hbeat, hports, hpower, hlog, hmem⟩ := silence_leaves ((u.mapPower (fun p => { p with inputmV := mv })).mapPower (fun p =>
    { p with shutdown := true, inputUp := false, charged := false, domains := p.domains.map (fun d => { d with st := 0 }) }))
  refine ⟨?_, ?_, hbeat, hports, hlog, .of_mem hmem⟩
  · rw [hpower]
    rfl
  · rw [hpower]
    simp

theorem inputExcursion_completes :
    ∀ s at_ mv dur u, u = s.advance at_ → u.power.shutdown = false → u.power.charged = true → mv < 40000 ∨ 60000 < mv →
    (38000 ≤ mv ∧ mv ≤ 63000) ∨ dur < 10000 →
    Completes (.inputVoltageEvent at_ mv dur) s (fun t => t.power = { u.power with inputmV := mv, inputEvents := u.power.inputEvents + 1 }
      ∧ t.log.count = u.log.count + 1 ∧ t.towers = u.towers ∧ SameMemory u t) := by
  intro s at_ mv dur u hu hon hcharged hout hkept
  have hheld : inputLost mv dur = false := by
    simp only [inputLost, Bool.and_eq_false_iff, Bool.or_eq_false_iff, decide_eq_false_iff_not]
    omega
  have hevent : u.inputEvent mv dur = ((u.mapPower (fun p => { p with inputmV := mv })).mapPower (fun p =>
      { p with inputEvents := p.inputEvents + 1 })).logEv 0x0B40 sevLogged unitModule 0 mv := by
    simp [State.inputEvent, hon, hcharged, hheld, inputOut, hout]
  refine .of_effect (fun u => u.inputEvent mv dur) hu rfl ?_
  rw [hevent]
  exact ⟨rfl, State.logEv_count .., rfl, .of_mem rfl⟩

/-! ## Converters (R486) -/

/-- The towers at the floor of their clocks and with their ballast full (R486, R507). -/
theorem floored_towers (s : State) : ∀ x ∈ (s.floorTargets.fullBallast (fun _ => true)).towers,
    x.ballast = 15 ∧ ∀ g ∈ x.regions, g.target = 1500000 := by
  intro x hx
  obtain ⟨y, hy, rfl⟩ := List.mem_map.mp hx
  obtain ⟨z, -, rfl⟩ := List.mem_map.mp hy
  refine ⟨rfl, fun g hg => ?_⟩
  obtain ⟨h, -, rfl⟩ := List.mem_map.mp hg
  rfl

theorem firstConverter_completes :
    ∀ s at_ c st u, u = s.advance at_ → u.power.converters[c]? = some st → (∀ x ∈ u.power.converters, x ≠ 2) →
    Completes (.converterFailure at_ c) s (fun t => t.power.converters[c]? = some 2 ∧ t.power.moduleFailed = u.power.moduleFailed
      ∧ t.towers = u.towers ∧ t.log.count = u.log.count + 1) := by
  intro s at_ c st u hu hst hnone
  have hc : c < u.power.converters.length := (List.getElem?_eq_some_iff.mp hst).1
  have hcount : ((setAt u.power.converters c 2).filter (· == 2)).length = 1 := by
    have hzero : u.power.converters.count 2 = 0 := List.count_eq_zero.mpr fun h => hnone 2 h rfl
    have hne : u.power.converters[c] ≠ 2 := hnone _ (List.getElem_mem hc)
    rw [← List.countP_eq_length_filter]
    change (u.power.converters.set c 2).count 2 = 1
    rw [List.count_set hc, hzero]
    simp [hne]
  have hfails : u.converterFails c
      = (u.mapPower (fun p => { p with converters := setAt p.converters c 2 })).logEv 0x0B01 sevLogged unitModule c := by
    simp only [State.converterFails, hst, hnone st (List.mem_of_getElem? hst), if_false]
    exact if_pos hcount
  refine .of_effect (fun u => u.converterFails c) hu rfl ?_
  rw [hfails]
  refine ⟨?_, rfl, rfl, State.logEv_count ..⟩
  change (u.power.converters.set c 2)[c]? = some 2
  simp [hc]

theorem secondConverter_completes :
    ∀ s at_ c st u, u = s.advance at_ → u.power.converters[c]? = some st → st ≠ 2 → 2 ∈ u.power.converters →
    Completes (.converterFailure at_ c) s (fun t => t.power.converters[c]? = some 2 ∧ t.power.moduleFailed = true
      ∧ (∀ x ∈ t.towers, x.ballast = 15 ∧ ∀ g ∈ x.regions, g.target = 1500000) ∧ t.log.count = u.log.count + 1) := by
  intro s at_ c st u hu hst hne hfailed
  have hc : c < u.power.converters.length := (List.getElem?_eq_some_iff.mp hst).1
  have hstc : u.power.converters[c] = st := (List.getElem?_eq_some_iff.mp hst).2
  have hcount : ((setAt u.power.converters c 2).filter (· == 2)).length ≠ 1 := by
    have hone : 0 < u.power.converters.count 2 := List.count_pos_iff.mpr hfailed
    rw [← List.countP_eq_length_filter]
    change (u.power.converters.set c 2).count 2 ≠ 1
    rw [List.count_set hc, hstc]
    simp [hne]
    omega
  have hfails : ∃ sev, u.converterFails c = (((u.mapPower (fun p => { p with converters := setAt p.converters c 2 })).mapPower (fun p =>
      { p with moduleFailed := true })).floorTargets.fullBallast (fun _ => true)).logEv 0x0B02 sev unitModule c := by
    simp only [State.converterFails, hst, hne, if_false]
    exact ⟨_, if_neg hcount⟩
  obtain ⟨sev, hfails⟩ := hfails
  refine .of_effect (fun u => u.converterFails c) hu rfl ?_
  rw [hfails]
  have hfloored := floored_towers ((u.mapPower (fun p => { p with converters := setAt p.converters c 2 })).mapPower (fun p =>
    { p with moduleFailed := true }))
  refine ⟨?_, rfl, hfloored, State.logEv_count ..⟩
  change (u.power.converters.set c 2)[c]? = some 2
  simp [hc]

/-! ## Domains and phases (R86, R487, R488) -/

theorem modAt_getElem?_same {α : Type} {l : List α} {i : Nat} {a : α} {f : α → α} (h : l[i]? = some a) : (modAt l i f)[i]? = some (f a) :=
    by
  rw [modAt_getElem?, if_pos rfl, h]
  rfl

theorem domain_of_get {s : State} {d : Nat} {x : Domain} (h : s.power.domains[d]? = some x) : s.domain d = x := by
  simp [State.domain, List.getD_eq_getElem?_getD, h]

/-- A fault of a whole domain has its result, and the domain is in fault (R487). -/
theorem domainFault_eq {s : State} {d : Nat} (hst : (s.domain d).st ≠ 0) : ∃ log, s.domainFault d
    = { (s.domainResult d).mapPower (fun p => { p with domains := modAt p.domains d (fun x => { x with st := 3, faults := x.faults + 1 }) })
        with log } := by
  unfold State.domainFault
  rw [if_neg hst]
  dsimp only
  split
  · exact ⟨_, rfl⟩
  · exact ⟨_, rfl⟩

theorem power_failTower (s : State) (t : Nat) : (s.failTower t).power = s.power := by
  by_cases hmode : (s.tower t).mode = .failed
  · rw [State.failTower, if_pos hmode, State.logEv_power]
  · exact (failTower_ends hmode).power

theorem towerDomain_completes :
    ∀ s at_ d x u, u = s.advance at_ → u.power.domains[d]? = some x → x.st ≠ 0 → d < 40 → domainTower d < u.towers.length →
    (u.tower (domainTower d)).mode ≠ .failed →
    Completes (.domainFault at_ ⟨d, none⟩) s (fun t => t.power.domains[d]? = some { x with st := 3, faults := x.faults + 1 }
      ∧ (t.tower (domainTower d)).mode = .failed ∧ (t.tower (domainTower d)).fence = true) := by
  intro s at_ d x u hu hx hst hd ht hmode
  obtain ⟨log, heq⟩ := domainFault_eq (s := u) (d := d) (by rwa [domain_of_get hx])
  refine .of_telling (fun s => s.domainFault d) hu rfl fun sent n => ?_
  rw [heq, State.domainResult, if_pos hd]
  dsimp only
  generalize hw : u.logEv 0x0B03 _ (domainTower d) d = w
  have hwtowers : w.towers = u.towers := hw ▸ rfl
  have hwpower : w.power = u.power := hw ▸ rfl
  have hwmode : (w.tower (domainTower d)).mode ≠ .failed := by rwa [State.tower_congr hwtowers]
  obtain ⟨hfailed, hfence, -⟩ := failTower_fences (s := w) (by rwa [hwtowers]) hwmode
  have hpower : (w.failTower (domainTower d)).power = u.power := (power_failTower ..).trans hwpower
  generalize w.failTower (domainTower d) = v at *
  refine ⟨?_, hfailed, hfence⟩
  change (modAt v.power.domains d _)[d]? = _
  rw [hpower]
  exact modAt_getElem?_same hx

theorem hubDomain_completes :
    ∀ s at_ d x u, u = s.advance at_ → u.power.domains[d]? = some x → x.st ≠ 0 → d = 40 ∨ d = 41 →
    Completes (.domainFault at_ ⟨d, none⟩) s (fun t => t.power.hubFailed = true ∧ t.pair.beating = false
      ∧ t.power.domains[d]? = some { x with st := 3, faults := x.faults + 1 } ∧ SameMemory u t) := by
  intro s at_ d x u hu hx hst hd
  obtain ⟨log, heq⟩ := domainFault_eq (s := u) (d := d) (by rwa [domain_of_get hx])
  refine .of_telling (fun s => s.domainFault d) hu rfl fun sent n => ?_
  have hresult : u.domainResult d = u.hubFails := by rw [State.domainResult, if_neg (by omega), if_pos (by omega)]
  obtain ⟨hbeat, -, hpower, -, hmem⟩ := silence_leaves (u.mapPower (fun p => { p with hubFailed := true }))
  change u.hubFails.pair.beating = false at hbeat
  change u.hubFails.power = { u.power with hubFailed := true } at hpower
  change u.hubFails.mem = u.mem at hmem
  rw [heq, hresult]
  generalize u.hubFails = v at *
  refine ⟨congrArg (·.hubFailed) hpower, hbeat, ?_, .of_mem hmem⟩
  change (modAt v.power.domains d _)[d]? = _
  rw [hpower]
  exact modAt_getElem?_same hx

/-- The loss of a region leaves the supplies as they are. -/
theorem power_loseRegion {s : State} {t r : Nat} {g : Region} (hr : (s.tower t).regions[r]? = some g) (hst : g.st ≠ .lost)
    (hfalls : s.towerFalls t = false) : (s.loseRegion t r).power = s.power := by
  have hlost : (regionLost s t r).power = s.power := by
    obtain ⟨c, hc⟩ := returning_only s t r (fun c => c.inRegion r)
    have hreturned : (s.returning t r (fun c => c.inRegion r)).power = s.power := by rw [hc, State.mapTower_power]
    rw [regionLost, State.raiseEvent_power, State.logEv_power, State.mapTower_power, hreturned]
  rw [loseRegion_eq hr hst hfalls]
  split
  · rw [power_failTower, hlost]
  · exact hlost

theorem phaseFault_completes :
    ∀ s at_ d t r g u, u = s.advance at_ → supplyTower d = some t → (u.domain d).st ≠ 0 → t < u.towers.length → u.towerFalls t = false →
    (u.tower t).regions[r]? = some g → g.st ≠ .lost →
    Completes (.domainFault at_ ⟨d, some r⟩) s (fun v => (∃ h, (v.tower t).regions[r]? = some h ∧ h.st = .lost)
      ∧ v.power.domains = u.power.domains) := by
  intro s at_ d t r g u hu hsupply hon ht hfalls hr hst
  have hphase : u.phaseFault d r = u.loseRegion t r := by
    simp only [State.phaseFault, hsupply]
    exact if_neg hon
  refine .of_telling (fun s => s.phaseFault d r) hu rfl fun sent n => ?_
  obtain ⟨h, hget, hlost, -⟩ := loseRegion_takes_share ht hr hst hfalls
  have hpower := power_loseRegion hr hst hfalls
  rw [hphase]
  generalize u.loseRegion t r = v at *
  exact ⟨⟨h, hget, hlost⟩, congrArg (·.domains) hpower⟩

/-! ## Drivers and switches (R489, R490) -/

theorem degradePlane_lasers (s : State) (w : Nat) : (s.degradePlane w).base.lasers = s.base.lasers := by
  by_cases hout : s.base.planeSt.getD w 2 = 2
  · rw [State.degradePlane, if_pos hout]
  · exact (degradePlane_keeps hout).lasers

theorem laserDriverFault_completes :
    ∀ s at_ m u, u = s.advance at_ → m < 8 → m < u.base.lasers.length → (u.laser m).st ≠ 0 → (u.laser m).st < 4 →
    Completes (.laserDriverFault at_ m) s (fun t => (t.laser m).st = 5) := by
  intro s at_ m u hu hlink hm hon hlow
  refine .of_effect (fun u => u.lossOfLight m) hu rfl ?_
  have hdark : ((u.mapLaser m (fun l => { l with st := 5 })).laser m).st = 5 := by rw [laser_mapLaser, if_pos ⟨rfl, hm⟩]
  rw [State.lossOfLight, if_neg (by omega), if_pos hlink]
  dsimp only
  cases hspare : (u.mapLaser m (fun l => { l with st := 5 })).spareModule m with
  | some new =>
    obtain ⟨hleft, -⟩ := laser_switched 5 (by simpa using hm) (spareModule_spec hspare).1
      (ne_of_spare (spareModule_spec hspare).1 (by rw [hdark]; decide))
    obtain ⟨hlasers, -⟩ := planesLeave_lasers ((u.base.planesOf m).filter (· < 5))
      (((u.mapLaser m (fun l => { l with st := 5 })).switchLink m new 5).mapBase (fun b =>
        { b with windowQueue := b.windowQueue.filter (fun w => !(u.base.planesOf m).contains w) }))
    exact (congrArg Laser.st (laser_congr hlasers m)).trans hleft
  | none =>
    have hlasers := foldl_keeps (fun t => t.base.lasers = (u.mapLaser m (fun l => { l with st := 5 })).base.lasers)
      (fun s w => s.degradePlane w) (u.base.planesOf m) (u.mapLaser m (fun l => { l with st := 5 })) rfl fun t w _ ht =>
        (degradePlane_lasers t w).trans ht
    exact (congrArg Laser.st (laser_congr hlasers m)).trans hdark

theorem switchSupplyFault_completes :
    ∀ s at_ u, u = s.advance at_ →
    Completes (.switchSupplyFault at_ true) s (fun t => t.base = { u.base with bankSwitchDown := true } ∧ SameMemory u t)
    ∧ Completes (.switchSupplyFault at_ false) s (fun t => t.base = { u.base with linkSwitchDown := true } ∧ SameMemory u t) :=
  fun _ _ _ hu => ⟨.of_effect (fun u => u.switchDown true) hu rfl ⟨rfl, .of_mem rfl⟩,
    .of_effect (fun u => u.switchDown false) hu rfl ⟨rfl, .of_mem rfl⟩⟩

/-- Settles O47: what the module loses with its input, a converter, a domain, a phase, a driver or a switch supply. -/
theorem supplyFaultCommandsComplete : Obligations.SupplyFaultCommandsComplete :=
  ⟨inputLoss_completes, inputExcursion_completes, firstConverter_completes, secondConverter_completes, towerDomain_completes,
    phaseFault_completes, hubDomain_completes, laserDriverFault_completes, switchSupplyFault_completes⟩

end Sys2Proof.Proofs.SupplyFaults

/-!
A DELTA ends the best-effort request it names on the unit that does not decide (R473): the records of that request are withdrawn and retire,
and a record that retires has its slot areas cleared. So a DELTA does not always leave memory as it is.
-/
namespace Sys2Proof.Proofs.DeltaTaken

open Sys2Proof Sys2Proof.Machine Sys2Proof.Proofs.SlotRetirement

/-- A STANDBY unit that hears its twin, whose tower 0 runs a best-effort request of tenant 5 with the byte 7 in its slot area. -/
def standing : State :=
  ((((atWork.mapLedger (fun l => { l with reqs := [{ acceptedReq with bestEffort := true }] })).mapPair (fun p =>
    { p with bound := true, mode := .standby })).mapVault (fun v => { v with pairKey := true })).mapTime (fun t =>
      { t with mode := .locked })).mapPower (fun p => { p with charged := true, shutdown := false, hubFailed := false })

/-- The S frame that the unit takes next. -/
def nextFrame : SFrameIn := { seq := 1, kepoch := 0, claim := 0, ok := true, last := true, segment := 0 }

theorem standing_takes : (standing.advance 0).TakesS nextFrame := by decide +kernel

/-- The DELTA ends the request, and its record takes the byte along. -/
theorem firstByteAfter_delta : firstByteAfter (.delta 0 nextFrame 5 1 []) standing = some 0 := by decide +kernel

/-- Refutes O45: an empty DELTA of the best-effort request that a STANDBY unit runs ends it, and the record that retires clears its slot
area, whose byte was 7 (R473). -/
theorem not_twinMessagesComplete : ¬ Obligations.TwinMessagesComplete := by
  intro h
  obtain ⟨-, -, -, -, hdelta, -⟩ := h standing 0 _ nextFrame rfl standing_takes
  obtain ⟨t, hexec, -, -, -, -, hsame⟩ := hdelta 5 1 [] (by decide +kernel) (by decide +kernel)
  have hzero : t.memByte 0 = 0 := Option.some.inj ((firstByteAfter_next hexec).symm.trans firstByteAfter_delta)
  have hseven : (standing.advance 0).memByte 0 = 7 := by decide +kernel
  have hkept := (hsame 0).symm.trans hzero
  rw [hseven] at hkept
  exact absurd hkept (by decide)

end Sys2Proof.Proofs.DeltaTaken

/-!
At a slot boundary a unit that does not decide drops the G requests that its twin ran and that are past their promise (log 38): a record
that a tower still holds of such a request is withdrawn and retires, and its slot areas are cleared. So a slot boundary does not always
leave memory as it is.
-/
namespace Sys2Proof.Proofs.SlotBegins

open Sys2Proof Sys2Proof.Machine Sys2Proof.Proofs.SlotRetirement

/-- A STANDBY unit in slot 2 that holds a request of tenant 5 it does not run, and on tower 0 a record of it with the byte 7 in its slot
area. -/
def unrun : State :=
  ((atWork.mapLedger (fun l => { l with reqs := [{ acceptedReq with here := false }] })).mapPair (fun p =>
    { p with bound := true, mode := .standby })).mapTime (fun t => { t with tally := 2048 })

/-- The boundary drops the request, and its record takes the byte along. -/
theorem firstByteAfter_boundary : firstByteAfter (.slotBoundary 0) unrun = some 0 := by decide +kernel

/-- Refutes O38: at the boundary a STANDBY unit drops a request past its promise of which tower 0 holds a record; the record retires and
clears its slot area, whose byte was 7. -/
theorem not_ledgerCommandsComplete : ¬ Obligations.LedgerCommandsComplete := by
  intro h
  obtain ⟨-, -, hslot, -⟩ := h
  obtain ⟨t, hexec, -, -, hsame⟩ := hslot unrun 0 _ rfl (by decide +kernel)
  have hzero : t.memByte 0 = 0 := Option.some.inj ((firstByteAfter_next hexec).symm.trans firstByteAfter_boundary)
  have hseven : (unrun.advance 0).memByte 0 = 7 := by decide +kernel
  have hkept := (hsame 0).symm.trans hzero
  rw [hseven] at hkept
  exact absurd hkept (by decide)

end Sys2Proof.Proofs.SlotBegins

/-!
Frames that are queued on ports and leave them (R365, R366): ports and references of key slots change, and nothing else.
-/
namespace Sys2Proof.Machine

open Sys2Proof

/-- Port `q` is `p` but for frames that have been queued or have left, and what that counts. -/
def Port.SameButQueue (p q : Port) : Prop :=
  p.out <+: q.out ∧ ∃ queue out sent egressSent notices refusals line kSent,
    q = { p with queue, out, sent, egressSent, notices, refusals, line, kSent }

namespace Port.SameButQueue

theorem refl (p : Port) : p.SameButQueue p := ⟨List.prefix_refl _, _, _, _, _, _, _, _, _, rfl⟩

theorem trans {p q r : Port} (h : p.SameButQueue q) (h' : q.SameButQueue r) : p.SameButQueue r := by
  obtain ⟨hout, _, _, _, _, _, _, _, _, rfl⟩ := h
  obtain ⟨hout', a, b, c, d, e, f, g, k, rfl⟩ := h'
  exact ⟨hout.trans hout', a, b, c, d, e, f, g, k, rfl⟩

theorem depart (p : Port) (now : Nat) (f : OutFrame) : p.SameButQueue (p.depart now f) :=
  ⟨List.prefix_append _ _, _, _, _, _, _, _, _, _, rfl⟩

theorem drain (p : Port) (now : Nat) (l : List OutFrame) : p.SameButQueue (p.drain now l) := by
  induction l generalizing p with
  | nil => exact ⟨List.prefix_refl _, _, _, _, _, _, _, _, _, rfl⟩
  | cons f rest ih =>
    unfold Port.drain
    split
    · exact (depart p now f).trans (ih _)
    · exact ⟨List.prefix_refl _, _, _, _, _, _, _, _, _, rfl⟩

theorem enqueue (p : Port) (now : Nat) (f : OutFrame) : p.SameButQueue (p.enqueue now f) := by
  unfold Port.enqueue
  dsimp only
  split
  · exact drain p now _
  · exact ⟨List.prefix_refl _, _, _, _, _, _, _, _, _, rfl⟩

end Port.SameButQueue

/-- What the sending of frames leaves: ports alone, in what is queued and has left, and references of key slots. -/
structure Sends (s t : State) : Prop where
  state : t = { s with ports := t.ports, vault := t.vault }
  vault : s.vault.SameButKeys t.vault
  length : t.ports.length = s.ports.length
  port : ∀ k, (s.port k).SameButQueue (t.port k)

theorem State.port_mapPort (s : State) (x k : Nat) (f : Port → Port) (hx : x < s.ports.length) :
    (s.mapPort x f).port k = if k = x then f (s.port k) else s.port k := by
  simp only [State.port, State.mapPort, State.mapPorts, List.getD_eq_getElem?_getD, modAt_getElem?]
  by_cases hk : k = x
  · subst hk
    simp [hx]
  · simp [hk]

theorem State.port_mapPort_of_ge (s : State) {x : Nat} (k : Nat) (f : Port → Port) (hx : s.ports.length ≤ x) :
    (s.mapPort x f).port k = s.port k := by
  simp only [State.port, State.mapPort, State.mapPorts, List.getD_eq_getElem?_getD, modAt_getElem?]
  by_cases hk : k = x
  · subst hk
    simp [hx]
  · simp [hk]

/-- A change of a port that keeps what `g` reads of it keeps it at every port. -/
theorem State.port_mapPort_keeps {α : Type} {s : State} {x k : Nat} {f : Port → Port} (g : Port → α) (hf : ∀ p, g (f p) = g p) :
    g ((s.mapPort x f).port k) = g (s.port k) := by
  by_cases hx : x < s.ports.length
  · rw [State.port_mapPort _ _ _ _ hx]
    split
    · exact hf _
    · rfl
  · rw [State.port_mapPort_of_ge _ _ _ (Nat.le_of_not_lt hx)]

@[simp] theorem State.length_mapPort (s : State) (x : Nat) (f : Port → Port) : (s.mapPort x f).ports.length = s.ports.length :=
    modAt_length ..

namespace Sends

section
variable {s t : State} (h : Sends s t)
include h

theorem ident : t.ident = s.ident := by rw [h.state]
theorem pair : t.pair = s.pair := by rw [h.state]
theorem ledger : t.ledger = s.ledger := by rw [h.state]
theorem log : t.log = s.log := by rw [h.state]
theorem mem : t.mem = s.mem := by rw [h.state]

theorem drives : t.drives = s.drives := by
  rw [h.state]
  rfl

end

theorem refl (s : State) : Sends s s := ⟨rfl, rfl, rfl, fun _ => .refl _⟩

theorem trans {s t u : State} (h : Sends s t) (h' : Sends t u) : Sends s u :=
  ⟨by rw [h'.state, h.state], h.vault.trans h'.vault, h'.length.trans h.length, fun k => (h.port k).trans (h'.port k)⟩

theorem ite {s a b : State} {p : Prop} [Decidable p] (ha : p → Sends s a) (hb : ¬p → Sends s b) : Sends s (if p then a else b) := by
  split
  next h => exact ha h
  next h => exact hb h

theorem foldl {α : Type} (s : State) (l : List α) {f : State → α → State} (h : ∀ s a, Sends s (f s a)) : Sends s (l.foldl f s) :=
  foldl_keeps (Sends s) f l s (.refl s) (fun _ a _ hs => hs.trans (h _ a))

theorem mapPort (s : State) (x : Nat) {f : Port → Port} (hf : ∀ p : Port, p.SameButQueue (f p)) : Sends s (s.mapPort x f) := by
  refine ⟨rfl, rfl, State.length_mapPort .., fun k => ?_⟩
  by_cases hx : x < s.ports.length
  · rw [State.port_mapPort _ _ _ _ hx]
    split
    · exact hf _
    · exact .refl _
  · rw [State.port_mapPort_of_ge _ _ _ (Nat.le_of_not_lt hx)]
    exact .refl _

theorem mapSlot (s : State) (kind id epoch : Nat) (f : KeySlot → KeySlot) : Sends s (s.mapVault (fun v => v.mapSlot kind id epoch f)) :=
  ⟨rfl, rfl, rfl, fun _ => .refl _⟩

theorem keyUnref (s : State) (kind id epoch : Nat) : Sends s (s.keyUnref kind id epoch) := .mapSlot ..

theorem unrefLeft (s : State) (left : List OutFrame) : Sends s (s.unrefLeft left) := .foldl _ _ fun _ _ => .keyUnref ..

theorem queuePort (s : State) (y : Nat) {f : Port → Port} (hf : ∀ p : Port, p.SameButQueue (f p)) : Sends s (s.queuePort y f) :=
  (Sends.mapPort s y hf).trans (.unrefLeft ..)

theorem sendFrame (s : State) (x : Nat) (f : OutFrame) : Sends s (s.sendFrame x f) := .queuePort _ _ fun _ => .enqueue ..

theorem sendCredit (s : State) (x : Nat) : Sends s (s.sendCredit x) :=
  .ite (fun _ => (Sends.mapPort (f := fun p => { p with kSent := p.kSent + 1 }) s x fun _ => ⟨List.prefix_refl _, _, _, _, _, _, _, _, _,
      rfl⟩).trans
    (.sendFrame ..)) (fun _ => .refl _)

theorem sendNotice (s : State) (x reqid seq reason cls : Nat) : Sends s (s.sendNotice x reqid seq reason cls) :=
  .ite (fun _ => .sendFrame ..) (fun _ => .refl _)

theorem noticeFor (s : State) (f : FrameIn) (reason : Nat) : Sends s (s.noticeFor f reason) :=
  .ite (fun _ => .sendNotice ..) (fun _ => .sendNotice ..)

theorem sendAnswer (s : State) (x tenant model reqid seq kepoch resp reason detail tick cls : Nat) (unprot : Bool) :
    Sends s (s.sendAnswer x tenant model reqid seq kepoch resp reason detail tick cls unprot) := by
  unfold State.sendAnswer
  refine .ite (fun _ => .refl _) (fun _ => ?_)
  split
  · exact (Sends.mapSlot ..).trans (.sendFrame ..)
  · exact .sendNotice ..

theorem announce (s : State) : Sends s s.announce := .foldl _ _ fun _ _ => .ite (fun _ => .sendCredit ..) (fun _ => .refl _)

theorem moveFrames (s : State) (x : Nat) : Sends s (s.moveFrames x) :=
  .ite (fun _ => .refl _) (fun _ => (Sends.mapPort (f := fun p => { p with queue := [] }) s x fun _ => ⟨List.prefix_refl _, _, _, _, _, _,
      _, _, _, rfl⟩).trans
    (.foldl _ _ fun _ _ => .sendFrame ..))

end Sends
end Sys2Proof.Machine

/-!
Ports and frames (chapter 13): links and lanes, headers taken or refused, segments of a load, and payloads (R346 to R368).
-/
namespace Sys2Proof.Proofs.Ports

open Sys2Proof Sys2Proof.Machine

/-! ## What the frames of a port leave -/

/-- The codeword of a header moves the port's streams and counts alone (R347). -/
theorem heard_eq (p : Port) (now : Nat) (cw : Option CodewordIn) :
    ∃ corrected replays rx line, p.heard now cw = { p with corrected, replays, rx, line } := by
  unfold Port.heard
  split <;> exact ⟨_, _, _, _, rfl⟩

/-- The port of a header that is taken (R347, R363). -/
def headed (f : FrameIn) (now : Nat) (p : Port) : Port :=
  { p.heard now f.cw with
    resync := false, received := p.received + 1, ingressUsed := if f.cls = 6 ∨ f.cls = 15 then p.ingressUsed else p.ingressUsed + f.units }

theorem headed_eq (f : FrameIn) (now : Nat) (p : Port) : ∃ corrected replays rx line ingressUsed,
    headed f now p = { p with corrected, replays, rx, line, ingressUsed, resync := false, received := p.received + 1 } := by
  obtain ⟨_, _, _, _, h⟩ := heard_eq p now f.cw
  exact ⟨_, _, _, _, _, by rw [headed, h]⟩

/-- A header that passes checks 1 to 3 and the credit is taken (R352, R363). -/
theorem header_takes {u : State} {f : FrameIn} {cls : Nat} (h : u.TakesHeader f cls) (go : State → State) :
    u.header f cls go = go (u.mapPort f.port (headed f u.now)) := by
  obtain ⟨hdead, hport, -, hup, hfault, hcls, hcredit⟩ := h
  unfold State.header
  dsimp only
  rw [if_neg (by simp [hdead, hup]; omega), if_neg (by simp [hfault]), if_neg (by simp [hcls]), if_neg (by omega)]
  rfl

/-- A frame without a key is taken where its reserved bits are clear and time is set (R363). -/
theorem header_takes_unkeyed {u : State} {f : FrameIn} {cls : Nat} (h : u.TakesHeader f cls) (hreserved : f.reservedSet = false)
    (htime : u.time.mode ≠ .unset) (go : State → State) :
    u.header f cls (fun s => s.unkeyed f go) = go (u.mapPort f.port (headed f u.now)) := by
  rw [header_takes h]
  have htime' : decide ((u.mapPort f.port (headed f u.now)).time.mode = .unset) = false := decide_eq_false htime
  unfold State.unkeyed
  rw [hreserved, htime']
  rfl

theorem port_unrefLeft (s : State) (left : List OutFrame) (k : Nat) : (s.unrefLeft left).port k = s.port k :=
  foldl_keeps (fun t => t.port k = s.port k) (fun s (f : OutFrame) => s.keyUnref kindTenant f.tenant f.kepoch) _ s rfl fun _ _ _ h => h

theorem port_queuePort_same {s : State} {x : Nat} (f : Port → Port) (hx : x < s.ports.length) : (s.queuePort x f).port x = f (s.port x) :=
    by
  unfold State.queuePort
  dsimp only
  rw [port_unrefLeft, State.port_mapPort _ _ _ _ hx, if_pos rfl]

/-! ## Links (R346, R348, R363) -/

/-- The port as its link comes up with all its lanes (R346). -/
def linked (reversed : Bool) (polarity : BitVec 8) (p : Port) : Port :=
  { p with st := 2, lanes := 0xFF, reversed, polarity, egressGrant := 0, egressSent := 0, buffered := 0, ingressUsed := 0, ingressGrant :=
      65536
           kSent := 0, resync := false, incoming := none, line := Line.fresh, rx := LineRx.fresh }

/-- The module once the link is up and the frames of ports that are down have moved to it (R348). -/
def linkedUp (s : State) (x : Nat) (reversed : Bool) (polarity : BitVec 8) : State :=
  (List.range 4).foldl (fun s i => s.moveFrames i) ((s.mapPort x (linked reversed polarity)).raiseEvent 7)

/-- A change of a port is what it makes of that port. -/
theorem mapPort_congr {s : State} {x : Nat} {f g : Port → Port} (h : f (s.port x) = g (s.port x)) : s.mapPort x f = s.mapPort x g := by
  have hports : modAt s.ports x f = modAt s.ports x g := by
    refine List.ext_getElem? fun i => ?_
    rw [modAt_getElem?, modAt_getElem?]
    by_cases hi : i = x
    · subst hi
      cases hp : s.ports[i]? with
      | none => rfl
      | some p =>
        rw [State.port, List.getD_eq_getElem?_getD, hp] at h
        simpa using h
    · rw [if_neg hi, if_neg hi]
  rw [State.mapPort, State.mapPort, State.mapPorts, State.mapPorts, hports]

theorem linkUp_eq {s : State} {x : Nat} (reversed : Bool) (polarity : BitVec 8) (hdead : s.dead = false) (hx : x < 4)
    (hst : (s.port x).st ≠ 4) (hlanes : (s.port x).lanes = 0xFF) : s.linkUp x reversed polarity
      = if (linkedUp s x reversed polarity).drives then
          ((linkedUp s x reversed polarity).sendFrame x ((linkedUp s x reversed polarity).helloFrame x)).sendCredit x
        else linkedUp s x reversed polarity := by
  have hlink : (fun p : Port =>
      let lanes := if p.lanes = 0 then 0xFF else p.lanes
      { p with st := if lanes = 0xFF then 2 else 3, lanes, reversed, polarity, egressGrant := 0, egressSent := 0, buffered := 0
               ingressUsed := 0, ingressGrant := 65536, kSent := 0, resync := false, incoming := none, line := Line.fresh, rx :=
                   LineRx.fresh })
      (s.port x) = linked reversed polarity (s.port x) := by
    simp [linked, hlanes]
  unfold State.linkUp
  rw [if_neg (by simp [hdead, hst]; omega)]
  dsimp only
  rw [mapPort_congr hlink, if_neg (by omega)]
  rfl

theorem outPort_of_st {s : State} {x : Nat} (h : (s.port x).st ≠ 4) : s.outPort x = x := if_neg fun hc => h hc.2

/-- Where no frame waits on a port that is down, moving frames leaves a port that is up as it is. -/
theorem moveFrames_idle {s : State} {x : Nat} (hidle : ∀ y, (s.port y).st = 4 → (s.port y).queue = []) (i : Nat) :
    (s.moveFrames i).port x = s.port x ∧ ∀ y, ((s.moveFrames i).port y).st = 4 → ((s.moveFrames i).port y).queue = [] := by
  unfold State.moveFrames
  dsimp only
  split
  next => exact ⟨rfl, hidle⟩
  next hmoves =>
    have hdown : (s.port i).st = 4 := by
      refine Classical.byContradiction fun h => ?_
      exact hmoves (outPort_of_st h)
    have hsame : ∀ k, (s.mapPort i (fun p => { p with queue := [] })).port k = s.port k := by
      intro k
      by_cases hi : i < s.ports.length
      · rw [State.port_mapPort _ _ _ _ hi]
        split
        next hk => rw [hk, ← hidle i hdown]
        next => rfl
      · exact State.port_mapPort_of_ge _ _ _ (Nat.le_of_not_lt hi)
    rw [hidle i hdown]
    exact ⟨hsame x, fun y hy => by rw [List.foldl_nil, hsame] at *; exact hidle y hy⟩

theorem linkedUp_idle {u : State} {x : Nat} (rev : Bool) (pol : BitVec 8) (hlength : x < u.ports.length)
    (hidle : ∀ y, (u.port y).st = 4 → (u.port y).queue = []) : (linkedUp u x rev pol).port x = linked rev pol (u.port x) := by
  have hlinked : ((u.mapPort x (linked rev pol)).raiseEvent 7).port x = linked rev pol (u.port x) :=
    (State.port_mapPort u x x _ hlength).trans (if_pos rfl)
  have hothers : ∀ y, (((u.mapPort x (linked rev pol)).raiseEvent 7).port y).st = 4 →
      (((u.mapPort x (linked rev pol)).raiseEvent 7).port y).queue = [] := by
    intro y hy
    have hsplit : ((u.mapPort x (linked rev pol)).raiseEvent 7).port y = if y = x then linked rev pol (u.port y) else u.port y :=
      State.port_mapPort u x y _ hlength
    rw [hsplit] at hy ⊢
    split at hy
    next => exact absurd hy (by simp [linked])
    next hne => rw [if_neg hne]; exact hidle y hy
  refine (foldl_keeps (fun t : State => t.port x = linked rev pol (u.port x) ∧ ∀ y, (t.port y).st = 4 → (t.port y).queue = [])
    (fun s i => s.moveFrames i) (List.range 4) _ ⟨hlinked, hothers⟩ fun t i _ ht => ?_).1
  obtain ⟨hport, hidle⟩ := ht
  obtain ⟨hsame, hkept⟩ := moveFrames_idle (x := x) hidle i
  exact ⟨hsame.trans hport, hkept⟩

/-- The frame that a port with nothing waiting is given to send leaves at once where it needs no credit (R365, R366). -/
theorem sendFrame_leaves {s : State} {x : Nat} {f : OutFrame} (hlength : x < s.ports.length) (hup : (s.port x).up = true)
    (hst : (s.port x).st ≠ 4) (hempty : (s.port x).queue = []) (hcls : f.cls = 15) :
    { f with port := x } ∈ ((s.sendFrame x f).port x).out := by
  unfold State.sendFrame
  rw [outPort_of_st hst, port_queuePort_same _ hlength]
  have hrank : ({ f with port := x } : OutFrame).rank < 2 := by simp [OutFrame.rank, hcls]
  have hcovers : (s.port x).covers { f with port := x } = true := by simp [Port.covers, hcls]
  simp only [Port.enqueue, hempty, insertBy, hup, if_true, Port.drain, hrank, hcovers, and_self]
  exact List.mem_append_right _ (List.mem_singleton.mpr rfl)

theorem hello_leaves {u : State} {x : Nat} (rev : Bool) (pol : BitVec 8) (hlength : x < u.ports.length)
    (hdrives : u.drives = true) (hempty : (u.port x).queue = []) (hidle : ∀ y, (u.port y).st = 4 → (u.port y).queue = []) :
    ∃ f ∈ ((if (linkedUp u x rev pol).drives then
        ((linkedUp u x rev pol).sendFrame x ((linkedUp u x rev pol).helloFrame x)).sendCredit x else linkedUp u x rev pol).port x).out,
      f.cls = 15 ∧ f.word / 2 ^ 24 = 1 ∧ f.payload = leBytes 1 x ++ u.ident.octets := by
  have hsends : Sends ((u.mapPort x (linked rev pol)).raiseEvent 7) (linkedUp u x rev pol) := .foldl _ _ fun _ _ => .moveFrames ..
  have hport := linkedUp_idle rev pol hlength hidle
  have hdrives' : (linkedUp u x rev pol).drives = true := hsends.drives.trans hdrives
  have hident : (linkedUp u x rev pol).ident = u.ident := hsends.ident
  have hlength' : x < (linkedUp u x rev pol).ports.length := by
    rw [hsends.length]
    simpa using hlength
  rw [if_pos hdrives']
  have hleft := sendFrame_leaves (f := (linkedUp u x rev pol).helloFrame x) hlength' (by rw [hport]; rfl) (by simp [hport, linked])
    (by rw [hport]; exact hempty) rfl
  generalize linkedUp u x rev pol = w at *
  refine ⟨_, ((Sends.sendCredit ..).port x).1.subset hleft, rfl, ?_, ?_⟩
  · exact Nat.mul_div_cancel _ (by decide)
  · rw [← hident]
    rfl

theorem portLinkUp_completes :
    ∀ s at_ x rev pol u, u = s.advance at_ → u.dead = false → x < 4 → x < u.ports.length → (u.port x).st ≠ 4 → (u.port x).lanes = 0xFF →
    Completes (.portLinkUp at_ x rev pol) s (fun v => (v.port x).st = 2 ∧ (v.port x).lanes = 0xFF ∧ (v.port x).reversed = rev
      ∧ (v.port x).polarity = pol ∧ (v.port x).ingressGrant = 65536 ∧ (v.port x).ingressUsed = 0 ∧ (v.port x).egressGrant = 0
      ∧ (u.drives = true → (u.port x).queue = [] → (∀ y, (u.port y).st = 4 → (u.port y).queue = []) → ∃ f ∈ (v.port x).out, f.cls = 15
        ∧ f.word / 2 ^ 24 = 1
          ∧ f.payload = leBytes 1 x ++ u.ident.octets)) := by
  intro s at_ x rev pol u hu hdead hx hlength hst hlanes
  have hleaves := hello_leaves (u := u) rev pol hlength
  refine .of_telling (fun u => u.linkUp x rev pol) hu rfl fun sent n => ?_
  rw [linkUp_eq rev pol hdead hx hst hlanes]
  have hlinked : ((u.mapPort x (linked rev pol)).raiseEvent 7).port x = linked rev pol (u.port x) :=
    (State.port_mapPort u x x _ hlength).trans (if_pos rfl)
  have hsends : Sends ((u.mapPort x (linked rev pol)).raiseEvent 7) (linkedUp u x rev pol) := .foldl _ _ fun _ _ => .moveFrames ..
  have hafter : Sends (linkedUp u x rev pol) (if (linkedUp u x rev pol).drives then
      ((linkedUp u x rev pol).sendFrame x ((linkedUp u x rev pol).helloFrame x)).sendCredit x else linkedUp u x rev pol) :=
    .ite (fun _ => (Sends.sendFrame ..).trans (.sendCredit ..)) (fun _ => .refl _)
  have hport := ((hsends.trans hafter).port x).2
  rw [hlinked] at hport
  obtain ⟨_, _, _, _, _, _, _, _, hport⟩ := hport
  generalize (if (linkedUp u x rev pol).drives then ((linkedUp u x rev pol).sendFrame x ((linkedUp u x rev pol).helloFrame x)).sendCredit x
    else linkedUp u x rev pol) = w at *
  exact ⟨congrArg Port.st hport, congrArg Port.lanes hport, congrArg Port.reversed hport, congrArg Port.polarity hport,
    congrArg Port.ingressGrant hport, congrArg Port.ingressUsed hport, congrArg Port.egressGrant hport, hleaves⟩

theorem xLaneLost_completes :
    ∀ s at_ x lane u, u = s.advance at_ → x < 5 → x < u.ports.length → (u.port x).st = 2 → (u.port x).lanes.getLsbD lane = true →
    2 ≤ laneCount ((u.port x).lanes &&& ~~~(1#8 <<< lane)) →
    Completes (.xLaneLost at_ x lane) s (fun v => (v.port x).st = 3 ∧ (v.port x).lanes = ((u.port x).lanes &&& ~~~(1#8 <<< lane))
      ∧ v.log.count = u.log.count + 1) := by
  intro s at_ x lane u hu hx hlength hst hlane hcount
  have h8 : lane < 8 := by
    refine Classical.byContradiction fun h => ?_
    rw [BitVec.getLsbD_of_ge _ _ (Nat.le_of_not_lt h)] at hlane
    exact absurd hlane (by decide)
  refine .of_telling (fun u => u.laneLost x lane) hu rfl fun sent n => ?_
  unfold State.laneLost
  dsimp only
  rw [if_neg (by omega), if_neg (by simp [hlane, hst]), if_neg (Nat.not_lt.mpr hcount)]
  refine ⟨?_, ?_, by rw [State.mapPair_log, State.raiseEvent_count, State.logEv_count]; rfl⟩
  · refine (congrArg Port.st (State.port_mapPort u x x _ hlength)).trans ?_
    rw [if_pos rfl]
    exact if_pos hst
  · refine (congrArg Port.lanes (State.port_mapPort u x x _ hlength)).trans ?_
    rw [if_pos rfl]

/-! ## Frames without a key (R359, R363, R366) -/

theorem kFrame_completes :
    ∀ s at_ f u, u = s.advance at_ → u.TakesHeader f 6 → u.time.mode ≠ .unset → f.reservedSet = false →
    Completes (.kFrame at_ f) s (fun v => (v.port f.port).egressGrant = max (u.port f.port).egressGrant f.tick
      ∧ (v.port f.port).received = (u.port f.port).received + 1) := by
  intro s at_ f u hu htakes htime hreserved
  have hlength := htakes.2.2.1
  refine .of_effect (fun u => u.header f 6 (fun s => s.unkeyed f (fun s => s.queuePort f.port (fun p =>
    { p with egressGrant := max p.egressGrant f.tick }.drain s.now { p with egressGrant := max p.egressGrant f.tick }.queue)))) hu rfl ?_
  rw [header_takes_unkeyed htakes hreserved htime, port_queuePort_same _ (by simpa using hlength),
    State.port_mapPort _ _ _ _ hlength, if_pos rfl]
  obtain ⟨_, _, _, _, _, hheaded⟩ := headed_eq f u.now (u.port f.port)
  obtain ⟨-, _, _, _, _, _, _, _, _, hdrained⟩ := Port.SameButQueue.drain { headed f u.now (u.port f.port) with
    egressGrant := max (headed f u.now (u.port f.port)).egressGrant f.tick } (u.mapPort f.port (headed f u.now)).now (headed f u.now
        (u.port f.port)).queue
  rw [hdrained, hheaded]
  exact ⟨rfl, rfl⟩

theorem badHello_completes :
    ∀ s at_ f didh pref u, u = s.advance at_ → u.TakesHeader f 15 → f.port = 4 → f.subtype = 1 → u.pair.bound = true →
    u.helloBad didh pref = true → u.time.mode ≠ .unset → f.reservedSet = false →
    Completes (.hello at_ f didh pref) s (fun v => v.pair = { u.pair with bindFaults := u.pair.bindFaults + 1 }
      ∧ v.log.count = u.log.count + 1 ∧ (v.port 4).received = (u.port 4).received + 1) := by
  intro s at_ f didh pref u hu htakes hport hsub hbound hbad htime hreserved
  have hlength := htakes.2.2.1
  refine .of_effect (fun u => u.header f 15 (fun s => s.unkeyed f (fun s =>
    if f.port = 4 ∧ f.subtype = 1 ∧ s.pair.bound ∧ s.helloBad didh pref then
      ((s.mapPair (fun p => { p with bindFaults := p.bindFaults + 1 })).logEv 0x0A40 sevLogged unitPair 0 (didh % 2 ^ 64)).raiseEvent 10
    else s))) hu rfl ?_
  rw [header_takes_unkeyed htakes hreserved htime, if_pos ⟨hport, hsub, hbound, hbad⟩]
  refine ⟨rfl, by rw [State.raiseEvent_count, State.logEv_count]; rfl, ?_⟩
  refine (congrArg Port.received (State.port_mapPort u f.port 4 (headed f u.now) hlength)).trans ?_
  rw [if_pos hport.symm]
  rfl

theorem hello_completes :
    ∀ s at_ f didh pref u, u = s.advance at_ → u.TakesHeader f 15 → f.subtype = 1 → u.time.mode ≠ .unset → f.reservedSet = false →
    (f.port = 4 → u.pair.bound = true → u.helloBad didh pref = false) →
    Completes (.hello at_ f didh pref) s (fun v => v = { u with ports := v.ports } ∧ (v.port f.port).received = (u.port f.port).received + 1
      ∧ (v.port f.port).resync = false ∧ ∀ k, k ≠ f.port → v.port k = u.port k) := by
  intro s at_ f didh pref u hu htakes hsub htime hreserved hgood
  have hlength := htakes.2.2.1
  refine .of_effect (fun u => u.header f 15 (fun s => s.unkeyed f (fun s =>
    if f.port = 4 ∧ f.subtype = 1 ∧ s.pair.bound ∧ s.helloBad didh pref then
      ((s.mapPair (fun p => { p with bindFaults := p.bindFaults + 1 })).logEv 0x0A40 sevLogged unitPair 0 (didh % 2 ^ 64)).raiseEvent 10
    else s))) hu rfl ?_
  rw [header_takes_unkeyed htakes hreserved htime, if_neg]
  · refine ⟨rfl, ?_, ?_, fun k hk => ?_⟩
    · rw [State.port_mapPort _ _ _ _ hlength, if_pos rfl]
      rfl
    · rw [State.port_mapPort _ _ _ _ hlength, if_pos rfl]
      rfl
    · rw [State.port_mapPort _ _ _ _ hlength, if_neg hk]
  · rintro ⟨hport, -, hbound, hbad⟩
    have hbad' : u.helloBad didh pref = true := hbad
    rw [hgood hport hbound] at hbad'
    exact absurd hbad' Bool.false_ne_true

theorem errorNotice_completes :
    ∀ s at_ f u, u = s.advance at_ → u.TakesHeader f 15 → f.subtype = 2 →
    Completes (.errorNotice at_ f) s (fun v => v = { u with ports := v.ports } ∧ (v.port f.port).received = (u.port f.port).received + 1
      ∧ ∀ k, k ≠ f.port → v.port k = u.port k) := by
  intro s at_ f u hu htakes hsub
  have hlength := htakes.2.2.1
  have hcls := htakes.2.2.2.2.2.1
  have hnotice : ∀ s : State, s.unkeyed f (fun s => s) = s := fun s => by simp [State.unkeyed, hcls, hsub]
  refine .of_effect (fun u => u.header f 15 (fun s => s.unkeyed f (fun s => s))) hu rfl ?_
  rw [header_takes htakes, hnotice]
  refine ⟨rfl, ?_, fun k hk => ?_⟩
  · rw [State.port_mapPort _ _ _ _ hlength, if_pos rfl]
    rfl
  · rw [State.port_mapPort _ _ _ _ hlength, if_neg hk]

theorem portState_completes :
    ∀ s at_ f st lanes u, u = s.advance at_ → u.TakesHeader f 15 → f.subtype = 3 → u.time.mode ≠ .unset → f.reservedSet = false →
    Completes (.portState at_ f st lanes) s (fun v => v = { u with ports := v.ports } ∧ (v.port f.port).partnerState = st
      ∧ (v.port f.port).partnerLanes = lanes ∧ (v.port f.port).received = (u.port f.port).received + 1) := by
  intro s at_ f st lanes u hu htakes hsub htime hreserved
  have hlength := htakes.2.2.1
  refine .of_effect (fun u => u.header f 15 (fun s => s.unkeyed f (fun s =>
    if f.subtype = 3 then s.mapPort f.port (fun p => { p with partnerState := st, partnerLanes := lanes }) else s))) hu rfl ?_
  rw [header_takes_unkeyed htakes hreserved htime, if_pos hsub]
  have hport : ((u.mapPort f.port (headed f u.now)).mapPort f.port (fun p => { p with partnerState := st, partnerLanes :=
      lanes })).port f.port
      = { headed f u.now (u.port f.port) with partnerState := st, partnerLanes := lanes } := by
    rw [State.port_mapPort _ _ _ _ (by simpa using hlength), if_pos rfl, State.port_mapPort _ _ _ _ hlength, if_pos rfl]
  rw [hport]
  exact ⟨rfl, rfl, rfl, rfl⟩

/-! ## Segments of a load (R366) -/

/-- What more of the ingress is granted leaves: ports and references alone, and no port's course of a payload (R366). -/
theorem regrant_leaves (s : State) (x : Nat) : s.regrant x = { s with ports := (s.regrant x).ports, vault := (s.regrant x).vault }
    ∧ ∀ k, ((s.regrant x).port k).incoming = (s.port k).incoming ∧ ((s.regrant x).port k).resync = (s.port k).resync := by
  unfold State.regrant
  dsimp only
  split
  next =>
    have hsends := Sends.sendCredit (s.mapPort x (fun p => { p with ingressGrant := (s.port x).ingressUsed + s.freeUnits x })) x
    refine ⟨hsends.state, fun k => ?_⟩
    obtain ⟨-, _, _, _, _, _, _, _, _, hport⟩ := hsends.port k
    rw [hport]
    exact ⟨State.port_mapPort_keeps Port.incoming fun _ => rfl, State.port_mapPort_keeps Port.resync fun _ => rfl⟩
  next => exact ⟨rfl, fun _ => ⟨rfl, rfl⟩⟩

theorem last_eq (f : FrameIn) : bit f.hdr.toNat 8 = f.last := by
  simp [FrameIn.last, FrameIn.f, bit, field]

/-- A frame that no check of a segment refuses belongs to the load under way (R366). -/
theorem open_of_segmentChecks {s : State} {f : FrameIn} (h : s.segmentChecks f = 0) : s.load.open_ = true := by
  refine Classical.byContradiction fun hclosed => ?_
  simp only [State.segmentChecks, firstAbort, Bool.not_eq_true] at h hclosed
  simp only [hclosed, Bool.false_and, Bool.not_false, if_true] at h
  grind

/-- A segment that is not the last is appended to the body of the load (R366). -/
theorem segmentFrame_takes {s : State} {f : FrameIn} {payload : List Byte} (trailer : TrailerIn) (hclaim : f.claim ≤ s.pair.claim)
    (hchecks : s.segmentChecks f = 0) (hlen : payload.length = f.length) (htarget : s.load.target ≠ 2) (hseq : f.seq = s.load.segs + 1)
    (htick : f.tick = s.load.bytes) (hlast : f.last = false) (hshort : s.load.body.length + payload.length < 256) :
    s.segmentFrame f payload true trailer = (s.regrant f.port).mapLoad (fun l =>
      { l with body := l.body ++ payload, bytes := l.bytes + payload.length, segs := l.segs + 1, st := 2 }) := by
  have hcheck : s.claimCheck f = s := by
    simp [State.claimCheck, Nat.not_lt.mpr hclaim]
  obtain ⟨hregrant, -⟩ := regrant_leaves s f.port
  have hload : (s.regrant f.port).load = s.load := by rw [hregrant]
  unfold State.segmentFrame
  dsimp only
  rw [hcheck, hchecks, if_neg (by simp), if_neg (by simp [hlen]), if_neg (by simp)]
  generalize s.regrant f.port = t at *
  unfold State.loadSegment State.takeSegment
  dsimp only
  rw [last_eq, hlast, hload, if_neg, if_neg htarget, if_neg Bool.false_ne_true, if_neg]
  · simp [dirComplete, hload]
    omega
  · simp only [FrameIn.seq, FrameIn.tick, FrameIn.f] at hseq htick
    simp [hseq, htick]

theorem mFrame_completes :
    ∀ s at_ f payload trailer u, u = s.advance at_ → u.TakesHeader f 3 → f.claim ≤ u.pair.claim → u.segmentChecks f = 0 →
    payload.length = f.length → u.load.target ≠ 2 → f.seq = u.load.segs + 1 → f.tick = u.load.bytes → f.last = false →
    u.load.body.length + payload.length < 256 →
    Completes (.mFrame at_ f payload true trailer) s (fun v => v.load.bytes = u.load.bytes + payload.length ∧ v.load.segs = u.load.segs + 1
      ∧ v.load.body = u.load.body ++ payload ∧ v.load.st = 2 ∧ v.load.open_ = true ∧ SameMemory u v) := by
  intro s at_ f payload trailer u hu htakes hclaim hchecks hlen htarget hseq htick hlast hshort
  refine .of_effect (fun u => u.header f 3 (fun s => s.segmentFrame f payload true trailer)) hu rfl ?_
  rw [header_takes htakes, segmentFrame_takes (s := u.mapPort f.port (headed f u.now)) trailer hclaim hchecks hlen htarget hseq htick hlast
      hshort]
  obtain ⟨hregrant, -⟩ := regrant_leaves (u.mapPort f.port (headed f u.now)) f.port
  have hopen : u.load.open_ = true := open_of_segmentChecks hchecks
  rw [hregrant]
  exact ⟨rfl, rfl, rfl, rfl, hopen, .of_mem rfl⟩

/-! ## Payloads (R358, R368) -/

/-- A change of the requests of a name that keeps the name changes the request found by it. -/
theorem req?_mapReq {s : State} {tenant seq : Nat} {r : Req} (f : Req → Req) (hf : ∀ r, (f r).tenant = r.tenant ∧ (f r).seq = r.seq)
    (h : s.req? tenant seq = some r) : (s.mapReq tenant seq f).req? tenant seq = some (f r) := by
  have his : ∀ r : Req, (if r.is tenant seq then f r else r).is tenant seq = r.is tenant seq := by
    intro r
    split
    · simp only [Req.is, hf r]
    · rfl
  change (modWhere s.ledger.reqs (fun r => r.is tenant seq) f).find? (fun r => r.is tenant seq) = _
  change s.ledger.reqs.find? (fun r => r.is tenant seq) = some r at h
  have hr := List.find?_some h
  rw [modWhere, List.find?_map, Function.comp_def]
  simp only [his, h, Option.map_some, hr, if_true]

theorem payloadComplete_completes :
    ∀ s at_ x bytes tenant seq r u, u = s.advance at_ → u.dead = false → x < u.ports.length → (u.port x).incoming = some (tenant, seq) →
    tenant ≠ 0 → u.req? tenant seq = some r → r.phase = .pending →
    Completes (.payloadComplete at_ x bytes true) s (fun v => (v.port x).incoming = none
      ∧ v.req? tenant seq = some { r with payload := some bytes, payloadTick := u.now, payloadGood := true }) := by
  intro s at_ x bytes tenant seq r u hu hdead hlength hincoming htenant hreq hphase
  refine .of_effect (fun u => if u.dead then u else u.payloadComplete x bytes true) hu rfl ?_
  have htaken : u.payloadComplete x bytes true = (u.mapPort x (fun p => { p with incoming := none, lastUnit := u.now })).mapReq tenant seq
      (fun q => { q with payload := some bytes, payloadTick := u.now, payloadGood := true }) := by
    have hreq' : (u.mapPort x (fun p => { p with incoming := none, lastUnit := u.now })).req? tenant seq = some r := hreq
    simp only [State.payloadComplete, hincoming, htenant, hreq', hphase, if_true, if_false, reduceCtorEq, false_and, true_or]
    rfl
  rw [if_neg (by simp [hdead]), htaken]
  constructor
  · refine (congrArg Port.incoming (State.port_mapPort u x x _ hlength)).trans ?_
    rw [if_pos rfl]
  · exact req?_mapReq (s := u.mapPort x _) (fun q => { q with payload := some bytes, payloadTick := u.now, payloadGood := true })
      (fun _ => ⟨rfl, rfl⟩) hreq

/-- A request leaves the ingress buffer where it stood in it (R366). -/
theorem leaveBuffer_leaves {s : State} {tenant seq : Nat} {r : Req} (hreq : s.req? tenant seq = some r)
    (hincoming : (s.port r.port).incoming ≠ some (tenant, seq)) :
    (s.leaveBuffer tenant seq).req? tenant seq = some { r with buffered := false }
      ∧ (s.leaveBuffer tenant seq).ledger.gapTimeouts = s.ledger.gapTimeouts ∧ (s.leaveBuffer tenant seq).log = s.log
      ∧ ∀ k, ((s.leaveBuffer tenant seq).port k).incoming = (s.port k).incoming
        ∧ ((s.leaveBuffer tenant seq).port k).resync = (s.port k).resync := by
  unfold State.leaveBuffer
  rw [hreq]
  dsimp only
  split
  next hout =>
    have hbuffered : r.buffered = false := by simpa [hincoming] using hout
    exact ⟨by rw [hreq, ← hbuffered], rfl, rfl, fun _ => ⟨rfl, rfl⟩⟩
  next =>
    obtain ⟨hregrant, hports⟩ := regrant_leaves ((s.mapReq tenant seq (fun q => { q with buffered := false })).mapPort r.port (fun p =>
      { p with buffered := p.buffered - r.units })) r.port
    have hmapped : (s.mapReq tenant seq (fun q => { q with buffered := false })).req? tenant seq = some { r with buffered := false } :=
      req?_mapReq (fun q => { q with buffered := false }) (fun _ => ⟨rfl, rfl⟩) hreq
    unfold State.freeIngress
    refine ⟨?_, ?_, ?_, fun k => ?_⟩
    · rw [hregrant]
      exact hmapped
    · rw [hregrant]
      rfl
    · rw [hregrant]
      rfl
    · rw [(hports k).1, (hports k).2]
      exact ⟨State.port_mapPort_keeps (s := s.mapReq ..) Port.incoming fun _ => rfl,
        State.port_mapPort_keeps (s := s.mapReq ..) Port.resync fun _ => rfl⟩

/-- A pending request whose units stop arriving takes its reason, and the port looks for the next header (R368). -/
theorem unitGap_eq {u : State} {x tenant seq : Nat} {r : Req} (hincoming : (u.port x).incoming = some (tenant, seq))
    (hgap : (u.port x).lastUnit + u.ledger.unitGap ≤ u.now) (harrives : u.unitArrives x = false) (hreq : u.req? tenant seq = some r)
    (hphase : r.phase = .pending) : ∃ sev arg1, u.unitGap x
      = ((((u.mapPort x (fun p => { p with incoming := none, resync := true })).mapLedger (fun l => { l with gapTimeouts :=
          l.gapTimeouts + 1 })).logEv
          0x0740 sev unitHub (portLoc x 0) seq arg1).mapReq tenant seq (fun q => { q with reason := 0x80 })).leaveBuffer tenant seq := by
  have hreq' : ((u.mapPort x (fun p => { p with incoming := none, resync := true })).mapLedger (fun l =>
    { l with gapTimeouts := l.gapTimeouts + 1 })).req? tenant seq = some r := hreq
  simp only [State.unitGap, hincoming, hreq', hphase, harrives, Nat.not_lt.mpr hgap, reduceCtorEq, Bool.false_eq_true, or_self, if_false,
      if_true]
  exact ⟨_, _, rfl⟩

theorem unitGapTimeout_completes :
    ∀ s at_ x tenant seq r u, u = s.advance at_ → x < u.ports.length → (u.port x).incoming = some (tenant, seq) →
    (u.port x).lastUnit + u.ledger.unitGap ≤ u.now → u.unitArrives x = false → u.req? tenant seq = some r → r.phase = .pending →
        r.port = x →
    Completes (.unitGapTimeout at_ x) s (fun v => v.ledger.gapTimeouts = u.ledger.gapTimeouts + 1 ∧ (v.port x).resync = true
      ∧ (v.port x).incoming = none ∧ v.req? tenant seq = some { r with reason := 0x80, buffered := false }
        ∧ v.log.count = u.log.count + 1) := by
  intro s at_ x tenant seq r u hu hlength hincoming hgap harrives hreq hphase hport
  obtain ⟨sev, arg1, hgaps⟩ := unitGap_eq hincoming hgap harrives hreq hphase
  refine .of_effect (fun u => u.unitGap x) hu rfl ?_
  rw [hgaps]
  have hcount := State.logEv_count ((u.mapPort x (fun p => { p with incoming := none, resync := true })).mapLedger (fun l =>
    { l with gapTimeouts := l.gapTimeouts + 1 })) 0x0740 sev unitHub (portLoc x 0) seq arg1
  generalize hw : State.logEv _ 0x0740 sev unitHub (portLoc x 0) seq arg1 = w at *
  have hwreq : w.req? tenant seq = some r := hw ▸ hreq
  have hwgaps : w.ledger.gapTimeouts = u.ledger.gapTimeouts + 1 := hw ▸ rfl
  have hwport : w.port x = { u.port x with incoming := none, resync := true } :=
    hw ▸ (State.port_mapPort u x x _ hlength).trans (if_pos rfl)
  have hmapped : (w.mapReq tenant seq (fun q => { q with reason := 0x80 })).req? tenant seq = some { r with reason := 0x80 } :=
    req?_mapReq (fun q => { q with reason := 0x80 }) (fun _ => ⟨rfl, rfl⟩) hwreq
  have hnone : ((w.mapReq tenant seq (fun q => { q with reason := 0x80 })).port r.port).incoming ≠ some (tenant, seq) := by
    change (w.port r.port).incoming ≠ _
    rw [hport, hwport]
    exact nofun
  obtain ⟨hleft, hgapsLeft, hlog, hports⟩ := leaveBuffer_leaves hmapped hnone
  refine ⟨hgapsLeft.trans hwgaps, ?_, ?_, hleft, (congrArg LogSt.count hlog).trans hcount⟩
  · rw [(hports x).2]
    exact congrArg Port.resync hwport
  · rw [(hports x).1]
    exact congrArg Port.incoming hwport

theorem egressCreditStall_completes :
    ∀ s at_ x ticks f rest u, u = s.advance at_ → x < u.ports.length → (u.port x).queue = f :: rest → f.cls = 5 →
    (u.port x).covers f = false →
    Completes (.egressCreditStall at_ x ticks) s (fun v => (v.port x).stall = (u.port x).stall + ticks
      ∧ (v.port x).queue = (u.port x).queue ∧ v.log.count = u.log.count + 1) := by
  intro s at_ x ticks f rest u hu hlength hqueue hcls hcovers
  refine .of_effect (fun u => match (u.port x).queue with
    | [] => u
    | f :: _ =>
      if f.cls = 5 ∧ !(u.port x).covers f then
        (u.mapPort x (fun p => { p with stall := p.stall + ticks })).logEv 0x0742 sevLogged unitHub (portLoc x 0) f.seq (arg1Of f.tenant 0
            0)
      else u) hu rfl ?_
  rw [hqueue]
  dsimp only
  rw [if_pos ⟨hcls, by simp [hcovers]⟩, ← hqueue]
  have hport : (u.mapPort x (fun p => { p with stall := p.stall + ticks })).port x
      = { u.port x with stall := (u.port x).stall + ticks } := (State.port_mapPort u x x _ hlength).trans (if_pos rfl)
  exact ⟨congrArg Port.stall hport, (congrArg Port.queue hport :), State.logEv_count ..⟩

/-! ## Headers that are refused (R358, R367) -/

/-- A port out of step: a unit is discarded, and the port looks for the next header (R358). -/
theorem outOfStep_leaves {u : State} {f : FrameIn} (reason : Nat) (hlength : f.port < u.ports.length) :
    let v := ((u.discardUnit f.port).mapPort f.port (fun p => { p with resync := true, incoming := none })).noticeFor f reason
    (v.port f.port).resync = true ∧ (v.port f.port).incoming = none ∧ (v.port f.port).discarded = (u.port f.port).discarded + 1
      ∧ (v.port f.port).received = (u.port f.port).received := by
  have hport : ((u.discardUnit f.port).mapPort f.port (fun p => { p with resync := true, incoming := none })).port f.port
      = { u.port f.port with discarded := (u.port f.port).discarded + 1, resync := true, incoming := none } := by
    rw [State.port_mapPort _ _ _ _ (by simpa [State.discardUnit] using hlength), if_pos rfl, State.discardUnit,
        State.port_mapPort _ _ _ _ hlength,
      if_pos rfl]
  obtain ⟨-, _, _, _, _, _, _, _, _, hsent⟩ := (Sends.noticeFor ((u.discardUnit f.port).mapPort f.port (fun p =>
    { p with resync := true, incoming := none })) f reason).port f.port
  dsimp only
  rw [hsent, hport]
  exact ⟨rfl, rfl, rfl, rfl⟩

theorem faultyFrameHeader_completes :
    ∀ s at_ f u, u = s.advance at_ → u.dead = false → f.port < 5 → f.port < u.ports.length → (u.port f.port).up = true → f.fault ≠ 0 →
    (u.port f.port).resync = false →
    Completes (.faultyFrameHeader at_ f) s (fun v => (v.port f.port).resync = true ∧ (v.port f.port).incoming = none
      ∧ (v.port f.port).discarded = (u.port f.port).discarded + 1 ∧ (v.port f.port).received = (u.port f.port).received) := by
  intro s at_ f u hu hdead hport hlength hup hfault hsync
  refine .of_effect (fun u => if u.dead ∨ 5 ≤ f.port ∨ !(u.port f.port).up ∨ f.fault = 0 then u else u.faultyHeader f) hu rfl ?_
  rw [if_neg (by simp [hdead, hup, hfault]; omega), State.faultyHeader, if_neg (by simp [hsync])]
  exact outOfStep_leaves _ hlength

theorem unitBeyondCredit_completes :
    ∀ s at_ f u, u = s.advance at_ → u.dead = false → f.port < 4 → f.port < u.ports.length → (u.port f.port).up = true →
    (u.port f.port).ingressGrant < (u.port f.port).ingressUsed + f.units →
    Completes (.unitBeyondCredit at_ f) s (fun v => (v.port f.port).resync = true ∧ (v.port f.port).incoming = none
      ∧ (v.port f.port).discarded = (u.port f.port).discarded + 1) := by
  intro s at_ f u hu hdead hport hlength hup hbeyond
  refine .of_effect (fun u => if u.dead ∨ 4 ≤ f.port ∨ !(u.port f.port).up ∨ (u.port f.port).ingressUsed + f.units ≤ (u.port
      f.port).ingressGrant
    then u else u.beyondCredit f) hu rfl ?_
  rw [if_neg (by simp [hdead, hup]; omega), State.beyondCredit]
  obtain ⟨hresync, hincoming, hdiscarded, -⟩ := outOfStep_leaves 0x0D hlength
  exact ⟨hresync, hincoming, hdiscarded⟩

/-- Settles O35: a link comes up, a lane is lost, frames are taken or refused at their header, and a payload arrives or its gap times out.
-/
theorem portCommandsComplete : Obligations.PortCommandsComplete :=
  ⟨portLinkUp_completes, xLaneLost_completes, mFrame_completes, kFrame_completes, badHello_completes, hello_completes,
      errorNotice_completes,
    portState_completes, payloadComplete_completes, unitGapTimeout_completes, egressCreditStall_completes, faultyFrameHeader_completes,
    unitBeyondCredit_completes⟩

end Sys2Proof.Proofs.Ports

/-!
The end of requests (R105, R364), seen from the ledger and the pair: bookings go and none comes, requests keep their names and their phases
or are ended, and the pair counts what it has told its twin.
-/
namespace Sys2Proof.Machine

open Sys2Proof

/-- Requests under the same names, each in its phase or ended. -/
def WoundDown (l m : List Req) : Prop :=
  ∃ f : Req → Req, m = l.map f ∧ ∀ r, (f r).tenant = r.tenant ∧ (f r).seq = r.seq ∧ ((f r).phase = r.phase ∨ (f r).phase = .ended)

namespace WoundDown

theorem refl (l : List Req) : WoundDown l l := ⟨id, (List.map_id l).symm, fun _ => ⟨rfl, rfl, .inl rfl⟩⟩

theorem trans {l m n : List Req} (h : WoundDown l m) (h' : WoundDown m n) : WoundDown l n := by
  obtain ⟨f, rfl, hf⟩ := h
  obtain ⟨g, rfl, hg⟩ := h'
  refine ⟨g ∘ f, by simp, fun r => ?_⟩
  obtain ⟨ht, hs, hp⟩ := hf r
  obtain ⟨ht', hs', hp'⟩ := hg (f r)
  refine ⟨ht'.trans ht, hs'.trans hs, ?_⟩
  obtain hp' | hp' := hp'
  · obtain hp | hp := hp
    · exact .inl (hp'.trans hp)
    · exact .inr (hp'.trans hp)
  · exact .inr hp'

theorem modWhere (l : List Req) (p : Req → Bool) {f : Req → Req}
    (hf : ∀ r, (f r).tenant = r.tenant ∧ (f r).seq = r.seq ∧ ((f r).phase = r.phase ∨ (f r).phase = .ended)) :
    WoundDown l (Machine.modWhere l p f) := by
  refine ⟨_, rfl, fun r => ?_⟩
  split
  · exact hf r
  · exact ⟨rfl, rfl, .inl rfl⟩

/-- Each request that is left was there before, under its name, in its phase or in one it has ended from. -/
theorem mem {l m : List Req} (h : WoundDown l m) {q : Req} (hq : q ∈ m) :
    ∃ r ∈ l, q.tenant = r.tenant ∧ q.seq = r.seq ∧ (q.phase = r.phase ∨ q.phase = .ended) := by
  obtain ⟨f, rfl, hf⟩ := h
  obtain ⟨r, hr, rfl⟩ := List.mem_map.mp hq
  exact ⟨r, hr, hf r⟩

end WoundDown

/-- The pair is `x` but for messages sent to the twin and decisions counted. -/
def PairSt.SameButSent (x y : PairSt) : Prop := ∃ decnum mirrored sent sSeqOut, y = { x with decnum, mirrored, sent, sSeqOut }

theorem PairSt.SameButSent.trans {x y z : PairSt} (h : x.SameButSent y) (h' : y.SameButSent z) : x.SameButSent z := by
  obtain ⟨_, _, _, _, rfl⟩ := h
  obtain ⟨_, _, _, _, rfl⟩ := h'
  exact ⟨_, _, _, _, rfl⟩

/-- What the end of requests leaves of the ledger and of the pair (R105, R364). -/
structure Winds (s t : State) : Prop where
  bookings : t.ledger.bookings ⊆ s.ledger.bookings
  reqs : WoundDown s.ledger.reqs t.ledger.reqs
  pair : s.pair.SameButSent t.pair

namespace Winds

theorem of_same {s t : State} (hbookings : t.ledger.bookings = s.ledger.bookings) (hreqs : t.ledger.reqs = s.ledger.reqs)
    (hpair : t.pair = s.pair) : Winds s t :=
  ⟨by rw [hbookings]; exact List.Subset.refl _, by rw [hreqs]; exact .refl _, by rw [hpair]; exact ⟨_, _, _, _, rfl⟩⟩

theorem refl (s : State) : Winds s s := .of_same rfl rfl rfl

theorem trans {s t u : State} (h : Winds s t) (h' : Winds t u) : Winds s u :=
  ⟨fun _ hb => h.bookings (h'.bookings hb), h.reqs.trans h'.reqs, h.pair.trans h'.pair⟩

theorem ite {s a b : State} {p : Prop} [Decidable p] (ha : p → Winds s a) (hb : ¬p → Winds s b) : Winds s (if p then a else b) := by
  split
  next h => exact ha h
  next h => exact hb h

theorem foldl {α : Type} (s : State) (l : List α) {f : State → α → State} (h : ∀ s a, Winds s (f s a)) : Winds s (l.foldl f s) :=
  foldl_keeps (Winds s) f l s (.refl s) (fun _ a _ hs => hs.trans (h _ a))

theorem mapLedger (s : State) {f : LedgerSt → LedgerSt} (hbookings : (f s.ledger).bookings ⊆ s.ledger.bookings)
    (hreqs : WoundDown s.ledger.reqs (f s.ledger).reqs) : Winds s (s.mapLedger f) := ⟨hbookings, hreqs, ⟨_, _, _, _, rfl⟩⟩

theorem mapPair (s : State) {f : PairSt → PairSt} (h : s.pair.SameButSent (f s.pair)) : Winds s (s.mapPair f) :=
  ⟨List.Subset.refl _, .refl _, h⟩

theorem mapTower (s : State) (t : Nat) (f : Tower → Tower) : Winds s (s.mapTower t f) := .of_same rfl rfl rfl
theorem mapPorts (s : State) (f : List Port → List Port) : Winds s (s.mapPorts f) := .of_same rfl rfl rfl
theorem mapPort (s : State) (x : Nat) (f : Port → Port) : Winds s (s.mapPort x f) := .mapPorts ..
theorem mapMem (s : State) (f : MemSt → MemSt) : Winds s (s.mapMem f) := .of_same rfl rfl rfl
theorem mapVault (s : State) (f : VaultSt → VaultSt) : Winds s (s.mapVault f) := .of_same rfl rfl rfl
theorem logEv (s : State) (code sev unit loc arg0 arg1 : Nat) : Winds s (s.logEv code sev unit loc arg0 arg1) := .of_same rfl rfl rfl

theorem of_sends {s t : State} (h : Sends s t) : Winds s t := by
  refine .of_same ?_ ?_ h.pair <;> rw [h.ledger]

theorem mapReq (s : State) (tenant seq : Nat) {f : Req → Req}
    (hf : ∀ r, (f r).tenant = r.tenant ∧ (f r).seq = r.seq ∧ ((f r).phase = r.phase ∨ (f r).phase = .ended)) :
    Winds s (s.mapReq tenant seq f) :=
  ⟨List.Subset.refl _, .modWhere _ _ hf, ⟨_, _, _, _, rfl⟩⟩

theorem sendTwin (s : State) (m : TwinMsg) : Winds s (s.sendTwin m) :=
  .ite (fun _ => .ite (fun _ => .mapPair _ ⟨_, _, _, _, rfl⟩) (fun _ => .refl _)) (fun _ => .mapPair _ ⟨_, _, _, _, rfl⟩)

theorem mirror (s : State) (d : DecisionRec) : Winds s (s.mirror d) :=
  .ite (fun _ => (Winds.mapPair _ ⟨_, _, _, _, rfl⟩).trans (.sendTwin ..)) (fun _ => .refl _)

theorem regrant (s : State) (x : Nat) : Winds s (s.regrant x) :=
  .ite (fun _ => (Winds.mapPort ..).trans (.of_sends (.sendCredit ..))) (fun _ => .refl _)

theorem freeIngress (s : State) (x units : Nat) : Winds s (s.freeIngress x units) := (Winds.mapPort ..).trans (.regrant ..)

theorem leaveBuffer (s : State) (tenant seq : Nat) : Winds s (s.leaveBuffer tenant seq) := by
  unfold State.leaveBuffer
  split
  · exact .refl _
  · exact .ite (fun _ => .refl _)
      (fun _ => (Winds.mapReq (f := fun q => { q with buffered := false }) _ _ _ fun _ => ⟨rfl, rfl, .inl rfl⟩).trans (.freeIngress ..))

/-! ### Records withdrawn and retired -/

theorem amendEnd (s : State) (tenant seq reason detail site : Nat) : Winds s (s.amendEnd tenant seq reason detail site) :=
  (Winds.mapReq (f := fun q => { q with reason, detail, reasonSite := site }) _ _ _ fun _ => ⟨rfl, rfl, .inl rfl⟩).trans (.mapPorts ..)

theorem clearSlotAreas (s : State) (t slot : Nat) : Winds s (s.clearSlotAreas t slot) := .foldl _ _ (fun _ _ => .mapMem ..)

theorem retireRecord (s : State) (t slot : Nat) : Winds s (s.retireRecord t slot) := by
  unfold State.retireRecord
  split
  · exact .refl _
  · refine (((Winds.clearSlotAreas ..).trans (.mapTower ..)).trans (.mapLedger _ (List.Subset.refl _)
      (.refl _))).trans (.mapReq _ _ _ fun _ => ?_)
    exact ⟨rfl, rfl, .inl rfl⟩

theorem unreported (s : State) (t : Nat) (r : ActRec) : Winds s (s.unreported t r) := by
  unfold State.unreported
  refine .ite (fun _ => .refl _) (fun _ => .trans ?_ ((Winds.logEv ..).trans (.mapTower ..)))
  split
  · exact .ite (fun _ => .amendEnd ..) (fun _ => .refl _)
  · exact .refl _

theorem withdrawRecord (s : State) (t slot : Nat) : Winds s (s.withdrawRecord t slot) := by
  unfold State.withdrawRecord
  have hreport : Winds s (match (s.tower t).record? slot with
      | some r => s.unreported t r
      | none => s) := by
    split
    · exact .unreported ..
    · exact .refl _
  exact .ite (fun _ => hreport.trans (.mapTower ..)) (fun _ => (hreport.trans (.mapTower ..)).trans (.retireRecord ..))

theorem withdrawReq (s : State) (tenant seq : Nat) : Winds s (s.withdrawReq tenant seq) :=
  (Winds.mapLedger _ (List.Subset.refl _) (.refl _)).trans (.foldl _ _ (fun _ _ => .foldl _ _ (fun _ _ => .withdrawRecord ..)))

theorem dropResult (s : State) (tenant seq : Nat) : Winds s (s.dropResult tenant seq) := .mapPorts ..

/-! ### The end of a request -/

theorem releaseBookings (s : State) (tenant seq : Nat) : Winds s (s.releaseBookings tenant seq) :=
  .mapLedger _ (List.filter_sublist.subset) (.refl _)

end Winds

/-- The request is over (R105): its records, its result and its payload are gone. -/
def State.ceased (s : State) (r : Req) : State :=
  ((s.withdrawReq r.tenant r.seq).dropResult r.tenant r.seq).mapReq r.tenant r.seq (fun q =>
    { q with phase := .ended, endTick := ((s.withdrawReq r.tenant r.seq).dropResult r.tenant r.seq).now, payload := none })

namespace Winds

theorem ceased (s : State) (r : Req) : Winds s (s.ceased r) :=
  ((Winds.withdrawReq ..).trans (.dropResult ..)).trans (.mapReq _ _ _ fun _ => ⟨rfl, rfl, .inr rfl⟩)

/-- What the end of a request does once the request is over. -/
theorem finishEnd_of_ceased (s : State) (r : Req) : Winds (s.ceased r) (s.finishEnd r) := by
  unfold State.finishEnd
  refine .trans ?_ ((Winds.leaveBuffer ..).trans (.mapVault ..))
  refine .ite (fun _ => ?_) (fun _ => .trans ?_ (.mapLedger _ (List.Subset.refl _) (.refl _)))
  · exact .ite (fun _ => .releaseBookings ..) (fun _ => .refl _)
  · exact .ite (fun _ => .releaseBookings ..) (fun _ => .refl _)

theorem finishEnd (s : State) (r : Req) : Winds s (s.finishEnd r) := (Winds.ceased s r).trans (.finishEnd_of_ceased ..)

theorem sendEnd (s : State) (r : Req) (reason detail : Nat) : Winds s (s.sendEnd r reason detail) :=
  (((Winds.mirror ..).trans (.of_sends (.sendAnswer ..))).trans (.mapLedger _ (List.Subset.refl _) (.refl _))).trans (.finishEnd ..)

theorem endRequest (s : State) (tenant seq reason detail site : Nat) : Winds s (s.endRequest tenant seq reason detail site) := by
  unfold State.endRequest
  split
  · exact .refl _
  · refine .ite (fun _ => .amendEnd ..) (fun _ => ?_)
    refine .ite (fun _ => .refl _) (fun _ => ?_)
    refine .ite (fun _ => .ite (fun _ => .mapReq _ _ _ fun _ => ?_) (fun _ => .refl _)) (fun _ => ?_)
    · exact ⟨rfl, rfl, .inl rfl⟩
    refine .trans (.mapReq _ _ _ fun _ => ?_)
      (.ite (fun _ => (Winds.withdrawReq ..).trans (.dropResult ..)) (fun _ => .ite (fun _ => .sendEnd ..) (fun _ => .finishEnd ..)))
    exact ⟨rfl, rfl, .inl rfl⟩

theorem endAll (s : State) (p : Req → Bool) (reason site : Nat) : Winds s (s.endAll p reason site) :=
  .foldl _ _ (fun _ _ => .endRequest ..)

end Winds

theorem ceased_ended {s : State} {r q : Req} (hq : q ∈ (s.ceased r).ledger.reqs) (hname : q.tenant = r.tenant ∧ q.seq = r.seq) :
    q.phase = .ended := by
  unfold State.ceased at hq
  generalize (s.withdrawReq r.tenant r.seq).dropResult r.tenant r.seq = w at hq
  obtain ⟨q', -, hq'⟩ := List.mem_map.mp hq
  split at hq'
  next => rw [← hq']
  next h => exact absurd (by simp [Req.is, hq', hname]) h

/-- A request that is finished is ended, under its name. -/
theorem finishEnd_ended {s : State} {r q : Req} (hq : q ∈ (s.finishEnd r).ledger.reqs) (hname : q.tenant = r.tenant ∧ q.seq = r.seq) :
    q.phase = .ended := by
  obtain ⟨q', hq', htenant, hseq, hphase⟩ := (Winds.finishEnd_of_ceased s r).reqs.mem hq
  obtain hphase | hphase := hphase
  · exact hphase.trans (ceased_ended hq' ⟨htenant.symm.trans hname.1, hseq.symm.trans hname.2⟩)
  · exact hphase

/-- Requests that are finished one after another are ended, and stay so. -/
theorem finishAll_ended {l : List Req} {s : State} {q : Req} (hq : q ∈ (l.foldl (fun s r => s.finishEnd r) s).ledger.reqs)
    (hname : ∃ r ∈ l, q.tenant = r.tenant ∧ q.seq = r.seq) : q.phase = .ended := by
  induction l generalizing s with
  | nil => exact absurd hname (by simp)
  | cons r rest ih =>
    obtain ⟨r', hr', hname⟩ := hname
    obtain rfl | hr' := List.mem_cons.mp hr'
    · obtain ⟨q', hq', htenant, hseq, hphase⟩ := (Winds.foldl (s.finishEnd r') rest (fun _ _ => .finishEnd ..)).reqs.mem hq
      have hended := finishEnd_ended hq' ⟨htenant.symm.trans hname.1, hseq.symm.trans hname.2⟩
      obtain hphase | hphase := hphase
      · exact hphase.trans hended
      · exact hphase
    · exact ih hq ⟨r', hr', hname⟩

end Sys2Proof.Machine

/-!
The twin watched (chapter 17): handshake, heartbeats, paths that fall silent, and S frames out of order (R452 to R477).
-/
namespace Sys2Proof.Proofs.TwinWatch

open Sys2Proof Sys2Proof.Machine

/-! ## The handshake (R452, R453) -/

/-- The module with a pair key of its own, its S frames counted anew (R452). -/
def keyed (s : State) : State :=
  (s.mapVault (fun v => { v with pairKey := true })).mapPair (fun p =>
    { p with keyGen := p.keyGen + 1, sSeqIn := 0, sSeqOut := 0, sFault := false
             decnum := if p.mode = .active ∨ p.mode = .standby then p.decnum else 0 })

/-- A unit that enters SOLO announces its credit; its pair takes the claim and beats (R453). -/
theorem enterSolo_leaves (s : State) (claim : Nat) : (s.enterSolo claim).pair
    = { s.pair with mode := .solo, claim, joinArmed := false, beating := true, nextBeat := s.now }
    ∧ (s.enterSolo claim).vault.pairKey = s.vault.pairKey ∧ (s.enterSolo claim).ledger = s.ledger := by
  have hsends := Sends.announce (s.mapPair (fun p => { p with mode := .solo, claim, joinArmed := false })).startBeats
  have hkeys := hsends.vault
  unfold State.enterSolo State.pairEvent
  simp only [State.raiseEvent_pair, State.raiseEvent_vault, State.raiseEvent_ledger]
  exact ⟨hsends.pair, congrArg (·.pairKey) hkeys, hsends.ledger⟩

theorem pxLinkUp_completes :
    ∀ s at_ pref twin u, u = s.advance at_ → u.pair.bound = true → u.dead = false → u.vault.mode ≠ .erased → u.time.mode ≠ .unset →
    pref ≠ u.pair.preferred → twin.reportsOk = true →
    Completes (.pxLinkUp at_ u.pair.twinId pref twin) s (fun t => t.vault.pairKey = true
    ∧ t.pair.keyGen = u.pair.keyGen + 1 ∧ t.pair.sSeqIn = 0 ∧ t.pair.sSeqOut = 0 ∧ t.pair.sFault = false
    ∧ (u.pair.mode = .seeking → twin.seeking = true → u.pair.preferred = true → t.pair.mode = .solo ∧ t.pair.claim = 4 + u.pos)
    ∧ (u.pair.mode ≠ .seeking ∨ twin.seeking = false ∨ u.pair.preferred = false →
    t.pair.mode = u.pair.mode ∧ t.pair.claim = u.pair.claim ∧ t = { u with vault := { u.vault with pairKey := true }, pair :=
        t.pair })) := by
  intro s at_ pref twin u hu hbound hdead herased htime hpref hreports
  have hshook : u.handshake u.pair.twinId pref twin = if u.pair.mode = .seeking ∧ twin.seeking ∧ u.pair.preferred then
      (keyed u).soloFromSeeking else keyed u := by
    simp only [State.handshake, hbound, hdead, herased, htime, hreports]
    simp only [Bool.not_true, Bool.or_false, decide_false, bne_self_eq_false, beq_eq_false_iff_ne.mpr hpref, Bool.false_eq_true,
      if_false]
    rfl
  refine .of_effect (fun u => u.handshake u.pair.twinId pref twin) hu (by rw [hu]; rfl) ?_
  rw [hshook]
  split
  next hsolo =>
    obtain ⟨hseeking, htwin, hprefers⟩ := hsolo
    obtain ⟨hpair, hkeys, -⟩ := enterSolo_leaves (keyed u) (4 + (keyed u).pos)
    have hpair' : (keyed u).soloFromSeeking.pair = _ := hpair
    have hkey : (keyed u).soloFromSeeking.vault.pairKey = true := hkeys
    rw [hpair']
    refine ⟨hkey, rfl, rfl, rfl, rfl, fun _ _ _ => ⟨rfl, rfl⟩, ?_⟩
    rintro (h | h | h)
    · exact absurd hseeking h
    · exact absurd (htwin.symm.trans h) (by decide)
    · exact absurd (hprefers.symm.trans h) (by decide)
  next hsolo =>
    exact ⟨rfl, rfl, rfl, rfl, rfl, fun h h' h'' => absurd ⟨h, h', h''⟩ hsolo, fun _ => ⟨rfl, rfl, rfl⟩⟩

theorem badHandshake_completes :
    ∀ s at_ didh pref ok u, u = s.advance at_ → u.pair.bound = true → u.dead = false → u.vault.mode ≠ .erased → u.time.mode ≠ .unset →
    didh ≠ u.pair.twinId ∨ pref = u.pair.preferred →
    Completes (.pxLinkUp at_ didh pref ok) s (fun t => t.pair = { u.pair with bindFaults := u.pair.bindFaults + 1 }
    ∧ t.vault = u.vault ∧ t.log.count = u.log.count + 1) := by
  intro s at_ didh pref ok u hu hbound hdead herased htime hbad
  have hshook : u.handshake didh pref ok = ((u.mapPair (fun p => { p with bindFaults :=
      p.bindFaults + 1 })).logEv 0x0A40 sevLogged unitPair 0
      (didh % 2 ^ 64)).pairEvent := by
    unfold State.handshake
    rw [if_neg (by simp [hbound, hdead, herased, htime]), if_pos (by simpa using hbad)]
  refine .of_effect (fun u => u.handshake didh pref ok) hu rfl ?_
  rw [hshook]
  exact ⟨rfl, rfl, by rw [State.pairEvent, State.raiseEvent_count, State.logEv_count]; rfl⟩

/-! ## Heartbeats (R456, R458) -/

theorem pairKey_of_hears {s : State} (h : s.hearsTwin = true) : s.vault.pairKey = true := by
  simp only [State.hearsTwin, Bool.and_eq_true] at h
  exact h.1.2

theorem sendTwin_S {s : State} {m : TwinMsg} (hm : m.isS = true) (hkey : s.vault.pairKey = true) :
    ∃ f : TwinFrame, f.msg = m ∧ s.sendTwin m = { s with pair := { s.pair with sSeqOut := s.pair.sSeqOut + 1, sent :=
        s.pair.sent ++ [f] } } :=
  ⟨_, rfl, (if_pos hm).trans (if_pos hkey)⟩

theorem sendTwin_plain {s : State} {m : TwinMsg} (hm : m.isS = false) :
    ∃ f : TwinFrame, f.msg = m ∧ s.sendTwin m = { s with pair := { s.pair with sent := s.pair.sent ++ [f] } } :=
  ⟨_, rfl, if_neg (by simp [hm])⟩

/-- The module once a heartbeat of its twin is noted (R458). -/
def heardBeat (s : State) (onPx : Bool) (h : HeartbeatIn) : State :=
  (s.pathHeard onPx).mapPair (fun p =>
    { p with twinClaim := h.claim, twinMode := PairMode.ofCode h.state, twinLocked := h.locked, twinDecnum := h.decnum
             lockRuns := p.lockRuns && h.locked })

/-- The isolated unit once the requests that live are finished (R454). -/
def wound (s : State) : State :=
  (s.ledger.reqs.filter Req.live).foldl (fun s r => s.finishEnd r) (s.mapPair (fun p => { p with mode := .isolated, joinArmed := false }))

theorem isolate_eq (s : State) : s.isolate = (((wound s).unrefLeft ((wound s).ports.flatMap (·.queue))).mapPorts (fun l => l.map (fun p =>
    { p with queue := [], buffered := 0 }))).raiseEvent 10 := rfl

/-- An isolated unit has no request that lives and no frame to send (R454). -/
theorem isolate_leaves (s : State) : s.isolate.pair.mode = .isolated ∧ s.isolate.pair.twinClaim = s.pair.twinClaim ∧ s.isolate.NoneLive
    ∧ ∀ p ∈ s.isolate.ports, p.queue = [] ∧ p.buffered = 0 := by
  have hwinds := Winds.foldl (s.mapPair (fun p => { p with mode := .isolated, joinArmed := false })) (s.ledger.reqs.filter Req.live)
    (f := fun s r => s.finishEnd r) (fun _ _ => .finishEnd ..)
  change Winds _ (wound s) at hwinds
  have hended : ∀ q ∈ (wound s).ledger.reqs, q.live = false := by
    intro q hq
    refine Classical.byContradiction fun hlive => ?_
    obtain ⟨r, hr, htenant, hseq, hphase⟩ := hwinds.reqs.mem hq
    have hlive' : q.phase ≠ .ended := fun h => hlive (by simp [Req.live, h])
    obtain hphase | hphase := hphase
    · have hsame : r.live = q.live := by simp only [Req.live, hphase]
      exact hlive' (finishAll_ended hq ⟨r, List.mem_filter.mpr ⟨hr, hsame.trans (by simpa using hlive)⟩, htenant, hseq⟩)
    · exact hlive' hphase
  obtain ⟨_, _, _, _, hpair⟩ := hwinds.pair
  rw [isolate_eq]
  generalize wound s = w at *
  have hsends := Sends.unrefLeft w (w.ports.flatMap (·.queue))
  generalize w.unrefLeft (w.ports.flatMap (·.queue)) = x at *
  simp only [State.raiseEvent_pair, State.raiseEvent_ledger, State.raiseEvent_ports, State.mapPorts_pair, State.mapPorts_ledger,
    State.mapPorts_ports, State.NoneLive, hsends.pair, hsends.ledger, hpair]
  refine ⟨rfl, rfl, hended, fun p hp => ?_⟩
  obtain ⟨q, -, rfl⟩ := List.mem_map.mp hp
  exact ⟨rfl, rfl⟩

theorem heartbeatSend_completes :
    ∀ s at_ u, u = s.advance at_ → u.hearsTwin = true → u.pair.beating = true → u.pair.mode ≠ .unbound → u.pair.mode ≠ .seeking →
    u.pair.nextBeat ≤ u.now →
    Completes (.heartbeatSend at_) s (fun t => t.pair.sent.map (·.msg) = u.pair.sent.map (·.msg) ++
    [.heartbeat true u.heartbeat, .heartbeat false u.heartbeat,
    .status ((List.range 4).map (fun x => 65536 - (u.port x).buffered)) u.limitList (decide (u.pair.spoolSt = 2))]
    ∧ t.pair.sSeqOut = u.pair.sSeqOut + 2 ∧ t.pair.nextBeat = u.now + 8000 ∧ t.pair.hbseq = u.pair.hbseq + 1 ∧ t = { u with pair :=
      t.pair }) := by
  intro s at_ u hu hhears hbeating hbound hseeking hdue
  have hkey : u.vault.pairKey = true := pairKey_of_hears hhears
  have hsent : u.sendHeartbeat = (((u.sendTwin (.heartbeat true u.heartbeat)).sendTwin (.heartbeat false u.heartbeat)).mapPair (fun p =>
      { p with hbseq := p.hbseq + 1, nextBeat := u.now + heartbeatPeriod })).sendStatus := by
    unfold State.sendHeartbeat
    rw [if_neg (by simp [hhears, hbeating, hbound, hseeking]; exact hdue)]
  refine .of_effect (fun u => u.sendHeartbeat) hu rfl ?_
  obtain ⟨f, hfmsg, hf⟩ := sendTwin_S (m := .heartbeat true u.heartbeat) rfl hkey
  obtain ⟨g, hgmsg, hg⟩ := sendTwin_plain (s := u.sendTwin (.heartbeat true u.heartbeat)) (m := .heartbeat false u.heartbeat) rfl
  rw [hf] at hg
  rw [hsent, hf, hg]
  generalize hw : State.mapPair _ _ = w
  have hwkey : w.vault.pairKey = true := hw ▸ hkey
  have hwhears : w.hearsTwin = true := hw ▸ hhears
  obtain ⟨k, hkmsg, hk⟩ := sendTwin_S (s := w) (m := .status ((List.range 4).map (fun x => 65536 - (w.port x).buffered)) w.limitList
    (w.pair.spoolSt == 2)) rfl hwkey
  rw [State.sendStatus, if_pos hwhears, hk]
  have hwstate : w = { u with pair := w.pair } := hw ▸ rfl
  have hwpair : w.pair = { u.pair with sSeqOut := u.pair.sSeqOut + 1, sent := u.pair.sent ++ [f] ++ [g], hbseq := u.pair.hbseq + 1
                                       nextBeat := u.now + 8000 } := hw ▸ rfl
  have hlimits : w.limitList = u.limitList := hw ▸ rfl
  have hports : ∀ x, w.port x = u.port x := fun x => by rw [hwstate]; rfl
  refine ⟨?_, ?_, ?_, ?_, ?_⟩
  · simp only [hwpair, List.map_append, List.map_cons, List.map_nil, hfmsg, hgmsg, hkmsg, hports, hlimits, List.append_assoc]
    rfl
  · rw [hwpair]
  · rw [hwpair]
  · rw [hwpair]
  · rw [hwstate]

theorem heartbeat_heard_completes :
    ∀ s at_ h u, u = s.advance at_ → u.hearsTwin = true → u.pair.mode = .standby →
    Completes (.heartbeat at_ false true h) s (fun t => t.pair = { u.pair with
    thHeard := u.now, thPath := 1, twinClaim := h.claim, twinMode := PairMode.ofCode h.state, twinLocked := h.locked,
    twinDecnum := h.decnum, lockRuns := u.pair.lockRuns && h.locked } ∧ t = { u with pair := t.pair }) := by
  intro s at_ h u hu hhears hmode
  have hin : u.heartbeatIn false true h = heardBeat u false h := by
    have hmode' : (heardBeat u false h).pair.mode = .standby := hmode
    simp only [State.heartbeatIn, hhears, Bool.not_true, Bool.false_eq_true, if_false, Bool.false_or, Bool.false_and]
    change (heardBeat u false h).onHeartbeat u.pair.twinMode false = _
    simp only [State.onHeartbeat, hmode', reduceCtorEq, or_self, false_and, if_false, Bool.false_eq_true]
  refine .of_effect (fun u => u.heartbeatIn false true h) hu rfl ?_
  rw [hin]
  exact ⟨rfl, rfl⟩

theorem heartbeat_isolates_completes :
    ∀ s at_ onPx h u, u = s.advance at_ → u.hearsTwin = true → u.time.mode ≠ .unset → u.pair.sFault = false →
    u.pair.mode = .active ∨ u.pair.mode = .solo → u.pair.claim < h.claim →
    Completes (.heartbeat at_ onPx true h) s (fun t => t.pair.mode = .isolated ∧ t.pair.twinClaim = h.claim ∧ t.NoneLive
    ∧ ∀ p ∈ t.ports, p.queue = [] ∧ p.buffered = 0) := by
  intro s at_ onPx h u hu hhears htime hfault hmode hclaim
  have hin : u.heartbeatIn onPx true h = (heardBeat u onPx h).isolate := by
    have htime' : (u.time.mode == .unset) = false := beq_eq_false_iff_ne.mpr htime
    simp only [State.heartbeatIn, hhears, htime', hfault, Bool.not_true, Bool.false_eq_true, if_false, Bool.or_self, Bool.and_false]
    change (heardBeat u onPx h).onHeartbeat _ _ = _
    unfold State.onHeartbeat
    dsimp only
    refine if_pos ⟨?_, ?_⟩
    · cases onPx <;> exact hmode
    · cases onPx <;> exact hclaim
  refine .of_effect (fun u => u.heartbeatIn onPx true h) hu rfl ?_
  rw [hin]
  obtain ⟨hisolated, hpair, hlive, hports⟩ := isolate_leaves (heardBeat u onPx h)
  refine ⟨hisolated, hpair.trans ?_, hlive, hports⟩
  cases onPx <;> rfl

/-! ## Paths that fall silent (R460, R475) -/

/-- The module once its twin is declared failed (R460). -/
def failing (s : State) : State :=
  ((s.logEv 0x0A02 sevCapacity unitPair).pairEvent).mapPair (fun p => { p with pxPath := if p.sFault then 2 else 0, thPath := 0 })

/-- The claim that is raised is above both claims and is the unit's own by its parity (R454). -/
theorem raisedClaim_spec (s : State) : s.pair.claim < s.raisedClaim ∧ s.pair.twinClaim < s.raisedClaim ∧ s.raisedClaim % 2 = s.pos := by
  have hpos : s.pos = 0 ∨ s.pos = 1 := by unfold State.pos; split <;> simp
  unfold State.raisedClaim
  dsimp only
  split <;> omega

/-- What a take-over leaves: the recovery bookings are its own, and no frame is held (R475). -/
theorem takeOver_leaves (s : State) : (∀ b ∈ s.takeOver.ledger.bookings, b.recovery = false) ∧ (∀ r ∈ s.takeOver.ledger.reqs,
    r.phase ≠ .held)
    ∧ PairSt.SameButSent { s.pair with takeovers := s.pair.takeovers + 1, spoolSt := 3 } s.takeOver.pair := by
  unfold State.takeOver
  dsimp only
  generalize hw : State.admitHeld _ = w
  have hbookings : ∀ b ∈ w.ledger.bookings, b.recovery = false := by
    intro b hb
    rw [← hw] at hb
    obtain ⟨c, -, rfl⟩ := List.mem_map.mp hb
    rfl
  have hreqs : ∀ r ∈ w.ledger.reqs, r.phase ≠ .held := by
    intro r hr
    rw [← hw] at hr
    obtain ⟨q, -, rfl⟩ := List.mem_map.mp hr
    split
    next => exact nofun
    next h => simpa using h
  have hpair : w.pair = { s.pair with takeovers := s.pair.takeovers + 1, spoolSt := 3 } := hw ▸ rfl
  have hwinds := Winds.endAll w (fun r => r.bestEffort) 0x85 20
  refine ⟨fun b hb => hbookings b (hwinds.bookings hb), fun r hr => ?_, hpair ▸ hwinds.pair⟩
  obtain ⟨q, hq, -, -, hphase⟩ := hwinds.reqs.mem hr
  obtain hphase | hphase := hphase
  · rw [hphase]
    exact hreqs q hq
  · rw [hphase]
    exact nofun

theorem pathFault_completes :
    ∀ s at_ onPx u, u = s.advance at_ → u.hearsTwin = true → u.pair.mode = .standby ∨ u.pair.mode = .active ∨ u.pair.mode = .syncing →
    u.silent onPx = true → u.silent (!onPx) = false → (if onPx then u.pair.pxPath else u.pair.thPath) ≠ 2 →
    Completes (.pathSilence at_ onPx) s (fun t => (if onPx then t.pair.pxPath else t.pair.thPath) = 2
    ∧ t.pair.pathFaults = u.pair.pathFaults + 1 ∧ t.pair.mode = u.pair.mode ∧ t.pair.claim = u.pair.claim
      ∧ t.log.count = u.log.count + 1) := by
  intro s at_ onPx u hu hhears hmode hsilent hother hpath
  have hbound : ¬(u.pair.mode = .unbound ∨ u.pair.mode = .seeking) := by
    rintro (h | h) <;> simp [h] at hmode
  have hfault : u.pathSilence onPx = u.pathFault onPx := by
    unfold State.pathSilence
    rw [if_neg (by simp [hhears, hsilent]; simpa using hbound), hother, if_neg Bool.false_ne_true, if_neg hpath]
  refine .of_effect (fun u => u.pathSilence onPx) hu rfl ?_
  rw [hfault]
  refine ⟨?_, rfl, rfl, rfl, by rw [State.pathFault, State.pairEvent, State.raiseEvent_count, State.logEv_count]; rfl⟩
  cases onPx <;> rfl

theorem takeOver_completes :
    ∀ s at_ onPx u, u = s.advance at_ → u.hearsTwin = true → u.pair.mode = .standby → u.silent onPx = true → u.silent (!onPx) = true →
    u.raisedClaim ≤ 0xFFFFFFF0 →
    Completes (.pathSilence at_ onPx) s (fun t => t.pair.mode = .solo ∧ t.pair.claim = u.raisedClaim ∧ u.pair.claim < t.pair.claim
    ∧ u.pair.twinClaim < t.pair.claim ∧ t.pair.claim % 2 = u.pos ∧ t.pair.takeovers = u.pair.takeovers + 1 ∧ t.pair.spoolSt = 3
    ∧ t.pair.beating = true ∧ (∀ b ∈ t.ledger.bookings, b.recovery = false) ∧ ∀ r ∈ t.ledger.reqs, r.phase ≠ .held) := by
  intro s at_ onPx u hu hhears hmode hsilent hother hroom
  have hfailed : u.pathSilence onPx = (failing u).takeClaim State.takeOver := by
    unfold State.pathSilence
    rw [if_neg (by simp [hhears, hsilent, hmode]), if_pos hother, if_pos (.inl hmode)]
    simp only [State.twinFailed, State.mapPair_pair, State.pairEvent, State.raiseEvent_pair, State.logEv_pair, hmode]
    rfl
  refine .of_effect (fun u => u.pathSilence onPx) hu rfl ?_
  have hraised : (failing u).raisedClaim = u.raisedClaim := rfl
  rw [hfailed, State.takeClaim, hraised, if_neg (Nat.not_lt.mpr hroom)]
  obtain ⟨hpair, -⟩ := enterSolo_leaves (failing u) u.raisedClaim
  obtain ⟨hbookings, hheld, hsent⟩ := takeOver_leaves ((failing u).enterSolo u.raisedClaim)
  obtain ⟨hclaim, htwin, hparity⟩ := raisedClaim_spec u
  rw [hpair] at hsent
  obtain ⟨_, _, _, _, htaken⟩ := hsent
  generalize ((failing u).enterSolo u.raisedClaim).takeOver = v at *
  rw [htaken]
  exact ⟨rfl, rfl, hclaim, htwin, hparity, rfl, rfl, rfl, hbookings, hheld⟩

/-! ## S frames out of order (R456) -/

theorem discardedS_completes :
    ∀ s at_ f d u, u = s.advance at_ → u.hearsTwin = true → u.pair.sFault = false → u.pair.pxPath ≠ 2 →
    f.ok = false ∨ f.kepoch ≠ u.pair.keyGen % 256 ∨ f.seq ≠ u.pair.sSeqIn + 1 →
    Completes (.decision at_ f d) s (fun t => t.pair = { u.pair with
    sDiscarded := u.pair.sDiscarded + 1, sFault := true, pathFaults := u.pair.pathFaults + 1, pxPath := 2 }
    ∧ t.ledger = u.ledger ∧ t.log.count = u.log.count + 1) := by
  intro s at_ f d u hu hhears hfault hpath hbad
  have hdiscarded : ∀ go, u.sFrame f go = u.discardS := fun go => by
    unfold State.sFrame
    rw [if_neg (by simp [hhears]), if_pos]
    obtain h | h | h := hbad <;> simp [h]
  refine .of_effect (fun u => u.sFrame f (fun s => (if s.takesDecision d then s.applyDecision d else s).tryJoin)) hu rfl ?_
  have hpath' : ¬(u.mapPair (fun p => { p with sDiscarded := p.sDiscarded + 1, sFault := true })).pair.pxPath = 2 := hpath
  rw [hdiscarded, State.discardS, if_neg hpath', State.pathFault, State.pairEvent]
  exact ⟨rfl, rfl, by rw [State.raiseEvent_count, State.logEv_count]; rfl⟩

/-- Settles O44: the handshake gives a pair key, heartbeats are sent and heard, a silent path is a fault and two are the twin's failure, and
an S frame out of order is discarded. -/
theorem twinWatchCommandsComplete : Obligations.TwinWatchCommandsComplete :=
  ⟨pxLinkUp_completes, badHandshake_completes, heartbeatSend_completes, heartbeat_heard_completes, heartbeat_isolates_completes,
    pathFault_completes, takeOver_completes, discardedS_completes⟩

end Sys2Proof.Proofs.TwinWatch

/-!
The transports of the object dictionary (chapters 21 and 22): bounds and idle limits that expire, the I3C accesses and CCCs, the PCIe
reset (R552 to R560, R578), and a clear that keeps the raises of its tick (R565).
-/
namespace Sys2Proof.Machine

open Sys2Proof

/-! ## Records of a dictionary access -/

section Access
variable (d : DictSt) (i3c : Bool) (t index sub : Nat)

/-- R557: an abandoned segmented write leaves the aborts of accesses and the other transport alone. -/
theorem DictSt.abandon_keeps : (d.abandon i3c t).aborted = d.aborted
    ∧ (d.abandon i3c t).transport (!i3c) = d.transport (!i3c) := by
  unfold DictSt.abandon
  split
  · exact ⟨rfl, rfl⟩
  · cases i3c <;> exact ⟨rfl, rfl⟩

theorem DictSt.abandon_seg : ((d.abandon i3c t).transport i3c).seg = none := by
  unfold DictSt.abandon
  split
  next h => exact h
  next => cases i3c <;> rfl

/-- R556, R557: an access that begins leaves the aborts and the other transport alone. -/
theorem DictSt.begin_leaves : (d.begin_ i3c t index sub).aborted = d.aborted
    ∧ (d.begin_ i3c t index sub).transport (!i3c) = d.transport (!i3c) := by
  have hcopy : ∀ (d : DictSt) (f : Transport → Transport), (d.mapTransport i3c f).aborted = d.aborted
      ∧ (d.mapTransport i3c f).transport (!i3c) = d.transport (!i3c) := by
    intro d f; cases i3c <;> exact ⟨rfl, rfl⟩
  unfold DictSt.begin_
  dsimp only
  obtain ⟨habort, hother⟩ := hcopy _ _
  rw [habort, hother]
  split
  · split
    · exact ⟨rfl, rfl⟩
    · exact d.abandon_keeps i3c t
  · exact ⟨rfl, rfl⟩

end Access

/-! ## I3C accesses (R560) -/

section I3c
variable {s : State} {index sub : Nat}

/-- Only accesses to objects of towers travel over the control ring. -/
theorem State.ctlAccess_of_not_tower (type code : Nat) (h : isTowerIndex index = false) : s.ctlAccess type index sub code = s := by
  rw [State.ctlAccess, if_neg (fun hc => by simp [h] at hc)]

theorem not_tower_of_i3cReadable (h : i3cReadable index sub = true) : isTowerIndex index = false := by
  rw [isTowerIndex, Bool.and_eq_false_iff, decide_eq_false_iff_not]
  simp only [i3cReadable, Bool.or_eq_true, Bool.and_eq_true, beq_iff_eq, decide_eq_true_eq] at h
  simp only [decide_eq_false_iff_not]
  omega

theorem State.i3cRead_served (sub : Nat) (hserves : s.ServesI3c index) : s.i3cRead index sub =
    (((s.begun true index sub).ctlAccess 6 index sub (i3cReadProc index sub (s.begun true index sub)).1).endAccess true index sub
      (i3cReadProc index sub (s.begun true index sub)).1).i3cAnswer (i3cReadProc index sub (s.begun true index sub)).1
      (i3cReadProc index sub (s.begun true index sub)).2 := by
  obtain ⟨hdead, haddr, hgate⟩ := hserves
  have hgate' : (s.mapDict (fun d => d.begin_ true s.now index sub)).gate index = 0 := hgate
  rw [State.i3cRead, if_neg (by simp [hdead, Option.isSome_iff_ne_none.mp haddr])]
  simp only [hgate', if_true]
  rfl

theorem State.i3cWrite_served {code : Nat} {v : State} {data : List Byte} (hserves : s.ServesI3c index)
    (hproc : i3cWriteProc index sub data (s.begun true index sub) = (code, v)) :
    s.i3cWrite index sub data = (v.endAccess true index sub code).i3cAnswer code [] := by
  obtain ⟨hdead, haddr, hgate⟩ := hserves
  have hgate' : (s.mapDict (fun d => d.begin_ true s.now index sub)).gate index = 0 := hgate
  have hproc' : i3cWriteProc index sub data (s.mapDict (fun d => d.begin_ true s.now index sub)) = (code, v) := hproc
  rw [State.i3cWrite, if_neg (by simp [hdead, Option.isSome_iff_ne_none.mp haddr])]
  simp only [hgate', if_true, hproc']

end I3c

/-! ## Vectors cleared (R565) -/

section Clear
variable (l : LogSt) (t : Nat) (up : Bool)

/-- What a clear of vector `v` over the window leaves: the other vectors, the I3C copy, the records and the ticks of the raises; `v` itself
stays where it was raised in this tick. -/
theorem LogSt.clearVector_leaves (v : Nat) : (l.clearVector false t up v).vecI = l.vecI ∧ (l.clearVector false t up v).recs = l.recs
    ∧ (l.clearVector false t up v).raisedAt = l.raisedAt
    ∧ ∀ w, w < 32 → (l.clearVector false t up v).vecP.getLsbD w
        = (l.vecP.getLsbD w && (decide (w ≠ v) || (kvHas l.raisedAt w && decide (kvGet l.raisedAt w 0 = t)))) := by
  rw [LogSt.clearVector, if_neg Bool.false_ne_true]
  dsimp only
  split
  next hclear =>
    refine ⟨rfl, rfl, rfl, fun w hw => ?_⟩
    by_cases hwv : w = v
    · subst hwv; simp_all
    · simp [hwv]
  next hset =>
    split
    next hraised =>
      have hkeep : ∀ w, l.vecP.getLsbD w
          = (l.vecP.getLsbD w && (decide (w ≠ v) || (kvHas l.raisedAt w && decide (kvGet l.raisedAt w 0 = t)))) := by
        intro w
        by_cases hwv : w = v
        · subst hwv
          rw [Bool.and_eq_true] at hraised
          simp [hraised]
        · simp [hwv]
      split
      · exact ⟨rfl, rfl, rfl, fun w _ => hkeep w⟩
      · exact ⟨rfl, rfl, rfl, fun w _ => hkeep w⟩
    next hraised =>
      refine ⟨rfl, rfl, rfl, fun w hw => ?_⟩
      by_cases hwv : w = v
      · subst hwv
        rw [Bool.and_comm, Bool.not_eq_true] at hraised
        simp [hraised, hw]
      · have hshift : (1#32 <<< v).getLsbD w = false := by
          simp only [BitVec.getLsbD_shiftLeft, BitVec.getLsbD_one]
          simp; omega
        simp only [BitVec.getLsbD_and, BitVec.getLsbD_not, hw, hshift]
        simp [hwv]

theorem LogSt.clearVectors_leaves (vs : List Nat) : ∀ l : LogSt, (vs.foldl (fun l v => l.clearVector false t up v) l).vecI = l.vecI
    ∧ (vs.foldl (fun l v => l.clearVector false t up v) l).recs = l.recs
    ∧ ∀ w, w < 32 → (vs.foldl (fun l v => l.clearVector false t up v) l).vecP.getLsbD w
        = (l.vecP.getLsbD w && (decide (w ∉ vs) || (kvHas l.raisedAt w && decide (kvGet l.raisedAt w 0 = t)))) := by
  induction vs with
  | nil => exact fun l => ⟨rfl, rfl, fun w _ => by simp⟩
  | cons v rest ih =>
    intro l
    obtain ⟨hvecI, hrecs, hraised, hvec⟩ := l.clearVector_leaves t up v
    obtain ⟨hvecI', hrecs', hvec'⟩ := ih (l.clearVector false t up v)
    refine ⟨hvecI'.trans hvecI, hrecs'.trans hrecs, fun w hw => ?_⟩
    rw [List.foldl_cons, hvec' w hw, hvec w hw, hraised, Bool.and_assoc, ← Bool.or_and_distrib_right]
    simp [List.mem_cons, not_or]

end Clear

/-- A clear of vectors changes the log alone. -/
theorem State.clearVectors_eq (s : State) (bits : BitVec 32) : s.clearVectors false bits = s.mapLog (fun l =>
    ((List.range 32).filter (fun v => bits.getLsbD v)).foldl (fun l v => l.clearVector false s.now s.dict.pcieUp v) l) := by
  rw [State.clearVectors]
  generalize (List.range 32).filter (fun v => bits.getLsbD v) = vs
  induction vs generalizing s with
  | nil => rfl
  | cons v rest ih => rw [List.foldl_cons, ih]; rfl

end Sys2Proof.Machine

namespace Sys2Proof.Proofs.Transports

open Sys2Proof Sys2Proof.Machine

/-! ## Limits that expire -/

theorem serviceBoundExpiry_completes :
    ∀ s at_ go index sub write last u, u = s.advance at_ → u.dead = false → u.dict.pcieUp = true → u.dict.pcie.served ≤ go →
    u.accessNow false index sub = false → go + serviceBound index sub write last ≤ u.now →
    Completes (.serviceBoundExpiry at_ false go index sub write last) s (fun t => t.AccessAborted 0x01000006
      ∧ t.dict.aborted = u.dict.aborted + 1 ∧ t = { u with dict := t.dict }) := by
  intro s at_ go index sub write last u hu hdead hup hserved haccess hbound
  refine .of_effect (fun u => u.boundExpires false go index sub write last) hu rfl ?_
  have hrun : u.boundExpires false go index sub write last = (u.begun false index sub).endAccess false index sub 0x01000006 := by
    have hpcie : (u.dict.transport false).served ≤ go := hserved
    rw [State.boundExpires, if_neg (by simp [hdead, hup, haccess]; omega), if_neg Bool.false_ne_true]
    rfl
  rw [hrun]
  refine ⟨State.endAccess_aborted _ _ _ _ _ (by decide), ?_, rfl⟩
  exact congrArg (· + 1) (u.dict.begin_leaves false u.now index sub).1

theorem segmentIdleExpiry_completes :
    ∀ s at_ i3c w u, u = s.advance at_ → (u.dict.transport i3c).seg = some w → w.tick + 1000000 ≤ u.now →
    u.accessNow i3c w.index w.sub = false →
    Completes (.segmentIdleExpiry at_ i3c) s (fun t => (t.dict.transport i3c).seg = none ∧ t.dict.abandoned = u.dict.abandoned + 1
      ∧ (t.dict.transport (!i3c)) = u.dict.transport (!i3c) ∧ t = { u with dict := t.dict }) := by
  intro s at_ i3c w u hu hseg hidle haccess
  refine .of_effect (fun u => u.segmentIdle i3c) hu rfl ?_
  have hrun : u.segmentIdle i3c = u.mapDict (fun d => d.abandon i3c u.now) := by
    simp only [State.segmentIdle, hseg]
    rw [if_pos ⟨hidle, by simp [haccess]⟩]
  rw [hrun]
  refine ⟨DictSt.abandon_seg .., ?_, (DictSt.abandon_keeps ..).2, rfl⟩
  show (u.dict.abandon i3c u.now).abandoned = _
  simp only [DictSt.abandon, hseg]
  cases i3c <;> rfl

/-! ## I3C accesses -/

theorem i3cRead_completes :
    ∀ s at_ index sub r u v, u = s.advance at_ → v = u.begun true index sub → u.ServesI3c index → i3cReadable index sub = true →
    object? index sub = some r → r.type.size ≤ 32 → v.objectAbort index sub = 0 → r.right ≠ .wo →
    Completes (.i3cRead at_ index sub) s (fun t => t.dict.i3cReply = [2, 0, 0, 0, 0] ++ v.objOctets true index sub
      ∧ t.dict.i3c.abort = 0 ∧ t.dict.pcie = u.dict.pcie ∧ t = { u with dict := t.dict }) := by
  intro s at_ index sub r u v hu hv hserves hreadable hobj hsize habort hright
  refine .of_effect (fun u => u.i3cRead index sub) hu rfl ?_
  have hproc : i3cReadProc index sub v = (0, v.objOctets true index sub) := by
    rw [i3cReadProc, if_neg (by simp [hreadable, i3cTooLarge, hobj]; omega), if_neg (by simp [habort]),
      if_neg (by simp [hobj, hright])]
  rw [State.i3cRead_served sub hserves, ← hv, hproc, State.ctlAccess_of_not_tower _ _ (not_tower_of_i3cReadable hreadable)]
  subst hv
  dsimp only
  exact ⟨rfl, rfl, (u.dict.begin_leaves true u.now index sub).2, rfl⟩

theorem i3cRead_refused :
    ∀ s at_ index sub u, u = s.advance at_ → u.ServesI3c index → i3cReadable index sub = false →
    Completes (.i3cRead at_ index sub) s (fun t => t.dict.i3cReply = [3, 8, 0, 0, 1] ∧ t.dict.i3c.abort = 0x01000008
      ∧ t = { u with dict := t.dict }) := by
  intro s at_ index sub u hu hserves hreadable
  refine .of_effect (fun u => u.i3cRead index sub) hu rfl ?_
  have hproc : i3cReadProc index sub (u.begun true index sub) = (0x01000008, []) := by
    rw [i3cReadProc, if_pos (by simp [hreadable])]
  have hring : (u.begun true index sub).ctlAccess 6 index sub 0x01000008 = u.begun true index sub := by
    rw [State.ctlAccess, if_neg (fun h => by simp at h)]
  rw [State.i3cRead_served sub hserves, hproc, hring]
  exact ⟨rfl, rfl, rfl⟩

/-- The enable of in-band interrupts takes the word written (R558). -/
theorem i3cWriteProc_ibiEnable (s : State) {data : List Byte} (hlen : data.length = 4) : i3cWriteProc 0x1110 3 data s
    = (0, s.mapLog (fun l => { l with ibiEnable := BitVec.ofNat 32 (leNat data) })) := by
  obtain ⟨r, hobj, hsize, htype⟩ : ∃ r, object? 0x1110 3 = some r ∧ r.type.size = 4 ∧ r.type ≠ .bool := ⟨_, rfl, rfl, by decide⟩
  have hput : s.putObject true r.type 0x1110 3 data = (0, s.mapLog (fun l => { l with ibiEnable := BitVec.ofNat 32 (leNat data) })) := by
    rw [State.putObject]
    rw [if_neg (by simp [htype])]
    rfl
  rw [i3cWriteProc, if_neg (by rw [i3cTooLarge, hobj]; simp [hsize]; decide), hobj]
  simp only [hlen, hsize, ne_eq, not_true_eq_false, if_false, hput]

theorem i3cWrite_completes :
    ∀ s at_ data u, u = s.advance at_ → u.ServesI3c 0x1110 → data.length = 4 →
    Completes (.i3cWrite at_ 0x1110 3 data) s (fun t => t.dict.i3cReply = [2, 0, 0, 0, 0]
      ∧ t.log = { u.log with ibiEnable := BitVec.ofNat 32 (leNat data) } ∧ t = { u with dict := t.dict, log := t.log }) := by
  intro s at_ data u hu hserves hlen
  refine .of_effect (fun u => u.i3cWrite 0x1110 3 data) hu rfl ?_
  rw [State.i3cWrite_served hserves (i3cWriteProc_ibiEnable _ hlen)]
  exact ⟨rfl, rfl, rfl⟩

theorem i3cWrite_refused :
    ∀ s at_ index sub data u, u = s.advance at_ → u.ServesI3c index → i3cWritable index sub = false →
    Completes (.i3cWrite at_ index sub data) s (fun t => t.dict.i3cReply = [3, 8, 0, 0, 1] ∧ t = { u with dict := t.dict }) := by
  intro s at_ index sub data u hu hserves hwritable
  refine .of_effect (fun u => u.i3cWrite index sub data) hu rfl ?_
  rw [State.i3cWrite_served (code := 0x01000008) (v := u.begun true index sub) hserves
    (by rw [i3cWriteProc, if_pos (by simp [hwritable])])]
  exact ⟨rfl, rfl⟩

/-! ## CCCs (R558 to R560) -/

section Ccc
variable {s u : State} {at_ : Nat} (hu : u = s.advance at_) (hlive : u.i3cLive = true)
include hlive

theorem answered_completes {c : Instr} {bytes : List Byte} (haddr : u.dict.i3cAddr.isSome) (hexec : exec c s = .next (u.cccAnswer bytes)) :
    Completes c s (fun t => t = { u with dict := { u.dict with i3cReply := bytes } }) :=
  ⟨_, hexec, by rw [State.cccAnswer, if_pos (by simp [hlive, haddr])]; rfl⟩

include hu

theorem lengths_completes (haddr : u.dict.i3cAddr.isSome) :
    ∀ c n, (c, n) ∈ [(Instr.getpid at_, 6), (.getbcr at_, 1), (.getdcr at_, 1), (.getmwl at_, 2), (.getmrl at_, 3)] →
    Completes c s (fun t => t.dict.i3cReply.length = n ∧ t = { u with dict := t.dict }) := by
  intro c n hc
  have hanswer : ∃ bytes, exec c s = .next (u.cccAnswer bytes) ∧ bytes.length = n := by
    subst hu
    simp only [List.mem_cons, Prod.mk.injEq, List.not_mem_nil, or_false] at hc
    obtain ⟨rfl, rfl⟩ | ⟨rfl, rfl⟩ | ⟨rfl, rfl⟩ | ⟨rfl, rfl⟩ | ⟨rfl, rfl⟩ := hc <;> exact ⟨_, rfl, rfl⟩
  obtain ⟨bytes, hexec, hlen⟩ := hanswer
  obtain ⟨t, hstep, rfl⟩ := answered_completes hlive haddr hexec
  exact ⟨_, hstep, hlen, rfl⟩

/-- R559: the straps stand in the high half of the fifth byte of the PID. -/
theorem getpid_straps (haddr : u.dict.i3cAddr.isSome) :
    Completes (.getpid at_) s (fun t => (t.dict.i3cReply.getD 4 0).extractLsb' 4 4 = u.boot.straps) := by
  obtain ⟨t, hstep, rfl⟩ := answered_completes hlive haddr (c := .getpid at_) (bytes := u.pid) (by rw [hu]; rfl)
  refine ⟨_, hstep, ?_⟩
  show (u.boot.straps ++ ((i3cBytes 0 6).getD 4 0).extractLsb' 0 4).extractLsb' 4 4 = u.boot.straps
  exact BitVec.extractLsb'_append_eq_left

theorem getstatus_completes (haddr : u.dict.i3cAddr.isSome) :
    Completes (.getstatus at_) s (fun t => t.dict.i3cReply.length = 2 ∧ t = { u with dict := t.dict, freeCtr := u.freeCtr + 1 }) := by
  refine .of_effect (fun u => u.drawFree.2.cccAnswer (leBytes 2 u.drawFree.1.toNat)) hu rfl ?_
  have hlive' : u.drawFree.2.i3cLive = true := hlive
  have haddr' : u.drawFree.2.dict.i3cAddr.isSome := haddr
  rw [State.cccAnswer, if_pos (by simp [hlive', haddr'])]
  exact ⟨rfl, rfl⟩

end Ccc

theorem ccc_completes :
    ∀ s at_ u, u = s.advance at_ → u.i3cLive = true →
      (∀ a, u.dict.i3cAddr = none → Completes (.entdaa at_ a) s (fun t => t = { u with dict := { u.dict with i3cAddr := some a } }))
      ∧ Completes (.rstdaa at_) s (fun t => t = { u with dict := { u.dict with i3cAddr := none } })
      ∧ (∀ e, Completes (.enec at_ e) s (fun t => t = { u with log := { u.log with i3cEvents := u.log.i3cEvents ||| e } }))
      ∧ (∀ e, Completes (.disec at_ e) s (fun t => t = { u with log := { u.log with i3cEvents := u.log.i3cEvents &&& ~~~e } }))
      ∧ (u.dict.i3cAddr.isSome →
        (∀ c n, (c, n) ∈ [(Instr.getpid at_, 6), (.getbcr at_, 1), (.getdcr at_, 1), (.getmwl at_, 2), (.getmrl at_, 3)] →
          Completes c s (fun t => t.dict.i3cReply.length = n ∧ t = { u with dict := t.dict }))
        ∧ Completes (.getpid at_) s (fun t => (t.dict.i3cReply.getD 4 0).extractLsb' 4 4 = u.boot.straps)
        ∧ Completes (.getstatus at_) s (fun t => t.dict.i3cReply.length = 2 ∧ t = { u with dict := t.dict, freeCtr := u.freeCtr + 1 })) :=
          by
  intro s at_ u hu hlive
  refine ⟨fun a hnone => ?entdaa, ?rstdaa, fun e => ?enec, fun e => ?disec, fun haddr =>
    ⟨lengths_completes hu hlive haddr, getpid_straps hu hlive haddr, getstatus_completes hu hlive haddr⟩⟩
  all_goals refine ⟨_, rfl, ?_⟩; rw [← hu]
  case entdaa => rw [if_pos (by simp [hlive, hnone])]; rfl
  all_goals rw [if_pos hlive]; rfl

/-! ## The PCIe reset (R578) -/

theorem pePerstLFall_completes :
    ∀ s at_ u, u = s.advance at_ → u.dict.perst = true →
    Completes (.pePerstLFall at_) s (fun t => t.dict.perst = false ∧ t.dict.pcieUp = false ∧ t.dict.pcie.seg = none
      ∧ t.dict.i3c = u.dict.i3c ∧ t = { u with dict := t.dict }) := by
  intro s at_ u hu hperst
  refine ⟨_, rfl, ?_⟩
  rw [← hu, if_pos hperst]
  exact ⟨rfl, rfl, u.dict.abandon_seg false u.now, (u.dict.abandon_keeps false u.now).2, rfl⟩

theorem pePerstLRise_completes :
    ∀ s at_ u, u = s.advance at_ → u.dict.perst = false →
    Completes (.pePerstLRise at_) s (fun t => t.dict.perst = true ∧ t.log.vecP = 0 ∧ t.log.vecI = u.log.vecI ∧ t.dict.pcie.state = 0
      ∧ t.dict.pcie.sels = u.dict.pcie.sels ∧ (u.dead = false → 2 ≤ u.boot.layers → t.dict.pcieUp = true)
      ∧ t = { u with dict := t.dict, log := t.log }) := by
  intro s at_ u hu hperst
  refine ⟨_, rfl, ?_⟩
  rw [← hu, if_neg (by simp [hperst])]
  refine ⟨rfl, rfl, rfl, rfl, rfl, fun hdead hlayers => ?_, rfl⟩
  show (!u.dead && (decide (2 ≤ u.boot.layers) || u.boot.recovery)) = true
  simp [hdead, hlayers]

/-! ## Clears (R565) -/

theorem vectorClear_completes :
    ∀ s at_ bits u, u = s.advance at_ → u.Serves 0x1110 →
    Completes (.vectorClear at_ false bits) s (fun t => t.AccessDone ∧ t.log.vecI = u.log.vecI ∧ t.log.recs = u.log.recs
      ∧ (∀ v, v < 32 → t.log.vecP.getLsbD v = (u.log.vecP.getLsbD v
        && (!bits.getLsbD v || (kvHas u.log.raisedAt v && decide (kvGet u.log.raisedAt v 0 = u.now)))))
      ∧ t = { u with dict := t.dict, log := t.log }) := by
  intro s at_ bits u hu hserves
  refine .of_effect (fun u => u.pcieWrite 0x1110 2 (fun s => (0, s.clearVectors false bits))) hu rfl ?_
  rw [State.pcieWrite_served 2 _ hserves]
  dsimp only
  rw [State.clearVectors_eq]
  obtain ⟨hvecI, hrecs, hvec⟩ := LogSt.clearVectors_leaves u.now (u.begun false 0x1110 2).dict.pcieUp
    ((List.range 32).filter (fun v => bits.getLsbD v)) u.log
  refine ⟨by simp [State.AccessDone], hvecI, hrecs, fun v hv => (hvec v hv).trans ?_, rfl⟩
  simp [hv]

/-- Settles O55: each clause by the equation of its command, and the clear by induction on the vectors it names. -/
theorem transportCommandsComplete : Obligations.TransportCommandsComplete :=
  ⟨⟨serviceBoundExpiry_completes, segmentIdleExpiry_completes, i3cRead_completes, i3cRead_refused, i3cWrite_completes, i3cWrite_refused,
    ccc_completes, pePerstLFall_completes, pePerstLRise_completes⟩, vectorClear_completes⟩

end Sys2Proof.Proofs.Transports

/-!
The number that stands for the branch of a multicast beyond its own site is 31, and nothing of the model's state bounds the list of
towers below it: in a module of 32 towers the last one's own branch and the branch beyond it are one, and its packet is written there and
goes nowhere else. The clause on that branch bounds the site by the list alone.
-/
namespace Sys2Proof.Proofs.BranchOn

open Sys2Proof Sys2Proof.Machine

/-- A packet to every site. -/
def toAll : Packet := mkPacket false { type := 5, src := 0x20, dst := 0xFFFF, addr := 0, tag := 0 } []

/-- Towers of which each has the packet to every site waiting for the branch beyond it. -/
def branching : Tower := { Tower.fresh false with dieMcast := { McastStore.fresh with queues := [(branchOn, [toAll])] } }

/-- A module with 32 towers. -/
def manyTowers : State := { State.reset with towers := List.replicate 32 branching }

/-- What waits at tower 31 for site 0 after a command. -/
def waitingAfter (c : Instr) (s : State) : Option (List Packet) :=
  match exec c s with
  | .next t => some (kvGet (t.tower branchOn).mcast.queues 0 [])
  | .fault _ => none
  | .refused _ => none

theorem waitingAfter_next {c : Instr} {s t : State} (h : exec c s = .next t) :
    waitingAfter c s = some (kvGet (t.tower branchOn).mcast.queues 0 []) := by
  simp only [waitingAfter, h]

/-- Tower 31 takes the packet for its own copy, and none waits for site 0. -/
theorem waitingAfter_branchOn : waitingAfter (.multicastBranchSend 0 branchOn branchOn) manyTowers = some [] := by decide +kernel

/-- Refutes O20: where the list of towers reaches site 31, the number of the branch beyond a site, its packet to every site is not queued
for site 0. -/
theorem not_acknowledgementsReductionsAndCopies : ¬ Obligations.AcknowledgementsReductionsAndCopies := by
  intro h
  obtain ⟨-, -, -, -, -, -, -, hbranchOn, -⟩ := h
  obtain ⟨t, hexec, -, hqueued, -⟩ := hbranchOn manyTowers 0 branchOn toAll [] _ _ rfl rfl (by decide +kernel) (by decide +kernel)
    (by decide +kernel) (by decide +kernel) (by decide +kernel) (by decide +kernel) (by decide +kernel)
  have hwaits : kvGet (t.tower branchOn).mcast.queues 0 [] = [toAll] := hqueued 0 (by decide +kernel) (by decide)
  have hnone : kvGet (t.tower branchOn).mcast.queues 0 [] = [] :=
    Option.some.inj ((waitingAfter_next hexec).symm.trans waitingAfter_branchOn)
  rw [hnone] at hwaits
  exact absurd hwaits (by decide)

end Sys2Proof.Proofs.BranchOn

/-!
Control packets, the sync tree and the links of a die (chapter 07): packets of Table NS-3 reach their stop (R198, R199), arrivals are
counted at the root (R201 to R203), links retry and go out (R206, R207), and a ring is travelled the shorter way (R195).
-/
namespace Sys2Proof.Proofs.ControlPackets

open Sys2Proof Sys2Proof.Machine

section
variable {s u : State} {at_ t : Nat}

/-! ## Packets of the control ring -/

theorem packet_completes {p : CtlPacket} {type : Nat} {c : Instr} (hu : u = s.advance at_) (h : s.ctlOf t type p = true)
    (hexec : exec c s = .next (if s.ctlOf t type p then (s.advance at_).ctlArrives t p else s.advance at_)) :
    Completes c s (fun w => w = { u with ctl := u.ctl ++ [(t, p)] }) := by
  rw [if_pos h] at hexec
  exact .of_effect (fun u => u.ctlArrives t p) hu hexec rfl

theorem chunkIssuePacket_completes :
    ∀ s at_ t p u, u = s.advance at_ → s.ctlOf t 2 p = true →
    Completes (.chunkIssuePacket at_ t p) s (fun w => w = { u with ctl := u.ctl ++ [(t, p)] }) :=
  fun _ _ _ _ _ hu h => packet_completes hu h rfl

theorem poisonNotice_completes :
    ∀ s at_ t p u, u = s.advance at_ → s.ctlOf t 5 p = true →
    Completes (.poisonNotice at_ t p) s (fun w => w = { u with ctl := u.ctl ++ [(t, p)] }) :=
  fun _ _ _ _ _ hu h => packet_completes hu h rfl

theorem fence_completes :
    ∀ s at_ t p u, u = s.advance at_ → s.ctlOf t 4 p = true →
    Completes (.fence at_ t p) s (fun w => w = { u with ctl := u.ctl ++ [(t, p)] }) :=
  fun _ _ _ _ _ hu h => packet_completes hu h rfl

/-- R515: an event of a class that is not masked raises its vector in both copies. -/
theorem raiseEvent_raises (s : State) {c : Nat} (hc : c < 16) (hmask : s.log.mask.getLsbD c = true) (hsev : s.log.minSev ≤ 2) :
    (s.raiseEvent c).log.vecP.getLsbD c = true ∧ (s.raiseEvent c).log.vecI.getLsbD c = true := by
  have hraise : (s.raiseEvent c).log = s.log.raise c s.now s.dict.pcieUp := if_pos (by simp [hmask, hsev])
  have hbit : ∀ v : BitVec 32, (v ||| (1#32 <<< c)).getLsbD c = true := by
    intro v
    simp [show c < 32 by omega]
  rw [hraise]
  exact ⟨hbit _, hbit _⟩

theorem towerEvent_completes :
    ∀ s at_ t p u, u = s.advance at_ → s.ctlOf t 9 p = true → u.log.mask.getLsbD 2 = true → u.log.minSev ≤ 2 →
    Completes (.towerEvent at_ t p) s (fun w => w = { u with ctl := u.ctl ++ [(t, p)], log := w.log } ∧ w.log.vecP.getLsbD 2 = true
      ∧ w.log.vecI.getLsbD 2 = true ∧ w.log.recs = u.log.recs) := by
  intro s at_ t p u hu h hmask hsev
  refine .of_effect (fun u => (u.ctlArrives t p).raiseEvent 2) hu (congrArg Host.Outcome.next (if_pos h)) ?_
  obtain ⟨hvecP, hvecI⟩ := raiseEvent_raises (u.ctlArrives t p) (c := 2) (by decide) hmask hsev
  exact ⟨rfl, hvecP, hvecI, LogSt.raiseClass_recs ..⟩

/-! ## Arrivals at the sync-object store (R201, R202) -/

/-- What a change of the operators of one number leaves at the first of them. -/
theorem find?_mapOp (s : State) {t id : Nat} {f : OpInst → OpInst} {o : OpInst} (ht : t < s.towers.length) (hf : ∀ o, (f o).id = o.id)
    (ho : (s.tower t).ops.find? (fun k => k.id == id) = some o) :
    ((s.mapOp t id f).tower t).ops.find? (fun k => k.id == id) = some (f o) := by
  have hid : o.id = id := by simpa using List.find?_some ho
  have hsame : ∀ k : OpInst, ((fun k : OpInst => k.id == id) ∘ fun k => if k.id == id then f k else k) k = (k.id == id) := by
    intro k
    dsimp only [Function.comp_apply]
    split
    · rw [hf]
    · rfl
  rw [State.mapOp, State.tower_mapTower _ _ _ _ ht, if_pos rfl]
  dsimp only [modWhere]
  rw [List.find?_map, funext hsame, ho, Option.map_some, if_pos (by simp [hid])]

/-- R202: an operator whose arrivals or acknowledgements are not all in does not complete. -/
theorem tryComplete_of_waiting {s : State} {t id : Nat} {o : OpInst} (ho : (s.tower t).ops.find? (fun k => k.id == id) = some o)
    (hwaits : o.tree < o.chunks ∨ o.unacked ≠ 0) : s.tryComplete t id = s := by
  rw [State.tryComplete, ho]
  exact if_neg fun ⟨_, _, hchunks, hunacked, _⟩ => hwaits.elim (fun h => absurd hchunks (by omega)) (· hunacked)

theorem settleRecord_of_held {s : State} {t slot : Nat} (h : ∀ r ∈ (s.tower t).records, r.withdrawn = false) :
    s.settleRecord t slot = s := by
  rw [State.settleRecord]
  split
  next => rfl
  next r hr => rw [h r (List.mem_of_find?_eq_some hr)]; rfl

/-- An operator that goes on waiting keeps what `f` makes of it, once the scheduler has looked. -/
theorem mapOp_waiting (s : State) {t : Nat} {f : OpInst → OpInst} {o : OpInst} {slot : Nat} (ht : t < s.towers.length)
    (hf : ∀ o, (f o).id = o.id) (ho : (s.tower t).ops.find? (fun k => k.id == o.id) = some o)
    (hheld : ∀ r ∈ (s.tower t).records, r.withdrawn = false) (hwaits : (f o).tree < (f o).chunks ∨ (f o).unacked ≠ 0) :
    Schedules t (s.mapOp t o.id f) ((((s.mapOp t o.id f).tryComplete t o.id).settleRecord t slot).schedule t)
    ∧ ∃ q, (((((s.mapOp t o.id f).tryComplete t o.id).settleRecord t slot).schedule t).tower t).ops.find? (fun k => k.id == o.id) = some q
      ∧ q.unscheduled = (f o).unscheduled := by
  have hfound := find?_mapOp s ht hf ho
  have hrecords : ((s.mapOp t o.id f).tower t).records = (s.tower t).records := by
    rw [State.mapOp, State.tower_mapTower _ _ _ _ ht, if_pos rfl]
  rw [tryComplete_of_waiting hfound hwaits, settleRecord_of_held (by rw [hrecords]; exact hheld)]
  have hschedules := Schedules.schedule (s.mapOp t o.id f) t
  refine ⟨hschedules, ?_⟩
  have hkept := hschedules.tower.find? (p := fun k => k.id == o.id) (fun _ => rfl)
  rw [hfound, Option.map_some] at hkept
  exact Option.map_eq_some_iff.mp hkept

/-- An operator with the arrivals of these messages counted. -/
def withArrivals (n : Nat) (msgs : List (BitVec 64)) (o : OpInst) : OpInst :=
  { o with tree := o.tree + n, flags := msgs.foldl (fun f q => f ||| BitVec.ofNat 8 (field q.toNat 55 48)) o.flags }

/-- What a message of the sync tree leaves at the root: its arrivals are taken and counted for their operator. -/
theorem arrivals_counted {m : BitVec 64} {o : OpInst} {n : Nat} {g : List (BitVec 64) × List (BitVec 64)} (ht : t < u.towers.length)
    (htype : field m.toNat 1 0 = 1) (hn : n = field m.toNat 47 32) (hpos : 1 ≤ n) (hg : g = takeMatching (sameArrival m) n (u.tower t).tree)
    (hlen : g.1.length = n) (hop : (u.tower t).ops.find? (fun o => o.slot == field m.toNat 15 8 && o.desc == field m.toNat 31 16) = some o)
    (hid : (u.tower t).ops.find? (fun k => k.id == o.id) = some o) (hheld : ∀ r ∈ (u.tower t).records, r.withdrawn = false)
    (hmore : o.tree + n < o.chunks) :
    ((u.arrivals t m).tower t).tree = g.2
    ∧ (∃ q, ((u.arrivals t m).tower t).ops.find? (fun k => k.id == o.id) = some q ∧ q.tree = o.tree + n
      ∧ q.flags = g.1.foldl (fun f q => f ||| BitVec.ofNat 8 (field q.toNat 55 48)) o.flags)
    ∧ SameMemory u (u.arrivals t m) ∧ OtherTowersSame t u (u.arrivals t m) ∧ (u.arrivals t m).ctl = u.ctl := by
  obtain ⟨s, hs⟩ : ∃ s, s = u.mapTower t (fun x => { x with tree := g.2 }) := ⟨_, rfl⟩
  have htaken : s.tower t = { u.tower t with tree := g.2 } := by
    rw [hs, State.tower_mapTower _ _ _ _ ht, if_pos rfl]
  have hlength : t < s.towers.length := by
    rw [hs, State.towers_mapTower, modAt_length]; exact ht
  have hrun : u.arrivals t m = (((s.mapOp t o.id (withArrivals n g.1)).tryComplete t o.id).settleRecord t o.slot).schedule t := by
    have hfind : (s.tower t).ops.find? (fun o => o.slot == field m.toNat 15 8 && o.desc == field m.toNat 31 16) = some o := by
      rw [htaken]; exact hop
    rw [hs] at hfind ⊢
    rw [State.arrivals]
    dsimp only
    rw [← hn, ← hg, if_neg (by omega), hfind]
    rfl
  obtain ⟨hschedules, q, hfound, hq⟩ := mapOp_waiting (o := o) (slot := o.slot) (f := withArrivals n g.1) s hlength (fun _ => rfl)
    (by rw [htaken]; exact hid) (by rw [htaken]; exact hheld) (.inl hmore)
  rw [hrun]
  refine ⟨?_, ⟨q, hfound, congrArg OpInst.tree hq, congrArg OpInst.flags hq⟩, .of_mem (hschedules.mem.trans (by rw [hs]; rfl)), ?_, ?_⟩
  · obtain ⟨⟨_, _, _, _, _, hframe⟩, -⟩ := hschedules.tower
    rw [hframe, State.mapOp, State.tower_mapTower _ _ _ _ hlength, if_pos rfl, htaken]
  · rw [hs] at hschedules ⊢
    exact ((OtherTowersSame.of_modAt rfl).trans (.of_modAt rfl)).trans hschedules.others
  · obtain ⟨_, _, _, _, hframe⟩ := hschedules.frame
    rw [hframe, hs]
    rfl

end

theorem chunkArrival_tree :
    ∀ s at_ t m o u n g, u = s.advance at_ → t < 16 → t < u.towers.length → field m.toNat 1 0 = 1 → n = field m.toNat 47 32 → 1 ≤ n →
    g = takeMatching (sameArrival m) n (u.tower t).tree → g.1.length = n →
    (u.tower t).ops.find? (fun o => o.slot == field m.toNat 15 8 && o.desc == field m.toNat 31 16) = some o →
    (u.tower t).ops.find? (fun k => k.id == o.id) = some o → (∀ r ∈ (u.tower t).records, r.withdrawn = false) →
    o.tree + n < o.chunks → o.cut = true →
    Completes (.chunkArrival at_ t (.tree m)) s (fun w => (w.tower t).tree = g.2
      ∧ (∃ q, (w.tower t).ops.find? (fun k => k.id == o.id) = some q ∧ q.tree = o.tree + n
        ∧ q.flags = g.1.foldl (fun f q => f ||| BitVec.ofNat 8 (field q.toNat 55 48)) o.flags)
      ∧ SameMemory u w ∧ OtherTowersSame t u w) := by
  intro s at_ t m o u n g hu htower ht htype hn hpos hg hlen hop hid hheld hmore _
  refine .of_effect (fun u => u.chunkArrival t (.tree m)) hu rfl ?_
  have hrun : u.chunkArrival t (.tree m) = u.arrivals t m := if_pos htower
  rw [hrun]
  obtain ⟨htree, hcount, hmem, hothers, -⟩ := arrivals_counted ht htype hn hpos hg hlen hop hid hheld hmore
  exact ⟨htree, hcount, hmem, hothers⟩

theorem chunkArrival_control :
    ∀ s at_ t p m o u n g, u = s.advance at_ → 16 ≤ t → t < u.towers.length → u.ctlOf t 0xA p = true → m = p.arg → n = 1 →
    field m.toNat 1 0 = 1 → n = field m.toNat 47 32 →
    g = takeMatching (sameArrival m) n (u.tower t).tree → g.1.length = n →
    (u.tower t).ops.find? (fun o => o.slot == field m.toNat 15 8 && o.desc == field m.toNat 31 16) = some o →
    (u.tower t).ops.find? (fun k => k.id == o.id) = some o → (∀ r ∈ (u.tower t).records, r.withdrawn = false) →
    o.tree + n < o.chunks → o.cut = true →
    Completes (.chunkArrival at_ t (.control p)) s (fun w => (w.tower t).tree = g.2
      ∧ (∃ q, (w.tower t).ops.find? (fun k => k.id == o.id) = some q ∧ q.tree = o.tree + n
        ∧ q.flags = g.1.foldl (fun f q => f ||| BitVec.ofNat 8 (field q.toNat 55 48)) o.flags)
      ∧ SameMemory u w ∧ OtherTowersSame t u w
      ∧ w.ctl = u.ctl ++ [(t, p)]) := by
  intro s at_ t p m o u n g hu hcache ht hctl hm hone htype hn hg hlen hop hid hheld hmore _
  refine .of_effect (fun u => u.chunkArrival t (.control p)) hu rfl ?_
  have hrun : u.chunkArrival t (.control p) = (u.ctlArrives t p).arrivals t m := by
    subst hm
    exact if_pos ⟨hcache, hctl, hn.symm.trans hone⟩
  rw [hrun]
  exact arrivals_counted (u := u.ctlArrives t p) ht htype hn (by omega) hg hlen hop hid hheld hmore

theorem regionBarrierArrival_completes :
    ∀ s at_ t r k q u, u = s.advance at_ → t < 16 → t < u.towers.length → (u.tower t).barrier.1 = k →
    q < (u.tower t).regions.length → (∀ g, (u.tower t).regions[q]? = some g → g.st ≠ .lost) → q ≠ r → q ∉ (u.tower t).barrier.2 →
    Completes (.regionBarrierArrival at_ t r k) s (fun w => (w.tower t).barrier = (k, insertNat (u.tower t).barrier.2 r)
      ∧ OtherTowersSame t u w) := by
  intro s at_ t r k q u hu htower ht hk hq hserves hqr hqnone
  refine .of_effect (fun u => u.mapTower t (fun x => x.barrierArrival r k)) hu (congrArg Host.Outcome.next (if_pos htower)) ?_
  have hopen : ¬((u.tower t).regions.zipIdx.all (fun g => g.1.st == .lost || (insertNat (u.tower t).barrier.2 r).contains g.2)) = true := by
    intro hall
    have hq' := List.all_eq_true.mp hall ((u.tower t).regions[q], q) (by simp [List.mem_zipIdx_iff_getElem?, hq])
    have hst := hserves _ (List.getElem?_eq_getElem hq)
    simp [hst, hqr, hqnone] at hq'
  rw [State.tower_mapTower _ _ _ _ ht, if_pos rfl, Tower.barrierArrival]
  refine ⟨?_, .of_modAt rfl⟩
  simp only [hk, if_true, if_neg hopen]

/-! ## Links of a die (R206, R207) -/

theorem retry_good :
    ∀ s at_ t link fixed u, u = s.advance at_ → t < u.towers.length → link ∉ (u.tower t).linksOut →
    linkExists (u.tower t).isCache link = true →
    Completes (.ondieLinkRetry at_ t ⟨link, fixed⟩ true) s (fun w => (w.tower t).linkRetries = (u.tower t).linkRetries + 1
      ∧ (w.tower t).flitsFixed = (u.tower t).flitsFixed + fixed
      ∧ kvGet (w.tower t).linkFails link 0 = 0 ∧ w.log = u.log ∧ OtherTowersSame t u w) := by
  intro s at_ t link fixed u hu ht hin hexists
  refine .of_effect (fun u => u.linkRetry t link fixed true) hu rfl ?_
  have hrun : u.linkRetry t link fixed true = u.mapTower t (fun x =>
      { x with linkRetries := x.linkRetries + 1, flitsFixed := x.flitsFixed + fixed, linkFails := kvSet x.linkFails link 0 }) := by
    rw [State.linkRetry, if_neg (by simp [hin, hexists]; omega)]
    rfl
  rw [hrun, State.tower_mapTower _ _ _ _ ht, if_pos rfl]
  exact ⟨rfl, rfl, by simp [kvGet_kvSet], rfl, .of_modAt rfl⟩

theorem retry_fourth :
    ∀ s at_ t link fixed u, u = s.advance at_ → t < u.towers.length → 256 ≤ link → link ∉ (u.tower t).linksOut →
    linkExists (u.tower t).isCache link = true → kvGet (u.tower t).linkFails link 0 = 3 →
    Completes (.ondieLinkRetry at_ t ⟨link, fixed⟩ false) s (fun w => link ∈ (w.tower t).linksOut ∧ w.log.count = u.log.count + 1
      ∧ (w.tower t).mode = (u.tower t).mode ∧ OtherTowersSame t u w) := by
  intro s at_ t link fixed u hu ht htree hin hexists hthree
  refine .of_effect (fun u => u.linkRetry t link fixed false) hu rfl ?_
  have hrun : u.linkRetry t link fixed false = ((u.mapTower t (fun x =>
      { x with linkRetries := x.linkRetries + 1, flitsFixed := x.flitsFixed + fixed, linkFails := kvSet x.linkFails link 4 })).mapTower t
      (fun x => { x with linksOut := insertNat x.linksOut link })).logEv 0x0301 sevLogged t := by
    rw [State.linkRetry, if_neg (by simp [hin, hexists]; omega)]
    simp only [Bool.false_eq_true, if_false, hthree, Nat.lt_irrefl]
    exact if_neg fun h => absurd h.1 (by omega)
  rw [hrun, State.tower_logEv, State.tower_mapTower _ _ _ _ (by rw [State.towers_mapTower, modAt_length]; exact ht), if_pos rfl,
    State.tower_mapTower _ _ _ _ ht, if_pos rfl]
  exact ⟨RegionBarrier.mem_insertNat.mpr (.inl rfl), State.logEv_count .., rfl, (OtherTowersSame.of_modAt rfl).trans (.of_modAt rfl)⟩

/-! ## Rings (R195) -/

/-- The links of one direction are the even ones, those of the other the odd ones. -/
theorem link_mod_two (g : Ring) (up : Bool) (k : Nat) : g.link up k % 2 = if up then 0 else 1 := by
  cases up with
  | true => exact Nat.mul_mod_right ..
  | false => exact Nat.mul_add_mod ..

theorem mem_way_mod_two {g : Ring} {up : Bool} {a b l : Nat} (h : l ∈ g.way up a b) : l % 2 = if up then 0 else 1 := by
  obtain ⟨i, -, rfl⟩ := List.mem_map.mp h
  exact link_mod_two ..

theorem path_shorter (g : Ring) (a b : Nat) : (g.path [] a b).length = min (g.hops true a b) (g.hops false a b) := by
  have hpath : g.path [] a b = g.way (g.shorter a b) a b := if_neg (by simp)
  rw [hpath, Ring.way, List.length_map, List.length_range]
  by_cases h : g.hops true a b ≤ g.hops false a b
  · rw [Ring.shorter, decide_eq_true h, Nat.min_eq_left h]
  · rw [Ring.shorter, decide_eq_false h, Nat.min_eq_right (by omega)]

/-- R207: a link that is out is not on the way taken: the two ways share none. -/
theorem path_avoids (g : Ring) (a b link : Nat) : link ∉ g.path [link] a b := by
  rw [Ring.path]
  split
  next hout =>
    intro hmem
    obtain ⟨l, hl, hlink⟩ := List.any_eq_true.mp hout
    rw [List.contains_iff_mem, List.mem_singleton] at hlink
    subst hlink
    have hone := mem_way_mod_two hl
    rw [mem_way_mod_two hmem] at hone
    cases hway : g.shorter a b <;> simp [hway] at hone
  next hclear =>
    intro hmem
    exact hclear (List.any_eq_true.mpr ⟨link, hmem, by simp⟩)

/-- Settles O21: each clause by the equation of its command, arrivals by what the operator that goes on waiting keeps, and the ring by the
parity of its links. -/
theorem controlPacketsAndTreeComplete : Obligations.ControlPacketsAndTreeComplete :=
  ⟨chunkIssuePacket_completes, poisonNotice_completes, fence_completes, towerEvent_completes, chunkArrival_tree, chunkArrival_control,
    regionBarrierArrival_completes, retry_good, retry_fourth, path_shorter, path_avoids⟩

end Sys2Proof.Proofs.ControlPackets

/-!
Synchronisation objects (chapter 07): signals, watches and notices, the messages of reductions, and the host's accesses (R214 to R219).
-/
namespace Sys2Proof.Proofs.SyncCommands

open Sys2Proof Sys2Proof.Machine Sys2Proof.Proofs.BulkTraffic Sys2Proof.Proofs.ControlPackets

/-! ## Messages (Table SO-2) -/

/-- The type and the sender of a message are those that it was made with. -/
theorem syncMsg_fields (type src dst index gen value mask : Nat) :
    msgType (syncMsg type src dst index gen value mask) = type % 16 ∧ msgSrc (syncMsg type src dst index gen value mask) = src % 32 := by
  have hnat : (syncMsg type src dst index gen value mask).toNat = type % 16 + src % 32 * 2 ^ 4 + dst % 32 * 2 ^ 9 + index % 8192 * 2 ^ 14
      + gen % 256 * 2 ^ 27 + value % 2 ^ 32 * 2 ^ 64 + mask % 2 ^ 23 * 2 ^ 96 := by
    rw [syncMsg, BitVec.toNat_ofNat]
    exact Nat.mod_eq_of_lt (by omega)
  simp only [msgType, msgSrc, field, hnat, Nat.shiftRight_eq_div_pow]
  exact ⟨by omega, by omega⟩

theorem msgSites_of_one {m : BitVec 128} (h : msgDst m < 20) : msgSites m = [msgDst m] := if_neg (by omega)

/-- A message comes out of its buffers, and nothing else changes (R227). -/
theorem syncTaken_eq (s : State) (m : BitVec 128) : ∃ rxs lines, s.syncTaken m = carrying s rxs lines := by
  unfold State.syncTaken
  refine foldl_keeps (fun t => ∃ rxs lines, t = carrying s rxs lines) _ _ _ ⟨s.rxs, s.lines, rfl⟩ ?_
  rintro t d - ⟨rxs, lines, rfl⟩
  obtain ⟨rxs', lines', h, -⟩ := handOff_eq (carrying s rxs lines) (msgSrc m) d (Carried.isControl (controlUnit (msgSrc m) d m))
  exact ⟨rxs', lines', h⟩

theorem completes_of_taken {c : Instr} {s u : State} {at_ : Nat} {m : BitVec 128} {P : State → Prop} (f : State → State)
    (hu : u = s.advance at_) (hexec : exec c s = .next (f ((s.advance at_).syncTaken m)))
    (h : ∀ rxs lines, P (f (carrying u rxs lines))) : Completes c s P := by
  obtain ⟨rxs, lines, htaken⟩ := syncTaken_eq (s.advance at_) m
  exact ⟨_, hexec, by rw [htaken, ← hu]; exact h rxs lines⟩

theorem guestSync_of_site {s : State} {m : BitVec 128} {ops : Nat} (h : msgSrc m < 21) : s.guestSync m ops = (true, s) := if_pos h

/-! ## Objects -/

/-- Notices to those that watch an object leave the towers but for the count of notices. -/
theorem notifySubs_tower (s : State) (t i : Nat) (again : Bool) (k : Nat) :
    ∃ n, (s.notifySubs t i again).tower k = { s.tower k with noticesSent := n } := by
  unfold State.notifySubs
  generalize syncMsg 4 t 0x1F i ((s.tower t).objGen i) ((s.tower t).syncObj i).value ((s.tower t).syncObj i).subs.toNat = m
  dsimp only
  split
  · exact ⟨(s.tower k).noticesSent, rfl⟩
  · split
    · exact ⟨(s.tower k).noticesSent, rfl⟩
    · rw [State.tower_mapTower_if, State.tower_congr (State.sendSync_towers ..), State.tower_congr (State.sendSync_towers ..)]
      split
      next h => rw [h.1]; exact ⟨(s.tower t).noticesSent + 1, rfl⟩
      next => exact ⟨(s.tower k).noticesSent, rfl⟩

theorem notifySubs_syncObj (s : State) (t i : Nat) (again : Bool) (k j : Nat) :
    ((s.notifySubs t i again).tower k).syncObj j = (s.tower k).syncObj j := by
  obtain ⟨n, h⟩ := notifySubs_tower s t i again k
  rw [h]
  rfl

/-- R215: increments of one tick add up to the value at its start, and the sum saturates. -/
theorem add_value {o : SyncObj} {now inc : Nat}
    (h : o.tick = some now → o.hostWrote = false ∧ o.value = min 0xFFFFFFFF (o.base + o.sum)) :
    (o.add now inc).value = min 0xFFFFFFFF (o.value + inc) := by
  simp only [SyncObj.add, SyncObj.start, SyncObj.soFar, SyncObj.changed]
  by_cases htick : o.tick = some now
  · obtain ⟨hhost, hvalue⟩ := h htick
    simp only [htick, beq_self_eq_true, hhost, Bool.and_false, Bool.false_eq_true, if_false, if_true, hvalue]
    omega
  · have hother : (o.tick == some now) = false := beq_false_of_ne htick
    simp [hother]

theorem signalObj_value {s : State} {t i inc : Nat} (ht : t < s.towers.length) (hzero : s.zeroesNow t i = false)
    (hsum : ((s.tower t).syncObj i).tick = some s.now → ((s.tower t).syncObj i).hostWrote = false
      ∧ ((s.tower t).syncObj i).value = min 0xFFFFFFFF (((s.tower t).syncObj i).base + ((s.tower t).syncObj i).sum)) :
    (((s.signalObj t i inc).tower t).syncObj i).value = min 0xFFFFFFFF (((s.tower t).syncObj i).value + inc) := by
  have hnow : s.syncNow t i = (s.tower t).syncObj i := if_neg (by simp [hzero])
  have hset : ∀ (x : Tower) (o : SyncObj), x.sync = kvSet (s.tower t).sync i o → x.syncObj i = o := by
    intro x o hx
    rw [Tower.syncObj, hx, kvGet_kvSet, if_pos rfl]
  rw [← add_value hsum]
  unfold State.signalObj
  dsimp only
  rw [notifySubs_syncObj, hnow]
  refine congrArg SyncObj.value (hset _ _ ?_)
  split
  · rw [State.tower_logEv, State.tower_mapTower _ _ _ _ ht, if_pos rfl]
  · rw [State.tower_mapTower _ _ _ _ ht, if_pos rfl]

theorem writeObj_value {s : State} {t i v : Nat} (ht : t < s.towers.length) : (((s.writeObj t i v).tower t).syncObj i).value = v := by
  unfold State.writeObj
  dsimp only
  rw [notifySubs_syncObj, State.tower_mapTower _ _ _ _ ht, if_pos rfl, Tower.syncObj, kvGet_kvSet, if_pos rfl]

/-! ## Signals, watches and notices (R214 to R217) -/

theorem signal_completes :
    ∀ s at_ m u d, u = s.advance at_ → d = msgDst m → d < 16 → d < u.towers.length → u.siteFenced d = false → msgSrc m < 21 →
    (((u.tower d).syncObj (msgIndex m)).tick = some u.now → ((u.tower d).syncObj (msgIndex m)).hostWrote = false
      ∧ ((u.tower d).syncObj (msgIndex m)).value =
          min 0xFFFFFFFF (((u.tower d).syncObj (msgIndex m)).base + ((u.tower d).syncObj (msgIndex m)).sum)) →
    u.zeroesNow d (msgIndex m) = false →
    Completes (.signal at_ m) s (fun t =>
      ((t.tower d).syncObj (msgIndex m)).value = min 0xFFFFFFFF (((u.tower d).syncObj (msgIndex m)).value + msgValue m)
      ∧ t.syncOut.getLast? = some (syncMsg 2 d (msgSrc m) (msgIndex m) (msgGen m) 0 0)) := by
  intro s at_ m u d hu hd hcompute htowers hfence hsrc hsum hzero
  refine completes_of_taken (m := m) (fun s => if (s.guestSync m 6).1 then (s.guestSync m 6).2.signalMsg m
    else (s.guestSync m 6).2.signalDropped m) hu rfl fun rxs lines => ?_
  have hrun : (carrying u rxs lines).signalMsg m = (((carrying u rxs lines).signalObj d (msgIndex m) (msgValue m)).schedule d).sendSync
      (syncMsg 2 d (msgSrc m) (msgIndex m) (msgGen m) 0 0) := by
    subst hd
    have hfence' : (carrying u rxs lines).siteFenced (msgDst m) = false := hfence
    rw [State.signalMsg]
    simp only [hfence', Bool.false_eq_true, or_false, if_neg (Nat.not_le.mpr hcompute)]
  simp only [guestSync_of_site hsrc, if_true, hrun]
  refine ⟨?_, ?_⟩
  · have hvalue := signalObj_value (s := carrying u rxs lines) (t := d) (i := msgIndex m) (inc := msgValue m) htowers hzero hsum
    rw [State.tower_congr (State.sendSync_towers ..), (Schedules.schedule _ d).tower.syncObj]
    exact hvalue
  · have hpasses : fencePasses (syncMsg 2 d (msgSrc m) (msgIndex m) (msgGen m) 0 0) = true := by
      rw [fencePasses, (syncMsg_fields ..).1]
      rfl
    rw [State.sendSync_syncOut, hpasses, if_neg (by simp), List.getLast?_concat]

theorem signalAcknowledgement_completes :
    ∀ s at_ m u d slot r, u = s.advance at_ → d = msgDst m → d < u.towers.length →
    (u.tower d).awaits (msgSrc m) (msgIndex m) = some slot → (u.tower d).record? slot = some r →
    Completes (.signalAcknowledgement at_ m) s (fun t => (t.tower d).signalsSent = (u.tower d).signalsSent + 1
      ∧ (t.tower d).record? slot = some { r with unacked := r.unacked - 1 }
      ∧ (t.tower d).signalsOut.length + 1 = (u.tower d).signalsOut.length ∧ OtherTowersSame d u t) := by
  intro s at_ m u d slot r hu hd htowers hawaits hrecord
  refine completes_of_taken (m := m) (·.signalAcked m) hu rfl fun rxs lines => ?_
  subst hd
  have hawaits' : ((carrying u rxs lines).tower (msgDst m)).awaits (msgSrc m) (msgIndex m) = some slot := hawaits
  have htowers' : msgDst m < (carrying u rxs lines).towers.length := htowers
  simp only [State.signalAcked, hawaits']
  rw [State.tower_mapTower _ _ _ _ htowers', if_pos rfl]
  refine ⟨rfl, ?_, ?_, .of_modAt rfl⟩
  · have hslot : ∀ q : ActRec, ((fun q : ActRec => q.slot == slot) ∘ fun q => if q.slot == slot then { q with unacked :=
      q.unacked - 1 } else q) q
        = (q.slot == slot) := by
      intro q
      dsimp only [Function.comp_apply]
      split <;> rfl
    have hself : (r.slot == slot) = true := List.find?_some (p := fun q : ActRec => q.slot == slot) hrecord
    show ((u.tower (msgDst m)).records.map _).find? _ = _
    rw [List.find?_map, funext hslot, show List.find? _ (u.tower (msgDst m)).records = some r from hrecord, Option.map_some, if_pos hself]
  · obtain ⟨g, hg, -⟩ := Option.map_eq_some_iff.mp hawaits
    have hpos := List.length_pos_of_mem (List.mem_of_find?_eq_some hg)
    show (List.eraseP _ (u.tower (msgDst m)).signalsOut).length + 1 = _
    rw [List.length_eraseP_of_mem (List.mem_of_find?_eq_some hg) (List.find?_some hg)]
    omega

/-- The module once a site watches an object of a tower. -/
def watched (s : State) (t site i : Nat) : State :=
  s.mapTower t (fun x => { x with
    sync := kvSet x.sync i { (s.tower t).syncObj i with subs := ((s.tower t).syncObj i).subs ||| (1#23 <<< site) }
    noticesSent := x.noticesSent + 1 })

section Watched
variable {s : State} {t site i : Nat} (ht : t < s.towers.length)
include ht

theorem watched_syncObj : ((watched s t site i).tower t).syncObj i
    = { (s.tower t).syncObj i with subs := ((s.tower t).syncObj i).subs ||| (1#23 <<< site) } := by
  rw [watched, State.tower_mapTower _ _ _ _ ht, if_pos rfl, Tower.syncObj, kvGet_kvSet, if_pos rfl]

theorem watched_objGen : ((watched s t site i).tower t).objGen i = (s.tower t).objGen i := by
  rw [watched, State.tower_mapTower _ _ _ _ ht, if_pos rfl, Tower.objGen, Tower.objGen]

theorem watched_siteFenced (hsite : t < 20) : (watched s t site i).siteFenced t = s.siteFenced t := by
  rw [State.siteFenced, if_pos hsite, State.siteFenced, if_pos hsite, watched, State.tower_mapTower _ _ _ _ ht, if_pos rfl]

/-- R216: a watch is answered with the object's value. -/
theorem watchMsg_eq {m : BitVec 128} (hm : msgDst m = t) (hcompute : t < 16) (hfence : s.siteFenced t = false) :
    s.watchMsg m = (watched s t (msgSrc m) (msgIndex m)).sendSync (syncMsg 4 t (msgSrc m) (msgIndex m)
      ((s.tower t).objGen (msgIndex m)) ((s.tower t).syncObj (msgIndex m)).value (2 ^ msgSrc m)) := by
  subst hm
  rw [← watched_objGen (site := msgSrc m) ht, State.watchMsg]
  simp only [hfence, Bool.false_eq_true, or_false, if_neg (Nat.not_le.mpr hcompute)]
  rw [watched]

end Watched

theorem watch_completes :
    ∀ s at_ m u d, u = s.advance at_ → d = msgDst m → d < 16 → d < u.towers.length → u.siteFenced d = false → msgSrc m < 21 →
    Completes (.watch at_ m) s (fun t => ((t.tower d).syncObj (msgIndex m)).subs.getLsbD (msgSrc m) = true
      ∧ ((t.tower d).syncObj (msgIndex m)).value = ((u.tower d).syncObj (msgIndex m)).value
      ∧ t.syncOut = u.syncOut ++ [syncMsg 4 d (msgSrc m) (msgIndex m) ((u.tower d).objGen (msgIndex m))
          ((u.tower d).syncObj (msgIndex m)).value (2 ^ msgSrc m)] ∧ OtherTowersSame d u t) := by
  intro s at_ m u d hu hd hcompute htowers hfence hsrc
  refine completes_of_taken (m := m) (fun s => if (s.guestSync m 7).1 then (s.guestSync m 7).2.watchMsg m
    else (s.guestSync m 7).2) hu rfl fun rxs lines => ?_
  have htowers' : d < (carrying u rxs lines).towers.length := htowers
  have hfence' : (carrying u rxs lines).siteFenced d = false := hfence
  have hcarried : (carrying u rxs lines).tower d = u.tower d := rfl
  have hopen := watched_siteFenced (site := msgSrc m) (i := msgIndex m) htowers' (show d < 20 by omega)
  simp only [guestSync_of_site hsrc, if_true, watchMsg_eq htowers' hd.symm hcompute hfence']
  rw [State.tower_congr (State.sendSync_towers ..), watched_syncObj htowers', State.sendSync_syncOut, (syncMsg_fields ..).2,
    Nat.mod_eq_of_lt (show d < 32 by omega), hopen, hfence', hcarried]
  refine ⟨by simp [show msgSrc m < 23 by omega], rfl, by rw [watched]; rfl, .of_modAt rfl⟩

theorem notice_completes :
    ∀ s at_ m u d o thr, u = s.advance at_ → d = msgDst m → d < 20 → d < u.towers.length → d ≠ msgSrc m →
    (u.tower d).ops = [o] → o.entered = true → o.waits = [(msgSrc m, msgIndex m, thr, none)] → thr ≤ msgValue m →
    Completes (.notice at_ m) s (fun t => ∀ q ∈ (t.tower d).ops, q.waits = []) := by
  intro s at_ m u d o thr hu hd hsite htowers hother hops hentered hwaits hthr
  refine completes_of_taken (m := m) (fun s => ((msgSites m).filter (fun t => t < 20 && t != msgSrc m)).foldl (fun s t => s.noticeAt t m) s)
    hu rfl fun rxs lines => ?_
  have hsites : (msgSites m).filter (fun t => t < 20 && t != msgSrc m) = [d] := by
    subst hd
    simp [msgSites_of_one hsite, hsite, hother]
  have hmet : (o.notice (msgSrc m) (msgIndex m) (msgGen m) (msgValue m) (msgDst m != 0x1F)).waits = [] := by
    have hreply : (msgDst m != 0x1F) = true := by simp; omega
    simp [OpInst.notice, hwaits, hentered, hreply, hthr]
  rw [hsites]
  have hscheduled := (Schedules.schedule ((carrying u rxs lines).mapTower d (fun x => { x with ops := x.ops.map (fun o =>
    o.notice (msgSrc m) (msgIndex m) (msgGen m) (msgValue m) (msgDst m != 0x1F)) })) d).tower.ops
  have htowers' : d < (carrying u rxs lines).towers.length := htowers
  rw [State.tower_mapTower _ _ _ _ htowers', if_pos rfl] at hscheduled
  have hops' : ((carrying u rxs lines).tower d).ops = [o] := hops
  rw [hops'] at hscheduled
  intro q hq
  have hmem := hscheduled ▸ List.mem_map_of_mem (f := OpInst.unscheduled) hq
  rw [List.map_singleton, List.map_singleton, List.mem_singleton] at hmem
  exact (congrArg OpInst.waits hmem).trans hmet

/-! ## Messages of reductions (R211 to R213) -/

/-- Every operator of tower `d` after was there before, and waits for a reduction only where it did before. -/
structure OpsFrom (d : Nat) (s s' : State) : Prop where
  was : ∀ q ∈ (s'.tower d).ops, ∃ p ∈ (s.tower d).ops, p.id = q.id ∧ (q.remote = true → p.remote = true)

namespace OpsFrom

theorem of_towers {d : Nat} {s s' : State} (h : s'.towers = s.towers) : OpsFrom d s s' :=
  ⟨fun q hq => ⟨q, State.tower_congr h d ▸ hq, rfl, id⟩⟩

theorem refl (d : Nat) (s : State) : OpsFrom d s s := .of_towers rfl

theorem trans {d : Nat} {s s' s'' : State} (h : OpsFrom d s s') (h' : OpsFrom d s' s'') : OpsFrom d s s'' := by
  refine ⟨fun q hq => ?_⟩
  obtain ⟨p, hp, hpq, hremote⟩ := h'.was q hq
  obtain ⟨o, ho, hop, hremote'⟩ := h.was p hp
  exact ⟨o, ho, hop.trans hpq, hremote' ∘ hremote⟩

theorem ite {d : Nat} {s a b : State} {p : Prop} [Decidable p] (ha : OpsFrom d s a) (hb : OpsFrom d s b) :
    OpsFrom d s (if p then a else b) := by
  split
  · exact ha
  · exact hb

theorem foldl {α : Type} {d : Nat} {f : State → α → State} (hf : ∀ s a, OpsFrom d s (f s a)) (l : List α) (s : State) :
    OpsFrom d s (l.foldl f s) :=
  foldl_keeps (OpsFrom d s) f l s (.refl d s) fun _ a _ hs => hs.trans (hf _ a)

theorem mapTower {d : Nat} (s : State) (t : Nat) {f : Tower → Tower}
    (hf : ∀ x : Tower, ∀ q ∈ (f x).ops, ∃ p ∈ x.ops, p.id = q.id ∧ (q.remote = true → p.remote = true)) : OpsFrom d s (s.mapTower t f) := by
  refine ⟨fun q hq => ?_⟩
  rw [State.tower_mapTower_if] at hq
  split at hq
  next h => rw [h.1]; exact hf _ q hq
  next => exact ⟨q, hq, rfl, id⟩

/-- A change of a tower that leaves its operators. -/
theorem mapTower_ops {d : Nat} (s : State) (t : Nat) {f : Tower → Tower} (hf : ∀ x, (f x).ops = x.ops) : OpsFrom d s (s.mapTower t f) :=
  .mapTower _ _ fun x q hq => ⟨q, hf x ▸ hq, rfl, id⟩

theorem logEv {d : Nat} (s : State) (code sev unit loc arg0 arg1 : Nat) : OpsFrom d s (s.logEv code sev unit loc arg0 arg1) :=
    .of_towers rfl

theorem mapMem {d : Nat} (s : State) (f : MemSt → MemSt) : OpsFrom d s (s.mapMem f) := .of_towers rfl

theorem mapVault {d : Nat} (s : State) (f : VaultSt → VaultSt) : OpsFrom d s (s.mapVault f) := .of_towers rfl

theorem mapLedger {d : Nat} (s : State) (f : LedgerSt → LedgerSt) : OpsFrom d s (s.mapLedger f) := .of_towers rfl

theorem mapReq {d : Nat} (s : State) (tenant seq : Nat) (f : Req → Req) : OpsFrom d s (s.mapReq tenant seq f) := .mapLedger ..

theorem sendFrame {d : Nat} (s : State) (x : Nat) (f : OutFrame) : OpsFrom d s (s.sendFrame x f) :=
  .of_towers (by rw [(Sends.sendFrame s x f).state])

theorem clearSlotAreas {d : Nat} (s : State) (t slot : Nat) : OpsFrom d s (s.clearSlotAreas t slot) := .foldl (fun _ _ => .mapMem ..) ..

theorem notifySubs {d : Nat} (s : State) (t i : Nat) (again : Bool) : OpsFrom d s (s.notifySubs t i again) := by
  obtain ⟨n, h⟩ := notifySubs_tower s t i again d
  exact ⟨fun q hq => ⟨q, by rw [h] at hq; exact hq, rfl, id⟩⟩

theorem signalObj {d : Nat} (s : State) (t i inc : Nat) : OpsFrom d s (s.signalObj t i inc) := by
  unfold State.signalObj
  dsimp only
  refine .trans ?_ (.notifySubs ..)
  split
  · refine .trans (.mapTower_ops _ _ ?_) (.logEv ..)
    exact fun _ => rfl
  · refine .mapTower_ops _ _ ?_
    exact fun _ => rfl

theorem sendSignal {d : Nat} (s : State) (t slot entry : Nat) : OpsFrom d s (s.sendSignal t slot entry) := by
  unfold State.sendSignal
  split
  · exact .refl _ _
  · split
    · exact .refl _ _
    · exact .ite (.signalObj ..) ((OpsFrom.of_towers (State.sendSync_towers ..)).trans (.mapTower_ops _ _ fun _ => rfl))

theorem deliverPart {d : Nat} (s : State) (tenant seq off : Nat) (bytes : List Byte) (last : Bool) :
    OpsFrom d s (s.deliverPart tenant seq off bytes last) := by
  unfold State.deliverPart
  split
  · exact .refl _ _
  · refine .ite (.refl _ _) ((OpsFrom.mapReq ..).trans (.foldl (fun s p => ?_) _ _))
    unfold State.queueResult
    split
    · exact .refl _ _
    · exact (OpsFrom.mapVault ..).trans (.sendFrame ..)

theorem completeOp {d : Nat} (s : State) (t id : Nat) : OpsFrom d s (s.completeOp t id) := by
  unfold State.completeOp
  split
  next => exact .refl _ _
  next o _ =>
    have hended : OpsFrom d s (o.fencedCopies.foldl (fun s e => s.logEv 0x0340 sevLogged t 0 e) (s.mapTower t (fun x =>
        { x.mapRecord o.slot (fun r =>
            { r.takeCode (if o.fencedCopies = [] then o.code else max o.code 1) o.desc with
              status := r.status ||| o.flags, done := r.done + 1
              stamps := r.stamps ++ [(o.desc, o.started.getD (s.replica t), s.replica t)] }) with
          ops := x.ops.filter (fun p => p.id != id), opsDone := x.opsDone + 1
          ballastUntil := if o.booked ∨ x.ballast = 0 ∨ x.ballast = 15 then x.ballastUntil else s.replica t + 1024 * x.ballast }))) :=
      (OpsFrom.mapTower _ _ fun x q hq => ⟨q, (List.mem_filter.mp hq).1, rfl, fun h => h⟩).trans (.foldl (fun _ _ => .logEv ..) _ _)
    have hoverrun : ∀ s' a, OpsFrom d s s' → OpsFrom d s ((s'.mapTower t (fun x => { x with overruns := x.overruns + 1 })).logEv 0x0240
        sevLogged t 0 o.desc a) := by
      intro s' a h
      refine h.trans (.trans (.mapTower_ops _ _ ?_) (.logEv ..))
      exact fun _ => rfl
    refine .trans ?_ ((OpsFrom.sendSignal ..).trans (.sendSignal ..))
    refine .ite ?_ (.ite (hoverrun _ _ hended) hended)
    split
    · exact (OpsFrom.ite (hoverrun _ _ hended) hended).trans (.deliverPart ..)
    · exact .ite (hoverrun _ _ hended) hended

theorem tryComplete {d : Nat} (s : State) (t id : Nat) : OpsFrom d s (s.tryComplete t id) := by
  unfold State.tryComplete
  split
  · exact .refl _ _
  · exact .ite (.completeOp ..) (.refl _ _)

theorem retireRecord {d : Nat} (s : State) (t slot : Nat) : OpsFrom d s (s.retireRecord t slot) := by
  unfold State.retireRecord
  split
  · exact .refl _ _
  · refine (((OpsFrom.clearSlotAreas ..).trans (.mapTower _ _ fun x q hq => ?_)).trans (.mapLedger ..)).trans (.mapReq ..)
    have hq' := (List.mem_filter.mp hq).1
    refine ⟨q, ?_, rfl, id⟩
    split at hq'
    · exact hq'
    · exact hq'

theorem settleRecord {d : Nat} (s : State) (t slot : Nat) : OpsFrom d s (s.settleRecord t slot) := by
  unfold State.settleRecord
  split
  · exact .refl _ _
  · exact .ite (.retireRecord ..) (.refl _ _)

theorem schedule (s : State) (d : Nat) : OpsFrom d s (s.schedule d) := by
  refine ⟨fun q hq => ?_⟩
  have hmem := (Schedules.schedule s d).tower.ops ▸ List.mem_map_of_mem (f := OpInst.unscheduled) hq
  obtain ⟨p, hp, hpq⟩ := List.mem_map.mp hmem
  have hid := congrArg OpInst.id hpq
  have hremote := congrArg OpInst.remote hpq
  exact ⟨p, hp, hid, fun h => hremote.trans h⟩

end OpsFrom

/-- Once the reduction of an operator is done, the operator waits for it no more. -/
theorem done_of_contributors (d : Nat) (l : List OpInst) : ∀ s : State,
    (∀ o ∈ l, ∀ q ∈ ((l.foldl (fun s o =>
      (((s.mapOp d o.id (fun o => { o with remote := false, offers :=
          [] })).tryComplete d o.id).settleRecord d o.slot).schedule d) s).tower d).ops,
        q.id = o.id → q.remote = false) := by
  have hrest : ∀ (s : State) (o : OpInst) (slot : Nat), OpsFrom d (s.mapOp d o.id (fun o => { o with remote := false, offers := [] }))
      ((((s.mapOp d o.id (fun o => { o with remote := false, offers := [] })).tryComplete d o.id).settleRecord d slot).schedule d) :=
    fun _ _ _ => ((OpsFrom.tryComplete ..).trans (.settleRecord ..)).trans (.schedule ..)
  have hmapped : ∀ (s : State) (id : Nat), OpsFrom d s (s.mapOp d id (fun o => { o with remote := false, offers := [] })) := by
    refine fun s id => .mapTower _ _ fun x q hq => ?_
    obtain ⟨p, hp, rfl⟩ := List.mem_map.mp hq
    refine ⟨p, hp, ?_⟩
    split
    · exact ⟨rfl, fun h => absurd h (by simp)⟩
    · exact ⟨rfl, fun h => h⟩
  induction l with
  | nil => exact fun _ _ h => absurd h (List.not_mem_nil)
  | cons a rest ih =>
    intro s o ho q hq hid
    rw [List.foldl_cons] at hq
    obtain rfl | hrest' := List.mem_cons.mp ho
    · have hfrom := (hrest s o o.slot).trans (.foldl (fun s a => (hmapped s a.id).trans (hrest s a a.slot)) rest _)
      obtain ⟨p, hp, hpq, hremote⟩ := hfrom.was q hq
      have hclear : p.remote = false := by
        rw [State.mapOp, State.tower_mapTower_if] at hp
        split at hp
        next =>
          obtain ⟨p', -, rfl⟩ := List.mem_map.mp hp
          split
          next => rfl
          next hne =>
            rw [if_neg hne] at hpq
            exact absurd (by simpa using hpq.trans hid) hne
        next hne =>
          exact absurd hp (by simp [State.tower, List.getElem?_eq_none (Nat.le_of_not_lt (fun h => hne ⟨rfl, h⟩)), Tower.fresh])
      exact Bool.eq_false_iff.mpr fun h => absurd (hremote h) (by simp [hclear])
    · exact ih _ o hrest' q hq hid

theorem reductionDone_completes :
    ∀ s at_ m u d, u = s.advance at_ → d = msgDst m → d < 16 → d < u.towers.length →
    Completes (.reductionDone at_ m) s (fun t => ∀ o ∈ u.contributors d (msgSrc m) (msgRedid m) (msgSlot m),
      ∀ q ∈ (t.tower d).ops, q.id = o.id → q.remote = false) := by
  intro s at_ m u d hu hd hcompute _
  refine completes_of_taken (m := m) (fun s => ((msgSites m).filter (· < 16)).foldl (fun s t => s.doneAt t m) s) hu rfl fun rxs lines => ?_
  subst hd
  have hsites : (msgSites m).filter (fun t => decide (t < 16)) = [msgDst m] := by
    simp [msgSites_of_one (show msgDst m < 20 by omega), hcompute]
  rw [hsites]
  exact done_of_contributors (msgDst m) _ (carrying u rxs lines)

/-- What packets sent leave: more of them on the networks, with memory and towers as they were. -/
def Posts (s s' : State) : Prop := (∃ l, s'.net = s.net ++ l) ∧ s'.mem = s.mem ∧ s'.towers = s.towers

theorem posts_foldl {α : Type} {f : State → α → State} (hf : ∀ s a, Posts s (f s a)) (l : List α) (s : State) : Posts s (l.foldl f s) := by
  refine foldl_keeps (Posts s) f l s ⟨⟨[], (List.append_nil _).symm⟩, rfl, rfl⟩ ?_
  rintro t a - ⟨⟨l, hl⟩, hmem, htowers⟩
  obtain ⟨⟨l', hl'⟩, hmem', htowers'⟩ := hf t a
  exact ⟨⟨l ++ l', by rw [hl', hl, List.append_assoc]⟩, hmem'.trans hmem, htowers'.trans htowers⟩

theorem posts_sendFrom (s : State) (site : Nat) (p : Packet) : Posts s (s.sendFrom site p) := by
  unfold State.sendFrom
  dsimp only
  split
  · exact ⟨⟨[], (List.append_nil _).symm⟩, rfl, rfl⟩
  · split
    · exact ⟨⟨_, rfl⟩, rfl, rfl⟩
    · exact ⟨⟨_, rfl⟩, rfl, rfl⟩

theorem reductionClosed_completes :
    ∀ s at_ m u d, u = s.advance at_ → d = msgDst m → d < 16 → d < u.towers.length →
    Completes (.reductionClosed at_ m) s (fun t =>
      (t.tower d).heldReductions = (u.tower d).heldReductions.filter (fun h => h.2.2 != msgSrc m) ∧ (∃ l, t.net = u.net ++ l)
      ∧ SameMemory u t) := by
  intro s at_ m u d hu hd hcompute htowers
  refine completes_of_taken (m := m) (fun s => ((msgSites m).filter (· < 16)).foldl (fun s t => s.closedAt t (msgSrc m)) s) hu rfl
    fun rxs lines => ?_
  subst hd
  have hsites : (msgSites m).filter (fun t => decide (t < 16)) = [msgDst m] := by
    simp [msgSites_of_one (show msgDst m < 20 by omega), hcompute]
  rw [hsites]
  obtain ⟨hnet, hmem, hheld⟩ := posts_foldl (fun s h => posts_foldl (fun s o => posts_foldl (fun s p => posts_sendFrom s (msgDst m) p)
      o.offers s) (s.contributors (msgDst m) (msgSrc m) h.1 h.2.1) s)
    ((u.tower (msgDst m)).heldReductions.filter (fun h => h.2.2 == msgSrc m)) ((carrying u rxs lines).mapTower (msgDst m) (fun x =>
      { x with heldReductions := x.heldReductions.filter (fun h => h.2.2 != msgSrc m) }))
  refine ⟨?_, hnet, .of_mem hmem⟩
  refine (congrArg Tower.heldReductions (State.tower_congr hheld (msgDst m))).trans ?_
  have htowers' : msgDst m < (carrying u rxs lines).towers.length := htowers
  rw [State.tower_mapTower _ _ _ _ htowers', if_pos rfl]
  rfl

theorem reducerBusy_completes :
    ∀ s at_ m u d, u = s.advance at_ → d = msgDst m → d < u.towers.length →
    Completes (.reducerBusy at_ m) s (fun t => (t.tower d).busyRefusals = (u.tower d).busyRefusals + 1
      ∧ ((msgRedid m, msgSlot m, msgSrc m) ∈ (u.tower d).heldReductions → (t.tower d).heldReductions = (u.tower d).heldReductions)
      ∧ ((msgRedid m, msgSlot m, msgSrc m) ∉ (u.tower d).heldReductions →
          (t.tower d).heldReductions = (u.tower d).heldReductions ++ [(msgRedid m, msgSlot m, msgSrc m)])
      ∧ OtherTowersSame d u t) := by
  intro s at_ m u d hu hd htowers
  refine completes_of_taken (m := m) (fun s => s.mapTower (msgDst m) (fun x =>
    { x with busyRefusals := x.busyRefusals + 1
             heldReductions := if x.heldReductions.contains (msgRedid m, msgSlot m, msgSrc m) then x.heldReductions
               else x.heldReductions ++ [(msgRedid m, msgSlot m, msgSrc m)] })) hu rfl fun rxs lines => ?_
  subst hd
  have htowers' : msgDst m < (carrying u rxs lines).towers.length := htowers
  rw [State.tower_mapTower _ _ _ _ htowers', if_pos rfl]
  refine ⟨rfl, fun hin => if_pos (List.contains_iff_mem.mpr hin), fun hout => if_neg fun h => hout (List.contains_iff_mem.mp h),
      .of_modAt rfl⟩

/-! ## Accesses of the host (R218, R219) -/

theorem begun_syncWindow (s : State) (index sub : Nat) : (s.begun false index sub).syncWindow = s.syncWindow := by
  simp only [State.syncWindow, State.begun_sels]

theorem syncHostWrite_completes :
    ∀ s at_ value u w, u = s.advance at_ → u.Serves 0x4100 → w = u.syncWindow → w.1 < u.towers.length → persistentBase ≤ w.2 →
    value ≤ 0xFFFFFFFF →
    Completes (.syncHostWrite at_ value) s (fun t => ((t.tower w.1).syncObj w.2).value = value ∧ t.AccessDone) := by
  intro s at_ value u w hu hserves hw htowers hpersistent hvalue
  refine .of_checked (checks := [(decide (0xFFFFFFFF < value), 0x04000001), (decide (w.2 < persistentBase), stateAbort 0x4100 4)])
    (effect := fun s => (s.writeObj w.1 w.2 value).schedule w.1) hu rfl hserves ?_ ?_ ⟨?_, by simp [State.AccessDone]⟩
  · rw [hw, ← begun_syncWindow]
    rfl
  · simp [firstAbort, Nat.not_lt.mpr hvalue, Nat.not_lt.mpr hpersistent]
  · rw [State.tower_endAccess, (Schedules.schedule _ w.1).tower.syncObj]
    exact writeObj_value (s := u.begun false 0x4100 3) htowers

theorem syncAdd_completes :
    ∀ s at_ value u w, u = s.advance at_ → u.Serves 0x4100 → w = u.syncWindow → w.1 < u.towers.length → persistentBase ≤ w.2 →
    1 ≤ value → value ≤ 0xFFFFFFFF →
    (((u.tower w.1).syncObj w.2).tick = some u.now → ((u.tower w.1).syncObj w.2).hostWrote = false
      ∧ ((u.tower w.1).syncObj w.2).value = min 0xFFFFFFFF (((u.tower w.1).syncObj w.2).base + ((u.tower w.1).syncObj w.2).sum)) →
    Completes (.syncAdd at_ value) s (fun t =>
      ((t.tower w.1).syncObj w.2).value = min 0xFFFFFFFF (((u.tower w.1).syncObj w.2).value + value) ∧ t.AccessDone) := by
  intro s at_ value u w hu hserves hw htowers hpersistent hpos hvalue hsum
  refine .of_checked (checks := [(decide (value = 0) || decide (0xFFFFFFFF < value), 0x04000001),
      (decide (w.2 < persistentBase), stateAbort 0x4100 4)])
    (effect := fun s => (s.signalObj w.1 w.2 value).schedule w.1) hu rfl hserves ?_ ?_ ⟨?_, by simp [State.AccessDone]⟩
  · rw [hw, ← begun_syncWindow]
    rfl
  · simp [firstAbort, Nat.not_lt.mpr hvalue, Nat.not_lt.mpr hpersistent, Nat.ne_of_gt hpos]
  · rw [State.tower_endAccess, (Schedules.schedule _ w.1).tower.syncObj]
    exact signalObj_value (s := u.begun false 0x4100 4) htowers (by simp [State.zeroesNow, Nat.not_lt.mpr hpersistent]) hsum

/-- Settles O23: each clause by the equation of its command, once its message is out of its buffers. -/
theorem syncCommandsComplete : Obligations.SyncCommandsComplete :=
  ⟨signal_completes, signalAcknowledgement_completes, watch_completes, notice_completes, reductionDone_completes, reductionClosed_completes,
    reducerBusy_completes, syncHostWrite_completes, syncAdd_completes⟩

end Sys2Proof.Proofs.SyncCommands

/-!
The wavelengths of the base (chapter 08): replay and its limits, acknowledgements and credit, the sync plane, the stand-in of a wavelength,
its return and its permanent fault (R224 to R243, R347), and the units that packets, carriers and credit returns are read from (R227).
-/
namespace Sys2Proof.Proofs.Wavelengths

open Sys2Proof Sys2Proof.Machine Sys2Proof.Proofs.SparePlane

/-! ## Replay buffers (R232, R239) -/

section Buffers
variable (l : Line) (w x : Nat)

theorem buffer_covered (n : Nat) : (l.covered w n).buffer x = if x = w then (l.buffer w).drop n else l.buffer x := kvGet_kvSet ..

theorem buffer_place (c : Codeword) :
    (l.place w c).buffer x = if x = w then l.buffer w ++ [{ c with seq := kvGet l.seqs w 0 }] else l.buffer x := kvGet_kvSet ..

variable {l w x}

theorem ack_of_position {seq n : Nat} (h : l.position w seq = some n) : l.ack w seq = l.covered w (n + 1) := by
  rw [Line.ack, h]

theorem buffer_nack {seq n now : Nat} (h : l.position w seq = some n) : (l.nack w seq now).buffer w
    = ((l.buffer w).drop n).map (fun c => if c.resendable now then { c with resent := c.resent + 1 } else c) := by
  rw [Line.nack, h]
  refine (kvGet_kvSet ..).trans ?_
  rw [if_pos rfl, buffer_covered, if_pos rfl]

theorem ack_keeps (l : Line) (w seq : Nat) : (l.ack w seq).held = l.held ∧ (l.ack w seq).orphans = l.orphans := by
  unfold Line.ack
  split <;> exact ⟨rfl, rfl⟩

theorem credited_keeps (l : Line) (cs : List Carried) : (l.credited cs).held = l.held ∧ (l.credited cs).orphans = l.orphans := by
  refine foldl_keeps (fun m : Line => m.held = l.held ∧ m.orphans = l.orphans) _ cs l ⟨rfl, rfl⟩ ?_
  rintro m c - ⟨hheld, horphans⟩
  cases c <;> exact ⟨hheld, horphans⟩

/-- Where nothing waits, nothing is released. -/
theorem release_idle {planes : List Nat} {now : Nat} (hheld : l.held = []) (horphans : l.orphans = []) : l.release planes now = l := by
  rw [Line.release, hheld, horphans]
  show { l with orphans := [] } = l
  rw [← horphans]

/-- A wavelength to which no codeword is moved keeps its buffer. -/
theorem buffer_settle_of_ne {target : Codeword → Option Nat} {now : Nat} (cs : List Codeword) :
    ∀ l : Line, (∀ c, target c ≠ some w) → (l.settle target now cs).buffer w = l.buffer w := by
  induction cs with
  | nil => exact fun _ _ => rfl
  | cons c rest ih =>
    intro l htarget
    rw [Line.settle]
    split
    next => rfl
    next y hy =>
      split
      next =>
        have hne : w ≠ y := fun h => htarget c (h ▸ hy)
        rw [ih _ htarget, buffer_place, if_neg hne]
      next => rfl

/-- Codewords for which there is room all go to the wavelength that takes them over. -/
theorem length_buffer_settle {now : Nat} (cs : List Codeword) : ∀ l : Line, (l.buffer x).length + cs.length ≤ replayDepth →
    ((l.settle (fun _ => some x) now cs).buffer x).length = (l.buffer x).length + cs.length := by
  induction cs with
  | nil => exact fun _ _ => rfl
  | cons c rest ih =>
    intro l hroom
    rw [List.length_cons] at hroom
    have hfits : l.fits x = true := decide_eq_true (by omega)
    have hplaced : ((l.place x { c with resent := 1, first := now }).buffer x).length = (l.buffer x).length + 1 := by
      rw [buffer_place, if_pos rfl, List.length_append, List.length_singleton]
    simp only [Line.settle, hfits, if_true]
    rw [ih _ (by omega), hplaced, List.length_cons]
    omega

theorem kvGet_kvErase {α : Type} (m : KV α) (k j : Nat) (d : α) : kvGet (kvErase m k) j d = if j = k then d else kvGet m j d := by
  induction m with
  | nil => exact (ite_self d).symm
  | cons a rest ih =>
    obtain ⟨i, v⟩ := a
    have herase : kvErase ((i, v) :: rest) k = if i = k then kvErase rest k else (i, v) :: kvErase rest k := by
      by_cases hik : i = k <;> simp [kvErase, hik]
    rw [herase]
    by_cases hik : i = k
    · rw [if_pos hik, ih]
      by_cases hjk : j = k
      · rw [if_pos hjk, if_pos hjk]
      · rw [if_neg hjk, if_neg hjk, kvGet, if_neg (by omega)]
    · rw [if_neg hik, kvGet, kvGet, ih]
      by_cases hij : i = j
      · rw [if_pos hij, if_pos hij, if_neg (by omega)]
      · rw [if_neg hij, if_neg hij]

/-- R239: nothing stays in the buffer of a wavelength whose stand-in takes over. -/
theorem buffer_moveOff_self {planes : List Nat} {now : Nat} (hx : w ≠ x) : (l.moveOff w (some x) planes now).buffer w = [] := by
  simp only [Line.moveOff, Option.some_or]
  rw [buffer_settle_of_ne _ _ (fun _ h => hx (Option.some.inj h).symm)]
  exact (kvGet_kvErase ..).trans (if_pos rfl)

theorem length_buffer_moveOff {planes : List Nat} {now : Nat} (hx : w ≠ x) (horphans : l.orphans = [])
    (hroom : (l.buffer x).length + (l.buffer w).length ≤ replayDepth) :
    ((l.moveOff w (some x) planes now).buffer x).length = (l.buffer x).length + (l.buffer w).length := by
  have hkept : Line.buffer { l with sent := kvErase l.sent w } x = l.buffer x := (kvGet_kvErase ..).trans (if_neg hx.symm)
  simp only [Line.moveOff, Option.some_or, horphans, List.nil_append]
  rw [horphans] at hkept
  rw [length_buffer_settle _ _ (by rw [hkept]; exact hroom), hkept]

end Buffers

/-! ## Pairs and their streams -/

section Pairs
variable {s : State} {i j x y : Nat}

theorem linkPair_setPair (p : Pair) : (s.setPair i j p).linkPair x y = if pairKey x y = pairKey i j then p else s.linkPair x y :=
  kvGet_kvSet ..

theorem line_mapLines (f : Line → Line) : (s.mapLines (fun l => kvMod l (pairKey i j) Line.fresh f)).line x y
    = if pairKey x y = pairKey i j then f (s.line i j) else s.line x y := kvGet_kvMod ..

theorem linkPair_putPair (p : Pair) : (s.putPair i j p).linkPair i j = p := by
  have hset : (s.setPair i j p).linkPair i j = p := by rw [linkPair_setPair, if_pos rfl]
  unfold State.putPair
  dsimp only
  split
  · exact hset
  · exact hset

/-- R242: a pair whose wavelengths are as many as before raises no event. -/
theorem putPair_of_length {p : Pair} (h : p.planes.length = (s.linkPair i j).planes.length) : s.putPair i j p = s.setPair i j p := if_pos h

/-- The two directions of a pair are pairs of their own. -/
theorem pairKey_ne (h : s.pairExists i j = true) : pairKey j i ≠ pairKey i j := by
  simp only [State.pairExists, State.populated, Bool.and_eq_true, Bool.or_eq_true, decide_eq_true_eq] at h
  unfold pairKey
  omega

/-- Without a calibration of the pair no other fault abandons one (R241). -/
theorem abandonPairCal_of_none {w : Nat} (h : (s.linkPair i j).calibrating = none) : s.abandonPairCal i j w = s := by
  rw [State.abandonPairCal, State.abandonCalOn]
  simp only [h]

/-- Without a commit armed or to be verified none is abandoned (R278). -/
theorem abandonCommit_of_idle {kind index : Nat} (hst : s.base.commitSt ≠ 1) (hchecks : s.base.commitChecks = []) :
    s.abandonCommit kind index = s := if_neg (by simp [hst, hchecks])

end Pairs

/-- The streams of a module as a wavelength that its stand-in replaces leaves them. -/
theorem resendOff_replaced {s : State} {i j w : Nat} (hstands : (s.linkPair i j).standFor = some w)
    (hspare : sparePlane i j ∈ (s.linkPair i j).planes) : (s.resendOff i j w).line i j
      = (s.line i j).moveOff w (some (sparePlane i j)) (s.linkPair i j).planes s.now := by
  unfold State.resendOff
  dsimp only
  rw [line_mapLines, if_pos rfl, if_pos ⟨hstands, by simpa using hspare⟩]

/-! ## Units (R227) -/

theorem parseUnits_packet : ∀ q : Packet, 1 ≤ q.type → q.type ≤ 8 → cdiv q.data.length 64 = q.len →
    parseUnits 1 (packetUnits q) = ([.bulk q.hdr (packetUnits q).tail], []) := by
  intro q hlow hhigh hlen
  have hkind : q.hdr.toNat % 16 = q.type := by simp [Packet.type, Packet.f, field]
  have hunits : (packetUnits q).tail.length = field q.hdr.toNat 7 5 := by
    simp only [packetUnits, List.tail_cons, List.length_map, List.length_range, hlen]
    rfl
  have hcons : packetUnits q = q.hdr :: (packetUnits q).tail := rfl
  rw [hcons, List.tail_cons, parseUnits]
  dsimp only
  rw [hkind, if_pos ⟨hlow, hhigh⟩, ← hunits, if_neg (Nat.lt_irrefl _), List.take_length, List.drop_length]
  rfl

theorem parseUnits_credit (fuel : Nat) (rest : List (BitVec 512)) {b c : Nat} (hb : b < 4096) (hc : c < 256) :
    parseUnits (fuel + 1) (creditUnit b c :: rest) = (.credit b c :: (parseUnits fuel rest).1, (parseUnits fuel rest).2) := by
  have hnat : (creditUnit b c).toNat = 0xD + b * 2 ^ 8 + c * 2 ^ 20 := by
    rw [creditUnit, Nat.mod_eq_of_lt hb, Nat.mod_eq_of_lt hc, BitVec.toNat_ofNat]
    exact Nat.mod_eq_of_lt (by omega)
  have hkind : (creditUnit b c).toNat % 16 = 0xD := by omega
  have hbulk : field (creditUnit b c).toNat 19 8 = b := by
    simp only [field, hnat, Nat.shiftRight_eq_div_pow]
    omega
  have hcontrol : field (creditUnit b c).toNat 27 20 = c := by
    simp only [field, hnat, Nat.shiftRight_eq_div_pow]
    omega
  simp only [parseUnits, hkind, hbulk, hcontrol]
  rfl

theorem parseUnits_control (x y : Nat) (f : BitVec 128) : parseUnits 1 [controlUnit x y f] = ([.control (controlUnit x y f)], []) := by
  have hkind : (controlUnit x y f).toNat % 16 = 0xC := by
    rw [controlUnit, BitVec.toNat_ofNat, Nat.mod_mod_of_dvd _ (Nat.pow_dvd_pow 2 (by decide : 4 ≤ 512))]
    omega
  simp only [parseUnits, hkind]
  rfl

theorem parseUnits_fill (n : Nat) : parseUnits n (List.replicate n fillUnit) = ([], []) := by
  induction n with
  | zero => rfl
  | succ n ih =>
    have hkind : fillUnit.toNat % 16 = 0xF := by
      rw [fillUnit, BitVec.toNat_ofNat, Nat.mod_mod_of_dvd _ (Nat.pow_dvd_pow 2 (by decide : 4 ≤ 512))]
    rw [List.replicate_succ, parseUnits]
    simp only [hkind, ih]
    rfl

/-! ## The first codeword of a stream (R224, R226, R229) -/

theorem takeInOrder_of_empty {x : LineRx} {planes : List Nat} {fuel : Nat} (h : ∀ w, x.waiting w = []) : x.takeInOrder planes fuel = x := by
  cases fuel with
  | zero => rfl
  | succ fuel =>
    rw [LineRx.takeInOrder]
    split
    next => rfl
    next w _ => rw [h w]

/-- A receiver that has taken nothing takes the first codeword of the first wavelength at once. -/
theorem codeword_first {planes : List Nat} {word : CodewordIn} (units : List (BitVec 512)) (hdecodes : word.decodes = true)
    (hkind : word.kind = 1) (hseq : word.seq = 0) (hhead : planes.head? = some word.plane) :
    LineRx.fresh.codeword planes word units = { LineRx.fresh with
      taken := 1, good := [(word.plane, 0)], nack := [(word.plane, false)], symbols := [(word.plane, 544)]
      errs := [(word.plane, word.corrected)], reorder := [(word.plane, [])], stream := units } := by
  obtain ⟨rest, rfl⟩ : ∃ rest, planes = word.plane :: rest := by
    cases planes with
    | nil => cases hhead
    | cons a rest => exact ⟨rest, by rw [Option.some.inj hhead]⟩
  have hfirst : position? (word.plane :: rest) 0 = some word.plane := by simp [position?]
  have hwaiting : ∀ w, LineRx.waiting { LineRx.fresh with
      taken := 1, good := [(word.plane, 0)], nack := [(word.plane, false)], symbols := [(word.plane, 544)]
      errs := [(word.plane, word.corrected)], reorder := [(word.plane, [])], stream := units } w = [] := by
    intro w
    by_cases hw : word.plane = w <;> simp [LineRx.waiting, kvGet, hw]
  rw [← takeInOrder_of_empty (planes := word.plane :: rest) (fuel := 319) hwaiting]
  simp only [LineRx.codeword, hdecodes, hkind, hseq, Bool.not_true, Bool.false_eq_true, if_false]
  rw [if_pos (by simp [LineRx.fresh, kvGet, sumNat, reorderDepth])]
  rw [show reorderDepth = 319 + 1 from rfl, LineRx.takeInOrder]
  simp only [LineRx.fresh, hfirst, LineRx.waiting, kvGet, kvSet, if_true, Nat.lt_irrefl, if_false, List.nil_append, Nat.zero_add,
      codewordLength]


section Clauses
variable {s u : State} {at_ i j w : Nat} (hu : u = s.advance at_) (hexists : u.pairExists i j = true) (hw : w < 5)

include hexists hw in
/-- What a codeword received without a NACK leaves: the receiver's side, the sender's stream, and the count of symbols. -/
theorem codewordIn_eq {word : CodewordIn} (units : List (BitVec 512)) (hplane : word.plane = w) (hnack :
    (word.decodes && word.nack) = false) :
    ∃ t : State, u.codewordIn i j word units = t
      ∧ t.rx j i = ((u.rx j i).codeword (u.linkPair j i).planes word units).parsed.1
      ∧ t.line i j = ((((u.line i j).credited ((u.rx j i).codeword (u.linkPair j i).planes word units).parsed.2).ack word.plane
          (if word.decodes then word.ack else 256)).release (u.linkPair i j).planes u.now)
      ∧ t.linkPair j i = { u.linkPair j i with symbols := (u.linkPair j i).symbols + word.corrected }
      ∧ t.linkPair i j = u.linkPair i j := by
  have hkey := pairKey_ne hexists
  have hother : (u.setPair j i { u.linkPair j i with symbols :=
      (u.linkPair j i).symbols + word.corrected }).linkPair i j = u.linkPair i j :=
    (linkPair_setPair _).trans (if_neg hkey.symm)
  have hself : (u.setPair j i { u.linkPair j i with symbols := (u.linkPair j i).symbols + word.corrected }).linkPair j i
      = { u.linkPair j i with symbols := (u.linkPair j i).symbols + word.corrected } := (linkPair_setPair _).trans (if_pos rfl)
  refine ⟨_, rfl, ?_⟩
  rw [State.codewordIn, if_neg (by simp [hexists]; omega)]
  dsimp only
  rw [hself, hnack]
  simp only [Bool.false_eq_true, if_false]
  refine ⟨(kvGet_kvSet ..).trans (if_pos rfl), ?_, hself, hother⟩
  rw [line_mapLines, if_pos rfl, line_mapLines, if_pos rfl]
  exact congrArg (fun p : Pair => Line.release p.planes u.now _) hother

include hu

/-! ## Replay and its limits (R232) -/

theorem port_replay : ∀ x lane seq n, x < 5 → x < u.ports.length → (u.port x).up = true → (u.port x).lanes.getLsbD lane = true →
    (u.port x).line.position lane seq = some n →
    Completes (.replay at_ (.port x) j lane seq) s (fun t => (t.port x).replays = (u.port x).replays + 1
      ∧ (t.port x).line.buffer lane =
          (((u.port x).line.buffer lane).drop n).map (fun c => if c.resendable u.now then { c with resent := c.resent + 1 } else c)) := by
  intro x lane seq n hx hport hup hlane hposition
  refine .of_effect (fun u => u.portReplay x lane seq) hu rfl ?_
  have hrun : u.portReplay x lane seq
      = u.mapPort x (fun p => { p with replays := p.replays + 1, line := p.line.nack lane seq u.now }) := by
    rw [State.portReplay]
    exact if_neg (by simp [hup, hlane, hposition]; omega)
  rw [hrun, State.port_mapPort _ _ _ _ hport, if_pos rfl]
  exact ⟨rfl, buffer_nack hposition⟩

theorem busLoss : kvGet u.base.busOut i 0 = 1 → u.base.spDegraded.getLsbD i = false → u.populated i = true →
    Completes (.spBusLoss at_ i 1) s (fun t => t.base.spDegraded = u.base.spDegraded ||| (1#23 <<< i)
      ∧ kvGet t.base.busOut i 0 = 3 ∧ t.log.count = u.log.count + 1) := by
  intro hbus hdegraded hpopulated
  have hout : u.mapBase (fun b => { b with busOut := kvSet b.busOut i (kvGet u.base.busOut i 0 ||| (1#2 <<< 1)) })
      = u.mapBase (fun b => { b with busOut := kvSet b.busOut i 3#2 }) := by
    rw [hbus]
    rfl
  have hdegrades : ∀ v : State, v.base.spDegraded.getLsbD i = false → v.syncDegrade i
      = (v.mapBase (fun b => { b with spDegraded := b.spDegraded ||| (1#23 <<< i) })).logEv 0x0406 sevCapacity unitBase (planeLoc i 0xFF 5)
          :=
    fun v hv => if_neg (by simp [hv])
  refine .of_telling (fun s => if s.populated i && decide (1 < 2) then
      (if (kvGet s.base.busOut i 0 ||| (1#2 <<< 1)) = 3 then
        (s.mapBase (fun b => { b with busOut := kvSet b.busOut i (kvGet s.base.busOut i 0 ||| (1#2 <<< 1)) })).syncDegrade i
       else s.mapBase (fun b => { b with busOut := kvSet b.busOut i (kvGet s.base.busOut i 0 ||| (1#2 <<< 1)) })) else s) hu rfl
    fun sent n => ?_
  rw [if_pos (by simp [hpopulated]), if_pos (by rw [hbus]; rfl), hout]
  generalize hv : u.mapBase (fun b => { b with busOut := kvSet b.busOut i 3#2 }) = v
  rw [hdegrades v (by rw [← hv]; exact hdegraded), ← hv]
  exact ⟨rfl, (kvGet_kvSet ..).trans (if_pos rfl), State.logEv_count ..⟩

theorem limit (hlimited : (u.line i j).limited w u.now = true) :
    Completes (.replayLimit at_ (.site i) j w true) s (fun t => exec (.wavelengthPermanentFault at_ i j w) s = .next t)
    ∧ Completes (.replayLimit at_ (.site i) j w false) s (fun t => exec (.lockLoss at_ i j w) s = .next t) := by
  have hrun : ∀ locked, u.replayLimit i j w locked = if locked then u.permanentFault i j w else u.lockLoss i j w :=
    fun locked => if_neg (by simp [hlimited])
  subst hu
  exact ⟨⟨_, rfl, congrArg Host.Outcome.next (MemoryIntegrity.telling_congr (hrun true).symm)⟩,
    ⟨_, rfl, congrArg Host.Outcome.next (MemoryIntegrity.telling_congr (hrun false).symm)⟩⟩

include hexists

theorem resendRequest : ∀ k b, b ∈ (kvGet u.spSites j SpSite.fresh).blocks → b.seq = k →
    Completes (.spResendRequest at_ i j k) s (fun t => t.base = { u.base with spResent := u.base.spResent + 1 }
      ∧ (∃ c ∈ (kvGet t.spSites j SpSite.fresh).blocks, c.seq = k ∧ c.msg = b.msg ∧ c.sent = b.sent + 1 ∧ c.buses = u.busesOf j)) := by
  intro k b hb hk
  obtain ⟨⟨hi, hj⟩, hne⟩ : (u.populated i = true ∧ u.populated j = true) ∧ i ≠ j := by
    simpa [State.pairExists] using hexists
  refine .of_effect (fun u => if u.populated i && u.populated j && i != j then u.spResend i j k else u) hu rfl ?_
  rw [if_pos (by simp [hi, hj, hne])]
  have hblocks : ∀ f : SpSite → SpSite, kvGet (kvMod u.spSites i SpSite.fresh f) j SpSite.fresh = kvGet u.spSites j SpSite.fresh :=
    fun f => (kvGet_kvMod ..).trans (if_neg hne.symm)
  unfold State.spResend
  dsimp only
  rw [hblocks, if_pos (List.any_eq_true.mpr ⟨b, hb, by simp [hk]⟩)]
  refine ⟨rfl, ?_⟩
  dsimp only
  rw [kvGet_kvMod, if_neg hne.symm, kvGet_kvMod, if_pos rfl, hblocks]
  exact ⟨_, List.mem_map_of_mem hb, by simp [hk]; rfl⟩

include hw

theorem site_replay : ∀ seq n, w ∉ (u.linkPair i j).dead → (u.line i j).position w seq = some n →
    Completes (.replay at_ (.site i) j w seq) s (fun t => t.linkPair i j = { u.linkPair i j with replays := (u.linkPair i j).replays + 1 }
      ∧ (t.line i j).buffer w
        = (((u.line i j).buffer w).drop n).map (fun c => if c.resendable u.now then { c with resent := c.resent + 1 } else c)
      ∧ (∀ x y, pairKey x y ≠ pairKey i j → t.line x y = u.line x y ∧ t.linkPair x y = u.linkPair x y)) := by
  intro seq n hdead hposition
  refine .of_effect (fun u => u.replay i j w seq) hu rfl ?_
  have hrun : u.replay i j w seq = (u.setPair i j { u.linkPair i j with replays := (u.linkPair i j).replays + 1 }).mapLines
      (fun l => kvMod l (pairKey i j) Line.fresh (fun l => l.nack w seq u.now)) := by
    rw [State.replay]
    exact if_neg (by simp [hexists, hdead, hposition]; omega)
  rw [hrun]
  refine ⟨(linkPair_setPair _).trans (if_pos rfl), ?_, fun x y hxy => ⟨(line_mapLines _).trans (if_neg hxy),
      (linkPair_setPair _).trans (if_neg hxy)⟩⟩
  rw [line_mapLines, if_pos rfl]
  exact buffer_nack hposition

/-! ## Codewords received (R224, R226, R229) -/

theorem codeword_completes : ∀ word units y cs, word.plane = w → word.decodes = true → word.nack = false → (u.line i j).held = [] →
    (u.line i j).orphans = [] → ((u.rx j i).codeword (u.linkPair j i).planes word units).parsed = (y, cs) →
    Completes (.creditReturn at_ i j word units) s (fun t => t.rx j i = y ∧ t.line i j = ((u.line i j).credited cs).ack w word.ack
      ∧ t.linkPair j i = { u.linkPair j i with symbols := (u.linkPair j i).symbols + word.corrected }
        ∧ t.linkPair i j = u.linkPair i j) := by
  intro word units y cs hplane hdecodes hnack hheld horphans hparsed
  refine .of_effect (fun u => u.codewordIn i j word units) hu rfl ?_
  obtain ⟨t, ht, hrx, hline, hback, hpair⟩ := codewordIn_eq hexists hw units hplane (by rw [hnack, Bool.and_false])
  obtain ⟨hackHeld, hackOrphans⟩ := ack_keeps ((u.line i j).credited cs) w word.ack
  obtain ⟨hcreditHeld, hcreditOrphans⟩ := credited_keeps (u.line i j) cs
  rw [hparsed, hplane, hdecodes, if_pos rfl, release_idle (hackHeld.trans (hcreditHeld.trans hheld))
    (hackOrphans.trans (hcreditOrphans.trans horphans))] at hline
  rw [hparsed] at hrx
  rw [ht]
  exact ⟨hrx, hline, hback, hpair⟩

theorem corrupt_completes : ∀ word units, word.plane = w → word.decodes = false →
    Completes (.creditReturn at_ i j word units) s (fun t => kvGet (t.rx j i).nack w false = true
      ∧ kvGet (t.rx j i).symbols w 0 = kvGet (u.rx j i).symbols w 0 + 544 ∧ (t.rx j i).taken = (u.rx j i).taken) := by
  intro word units hplane hdecodes
  refine .of_effect (fun u => u.codewordIn i j word units) hu rfl ?_
  obtain ⟨t, ht, hrx, -⟩ := codewordIn_eq hexists hw units hplane (by rw [hdecodes, Bool.false_and])
  rw [ht, hrx, LineRx.codeword, hdecodes]
  dsimp only
  rw [if_pos (by rfl), hplane]
  exact ⟨(kvGet_kvSet ..).trans (if_pos rfl), (kvGet_kvSet ..).trans (if_pos rfl), rfl⟩

theorem credit_completes : ∀ word b c, word.plane = w → word.decodes = true → word.nack = false → word.kind = 1 → word.seq = 0 →
    (u.line i j).held = [] → (u.line i j).orphans = [] → u.rx j i = LineRx.fresh → (u.linkPair j i).planes.head? = some w → b < 4096 →
    c < 256 →
    Completes (.creditReturn at_ i j word (creditUnit b c :: List.replicate 9 fillUnit)) s (fun t =>
      t.line i j = ({ u.line i j with
        bulk := min 1024 ((u.line i j).bulk + b)
        control := min 64 ((u.line i j).control + c) } : Line).ack w word.ack
      ∧ (t.rx j i).taken = 1 ∧ kvGet (t.rx j i).good w 255 = 0 ∧ kvGet (t.rx j i).symbols w 0 = 544) := by
  intro word b c hplane hdecodes hnack hkind hseq hheld horphans hfresh hhead hb hc
  have hcodeword := codeword_first (creditUnit b c :: List.replicate 9 fillUnit) hdecodes hkind hseq (hhead.trans (congrArg some
      hplane.symm))
  have hparsed : ∃ y : LineRx, ((u.rx j i).codeword (u.linkPair j i).planes word (creditUnit b c :: List.replicate 9 fillUnit)).parsed
      = (y, [.credit b c]) ∧ y.taken = 1 ∧ y.good = [(w, 0)] ∧ y.symbols = [(w, 544)] := by
    rw [hfresh, hcodeword, LineRx.parsed]
    have hunits : parseUnits 10 (creditUnit b c :: List.replicate 9 fillUnit) = ([.credit b c], []) := by
      rw [parseUnits_credit 9 _ hb hc, parseUnits_fill]
    refine ⟨_, congrArg (fun r : List Carried × List (BitVec 512) => (_, r.1.filter (·.isCredit))) hunits, rfl, ?_, ?_⟩
    · rw [hplane]
    · rw [hplane]
  obtain ⟨y, hy, htaken, hgood, hsymbols⟩ := hparsed
  obtain ⟨t, hstep, hrx, hline, -⟩ := codeword_completes hu hexists hw word _ y _ hplane hdecodes hnack hheld horphans hy
  refine ⟨t, hstep, hline, ?_⟩
  rw [hrx, hgood, hsymbols]
  exact ⟨htaken, if_pos rfl, if_pos rfl⟩

/-! ## Wavelengths that leave and come back (R239 to R241) -/

theorem standIn_completes (hin : w ∈ (u.linkPair i j).planes) (hspare : (u.linkPair i j).spare = 0) (hwq : w ≠ sparePlane i j)
    (hcal : (u.linkPair i j).calibrating = none) (htwo : 2 ≤ (u.linkPair i j).planes.length) (hsuspended : u.base.calSuspended = false)
    (hout : (u.linkPair i j).anyOut (sparePlane i j) = false) (hring : u.ringOut i = false) (hfault : u.pairFaultNow i j = false)
    (hcommit : u.commitNear 1 (txRing i j w) = false) :
    Completes (.standIn at_ i j w) s (fun t => t.linkPair i j =
      { u.linkPair i j with
        planes := (u.linkPair i j).planes.map (fun x => if x = w then sparePlane i j else x)
        standFor := some w, spare := 1, rot := !(u.linkPair i j).rot, calibrating := some w }
      ∧ t.base.calBegan = some u.now ∧ t.log = u.log) := by
  refine .of_effect (fun u => u.standIn i j w) hu rfl ?_
  have hrun : u.standIn i j w = (u.setPair i j { (u.linkPair i j).replace (sparePlane i j) w 1 with calibrating := some w }).mapBase
      (fun b => { b with calBegan := some u.now }) := by
    rw [State.standIn]
    dsimp only
    rw [if_neg (by simp [hexists, hsuspended, hcal, hout, hin, hring, hfault, hcommit]; omega), leave_eq_replace hspare hin hwq]
    exact congrArg (·.mapBase (fun b => { b with calBegan := some u.now })) (putPair_of_length (s := u)
      (p := { (u.linkPair i j).replace (sparePlane i j) w 1 with calibrating := some w }) (length_replace_planes (st := 1)))
  rw [hrun]
  exact ⟨(linkPair_setPair _).trans (if_pos rfl), rfl, rfl⟩

theorem lockLoss_completes (hin : w ∈ (u.linkPair i j).planes) (hspare : (u.linkPair i j).spare = 0) (hwq : w ≠ sparePlane i j)
    (hcal : (u.linkPair i j).calibrating = none) (horphans : (u.line i j).orphans = [])
    (hroom : ((u.line i j).buffer (sparePlane i j)).length + ((u.line i j).buffer w).length ≤ replayDepth) :
    Completes (.lockLoss at_ i j w) s (fun t => t.linkPair i j =
        { u.linkPair i j with
          planes := (u.linkPair i j).planes.map (fun x => if x = w then sparePlane i j else x)
          standFor := some w, spare := 1, rot := !(u.linkPair i j).rot, faultAt := some u.now }
      ∧ (t.line i j).buffer w = []
      ∧ ((t.line i j).buffer (sparePlane i j)).length = ((u.line i j).buffer (sparePlane i j)).length + ((u.line i j).buffer w).length
      ∧ t.log = u.log) := by
  refine .of_telling (fun u => u.lockLoss i j w) hu rfl fun sent n => ?_
  obtain ⟨v, hv⟩ : ∃ v, v = u.setPair i j (((u.linkPair i j).replace (sparePlane i j) w 1).faulted u.now) := ⟨_, rfl⟩
  have hpair : v.linkPair i j = ((u.linkPair i j).replace (sparePlane i j) w 1).faulted u.now := by rw [hv, linkPair_setPair, if_pos rfl]
  have hrun : u.lockLoss i j w = v.resendOff i j w := by
    rw [State.lockLoss, if_neg (by simp [hexists]; omega)]
    dsimp only
    rw [abandonPairCal_of_none hcal, leave_eq_replace hspare hin hwq, hv]
    exact congrArg (·.resendOff i j w) (putPair_of_length (s := u)
      (p := ((u.linkPair i j).replace (sparePlane i j) w 1).faulted u.now) (length_replace_planes (st := 1)))
  have hline : (v.resendOff i j w).line i j = (u.line i j).moveOff w (some (sparePlane i j)) (v.linkPair i j).planes v.now := by
    rw [resendOff_replaced (by rw [hpair]; rfl) (by rw [hpair]; exact mem_replace_planes (st := 1).mpr (.inl ⟨hin, rfl⟩)), hv]
    rfl
  rw [hrun]
  refine ⟨hpair, ?_, ?_, by rw [hv]; rfl⟩
  · exact (congrArg (Line.buffer · w) hline).trans (buffer_moveOff_self hwq)
  · exact (congrArg (fun l : Line => (l.buffer (sparePlane i j)).length) hline).trans (length_buffer_moveOff hwq horphans hroom)

theorem return_completes (hdead : w ∉ (u.linkPair i j).dead) (hout : w ∉ (u.linkPair i j).planes) (hwq : w ≠ sparePlane i j)
    (hstands : (u.linkPair i j).standFor = some w) (hspare : sparePlane i j ∈ (u.linkPair i j).planes)
    (hall : ∀ o, o < 5 → o ≠ sparePlane i j → o ≠ w → o ∈ (u.linkPair i j).planes) :
    Completes (.wavelengthReturn at_ i j w) s (fun t => w ∈ (t.linkPair i j).planes ∧ (t.linkPair i j).spare = 0
      ∧ (t.linkPair i j).standFor = none ∧ (t.linkPair i j).rot = !(u.linkPair i j).rot
      ∧ (t.linkPair i j).planes.length = (u.linkPair i j).planes.length) := by
  refine .of_telling (fun u => u.returnWavelength i j w) hu rfl fun sent n => ?_
  have hnone : (List.range 5).find? (fun o => o != sparePlane i j && o != w && !(u.linkPair i j).planes.contains o) = none := by
    simp only [List.find?_eq_none, List.mem_range]
    intro o ho hmissing
    simp only [Bool.and_eq_true, bne_iff_ne, Bool.not_eq_true', List.contains_eq_mem, decide_eq_false_iff_not] at hmissing
    exact hmissing.2 (hall o ho hmissing.1.1 hmissing.1.2)
  have hrejoin : (u.linkPair i j).rejoin (sparePlane i j) w = Pair.reorder { u.linkPair i j with
      planes := (u.linkPair i j).planes.map (fun x => if x = sparePlane i j then w else x), standFor := none, spare := 0,
      calibrating := none, rot := !(u.linkPair i j).rot } (sparePlane i j) := by
    rw [Pair.rejoin, if_neg (by simp [hdead, hout]), if_neg hwq, if_pos hstands, hnone]
  have hperm : ((u.linkPair i j).rejoin (sparePlane i j) w).planes.Perm
      ((u.linkPair i j).planes.map (fun x => if x = sparePlane i j then w else x)) := by
    rw [hrejoin]
    exact Orders.perm_sortBy ..
  have hpair : (u.returnWavelength i j w).linkPair i j = (u.linkPair i j).rejoin (sparePlane i j) w := by
    rw [State.returnWavelength, if_neg (by simp [hexists]; omega)]
    refine Eq.trans ?_ (linkPair_putPair (s := u) (i := i) (j := j) ((u.linkPair i j).rejoin (sparePlane i j) w))
    generalize u.putPair i j ((u.linkPair i j).rejoin (sparePlane i j) w) = v
    unfold State.closeWindow
    split
    · rfl
    · rfl
  change w ∈ ((u.returnWavelength i j w).linkPair i j).planes ∧ ((u.returnWavelength i j w).linkPair i j).spare = 0
    ∧ ((u.returnWavelength i j w).linkPair i j).standFor = none ∧ ((u.returnWavelength i j w).linkPair i j).rot = !(u.linkPair i j).rot
    ∧ ((u.returnWavelength i j w).linkPair i j).planes.length = (u.linkPair i j).planes.length
  rw [hpair]
  refine ⟨hperm.mem_iff.mpr (List.mem_map.mpr ⟨_, hspare, if_pos rfl⟩), ?_, ?_, ?_, hperm.length_eq.trans (List.length_map _)⟩
  all_goals rw [hrejoin]; rfl

theorem permanentFault_completes (hdead : w ∉ (u.linkPair i j).dead) (hin : w ∈ (u.linkPair i j).planes)
    (hspare : (u.linkPair i j).spare = 0) (hwq : w ≠ sparePlane i j) (hcal : (u.linkPair i j).calibrating = none)
    (hst : u.base.commitSt ≠ 1) (hchecks : u.base.commitChecks = []) :
    Completes (.wavelengthPermanentFault at_ i j w) s (fun t => w ∈ (t.linkPair i j).dead ∧ (t.linkPair i j).spare = 2
      ∧ (t.linkPair i j).permFaults = (u.linkPair i j).permFaults + 1
      ∧ (t.linkPair i j).planes.length = (u.linkPair i j).planes.length
      ∧ (t.line i j).buffer w = [] ∧ t.log.count = u.log.count + 1) := by
  refine .of_telling (fun u => u.permanentFault i j w) hu rfl fun sent n => ?_
  obtain ⟨p, hp⟩ : ∃ p : Pair, p = { ((u.linkPair i j).replace (sparePlane i j) w 2).faulted u.now with
    dead := insertNat (u.linkPair i j).dead w, permFaults := (u.linkPair i j).permFaults + 1 } := ⟨_, rfl⟩
  obtain ⟨v, hv⟩ : ∃ v, v = u.setPair i j p := ⟨_, rfl⟩
  have hlength : p.planes.length = (u.linkPair i j).planes.length := by rw [hp]; exact length_replace_planes (st := 2)
  have hpair : v.linkPair i j = p := by rw [hv, linkPair_setPair, if_pos rfl]
  have hrun : u.permanentFault i j w = (v.resendOff i j w).logEv 0x0401 sevLogged unitBase (planeLoc i j w) := by
    have hput : u.putPair i j p = v := (putPair_of_length hlength).trans hv.symm
    have hidle : ∀ kind index, (v.resendOff i j w).abandonCommit kind index = v.resendOff i j w :=
      fun _ _ => abandonCommit_of_idle (by rw [hv]; exact hst) (by rw [hv]; exact hchecks)
    have hfaulted : (((u.linkPair i j).replace (sparePlane i j) w 2).faulted u.now).planes.length = (u.linkPair i j).planes.length :=
      length_replace_planes (st := 2)
    rw [State.permanentFault, if_neg (by simp [hexists]; omega)]
    dsimp only
    rw [if_neg (by simp [hdead]), abandonPairCal_of_none hcal, leave_eq_replace hspare hin hwq, hfaulted,
      if_neg (Nat.lt_irrefl _), if_neg (fun h => h.2 h.1), if_neg (fun h => hwq h.1)]
    have hgoal : (((u.putPair i j p).resendOff i j w).abandonCommit 1 (txRing i j w)).abandonCommit 2 (rxRing i j w)
        = v.resendOff i j w := by
      rw [hput, hidle, hidle]
    rw [hp] at hgoal
    exact congrArg (·.logEv 0x0401 sevLogged unitBase (planeLoc i j w)) hgoal
  have hline : ((v.resendOff i j w).line i j).buffer w = [] := by
    rw [resendOff_replaced (by rw [hpair, hp]; rfl) (by rw [hpair, hp]; exact mem_replace_planes (st := 2).mpr (.inl ⟨hin, rfl⟩))]
    exact buffer_moveOff_self hwq
  have hdone : (v.resendOff i j w).linkPair i j = p := hpair
  have hcount : (v.resendOff i j w).log.count = u.log.count := by rw [hv]; rfl
  rw [hrun]
  generalize v.resendOff i j w = x at hline hdone hcount ⊢
  change w ∈ (x.linkPair i j).dead ∧ (x.linkPair i j).spare = 2 ∧ (x.linkPair i j).permFaults = (u.linkPair i j).permFaults + 1
    ∧ (x.linkPair i j).planes.length = (u.linkPair i j).planes.length ∧ (x.line i j).buffer w = []
    ∧ (x.logEv 0x0401 sevLogged unitBase (planeLoc i j w)).log.count = u.log.count + 1
  rw [hdone, State.logEv_count, hcount]
  refine ⟨?_, ?_, ?_, hlength, hline, rfl⟩
  · rw [hp]; exact RegionBarrier.mem_insertNat.mpr (.inl rfl)
  · rw [hp]; rfl
  · rw [hp]

end Clauses

theorem ack_completes {l : Line} {w : Nat} : ∀ ack n, l.position w ack = some n → (l.ack w ack).buffer w = (l.buffer w).drop (n + 1)
    ∧ ∀ x, x ≠ w → (l.ack w ack).buffer x = l.buffer x := by
  intro ack n h
  rw [ack_of_position h]
  exact ⟨(buffer_covered ..).trans (if_pos rfl), fun x hx => (buffer_covered ..).trans (if_neg hx)⟩

/-- Settles O24: each clause by the equation of its command on the pair and the stream that it names. -/
theorem wavelengthCommandsComplete : Obligations.WavelengthCommandsComplete := by
  rintro s at_ i j w u _ _ hu hexists rfl rfl hw
  have hpopulated : u.populated i = true := by
    simp only [State.pairExists, Bool.and_eq_true] at hexists
    exact hexists.1.1
  exact ⟨site_replay hu hexists hw, port_replay hu, fun hlimited => limit hu hlimited, codeword_completes hu hexists hw,
    credit_completes hu hexists hw, corrupt_completes hu hexists hw, ack_completes, resendRequest hu hexists,
    fun hbus hdegraded => busLoss hu hbus hdegraded hpopulated, standIn_completes hu hexists hw, lockLoss_completes hu hexists hw,
    return_completes hu hexists hw, permanentFault_completes hu hexists hw, parseUnits_packet,
    fun b c hb hc => parseUnits_credit 0 [] hb hc, parseUnits_control⟩

end Sys2Proof.Proofs.Wavelengths
